-- ==== Sys2Proof/Word.lean ====
section
/-!
DEFINITION. Word.lean: the words of the model: octets, binary32 patterns and dictionary values, and the two-valued names
(lane, variant) that both the commands and the state use.
-/
namespace Sys2Proof

/-- One octet. -/
abbrev Byte := BitVec 8

/-- The bit pattern of an IEEE 754 binary32 number (R8). -/
abbrev F32 := BitVec 32

/-- A dictionary value (Table 12.1). A number stands for BOOL, the integers, the bit pattern of F32, and TAI80 as
`epoch * 2^64 + ns`; octets stand for OCT and STR. -/
inductive Val where
  | num (n : Int)
  | bytes (b : List Byte)
  deriving DecidableEq, Repr

/-- The two lanes of the module (R10). -/
inductive Lane where
  | a | b
  deriving DecidableEq, Repr

/-- The number of a lane: 0 A, 1 B (R534). -/
def Lane.num : Lane → Nat
  | .a => 0
  | .b => 1

/-- The other lane. -/
def Lane.other : Lane → Lane
  | .a => .b
  | .b => .a

/-- The two members of the family (R2, R3). -/
inductive Variant where
  | A | S
  deriving DecidableEq, Repr

end Sys2Proof
end

