-- ==== Sys2Proof/Syntax.lean ====
section
/-!
DEFINITION. Syntax.lean: the commands the block takes, one constructor per row of spec/opcode_table.json, with the operands
each needs: the unit it concerns and what the outside brings (a value, a level, a frame, a detector's verdict). The table
gives the rows no bits and no operands; the operands are the model's own (log 2). Commands without operands of chapters 02–07 stand
last: a constructor with fields whose place is beyond 244 could not be compiled.
-/
namespace Sys2Proof

/-- Who takes a codeword from a package fabric link: a hub unit, a lane's tiles, or a lane's house core (Table 1.6). -/
inductive Consumer where
  | hub
  | tile (l : Lane)
  | house (l : Lane)
  deriving DecidableEq, Repr

/-- What a conversion of an ADC core is (chapter 03): of its primary input at slot `k` of the frame grid, of a secondary entry 1–15, or a calibration conversion of AGND, its own or the other half's reference (R71). -/
inductive Slot where
  | primary (k : Int)
  | secondary (e : Fin 15)
  | agnd
  | ownRef
  | otherRef
  deriving DecidableEq, Repr


/-- A parcel receiver: the module's on a serial lane (16 X0, 17 X1), or an endpoint's on one of its upstream ports (R225). -/
inductive RxPort where
  | lane (l : Fin 18)
  | endpoint (e : Fin 16) (port : Fin 2)
  deriving DecidableEq, Repr

/-- The currents of a stack as an endpoint samples them: stack, ticks from t0, phases a, b, c (Table 9.16). -/
structure StackSample where
  stack : Nat
  ofs : Int
  ia : F32
  ib : F32
  ic : F32
  deriving DecidableEq, Repr

/-- A fault an endpoint sees (Table 9.17, R249): KIND, GROUP, INDEX, DEVICE, VALUE, and whether its own limit forces a safe state. -/
structure LocalFault where
  kind : Nat
  group : Nat
  index : Nat
  device : Nat
  value : Nat
  forces : Bool
  deriving DecidableEq, Repr

/-- What a lane's known-answer slices have shown since the last recomputation (R293): nothing yet, a completed cycle, or a failed slice. -/
inductive KaResult where
  | none
  | completed
  | failed
  deriving DecidableEq, Repr

/-- An Announce message as a port receives it (R357, R358): whether by UDP, its interval in seconds, domain, the data set the best master
clock algorithm compares, currentUtcOffset with its validity, the leap flags, ptpTimescale, and the time epoch of its grandmaster. -/
structure Announce where
  udp : Bool
  interval : Nat
  domain : Nat
  prio1 : Nat
  cls : Nat
  accuracy : Nat
  variance : Nat
  prio2 : Nat
  identity : Nat
  steps : Nat
  sender : Nat
  utc : Int
  utcValid : Bool
  leap59 : Bool
  leap61 : Bool
  ptpTimescale : Bool
  epoch : Nat
  deriving DecidableEq, Repr

/-- What an Ethernet frame carries for the module (R355): what it answers, PTP over Ethertype 0x88F7, a UDP datagram to its address with
its destination port, or anything else. -/
inductive EthKind where
  | arp
  | neighbour
  | echo4
  | echo6
  | ptp
  | udp (dest : Nat)
  | other
  deriving DecidableEq, Repr

/-- A CAN frame as a port receives it (R378, R379): identifier, its format, a remote frame, DLC, data, and the start-of-frame stamp of R381. -/
structure CanFrame where
  id : Nat
  ide : Bool
  rtr : Bool
  fd : Bool
  brs : Bool
  esi : Bool
  dlc : Nat
  data : List (BitVec 8)
  stamp : Nat
  deriving DecidableEq, Repr

/-- How a transmission ends (R380, R383, R384): acknowledged, with its stamp and the loop delay measured in mtq (R376); arbitration lost; a bit
error in the control or data field after winning arbitration; no acknowledgement; any other error. -/
inductive CanOutcome where
  | sent (stamp loop : Nat)
  | lost
  | bitError
  | ackError
  | otherError
  deriving DecidableEq, Repr

/-- What a DTLS handshake shows of a host's certificate chain (R476): the anchor it ends at (DER), its length, whether every signature is ECDSA
P-384 with SHA-384 and verifies, the 36-octet names of its certificates, its validity in UTC seconds, the role its subject names (0 OBSERVER, 1
OPERATOR, 2 SERVICE), and the SHA-384 of the subject's key. -/
structure CertChain where
  anchor : List (BitVec 8)
  length : Nat
  algorithmOk : Bool
  names : List (List (BitVec 8))
  notBefore : Int
  notAfter : Int
  role : Nat
  identity : BitVec 384
  deriving DecidableEq, Repr

/-- What verification finds of an image (R478): whether chain, signature, hashes and header hold, its versions, and the lane parts its hub part
accepts. -/
structure ImageInfo where
  good : Bool
  version : Nat
  svn : Nat
  laneMin : Nat
  laneMax : Nat
  deriving DecidableEq, Repr

/-- What the end of a cold start stage finds (R492): the PUF key rebuilt, the hub part of slot A and B verified (stage 2), the lane part of A and
B whole in its code bank (stage 4), and the rows that fail a start-up march as bank, row and spares that fail with it (stages 3 and 5). -/
structure StageFound where
  puf : Bool
  slotA : Bool
  slotB : Bool
  laneA : Bool
  laneB : Bool
  fails : List (Nat × Nat × Nat)
  deriving DecidableEq, Repr

/-- The commands (spec/opcode_table.json). -/
inductive Instr where
  /-- A codeword arrives on a package fabric link and is checked, corrected, replayed from the sender's buffer or forwarded poisoned. (R14) -/
  | fabricCodewordArrival (link : Fin 3) (dest : Consumer) (sent : BitVec 144) (err : BitVec 144)
  /-- A bank access reads a whole codeword, decodes it and handles a correctable, uncorrectable or poisoned result at each level. (R21) -/
  | bankRead (bank : Fin 17) (row : Nat) (col : Fin 32) (upset : BitVec 144) (write : Option (BitVec 128 × BitVec 128)) (mirrored : Bool) (badSpares : Nat)
  /-- Each Gill gauge is sampled every 1 µs and the lane SI is recomputed from the healthy gauges. (R27) -/
  | gaugeSample (lane : Lane) (vals : List (Option Nat))
  /-- A gauge reading not renewed for 4 µs raises a Gill alarm. (R28) -/
  | gillRenewTimeout (lane : Lane) (g : Fin 6)
  /-- After 1,000 consecutive samples without alarm a gauge becomes healthy again. (R29) -/
  | gaugeHealthyAgain (lane : Lane) (g : Fin 6)
  /-- A house core missing a supervision deadline raises a control-flow signature failure of its lane. (R12) -/
  | houseSupervisionMiss (lane : Lane)
  /-- At the next alignment point all dividers are released together, the offset recorded and LOCKED entered. (R39) -/
  | tbAlign (refOffset : Nat)
  /-- In HOLDOVER without fallback, requalified REFCLK_IN lets the module re-phase the DCR and close the loop without ALIGN. (R43) -/
  | holdoverRelock (vcoInRange : Bool)
  /-- Phase error above 2 ns for 10 µs freezes the tuning word, enters HOLDOVER and starts a re-phase or goes LOST. (R45) -/
  | lossOfLock (vcoInRange : Bool)
  /-- A changed anchor is pulled in by lengthening or shortening carrier periods until the phase error is below one tick. (R53) -/
  | carrierPull (c : Fin 8)
  /-- A conversion completes 160 ns after its hold, writes its result register and feeds the filter chain and calibration. (R70) -/
  | adcConversionDone (c : Fin 32) (slot : Slot) (code : Int)
  /-- A conversion not complete 400 ns after its hold faults the core. (R71) -/
  | adcConversionTimeout (c : Fin 32) (window : Bool)
  /-- Every stepped stage has received its full memory and SETTLED is set. (R91) -/
  | fcSettled (n : Fin 32)
  /-- The bin error has stayed small for 4 cycles, or grown beyond 1/(2K), and GRIDSYNC is set or cleared. (R87) -/
  | rsGridsync (n : Fin 32)
  /-- On arrival of the frame-path block each tile runs flags, ε test, correction, mode guards and finish, committing or squashing. (R106) -/
  | commitPhase (specDone : Bool) (words : List (BitVec 128)) (writes : Nat)
  /-- The full recompute finishes and commits, sending outputs to the hub. (R109) -/
  | fullPathCommit (lane : Lane) (words : List (BitVec 128)) (writes : Nat)
  /-- LAW_CMD START moves OFF to SENSE after the configuration and readiness checks. (R148) -/
  | lawStart (session : Nat)
  /-- LAW_CMD STOP moves gated states to STOPPING, others to OFF, and acknowledges FAULT. (R148) -/
  | lawStop (session : Nat)
  /-- An owner write to a set-point of OD 3100 becomes the ramp target at the next frame boundary. (R145) -/
  | setpointWrite (session : Nat) (slot : Fin 10) (value : F32)
  /-- The host writes breaker status, acted on at the next frame boundary by law state. (R154) -/
  | brkClosedWrite (session : Nat) (closed : Bool)
  /-- The quantity stays on the normal side for RT_RESET and its timer resets. (R163) -/
  | rtTimerReset (isOver : Bool)
  /-- A delayed threshold (DC undervoltage, frequency, RoCoF) persists for its delay and trips. (R164) -/
  | protDelayExpired (row : Fin 3)
  /-- A law channel exceeds its freshness, stuck or range count and is lost, with the class response. (R180) -/
  | fbLost (c : Fin 32)
  /-- Lost channels fresh for 64 frames start the return blend. (R183) -/
  | fbRestored (c : Fin 32)
  /-- The degraded stop limit reaches zero or DEG_STOP_TIME passes and GATE_OFF is taken. (R184) -/
  | degradedStopEnd
  /-- At a carrier reload pending words are taken and ARMED pairs start switching. (R196) -/
  | carrierReload (c : Fin 8)
  /-- A compare edge turns one channel inactive and schedules the other after dead time, under guard and minimum pulse. (R190) -/
  | compareEdge (p : Fin 24) (highActive : Bool)
  /-- Dead time ends and the pending channel turns active. (R190) -/
  | deadTimeTurnOn (ch : Fin 48)
  /-- t_oi after step 1 the inner devices turn off or clamp devices turn on. (R201) -/
  | safeStep2
  /-- CLAMP_TIME ends and every remaining active device turns off. (R201) -/
  | clampTimeEnd
  /-- A debug halt of the serving lane starts GATE_OFF and latches DEBUG_HALT. (R204) -/
  | debugHalt (lane : Lane) (halt : Bool)
  /-- A filtered trip assertion outside blanking latches its bit and starts TRIP_ACTION. (R207) -/
  | tripInput (i : Fin 4) (level : Bool)
  /-- A blanking window ends and a still-asserted trip acts, or an ended one is counted ignored. (R207) -/
  | blankWindowEnd (i : Fin 4)
  /-- No LOAD_ALL for the timeout while RUNNING latches CMD_TIMEOUT and starts GATE_OFF. (R206) -/
  | cmdTimeout
  /-- The owner clears latched trip bits, refused whole if a cause persists. (R209) -/
  | tripClear (session : Nat) (mask : Nat)
  /-- The lane sorter orders available submodules of each arm after their voltages arrive. (R212) -/
  | mmcSort (arm : Fin 6)
  /-- A received parcel is decoded, corrected, counted or discarded. (R225) -/
  | parcelReceive (rx : RxPort) (w : BitVec 144)
  /-- 16 invalid sync headers of 64 lose block lock. (R224) -/
  | blockLockLost (rx : RxPort) (invalid : Fin 65)
  /-- Bundle lock is taken after 4 clean bundles or lost after 8 bad ones. (R224) -/
  | bundleLock (rx : RxPort) (offset : Fin 9) (clean : Bool)
  /-- A training parcel arrives and its tap request is applied and acknowledged. (R228) -/
  | trainingBundleReceive (rx : RxPort) (bundle : BitVec 576) (height width : Fin 256)
  /-- FOM at target for 1 ms makes a receiver READY; both READY enters P0. (R230) -/
  | rxReady (l : Fin 18)
  /-- 50 ms in ADAPT requests the best taps, or ABORT marks the lane weak. (R230) -/
  | adaptTimeout (l : Fin 18)
  /-- A weak lane retries training after 1 s. (R230) -/
  | weakRetry (l : Fin 18)
  /-- After 16 exchanges ONEWAY is formed, or the lane marked weak. (R231) -/
  | onewayMeasured (l : Fin 18)
  /-- Lock loss or too many uncorrectable parcels start a fast retrain and record LINK_DOWN. (R232) -/
  | linkRetrain (l : Fin 18)
  /-- A fast retrain completes or fails into full training. (R232) -/
  | fastRetrainDone (l : Fin 18) (fom : Fin 256)
  /-- A power-state request sends a power parcel or is refused. (R233) -/
  | pstateReq (session : Nat) (l : Fin 18) (v : Nat)
  /-- At ENTRY_LTC both directions enter the requested power state. (R233) -/
  | pstateEntry (l : Fin 18)
  /-- An endpoint uplink arrives with status, echo, voltages, currents and faults, handled by the module. (R251) -/
  | uplinkBurstReceive (l : Fin 16)
  /-- No uplink for BRIDGE_N frames while ARMED or RUNNING takes GATE_OFF. (R251) -/
  | uplinkLost (e : Fin 16)
  /-- An endpoint dwells 20 ms on each rate until bundle lock. (R226) -/
  | epRateScan (e : Fin 16) (port : Fin 2)
  /-- An endpoint accepts or rejects a downlink burst and renews claims and leases. (R241) -/
  | epBurstAccept (e : Fin 16) (port : Fin 2)
  /-- An endpoint applies insertion states at the apply tick. (R244) -/
  | epInsertionApply (e : Fin 16)
  /-- At each first reload an endpoint executes the edge set for that tick. (R245) -/
  | epEdgeExecute (e : Fin 16) (p : Fin 24)
  /-- An endpoint declares a frame missed and bridges. (R247) -/
  | epFrameMissed (e : Fin 16)
  /-- BRIDGE_N missed frames make the endpoint take EP_SAFE. (R248) -/
  | epBridgeExpiry (e : Fin 16)
  /-- A lease held fresh for LEASE_LEN × F expires at the endpoint. (R243) -/
  | epLeaseExpiry (e : Fin 16) (port : Fin 2)
  /-- An endpoint puts a complete configuration generation in force. (R246) -/
  | epCfg (e : Fin 16)
  /-- An endpoint sends its uplink burst at t0 + UL_START. (R236) -/
  | epUplinkBurst (e : Fin 16) (volts : List (Nat × Nat × Nat)) (currents : List StackSample)
  /-- An endpoint acts on a local fault at once and reports it. (R249) -/
  | epLocalFault (e : Fin 16) (fault : LocalFault)
  /-- The owner commands a local drive channel, subject to refusals. (R263) -/
  | ldCmd (session : Nat) (x : Fin 6) (v : Nat)
  /-- The owner clears latched channels, refused if DESAT persists. (R273) -/
  | ldClear (session : Nat) (mask : Nat)
  /-- A chopper period starts and takes the latest committed duty. (R262) -/
  | chopperPeriodStart (x : Fin 6)
  /-- No commit for the timeout turns the chopper off. (R262) -/
  | ldHoldExpired (x : Fin 6)
  /-- A pre-charge channel on for PRECH_TIME_MAX is turned off. (R264) -/
  | ldPrechargeTimeout (x : Fin 6)
  /-- VPOS and VNEG are reported every 100 µs. (R268) -/
  | ldSupplyMeasure (x : Fin 6) (vpos vneg : F32) (senseHigh : Bool)
  /-- A supply below threshold for 5 µs holds the output off. (R268) -/
  | ldUvlo (x : Fin 6) (vneg : Bool)
  /-- 1 ms after both supplies recover the channel returns. (R268) -/
  | ldUvloRecover (x : Fin 6)
  /-- A qualified DESAT or hard short starts a soft turn-off. (R270) -/
  | ldShort (x : Fin 6) (hard : Bool)
  /-- The soft turn-off completes and a retry wait or latch follows. (R271) -/
  | ldSoftOffDone (x : Fin 6)
  /-- RETRY_WAIT ends and the channel returns to its commanded state. (R271) -/
  | ldRetryWaitEnd (x : Fin 6)
  /-- 60 s of fault-free running reloads RETRY_LEFT. (R271) -/
  | ldRetryReload (x : Fin 6)
  /-- A bootstrap channel on for BOOT_INTERVAL gets a refresh off-pulse. (R275) -/
  | ldBootRefresh (x : Fin 6)
  /-- A chopper channel low on supply for 1 s is treated as latched. (R269) -/
  | chopperUnavailable (x : Fin 6)
  /-- The standby lane takes the serving lane's path codeword. (R283) -/
  | pathCodeword (words : List (BitVec 128))
  /-- The comparator compares the lanes' digests when the later lane commits. (R285) -/
  | outputCompare
  /-- Lanes agree outside the envelope for EFT_DISAGREE_MAX frames. (R290) -/
  | eftFault
  /-- 32 warming frames end and the Eft becomes READY. (R290) -/
  | eftWarmingEnd
  /-- A demoted lane's retest passes into RESYNC or fails into OUT. (R291) -/
  | laneRetestDone (lane : Lane) (pass : Bool)
  /-- 256 equal frames qualify the lane or module. (R292) -/
  | laneQualified
  /-- Each lane's health score is recomputed every 10 ms. (R293) -/
  | healthRecompute (kaA kaB : KaResult)
  /-- A standby module loops back unused serial lanes every 10 s. (R293) -/
  | loopbackTest (pass : Vector Bool 18)
  /-- LANE_CMD swap hands service to the standby lane via RETIRING. (R294) -/
  | laneSwap (session : Nat)
  /-- ROTATE_INTERVAL elapses and a planned swap runs. (R294) -/
  | laneRotate
  /-- LANE_CMD requalify brings a lane out of OUT. (R291) -/
  | laneRequalify (session : Nat) (lane : Lane)
  /-- LANE_CMD take out holds a lane OUT. (R291) -/
  | laneTakeOut (session : Nat) (lane : Lane)
  /-- A cross-link heartbeat arrives with claim, state and flags. (R297) -/
  | heartbeatReceive (x0 x1 : Option (BitVec 144)) (serial : BitVec 32)
  /-- A cross-link run of block, mirror, copy or digest parcels is received. (R297) -/
  | xlRunReceive (x0 x1 : List (BitVec 144))
  /-- The standby computes on its own block when the forwarded block is late. (R300) -/
  | forwardedBlockMissing
  /-- |d| above PLAUS_TOL for 1 s sets PLAUSIBILITY. (R299) -/
  | plausibility
  /-- At start a module resolves its pair role from echoes, heartbeats or 1 s timeout. (R298) -/
  | pairRoleResolve
  /-- PAIR_CMD handover runs a planned handover to the standby. (R307) -/
  | pairHandover (session : Nat)
  /-- PAIR_CMD requalify partner starts the partner's requalification. (R307) -/
  | pairRequalify (session : Nat)
  /-- Standby health ahead by HANDOVER_MARGIN for 10 s triggers a handover. (R307) -/
  | autoHandover
  /-- A shadow outside tolerance for 16 frames goes OUT. (R310) -/
  | skewDiverged (module : Bool) (lane : Lane)
  /-- OPEN creates a session with its role. (R325) -/
  | dictOpen (port : Fin 5) (assoc : Nat) (tag : BitVec 16) (role : Byte)
  /-- CLOSE ends a session and discards its staging and queue. (R325) -/
  | dictClose (session : Nat) (tag : BitVec 16)
  /-- READ returns a value, live or staged. (R318) -/
  | dictRead (session : Nat) (tag index : BitVec 16) (sub : Byte) (offset : BitVec 32) (staged : Bool)
  /-- WRITE to an entry without its own row is checked, staged or applied, including segments. (R318) -/
  | dictWrite (session : Nat) (tag index : BitVec 16) (sub : Byte) (offset : BitVec 32) (last : Bool) (data : List Byte)
  /-- KEEPALIVE renews the session and ownership lease. (R325) -/
  | dictKeepalive (session : Nat) (tag : BitVec 16)
  /-- ABORT withdraws a queued transaction. (R344) -/
  | dictAbort (session : Nat) (tag : BitVec 16)
  /-- A session idle for SESSION_TIMEOUT closes. (R325) -/
  | sessionTimeout (session : Nat)
  /-- COMMIT runs staleness, lock, range, admission and pair checks. (R333) -/
  | dictCommit (session : Nat)
  /-- At the switching boundary the whole committed set switches and CONFIG_GEN increments. (R335) -/
  | configSwitch (fails : List (Nat × Nat × Nat))
  /-- DISCARD empties the session's staging set. (R337) -/
  | dictDiscard (session : Nat)
  /-- OWN_REQ 1 grants or refuses ownership. (R327) -/
  | ownRequest (session : Nat)
  /-- OWN_REQ 2 releases ownership. (R327) -/
  | ownRelease (session : Nat)
  /-- OWN_REQ 3 from M takes ownership at once. (R330) -/
  | ownForce (session : Nat)
  /-- The owner's lease expires and OWNER_LOSS_ACTION is taken. (R328) -/
  | ownershipLost
  /-- The next queued transaction is chosen and served. (R339) -/
  | transactionServe
  /-- A 100 ms window boundary resets the service budgets. (R339) -/
  | serviceWindow
  /-- A transaction pending DELAY_NOTICE gets a DELAYED response, repeated every 100 ms. (R341) -/
  | delayNotice
  /-- A transaction not served within QUEUE_MAX_WAIT is withdrawn. (R342) -/
  | queueExpired
  /-- A segmented transfer without its next segment ends in SEGMENT_ERROR. (R344) -/
  | segTimeout (session : Nat)
  /-- A USDO request on C1 or C2 is served as a transaction. (R347) -/
  | usdoRequest (k : Fin 2) (isWrite : Bool) (index : BitVec 16) (sub : Byte) (data : List Byte)
  /-- USDO_WAIT passes and the transaction is aborted. (R348) -/
  | usdoWaitExpired (k : Fin 2)
  /-- A frame arrives on E1 or E2 and is accepted or dropped. (R355) -/
  | ethFrameReceive (k : Fin 2) (len : Nat) (fcsOk : Bool) (vlan : Nat) (kind : EthKind)
  /-- A port link goes up or down. (R354) -/
  | ethLink (k : Fin 2) (up : Bool)
  /-- A DTLS handshake authenticates a host chain or records AUTH_FAIL. (R476) -/
  | dtlsHandshake (k : Fin 2) (assoc : Nat) (peer : List Byte) (chain : CertChain)
  /-- Announce messages feed the best master clock algorithm. (R357) -/
  | ptpAnnounceReceive (k : Fin 2) (msg : Announce)
  /-- A delay request or Pdelay exchange measures path delay. (R357) -/
  | ptpDelayExchange (k : Fin 2) (t1 t2 t3 t4 : Int)
  /-- A Sync measurement updates offset, servo rate, steps and state. (R363) -/
  | servoMeasurement (k : Fin 2) (logInterval : Int) (sent : Int) (received : Int)
  /-- Announce receipt timeout with no master puts the servo in COASTING. (R366) -/
  | announceTimeout
  /-- FORCE_STEP steps by the mean offset. (R364) -/
  | forceStep (session : Nat)
  /-- At the end of the UTC day UTC_OFFSET changes. (R367) -/
  | leapSecond
  /-- TAI, UTC_OFFSET and epoch are copied to the vault once per second. (R367) -/
  | vaultTimeCopy
  /-- LAUNCH_ARM arms or disarms a launch slot. (R369) -/
  | launchArm (session : Nat) (k : Fin 2) (slot : Fin 16) (value : Nat)
  /-- An armed launch occurrence falls due and the frame is sent. (R368) -/
  | launch (k : Fin 2) (slot : Fin 16)
  /-- A valid received frame goes to the first matching receive object. (R378) -/
  | canRxFrame (k : Fin 2) (f : CanFrame) (held : Bool)
  /-- TX_REQ queues a transmit object. (R380) -/
  | canTxReq (session : Nat) (k : Fin 2) (t : Fin 32) (value : Nat)
  /-- A transmission ends in success or an error with clash and ACK counting. (R383) -/
  | canTxDone (k : Fin 2) (t : Fin 32) (res : CanOutcome)
  /-- The back-off ends and kept requests are sent. (R383) -/
  | canIdBackoffEnd (k : Fin 2) (t : Fin 32)
  /-- After BUSOFF_DELAY the port recovers from bus-off. (R382) -/
  | canBusoffRecover (k : Fin 2)
  /-- BUS_RECOVER starts bus-off recovery. (R382) -/
  | busRecover (session : Nat) (k : Fin 2)
  /-- A reference message starts a basic cycle. (R385) -/
  | ttReference (k : Fin 2) (prio : Fin 8) (cycle : Fin 64)
  /-- A potential master sends the reference when it is due. (R385) -/
  | ttRefDue (k : Fin 2) (won : Bool)
  /-- No reference for two cycle lengths enters SYNC_LOST. (R385) -/
  | ttSyncLost (k : Fin 2)
  /-- A column opens and its triggered object is sent. (R386) -/
  | ttColumnOpen (k : Fin 2) (w : Fin 32)
  /-- Every 1 ms the CAN counter and LTC are latched together. (R381) -/
  | canTsPair (k : Fin 2) (counter : BitVec 32)
  /-- An NMT command changes the NMT state. (R390) -/
  | canopenNmt (k : Fin 2) (cmd : Nat) (node : Nat)
  /-- A heartbeat is sent every HB_PERIOD. (R390) -/
  | canopenHeartbeat (k : Fin 2)
  /-- An occurrence takes a token into the FIFO, is suppressed or lost. (R401) -/
  | recOccurrence (code : Nat) (detail : BitVec 16) (set : Bool) (origin : Fin 4)
  /-- A bucket regains a token and a summary enters the FIFO. (R402) -/
  | recTokenRefill (code : Nat)
  /-- The writer stores the next FIFO entry with its sequence number. (R398) -/
  | recWrite
  /-- A bypassing record retries every 1 ms. (R402) -/
  | recSummaryRetry
  /-- A read of REC_DATA returns filtered records from the cursor. (R405) -/
  | recDataRead (session : Nat) (offset : Nat)
  /-- REC_CLEAR empties the ring and writes a tombstone. (R406) -/
  | recClear (session : Nat)
  /-- REC_FREEZE 1 freezes the recorder. (R407) -/
  | recFreeze (session : Nat)
  /-- REC_FREEZE 0 unfreezes it. (R407) -/
  | recUnfreeze (session : Nat)
  /-- At a grid instant a block is formed and triggers and masks evaluated. (R408) -/
  | captGridSample (q : Fin 4)
  /-- ARM 1 arms a stream. (R410) -/
  | captArm (session : Nat) (q : Fin 4)
  /-- ARM 0 stops a stream. (R410) -/
  | captStop (session : Nat) (q : Fin 4)
  /-- TRIG_NOW triggers a stream. (R411) -/
  | trigNow (session : Nat) (q : Fin 4)
  /-- POST blocks after a trigger the stream freezes. (R410) -/
  | captFreeze (q : Fin 4)
  /-- Trigger hold-off ends. (R412) -/
  | captHoldoffEnd (q : Fin 4)
  /-- CAPT_DATA reads the frozen window. (R410) -/
  | captDataRead (session : Nat) (q : Fin 4) (offset : Nat)
  /-- A repeat stream re-arms once its window is read and hold-off passed. (R410) -/
  | captRearm (q : Fin 4)
  /-- Every 1 ms backlog adjusts DEC_EXP. (R417) -/
  | streamRate (q : Fin 4)
  /-- A stream datagram is sent within its rate. (R415) -/
  | streamPacketSend (q : Fin 4)
  /-- A 0x01 datagram pauses a stream. (R418) -/
  | streamPause (q : Fin 4) (src : BitVec 128) (srcPort : BitVec 16)
  /-- A 0x02 datagram resumes a stream. (R418) -/
  | streamResume (q : Fin 4) (src : BitVec 128) (srcPort : BitVec 16)
  /-- A SIN channel low for SINx_FILT samples demands SGB. (R426) -/
  | sinDemand (i : Fin 2) (chB : Bool)
  /-- A TPO pulse tests its channel. (R426) -/
  | sinTestPulse (i : Fin 2) (chB : Bool) (fell : Bool)
  /-- Channels differ beyond 20 ms giving an input fault. (R427) -/
  | sinDiscrepancy (i : Fin 2)
  /-- Both channels low then high 100 ms ends the input fault. (R427) -/
  | sinFaultEnd (i : Fin 2)
  /-- SGB_GATE_DELAY elapses and outputs de-energise. (R432) -/
  | sgbGateDelayExpired (reaction : BitVec 16)
  /-- Automatic release after 100 ms of high inputs. (R433) -/
  | sgbAutoRelease
  /-- Readback differs for 2 ms or fails off-test. (R429) -/
  | gateEnFault (output : Fin 3)
  /-- Each OUT_TEST_INTERVAL an output is off-tested. (R429) -/
  | outputOffTest (output : Fin 3) (fell : Bool)
  /-- SOS_IN above SOS_THRESH for SOS_FILT sets cause SOS. (R435) -/
  | sos (v : F32)
  /-- SOS_IN out of range 10 ms is a wire fault. (R435) -/
  | sosWireFault (v : F32)
  /-- Every 10 s an offset tests the comparator. (R435) -/
  | sosTestInjection (reported : Bool)
  /-- An island diagnostic fails and the safe state latches. (R424) -/
  | safetyDiag (row : Nat) (detail : BitVec 8)
  /-- The island self-test passes and clears cause START. (R431) -/
  | islandSelfTestDone
  /-- A password is written to SAFETY_LOGIN. (R440) -/
  | safetyLogin (session : Nat) (password : List Byte)
  /-- Verification completes, granting or counting failure. (R441) -/
  | safetyLoginVerified (session : Nat)
  /-- A port lockout ends. (R441) -/
  | portLockoutEnd (port : Fin 5)
  /-- 15 minutes without RWS access ends the login. (R440) -/
  | safetyLoginTimeout (session : Nat)
  /-- SAFETY_LOGOUT ends the login. (R440) -/
  | safetyLogout (session : Nat)
  /-- A new safety password is set. (R440) -/
  | safetyPwNew (session : Nat) (password : List Byte)
  /-- SAFETY_APPLY installs the staged set. (R442) -/
  | safetyApply (session : Nat)
  /-- SAFETY_DISCARD empties the safety staging set. (R442) -/
  | safetyDiscard (session : Nat)
  /-- SCS_ACK acknowledges the configuration. (R444) -/
  | scsAck (session : Nat) (value : BitVec 32)
  /-- SGB_TEST sets cause TEST. (R431) -/
  | sgbTest (session : Nat)
  /-- MARCH_CMD 0 aborts a march. (R457) -/
  | marchAbort (session : Nat) (bank : BitVec 8)
  /-- MARCH_CMD 1 starts a transparent march. (R457) -/
  | marchTransparent (session : Nat) (bank : BitVec 8)
  /-- MARCH_CMD 2 starts March SS. (R457) -/
  | marchSs (session : Nat) (bank : BitVec 8)
  /-- A march engine tests one row when its pacing allows. (R458) -/
  | marchRowStep (bank : Fin 17) (ok : Bool) (upsets : List (BitVec 144)) (badSpares : Nat)
  /-- Auxiliary input loss is declared or return recorded. (R464) -/
  | auxSupply (lost : Bool) (kind : Fin 3) (inputV freq power energy : F32)
  /-- Bulk energy reaches reserve and the module shuts down. (R465) -/
  | lastGasp
  /-- 125 °C for 100 ms takes the thermal stop. (R468) -/
  | thermalStop
  /-- A challenge starts attestation. (R473) -/
  | attestChallenge (session : Nat) (challenge : List Byte)
  /-- The signed attestation becomes available. (R473) -/
  | attestResponseReady (session : Nat)
  /-- A SERVICE write to anchors or REVOKED. (R477) -/
  | certChange (session : Nat) (target : Fin 5) (data : List Byte)
  /-- FW_IMAGE segments are loaded and verified. (R481) -/
  | fwImageLoad (session offset size : Nat) (last : Bool) (found : ImageInfo)
  /-- FW_ACTIVATE 1 or 2 reloads a lane. (R481) -/
  | fwActivateLane (session : Nat) (lane : Lane)
  /-- FW_ACTIVATE 3 resets the module. (R481) -/
  | fwActivateModule (session : Nat)
  /-- FW_ACCEPT raises SVN_FLOOR. (R480) -/
  | fwAccept (session : Nat)
  /-- A tamper source latches and starts a wipe. (R482) -/
  | tamper (source : Fin 5) (isPresent : Bool)
  /-- TAMPER_CLEAR clears absent sources. (R483) -/
  | tamperClear (session : Nat) (mask : BitVec 8)
  /-- LC_REQ 1 requests RETURN. (R485) -/
  | lcReqReturn (session : Nat)
  /-- LC_REQ 2 requests RETURN-SANITISED. (R485) -/
  | lcReqSanitised (session : Nat)
  /-- LC_REQ 3 requests RETIRED. (R485) -/
  | lcReqRetired (session : Nat)
  /-- LC_CONFIRM with the nonce performs the transition. (R484) -/
  | lcConfirm (session : Nat) (nonce : List Byte)
  /-- A request not confirmed in 60 s ends. (R485) -/
  | lcReqExpiry
  /-- A KIND 1 token opens the vendor range. (R488) -/
  | vendorUnlock (session : Nat) (token : List Byte) (signed : Bool)
  /-- A KIND 2 token returns to FIELD. (R489) -/
  | vendorRecommission (session : Nat) (token : List Byte) (signed : Bool)
  /-- The auxiliary input exceeds the start threshold and the cold start begins. (R492) -/
  | coldStart (kind : Fin 3) (inputV freq power energy : F32) (rstLow : Bool)
  /-- A cold start stage ends and the next begins. (R492) -/
  | bootStageEnd (stage : Fin 11) (found : StageFound)
  /-- TIME_WAIT elapses without a servo step. (R492) -/
  | timeWaitExpired
  /-- TIMEBASE not ended 1 s after D12 enters NOT_READY. (R494) -/
  | bootTimebaseTimeout
  /-- RESET_CMD 1 runs a module reset. (R497) -/
  | resetCmdModule (session : Nat)
  /-- RESET_CMD 2 or 3 resets a lane. (R499) -/
  | resetCmdLane (session : Nat) (lane : Lane)
  /-- RST_N low for 10 ms resets RST_SCOPE. (R498) -/
  | rstNAssert
  /-- RST_N release starts the cold start or lane boot. (R498) -/
  | rstNRelease
  /-- RST_N low 8 s is treated as failed closed. (R498) -/
  | rstStuck
  /-- RST_N high for 1 s ends the stuck state. (R498) -/
  | rstStuckRelease
  /-- A watchdog expires and its action is taken. (R500) -/
  | watchdog (unit : Fin 9)
  /-- PR_CMD starts a partial reset. (R502) -/
  | partialResetCmd (session block : Nat)
  /-- At t_q + 5 µs the drain ends and the epoch fence is raised. (R501) -/
  | prDrainEnd (block : Fin 10) (targetResets discards : Nat)
  /-- The reset block runs again. (R501) -/
  | prBlockRunning (block : Fin 10)
  /-- USB_VBUS rises above or falls below 4.0 V, so the M port gains or loses its host and the M session ends with the USB connection. (R520) -/
  | mConnected (up : Bool)
  /-- The DTLS association of an E1 or E2 session ends, which closes the session and discards its staging set and queue. (R325) -/
  | dtlsAssociationEnd (assoc : Nat)
  /-- A lane that was reset, re-powered or reloaded finishes booting and enters RESYNC to rejoin. (R499) -/
  | laneBootDone (lane : Lane) (version : Nat)
  /-- Within a chopper or pulsed period a local drive channel switches off after duty × period, or a pulsed general channel starts its period, opening or ending DESAT blanking and on-time. (R262) -/
  | ldPulseEdge (x : Fin 6)
  /-- Both channels of a demanding SIN input read high again, which ends cause SIN1 or SIN2 so that SGB becomes releasable. (R431) -/
  | sinChannelsHigh (i : Fin 2)
  /-- SOS_IN falls below SOS_THRESH − SOS_HYST, which ends cause SOS so that it awaits manual release. (R431) -/
  | sosBelowHysteresis (v : F32)
  /-- REFCLK_IN has stayed within ±100 ppm of the selected frequency for 10 ms and becomes qualified. (R34) -/
  | refclkQualified
  /-- After a committed reference change the DCR moves to the new source without step once it is qualified, recording TB_REF_FALLBACK. (R34) -/
  | dcrSourceMove
  /-- The DCR tuning word is written and takes effect within 1 µs. (R35) -/
  | dcrTuneWrite
  /-- Pending divider and interleave values are applied together at the first eligible alignment point. (R41) -/
  | tbDivApplied
  /-- Frequency acquisition of the TB-PLL completes. (R42) -/
  | freqAcquisitionDone
  /-- The lock detector has seen phase error ≤ 0.5 ns for 1 ms and the TB-PLL enters ALIGN. (R42) -/
  | lockDetectStable
  /-- Loss of REFCLK_IN is declared, the tuning word frozen and HOLDOVER entered. (R43) -/
  | refLoss
  /-- After REF_LOSS_QUAL with fallback set the DCR moves to the TCXO and LOCKED returns. (R43) -/
  | refFallback
  /-- After REFCLK_IN has been qualified for 10 s the DCR returns to it without step. (R43) -/
  | refReturn
  /-- HOLDOVER has lasted longer than HOLDOVER_LIMIT and time quality becomes free-running. (R44) -/
  | tbHoldoverExpired
  /-- The re-phased loop closes within 100 µs and the state returns to LOCKED without ALIGN. (R45) -/
  | relockDone
  /-- The PWM watchdog sees no or wrong timebase edges, the TB-PLL goes LOST then ACQUIRE, outputs go safe and frames and bursts stop. (R46) -/
  | tbLost
  /-- The SYS-PLL lock detector reports TCXO failure, treated as timebase, CAN and USB loss with a last-gasp record. (R47) -/
  | tcxoFail
  /-- The TCXO is reported good again and acquisition proceeds. (R47) -/
  | tcxoRecover
  /-- A committed spread-spectrum change takes effect at the start of the next modulation period. (R49) -/
  | ssChangeApply
  /-- The interleave error estimate crosses its threshold and the degraded flag is set or cleared. (R54) -/
  | interleaveDegraded
  /-- Start-up calibration begins when D7 comes on with a valid timebase, or restarts after timebase loss. (R73) -/
  | adcStartupCal
  /-- Every enabled core has completed start-up calibration and ADC_CAL_DONE is recorded. (R73) -/
  | adcCalDone
  /-- The house core converts internal channel results to engineering values and evaluates reference divergence, at least every 1 ms. (R72) -/
  | ichValueUpdate
  /-- At t0 + 1.40 µs the filter chain releases the frame-path block to both lanes, the Eft and the link engine. (R82) -/
  | fpBlockRelease
  /-- Frame n begins at B(n); the configuration in force, SI, shedding and the speed margin are evaluated. (R97) -/
  | frameBoundary
  /-- SI ≥ 1.08 for 10 ms clears SPEED_MARGIN. (R113) -/
  | speedMarginClear
  /-- SI ≥ 1.02 for 100 ms restores the last shed step. (R113) -/
  | shedRestore
  /-- Speculation for frame n starts at B(n) or once frame n − 1 has finished post-commit work. (R107) -/
  | speculationStart
  /-- The 64 cold frames run out and run-ahead may resume. (R108) -/
  | coldFramesEnd
  /-- A frame not committed by its deadline, or invalid, is abandoned, outputs held and the slip counted. (R110) -/
  | frameSlip
  /-- The start delay ends and the bus is rechecked, moving to ENERGISE, DEAD_CLOSE or the live path. (R150) -/
  | bsDelay
  /-- CLOSE_WAIT_MAX passes in DEAD_CLOSE and the state returns to SENSE. (R154) -/
  | deadCloseTimeout
  /-- Accumulated holds exceed BS_HOLD_MAX and GATE_OFF is taken. (R151) -/
  | bsFailed
  /-- The synchronisation windows have held for T_SYNC and SYNC_OK is set, or a window is left and it clears. (R153) -/
  | syncOk
  /-- BRK_CLOSED not risen within CLOSE_WAIT_MAX of SYNC_OK withdraws it. (R153) -/
  | syncOkWithdrawn
  /-- |p_f| and |q_f| below 0.02 p.u. for 20 ms, or STOP_TIME passed, ends STOPPING with gates off. (R155) -/
  | stopComplete
  /-- After LIM_EXIT_FRAMES quiet frames the limiter becomes inactive and rotor release begins. (R171) -/
  | limExit
  /-- HOLD_RELEASE ends and the rotor clamp is fully released. (R176) -/
  | rotorReleaseEnd
  /-- The 64-frame blend ends and tracking resumes. (R183) -/
  | obsReturnDone
  /-- T_BRIDGE expires and the degraded stop begins. (R183) -/
  | obsBridgeExpiry
  deriving DecidableEq, Repr

end Sys2Proof
end

