-- ==== Sys2Proof/Machine/Events.lean ====
section
/-!
DEFINITION. Machine/Events.lean: the event codes of the recorder under their names (Tables 2.8, 3.8, 4.7, 5.12, 6.9, 7.8, 8.11,
9.22, 10.9, 11.12, 12.14, 13.7, 14.9, 15.4) and the severity of each (R399, Tables 15.3 and 15.4).
-/
namespace Sys2Proof.Ev

abbrev TB_LOCKED : Nat := 0x0101
abbrev TB_HOLDOVER : Nat := 0x0102
abbrev TB_REF_FALLBACK : Nat := 0x0103
abbrev TB_HOLDOVER_EXPIRED : Nat := 0x0104
abbrev TB_LOST : Nat := 0x0105
abbrev TB_DIV_APPLIED : Nat := 0x0106
abbrev INTERLEAVE_DEGRADED : Nat := 0x0107
abbrev SYS_PLL_FAULT : Nat := 0x0108
abbrev ADC_CAL_DONE : Nat := 0x0201
abbrev ADC_CORE_FAULT : Nat := 0x0202
abbrev ADC_PAIR_FALLBACK : Nat := 0x0203
abbrev ADC_REF_DIVERGE : Nat := 0x0204
abbrev ADC_OVERRANGE : Nat := 0x0205
abbrev ADC_SEQ_STARVED : Nat := 0x0206
abbrev FC_SETTLED : Nat := 0x0301
abbrev FC_UNSETTLED : Nat := 0x0302
abbrev RS_GRIDSYNC : Nat := 0x0303
abbrev RS_RATIO_CLAMPED : Nat := 0x0304
abbrev FP_BLOCK_MISSED : Nat := 0x0305
abbrev FRAME_SLIP : Nat := 0x0401
abbrev FRAME_INVALID : Nat := 0x0402
abbrev COLD_ENTERED : Nat := 0x0403
abbrev SPEED_MARGIN : Nat := 0x0404
abbrev SHED_CHANGE : Nat := 0x0405
abbrev ADMISSION_REFUSED : Nat := 0x0406
abbrev SLIP_STOP : Nat := 0x0407
abbrev SLIP_DEMOTE : Nat := 0x0408
abbrev LAW_STATE : Nat := 0x0501
abbrev BUS_DEAD : Nat := 0x0502
abbrev BS_DELAY : Nat := 0x0503
abbrev BS_HOLD : Nat := 0x0504
abbrev BS_FAILED : Nat := 0x0505
abbrev SYNC_OK : Nat := 0x0506
abbrev SYNC_UNAUTH_CLOSE : Nat := 0x0507
abbrev ROTOR_LIMIT : Nat := 0x0508
abbrev POWER_LIMIT : Nat := 0x0509
abbrev FR_LIMIT : Nat := 0x050A
abbrev HARMONIC_INACTIVE : Nat := 0x050B
abbrev GAIN_TABLE_INVALID : Nat := 0x050C
abbrev CHOPPER_EXHAUSTED : Nat := 0x050D
abbrev CHOPPER_UNAVAILABLE : Nat := 0x050E
abbrev ARM_CLAMP : Nat := 0x050F
abbrev BS_NOT_PERMITTED : Nat := 0x0510
abbrev LIM_ACTIVE : Nat := 0x0601
abbrev RT_CURVE_INVALID : Nat := 0x0602
abbrev ROTOR_HOLD : Nat := 0x0603
abbrev PHASE_JUMP : Nat := 0x0604
abbrev RT_ENTERED : Nat := 0x0605
abbrev RT_EXCEEDED : Nat := 0x0606
abbrev PROT_TRIP : Nat := 0x0607
abbrev FB_LOST : Nat := 0x0608
abbrev FB_RESTORED : Nat := 0x0609
abbrev OBS_BRIDGE : Nat := 0x060A
abbrev DEGRADED_STOP : Nat := 0x060B
abbrev OUT_STATE : Nat := 0x0701
abbrev TRIP : Nat := 0x0702
abbrev TRIP_CLEARED : Nat := 0x0703
abbrev TRIP_CLEAR_REFUSED : Nat := 0x0704
abbrev TRIP_BLANKED : Nat := 0x0705
abbrev LOAD_LATE : Nat := 0x0706
abbrev NPC_ORDER_FIX : Nat := 0x0707
abbrev MMC_SM_CHANGE : Nat := 0x0708
abbrev MMC_AVAIL_LOW : Nat := 0x0709
abbrev PWM_CONFIG : Nat := 0x070A
abbrev LINK_UP : Nat := 0x0801
abbrev LINK_DOWN : Nat := 0x0802
abbrev LINK_WEAK : Nat := 0x0803
abbrev LINK_PSTATE : Nat := 0x0804
abbrev EP_MISMATCH : Nat := 0x0805
abbrev EP_BRIDGE : Nat := 0x0806
abbrev EP_SAFE : Nat := 0x0807
abbrev EP_FAULT : Nat := 0x0808
abbrev EP_LATE : Nat := 0x0809
abbrev EP_CFG : Nat := 0x080A
abbrev UPLINK_LOST : Nat := 0x080B
abbrev PARCEL_UNCORR : Nat := 0x080C
abbrev ECHO_OTHER : Nat := 0x080D
abbrev LD_SHORT : Nat := 0x0901
abbrev LD_LATCHED : Nat := 0x0902
abbrev LD_COMMON_SHORT : Nat := 0x0903
abbrev LD_UVLO : Nat := 0x0904
abbrev LD_BOOT_EMPTY : Nat := 0x0905
abbrev LD_CLEARED : Nat := 0x0906
abbrev LD_CLEAR_REFUSED : Nat := 0x0907
abbrev LD_PRECHARGE_TIMEOUT : Nat := 0x0908
abbrev LD_HOLD_EXPIRED : Nat := 0x0909
abbrev LD_CONFIG : Nat := 0x090A
abbrev LANE_STATE : Nat := 0x0A01
abbrev LANE_DIVERGENCE : Nat := 0x0A02
abbrev LANE_QUALIFIED : Nat := 0x0A03
abbrev KA_FAIL : Nat := 0x0A04
abbrev MIRROR_OVERFLOW : Nat := 0x0A05
abbrev EFT_FAULT : Nat := 0x0A06
abbrev LANE_ROTATE : Nat := 0x0A07
abbrev PAIR_STATE : Nat := 0x0B01
abbrev TAKEOVER : Nat := 0x0B02
abbrev HANDOVER : Nat := 0x0B03
abbrev CROSSLINK_LOST : Nat := 0x0B04
abbrev PAIR_DIVERGENCE : Nat := 0x0B05
abbrev COPY_ABORTED : Nat := 0x0B06
abbrev PLAUSIBILITY : Nat := 0x0B07
abbrev REDUCED_COVERAGE : Nat := 0x0B08
abbrev DEMOTED_BY_ECHO : Nat := 0x0B09
abbrev TIME_SKEW : Nat := 0x0B0A
abbrev SESSION : Nat := 0x0C01
abbrev OWNERSHIP : Nat := 0x0C02
abbrev COMMIT : Nat := 0x0C03
abbrev STAGE_STALE : Nat := 0x0C04
abbrev QUEUE_PRESSURE : Nat := 0x0C05
abbrev AUTH_FAIL : Nat := 0x0C06
abbrev OWNER_LOSS_ACTION : Nat := 0x0C07
abbrev ETH_LINK : Nat := 0x0D01
abbrev SERVO_STATE : Nat := 0x0D02
abbrev TIME_STEP : Nat := 0x0D03
abbrev STEP_NEEDED : Nat := 0x0D04
abbrev PTP_MASTER : Nat := 0x0D05
abbrev LEAP_SECOND : Nat := 0x0D06
abbrev LAUNCH_LATE : Nat := 0x0D07
abbrev LAUNCH_EPOCH : Nat := 0x0D08
abbrev CAN_PORT_STATE : Nat := 0x0E01
abbrev CAN_ID_CLASH : Nat := 0x0E02
abbrev CAN_ALONE : Nat := 0x0E03
abbrev TT_STATE : Nat := 0x0E04
abbrev CAN_RX_OVERRUN : Nat := 0x0E05
abbrev CAN_CONFIG : Nat := 0x0E06
abbrev FF_DEGRADED : Nat := 0x0E07
abbrev SGB : Nat := 0x0F01
abbrev SOS : Nat := 0x0F02
abbrev SIN_DISCREPANCY : Nat := 0x0F03
abbrev GATE_EN_FAULT : Nat := 0x0F04
abbrev SAFETY_LOGIN : Nat := 0x0F05
abbrev SAFETY_CHANGE : Nat := 0x0F06
abbrev SAFETY_DEFAULTS : Nat := 0x0F07
abbrev SAFETY_DIAG : Nat := 0x0F08
abbrev MARCH_DONE : Nat := 0x1001
abbrev MARCH_FAIL : Nat := 0x1002
abbrev ROW_REMAP : Nat := 0x1003
abbrev BANK_UNCORR : Nat := 0x1004
abbrev BANK_CORR_HIGH : Nat := 0x1005
abbrev BANK_STATE : Nat := 0x1006
abbrev DOMAIN_STATE : Nat := 0x1007
abbrev AUX_SUPPLY : Nat := 0x1008
abbrev OVERTEMP : Nat := 0x1009
abbrev BACKUP_LOW : Nat := 0x100A
abbrev BOOT : Nat := 0x1101
abbrev BOOT_REFUSED : Nat := 0x1102
abbrev TAMPER : Nat := 0x1103
abbrev SEC_WIPE : Nat := 0x1104
abbrev LIFECYCLE : Nat := 0x1105
abbrev CERT_CHANGE : Nat := 0x1106
abbrev READY : Nat := 0x1107
abbrev RESET : Nat := 0x1108
abbrev RST_STUCK : Nat := 0x1109
abbrev PARTIAL_RESET : Nat := 0x110A
abbrev WATCHDOG : Nat := 0x110B
abbrev REC_CLEARED : Nat := 0x1201
abbrev REC_OVERFLOW : Nat := 0x1202
abbrev REC_FROZEN : Nat := 0x1203
abbrev CAPT_TRIGGER : Nat := 0x1204
abbrev MASK_VIOLATION : Nat := 0x1205
abbrev STREAM_RATE : Nat := 0x1206
abbrev STREAM_STATE : Nat := 0x1207
abbrev STREAM_GAP : Nat := 0x1208

/-- The codes of a Fail column (Table 15.3) or of severity Fail (Table 15.4). -/
def failCodes : List Nat :=
  [TB_LOST, SYS_PLL_FAULT, ADC_CORE_FAULT, ADC_REF_DIVERGE, FRAME_INVALID, SLIP_STOP, SLIP_DEMOTE, BS_FAILED,
   CHOPPER_UNAVAILABLE, RT_EXCEEDED, PROT_TRIP, FB_LOST, DEGRADED_STOP, TRIP, MMC_AVAIL_LOW, UPLINK_LOST,
   EP_SAFE, LD_LATCHED, LD_COMMON_SHORT, LANE_DIVERGENCE, KA_FAIL, EFT_FAULT, TAKEOVER, PAIR_DIVERGENCE,
   DEMOTED_BY_ECHO, STEP_NEEDED, SGB, SOS, SIN_DISCREPANCY, GATE_EN_FAULT, SAFETY_DIAG, MARCH_FAIL,
   BANK_UNCORR, AUX_SUPPLY, OVERTEMP, BOOT_REFUSED, TAMPER, WATCHDOG]

/-- The codes of an Info column or of severity Info. -/
def infoCodes : List Nat :=
  [TB_LOCKED, TB_DIV_APPLIED, ADC_CAL_DONE, FC_SETTLED, RS_GRIDSYNC, LAW_STATE, SYNC_OK, OUT_STATE,
   LINK_UP, LINK_PSTATE, EP_CFG, LD_CLEARED, LANE_STATE, LANE_QUALIFIED, LANE_ROTATE, PAIR_STATE,
   HANDOVER, SESSION, OWNERSHIP, COMMIT, ETH_LINK, SERVO_STATE, TIME_STEP, LEAP_SECOND,
   TT_STATE, SAFETY_CHANGE, MARCH_DONE, BANK_STATE, DOMAIN_STATE, BOOT, LIFECYCLE, CERT_CHANGE,
   READY, REC_CLEARED, REC_FROZEN, CAPT_TRIGGER, STREAM_RATE, STREAM_STATE]

/-- The severity of a code: 0 info, 1 warning, 2 fail (R399). -/
def severity (code : Nat) : Nat :=
  if code ∈ failCodes then 2 else if code ∈ infoCodes then 0 else 1

end Sys2Proof.Ev
end

