-- ==== Sys2Proof/Config.lean ====
section
/-!
DEFINITION. Config.lean: what an implementation fixes, and the free values: constants without a body, so that nothing can
be proved about their value. Each names the rule that leaves the value open; notes/assumptions says so too.
-/
namespace Sys2Proof

/-- Sine of a binary32 angle: Table 1.9 (R30) names a 1,024-entry table with linear interpolation and gives neither its entries nor
their rounding (free value, log 6, DESIGN CHOICE, safe). -/
opaque Config.sin : F32 → F32
/-- Cosine, as `Config.sin`. -/
opaque Config.cos : F32 → F32
/-- Two-argument arctangent (Table 1.9 of R30 gives only its cost; free value, log 6). -/
opaque Config.atan2 : F32 → F32 → F32
/-- The exponential used by decay terms (the spec gives no algorithm; free value, log 6). -/
opaque Config.exp : F32 → F32
/-- The resampler's fixed prototype, in steps of a phase from its edge to its middle, 0–512 (R86 gives no values; free value, log 11, DESIGN CHOICE,
safe). -/
opaque Config.rsProto : Nat → F32
/-- A fresh unconstrained number: applied to the free-value counter of State (log 5). -/
opaque Config.freeNat : Nat → Nat

/-- The rows of H.SEC that fail the read-back of a wipe (R475): none is said; `n` counts the draws. (Log 148, DESIGN CHOICE, unsafe.) -/
opaque Config.wipeBadRows : Nat → List Nat
/-- A fresh unconstrained binary32 pattern: applied to the free-value counter of State (log 5). -/
opaque Config.freeF32 : Nat → F32
/-- What the module measures of the TCXO against REFCLK_IN at a tick (R43; free value, log 5, DESIGN CHOICE, safe). -/
opaque Config.tcxoVsRef : Nat → Nat
/-- PBKDF2-SHA-384 of a salt and a password (R440). Its value matters to nothing but equality, so it stays without a body (free value,
log 35, DESIGN CHOICE, safe). -/
opaque Config.passwordHash : Nat → List Byte → BitVec 384
/-- SHA-384 of octets (R473, R476; log 35). -/
opaque Config.sha384 : List Byte → BitVec 384
/-- The module key's ECDSA P-384 signature over a hash, 96 octets as a number (R471, R473; log 35). -/
opaque Config.sign : BitVec 384 → BitVec 768

end Sys2Proof
end

