-- ==== Sys2Proof/Machine/F32.lean ====
section
/-!
DEFINITION. Machine/F32.lean: the binary32 arithmetic of the tiles (R8, and "Tiles" of chapter 01): IEEE 754, rounding to
nearest even, subnormals flushed to zero on input and output. Operands are taken apart into sign, integer significand and
exponent; results are computed exactly on integers and rounded once.
-/
namespace Sys2Proof

/-- The quiet NaN the module writes (R409 names 0x7FC0_0000). -/
def fNaN : F32 := 0x7FC00000#32
/-- Positive zero. -/
def fzero : F32 := 0x00000000#32
/-- One. -/
def fone : F32 := 0x3F800000#32
/-- Infinity of sign `s`. -/
def finf (s : Bool) : F32 := if s then 0xFF800000#32 else 0x7F800000#32

/-- The sign bit. -/
def fsign (x : F32) : Bool := decide (x.toNat ≥ 2147483648)
/-- The biased exponent field. -/
def fexp (x : F32) : Nat := x.toNat / 8388608 % 256
/-- The fraction field. -/
def ffrac (x : F32) : Nat := x.toNat % 8388608
/-- Not a number. -/
def fisNaN (x : F32) : Bool := decide (fexp x = 255) && decide (ffrac x ≠ 0)
/-- An infinity of either sign. -/
def fisInf (x : F32) : Bool := decide (fexp x = 255) && decide (ffrac x = 0)
/-- Neither NaN nor infinity. -/
def ffinite (x : F32) : Bool := decide (fexp x ≠ 255)
/-- Zero after flushing: zeros and subnormals. -/
def fisZero (x : F32) : Bool := decide (fexp x = 0)

/-- The integer significand of a finite number (0 for a flushed one). -/
def fsig (x : F32) : Nat := if fexp x = 0 then 0 else 8388608 + ffrac x
/-- The exponent of the least significant bit of `fsig`. -/
def flsb (x : F32) : Int := (fexp x : Int) - 150

/-- Pack a sign, a biased exponent 1–254 and a 24-bit significand. -/
def fmk (s : Bool) (e : Nat) (m : Nat) : F32 :=
  BitVec.ofNat 32 ((if s then 2147483648 else 0) + e * 8388608 + (m - 8388608))

/-- Round the exact number `(-1)^s * m * 2^e` to binary32: nearest even, flush to zero below the normal range (decided
after rounding, log 7, DESIGN CHOICE, unsafe), infinity above it. -/
def fround (s : Bool) (m : Nat) (e : Int) : F32 :=
  if m = 0 then (if s then 0x80000000#32 else fzero)
  else
    let l := Nat.log2 m
    let (q, qe) : Nat × Int :=
      if l ≤ 23 then (m * 2 ^ (23 - l), e - ((23 - l : Nat) : Int))
      else
        let sh := l - 23
        let q := m / 2 ^ sh
        let r := m % 2 ^ sh
        let half := 2 ^ (sh - 1)
        let q' := if r > half ∨ (r = half ∧ q % 2 = 1) then q + 1 else q
        if q' = 16777216 then (8388608, e + (sh : Int) + 1) else (q', e + (sh : Int))
    let be := qe + 150
    if be ≤ 0 then (if s then 0x80000000#32 else fzero)
    else if be ≥ 255 then finf s
    else fmk s be.toNat q

/-- The exact value of a finite number as numerator and denominator. -/
def fratio (x : F32) : Int × Nat :=
  let m : Int := if fsign x then -(fsig x : Int) else (fsig x : Int)
  if 0 ≤ flsb x then (m * 2 ^ (flsb x).toNat, 1) else (m, 2 ^ (-flsb x).toNat)

/-- The signed significand of a finite number. -/
def fint (x : F32) : Int := if fsign x then -(fsig x : Int) else (fsig x : Int)

/-- Round a signed exact dyadic `n * 2^e`; an exact zero takes the sign `zs`. -/
def froundInt (n : Int) (e : Int) (zs : Bool) : F32 :=
  if n = 0 then (if zs then 0x80000000#32 else fzero) else fround (decide (n < 0)) n.natAbs e

/-- Exact sum of `a * 2^ea` and `b * 2^eb`, as a significand at the lower exponent. -/
def dyadicAdd (a : Int) (ea : Int) (b : Int) (eb : Int) : Int × Int :=
  if ea ≤ eb then (a + b * 2 ^ (eb - ea).toNat, ea) else (a * 2 ^ (ea - eb).toNat + b, eb)

/-- Negation (sign flip). -/
def fneg (x : F32) : F32 := x ^^^ 0x80000000#32
/-- Absolute value (sign cleared). -/
def fabs (x : F32) : F32 := x &&& 0x7FFFFFFF#32

/-- Addition. -/
def fadd (x y : F32) : F32 :=
  if fisNaN x || fisNaN y then fNaN
  else if fisInf x then (if fisInf y && (fsign x != fsign y) then fNaN else x)
  else if fisInf y then y
  else
    let r := dyadicAdd (fint x) (flsb x) (fint y) (flsb y)
    froundInt r.1 r.2 (fsign x && fsign y)

/-- Subtraction. -/
def fsub (x y : F32) : F32 := fadd x (fneg y)

/-- Multiplication. -/
def fmul (x y : F32) : F32 :=
  let s := fsign x != fsign y
  if fisNaN x || fisNaN y then fNaN
  else if fisInf x || fisInf y then (if fisZero x || fisZero y then fNaN else finf s)
  else fround s (fsig x * fsig y) (flsb x + flsb y)

/-- Fused multiply-add `x * y + z`, rounded once. -/
def ffma (x y z : F32) : F32 :=
  let s := fsign x != fsign y
  if fisNaN x || fisNaN y || fisNaN z then fNaN
  else if fisInf x || fisInf y then
    (if fisZero x || fisZero y then fNaN
     else if fisInf z && (fsign z != s) then fNaN else finf s)
  else if fisInf z then z
  else
    let p : Int := if s then -((fsig x * fsig y : Nat) : Int) else ((fsig x * fsig y : Nat) : Int)
    let r := dyadicAdd p (flsb x + flsb y) (fint z) (flsb z)
    froundInt r.1 r.2 (s && fsign z)

/-- Round the quotient `n / d` times `2^e`, `d` not zero: 40 extra bits and a sticky bit make the rounding exact. -/
def froundQuot (s : Bool) (n d : Nat) (e : Int) : F32 :=
  let sh := 40 + Nat.log2 d
  let q := n * 2 ^ sh / d
  let st := if n * 2 ^ sh % d = 0 then 0 else 1
  fround s (q * 2 + st) (e - (sh : Int) - 1)

/-- Division. -/
def fdiv (x y : F32) : F32 :=
  let s := fsign x != fsign y
  if fisNaN x || fisNaN y then fNaN
  else if fisInf x then (if fisInf y then fNaN else finf s)
  else if fisInf y then (if s then 0x80000000#32 else fzero)
  else if fisZero y then (if fisZero x then fNaN else finf s)
  else froundQuot s (fsig x) (fsig y) (flsb x - flsb y)

/-- Integer square root by bisection from the top bit: structural on the number of result bits. -/
def isqrtGo (n : Nat) : Nat → Nat → Nat
  | 0, r => r
  | k + 1, r =>
    let t := r + 2 ^ k
    isqrtGo n k (if t * t ≤ n then t else r)

/-- Integer square root of a number below `2^128`. -/
def isqrt (n : Nat) : Nat := isqrtGo n 64 0

/-- Square root. -/
def fsqrt (x : F32) : F32 :=
  if fisNaN x then fNaN
  else if fisZero x then (if fsign x then 0x80000000#32 else fzero)
  else if fsign x then fNaN
  else if fisInf x then x
  else
    let odd := (flsb x % 2 != 0)
    let m := if odd then fsig x * 2 else fsig x
    let e := if odd then flsb x - 1 else flsb x
    let n := m * 2 ^ 60
    let r := isqrt n
    fround false (r * 2 + (if r * r = n then 0 else 1)) (e / 2 - 31)

/-- `x < y`; false when either is NaN. -/
def flt (x y : F32) : Bool :=
  if fisNaN x || fisNaN y then false
  else if fisInf x then (fsign x && !(fisInf y && fsign y))
  else if fisInf y then !fsign y
  else
    let r := dyadicAdd (fint x) (flsb x) (-(fint y)) (flsb y)
    decide (r.1 < 0)

/-- Equality of numbers; false when either is NaN. -/
def feq (x y : F32) : Bool := !(fisNaN x || fisNaN y) && !(flt x y) && !(flt y x)
/-- `x ≤ y`; false when either is NaN. -/
def fle (x y : F32) : Bool := !(fisNaN x || fisNaN y) && !(flt y x)
/-- Minimum. -/
def fmin (x y : F32) : F32 := if flt y x then y else x
/-- Maximum. -/
def fmax (x y : F32) : F32 := if flt x y then y else x
/-- `x` held between `lo` and `hi`. -/
def fclamp (x lo hi : F32) : F32 := if flt x lo then lo else if flt hi x then hi else x
/-- Sign function: −1, 0 or 1. -/
def fsgn (x : F32) : F32 := if flt x fzero then fneg fone else if flt fzero x then fone else fzero

/-- The binary32 number nearest to an integer. -/
def fofInt (n : Int) : F32 := froundInt n 0 false
/-- The binary32 number nearest to the rational `n / d`. -/
def fq (n : Int) (d : Nat) : F32 := froundQuot (decide (n < 0)) n.natAbs d 0
/-- The largest integer not above a finite number (0 for NaN and infinities). -/
def ffloor (x : F32) : Int :=
  if ffinite x then
    (if 0 ≤ flsb x then fint x * 2 ^ (flsb x).toNat else fint x / 2 ^ (-(flsb x)).toNat)
  else 0
/-- The integer nearest to a finite number, ties to even. -/
def fnearest (x : F32) : Int :=
  if ffinite x then
    (if 0 ≤ flsb x then fint x * 2 ^ (flsb x).toNat
     else
       let d : Int := 2 ^ (-(flsb x)).toNat
       let q := fint x / d
       let r := fint x % d
       if 2 * r > d ∨ (2 * r = d ∧ q % 2 ≠ 0) then q + 1 else q)
  else 0
/-- π rounded to binary32. -/
def fpi : F32 := 0x40490FDB#32
/-- 2π rounded to binary32. -/
def ftwoPi : F32 := 0x40C90FDB#32
/-- An angle brought into (−π, π] by whole turns. -/
def fwrap (x : F32) : F32 :=
  let k := ffloor (fdiv (fadd x fpi) ftwoPi)
  fsub x (fmul (fofInt k) ftwoPi)
/-- Length of a two-vector. -/
def fhyp (x y : F32) : F32 := fsqrt (ffma x x (fmul y y))
/-- A subnormal stored as +0.0 (Table 12.1). -/
def fflush (x : F32) : F32 := if fisZero x && decide (x &&& 0x7FFFFFFF#32 ≠ 0) then fzero else x

end Sys2Proof
end

