-- ==== Sys2Proof/Machine/OdTable.lean ====
section
/-!
DEFINITION. Machine/OdTable.lean: the object dictionary of the module, entry by entry, as the tables of spec/ give it
(Tables 1.10, 2.7, 3.7, 4.5, 5.11, 6.8, 7.7, 8.10, 9.21, 10.8, 11.11, 12.13, 13.6, 14.8, 15.10, 16.8, 17.8, 18.7, 19.7):
the key of every entry under its own name, and the rows (type, access, default, range).
-/
namespace Sys2Proof

/-- The key of entry `index`.`sub` (R312): index and sub-index as one number. -/
abbrev OD.key (index sub : Nat) : Nat := index * 256 + sub

/-- The data types of Table 12.1. -/
inductive Ty where
  | bool | u8 | u16 | u32 | u64 | i16 | i32 | f32 | tai80 | oct | str
  deriving DecidableEq, Repr

/-- The access kinds of Table 12.2. -/
inductive Access where
  | RO | RW | RWC | RWS | WO
  deriving DecidableEq, Repr

/-- One stretch of the values an entry admits. -/
inductive Span where
  | int (lo hi : Int)
  | f32 (lo hi : BitVec 32)
  | len (lo hi : Nat)
  deriving DecidableEq, Repr

/-- A row of a dictionary table: `count` consecutive indexes from `index`, `subs` sub-indexes from `sub`. Defaults run over
the sub-indexes (or, with one sub-index, over the indexes); the last one repeats. An empty range admits the whole type. -/
structure OdRow where
  index : Nat
  count : Nat
  sub   : Nat
  subs  : Nat
  ty    : Ty
  acc   : Access
  dflts : List Val
  range : List Span
  deriving DecidableEq, Repr

/-- 256 binary32 infinities as octets, least significant byte first (the default of MASK_UPPER and MASK_LOWER). -/
def OD.f32Bytes256 (top : Byte) : List Byte := (List.replicate 256 [0, 0, 0x80, top]).flatten

namespace OD


/-! Keys of chapter 01. -/
abbrev SI_LANE_A : Nat := key 0xA040 0x01
abbrev SI_LANE_B : Nat := key 0xA040 0x02
abbrev SI_MIN_A : Nat := key 0xA040 0x03
abbrev SI_MIN_B : Nat := key 0xA040 0x04
abbrev GILL_OK_A : Nat := key 0xA040 0x05
abbrev GILL_OK_B : Nat := key 0xA040 0x06
abbrev GILL_A (j : Nat) : Nat := key 0xA042 (0x01 + j)
abbrev GILL_B (j : Nat) : Nat := key 0xA042 (0x07 + j)
abbrev FAB_CORR : Nat := key 0xA041 0x01
abbrev FAB_REPLAY : Nat := key 0xA041 0x02
abbrev FAB_POISON : Nat := key 0xA041 0x03
abbrev TILE_POISON_A : Nat := key 0xA041 0x04
abbrev TILE_POISON_B : Nat := key 0xA041 0x05
abbrev HOUSE_TRAP_A : Nat := key 0xA041 0x06
abbrev HOUSE_TRAP_B : Nat := key 0xA041 0x07

/-! Keys of chapter 02. -/
abbrev TB_REF_SEL : Nat := key 0x2000 0x01
abbrev REFCLK_FREQ : Nat := key 0x2000 0x02
abbrev TB_PD_FREQ : Nat := key 0x2000 0x03
abbrev REF_FALLBACK : Nat := key 0x2000 0x04
abbrev REF_LOSS_QUAL : Nat := key 0x2000 0x05
abbrev HOLDOVER_LIMIT : Nat := key 0x2000 0x06
abbrev TB_STATE : Nat := key 0x2001 0x01
abbrev REF_ACTIVE : Nat := key 0x2001 0x02
abbrev TB_TUNE : Nat := key 0x2001 0x03
abbrev ALIGN_COUNT : Nat := key 0x2001 0x04
abbrev RELOCK_COUNT : Nat := key 0x2001 0x05
abbrev HOLDOVER_TIME : Nat := key 0x2001 0x06
abbrev DIV_PENDING : Nat := key 0x2001 0x07
abbrev ALIGN_REF_OFFSET : Nat := key 0x2001 0x08
abbrev TCXO_VS_REF : Nat := key 0x2001 0x09
abbrev TB_TUNE_MAN : Nat := key 0x2002 0x01
abbrev SS_MODE : Nat := key 0x2003 0x01
abbrev SS_DEPTH : Nat := key 0x2003 0x02
abbrev SS_RATE : Nat := key 0x2003 0x03
abbrev SYS_LOCKED : Nat := key 0x2003 0x04
abbrev INTERLEAVE_N : Nat := key 0x2004 0x01
abbrev INTERLEAVE_IDX : Nat := key 0x2004 0x02
abbrev INTERLEAVE_TRIM : Nat := key 0x2004 0x03
abbrev INTERLEAVE_TOL : Nat := key 0x2004 0x04
abbrev CARRIER_PULL : Nat := key 0x2004 0x05
abbrev INTERLEAVE_ERR : Nat := key 0x2004 0x06
abbrev PULL_ACTIVE : Nat := key 0x2004 0x07
abbrev INTERLEAVE_DEGRADED : Nat := key 0x2004 0x08

/-! Keys of chapter 03. -/
abbrev ADC_RANGE (c : Nat) : Nat := key (0x2100 + c) 0x01
abbrev ADC_AAF (c : Nat) : Nat := key (0x2100 + c) 0x02
abbrev ADC_PERIOD (c : Nat) : Nat := key (0x2100 + c) 0x03
abbrev ADC_LOWPWR (c : Nat) : Nat := key (0x2100 + c) 0x04
abbrev ADC_PAIR (c : Nat) : Nat := key (0x2100 + c) 0x05
abbrev ADC_FRAME_WIN (c : Nat) : Nat := key (0x2100 + c) 0x06
abbrev ADC_SEQ_LEN (c : Nat) : Nat := key (0x2100 + c) 0x07
abbrev ADC_ENABLE (c : Nat) : Nat := key (0x2100 + c) 0x08
abbrev ADC_SKEW_CAL (c : Nat) : Nat := key (0x2100 + c) 0x09
abbrev ADC_GAIN_CAL (c : Nat) : Nat := key (0x2100 + c) 0x0A
abbrev ADC_OFFSET_CAL (c : Nat) : Nat := key (0x2100 + c) 0x0B
abbrev ADC_CORE_STATE (c : Nat) : Nat := key (0x2100 + c) 0x0C
abbrev SEQ_E (c j : Nat) : Nat := key (0x2120 + c) (1 + j)
abbrev ADC_CAL_STATE : Nat := key 0x2140 0x01
abbrev REF_DIVERGENCE : Nat := key 0x2140 0x02
abbrev REF_DIV_WARN : Nat := key 0x2140 0x03
abbrev REF_DIV_FAIL : Nat := key 0x2140 0x04
abbrev ADC_FAULT_MASK : Nat := key 0x2140 0x05
abbrev SEQ_STARVED : Nat := key 0x2140 0x06
abbrev SUBST_COUNT : Nat := key 0x2140 0x07
abbrev ICH_VALUE (j : Nat) : Nat := key 0x2150 (0x01 + j)
abbrev ADC_RESULT (c j : Nat) : Nat := key (0x2180 + c) (0x01 + j)

/-! Keys of chapter 04. -/
abbrev FP_SHAPE (n : Nat) : Nat := key (0x2200 + n) 0x01
abbrev CH_GAIN (n : Nat) : Nat := key (0x2200 + n) 0x02
abbrev CH_OFFSET (n : Nat) : Nat := key (0x2200 + n) 0x03
abbrev CIC_ORDER (n : Nat) : Nat := key (0x2200 + n) 0x04
abbrev CIC_DEC (n : Nat) : Nat := key (0x2200 + n) 0x05
abbrev FIR_SET (n : Nat) : Nat := key (0x2200 + n) 0x06
abbrev FIR_DEC (n : Nat) : Nat := key (0x2200 + n) 0x07
abbrev RS_MODE (n : Nat) : Nat := key (0x2200 + n) 0x08
abbrev RS_RATIO (n : Nat) : Nat := key (0x2200 + n) 0x09
abbrev RS_K (n : Nat) : Nat := key (0x2200 + n) 0x0A
abbrev RS_ANGLE_SRC (n : Nat) : Nat := key (0x2200 + n) 0x0B
abbrev CH_STATUS (n : Nat) : Nat := key (0x2200 + n) 0x0C
abbrev SETTLE_LEFT (n : Nat) : Nat := key (0x2200 + n) 0x0D
abbrev RS_RATIO_NOW (n : Nat) : Nat := key (0x2200 + n) 0x0E
abbrev GROUP_DELAY (n : Nat) : Nat := key (0x2200 + n) 0x0F
abbrev CIC_WIDTH (n : Nat) : Nat := key (0x2200 + n) 0x10
abbrev FIR_COEF (s j : Nat) : Nat := key (0x2240 + s) (0x01 + j)
abbrev FIR_DELAY (s : Nat) : Nat := key (0x2240 + s) 0x21
abbrev UNSETTLED_MASK : Nat := key 0x2260 0x01
abbrev GRIDSYNC_MASK : Nat := key 0x2260 0x02
abbrev FP_MISSED : Nat := key 0x2260 0x03

/-! Keys of chapter 05. -/
abbrev FRAME_PERIOD : Nat := key 0x2800 0x01
abbrev REF_CARRIER : Nat := key 0x2800 0x02
abbrev FRAME_NUMBER : Nat := key 0x2800 0x03
abbrev FRAME_STATE : Nat := key 0x2800 0x04
abbrev FRAMES_PER_HALF : Nat := key 0x2800 0x05
abbrev ADMIT_LIMIT : Nat := key 0x2810 0x01
abbrev ADMIT_COST : Nat := key 0x2810 0x02
abbrev ADMIT_COST_FULL : Nat := key 0x2810 0x03
abbrev LAST_REFUSAL : Nat := key 0x2810 0x04
abbrev LAST_REFUSAL_QTY : Nat := key 0x2810 0x05
abbrev LAST_REFUSAL_LOC : Nat := key 0x2810 0x06
abbrev REFUSAL_MASK : Nat := key 0x2810 0x07
abbrev STAGE_LENGTH (j : Nat) : Nat := key 0x2811 (0x01 + j)
abbrev TILE_COMMIT_WORK (j : Nat) : Nat := key 0x2811 (0x07 + j)
abbrev RUNAHEAD_EN : Nat := key 0x2820 0x01
abbrev COLD_LEFT : Nat := key 0x2820 0x02
abbrev EPS_CLASS (j : Nat) : Nat := key 0x2821 (0x01 + j)
abbrev PRED_CLASS (n : Nat) : Nat := key (0x2822 + n / 16) (n % 16 + 1)
abbrev ERR_CLASS (n : Nat) : Nat := key (0x2824 + n / 16) (n % 16 + 1)
abbrev DELTA_COMMITS : Nat := key 0x2830 0x01
abbrev FULL_COMMITS : Nat := key 0x2830 0x02
abbrev SQUASHES : Nat := key 0x2830 0x03
abbrev LAST_SQUASH_CAUSE : Nat := key 0x2830 0x04
abbrev COLD_ENTRIES : Nat := key 0x2830 0x05
abbrev SLIPS_A : Nat := key 0x2830 0x06
abbrev SLIPS_B : Nat := key 0x2830 0x07
abbrev INVALID_FRAMES : Nat := key 0x2830 0x08
abbrev SPEED_MARGIN : Nat := key 0x2840 0x01
abbrev SHED_LEVEL : Nat := key 0x2840 0x02
abbrev SHED_EVENTS : Nat := key 0x2840 0x03
abbrev SLIP_STOP : Nat := key 0x2850 0x01

/-! Keys of chapter 06. -/
abbrev S_BASE : Nat := key 0x3000 0x01
abbrev V_BASE : Nat := key 0x3000 0x02
abbrev F_NOM : Nat := key 0x3000 0x03
abbrev V_DC_BASE : Nat := key 0x3000 0x04
abbrev TOPOLOGY : Nat := key 0x3000 0x05
abbrev N_STACKS : Nat := key 0x3000 0x06
abbrev DELAY_COMP : Nat := key 0x3000 0x07
abbrev LAW_CMD : Nat := key 0x3001 0x01
abbrev LAW_STATE : Nat := key 0x3001 0x02
abbrev LAW_CONFIG_STATUS : Nat := key 0x3001 0x03
abbrev STOP_TIME : Nat := key 0x3001 0x04
abbrev FAULT_CAUSE : Nat := key 0x3001 0x05
abbrev CH_ROLE (j : Nat) : Nat := key 0x3010 (0x01 + j)
abbrev LAW_H : Nat := key 0x3020 0x01
abbrev LAW_D : Nat := key 0x3020 0x02
abbrev M_P : Nat := key 0x3020 0x03
abbrev P_FILT_TC : Nat := key 0x3020 0x04
abbrev OMEGA_MIN : Nat := key 0x3020 0x05
abbrev OMEGA_MAX : Nat := key 0x3020 0x06
abbrev OMEGA : Nat := key 0x3020 0x07
abbrev THETA : Nat := key 0x3020 0x08
abbrev P_E : Nat := key 0x3020 0x09
abbrev Q_E : Nat := key 0x3020 0x0A
abbrev OMEGA_BUS : Nat := key 0x3020 0x0B
abbrev ROCOF : Nat := key 0x3020 0x0C
abbrev P_ORDER : Nat := key 0x3020 0x0D
abbrev LIMIT_FLAGS : Nat := key 0x3020 0x0E
abbrev FR_ENABLE : Nat := key 0x3030 0x01
abbrev FR_TC : Nat := key 0x3030 0x02
abbrev FR_LIMIT : Nat := key 0x3030 0x03
abbrev FR_DP : Nat := key 0x3030 0x04
abbrev N_Q : Nat := key 0x3040 0x01
abbrev TAU_V : Nat := key 0x3040 0x02
abbrev D_Q : Nat := key 0x3040 0x03
abbrev E_MIN : Nat := key 0x3040 0x04
abbrev E_MAX : Nat := key 0x3040 0x05
abbrev E_NOW : Nat := key 0x3040 0x06
abbrev V_MAG : Nat := key 0x3040 0x07
abbrev R_V : Nat := key 0x3050 0x01
abbrev X_V : Nat := key 0x3050 0x02
abbrev K_PV : Nat := key 0x3060 0x01
abbrev K_RV : Nat := key 0x3060 0x02
abbrev WC_V : Nat := key 0x3060 0x03
abbrev K_FFI : Nat := key 0x3060 0x04
abbrev HARM_ACTIVE : Nat := key 0x3060 0x05
abbrev HARM_ORDER (i : Nat) : Nat := key (0x3061 + i) 0x01
abbrev HARM_KR (i : Nat) : Nat := key (0x3061 + i) 0x02
abbrev HARM_WC (i : Nat) : Nat := key (0x3061 + i) 0x03
abbrev K_PC : Nat := key 0x3070 0x01
abbrev K_AD : Nat := key 0x3070 0x02
abbrev C_F : Nat := key 0x3070 0x03
abbrev K_FFV : Nat := key 0x3070 0x04
abbrev ZERO_SEQ_EN : Nat := key 0x3070 0x05
abbrev DC_MODE : Nat := key 0x3080 0x01
abbrev K_PW : Nat := key 0x3080 0x02
abbrev K_IW : Nat := key 0x3080 0x03
abbrev FF_PORT : Nat := key 0x3080 0x04
abbrev FF_TX_OBJECT : Nat := key 0x3080 0x05
abbrev P_FF : Nat := key 0x3080 0x06
abbrev W_DC : Nat := key 0x3080 0x07
abbrev CH_LD : Nat := key 0x3090 0x01
abbrev V_CH_ON : Nat := key 0x3090 0x02
abbrev V_CH_FULL : Nat := key 0x3090 0x03
abbrev V_CH_OFF : Nat := key 0x3090 0x04
abbrev CH_FREQ : Nat := key 0x3090 0x05
abbrev CH_R : Nat := key 0x3090 0x06
abbrev CH_E_MAX : Nat := key 0x3090 0x07
abbrev CH_P_COOL : Nat := key 0x3090 0x08
abbrev CH_ENERGY : Nat := key 0x3090 0x09
abbrev CH_DUTY : Nat := key 0x3090 0x0A
abbrev N_SM : Nat := key 0x30A0 0x01
abbrev V_C_NOM : Nat := key 0x30A0 0x02
abbrev K_H : Nat := key 0x30A0 0x03
abbrev K_V : Nat := key 0x30A0 0x04
abbrev K_PZ : Nat := key 0x30A0 0x05
abbrev K_IZ : Nat := key 0x30A0 0x06
abbrev K_Z2 : Nat := key 0x30A0 0x07
abbrev ARM_CLAMP : Nat := key 0x30A0 0x09
abbrev ARM_ENERGY (j : Nat) : Nat := key 0x30A1 (0x01 + j)
abbrev K_PS : Nat := key 0x30B0 0x01
abbrev K_IS : Nat := key 0x30B0 0x02
abbrev SHARE_LIMIT : Nat := key 0x30B0 0x03
abbrev SHARE_DEV : Nat := key 0x30B0 0x04
abbrev P_SET : Nat := key 0x3100 0x01
abbrev Q_SET : Nat := key 0x3100 0x02
abbrev V_SET : Nat := key 0x3100 0x03
abbrev F_SET : Nat := key 0x3100 0x04
abbrev W_DC_SET : Nat := key 0x3100 0x05
abbrev P_MAX : Nat := key 0x3100 0x06
abbrev P_MIN : Nat := key 0x3100 0x07
abbrev Q_MAX : Nat := key 0x3100 0x08
abbrev Q_MIN : Nat := key 0x3100 0x09
abbrev W_ARM_SET : Nat := key 0x3100 0x0A
abbrev RISE (k : Nat) : Nat := key 0x3110 (2 * k + 1)
abbrev FALL (k : Nat) : Nat := key 0x3110 (2 * k + 2)
abbrev RAMP_STATE (j : Nat) : Nat := key 0x3111 (0x01 + j)
abbrev RAMP_ARRIVED : Nat := key 0x3111 0x0D
abbrev GT_ENABLE (t : Nat) : Nat := key (0x3180 + t) 0x01
abbrev GT_EREF (t : Nat) : Nat := key (0x3180 + t) 0x02
abbrev GT_X (t j : Nat) : Nat := key (0x3180 + t) (0x03 + j)
abbrev GT_G (t j : Nat) : Nat := key (0x3180 + t) (0x23 + j)
abbrev GT_STATUS (t : Nat) : Nat := key (0x3180 + t) 0x43
abbrev GT_SEG (t : Nat) : Nat := key (0x3180 + t) 0x44
abbrev GT_GAIN (t : Nat) : Nat := key (0x3180 + t) 0x45
abbrev BS_ENABLE : Nat := key 0x3200 0x01
abbrev BS_TOPO : Nat := key 0x3200 0x02
abbrev BS_DELAY_MAX : Nat := key 0x3200 0x03
abbrev T_BS : Nat := key 0x3200 0x04
abbrev I_BS_MAX : Nat := key 0x3200 0x05
abbrev BS_HOLD_MAX : Nat := key 0x3200 0x06
abbrev SYNC_THETA_WIN : Nat := key 0x3200 0x07
abbrev SYNC_V_WIN : Nat := key 0x3200 0x08
abbrev SYNC_F_WIN : Nat := key 0x3200 0x09
abbrev T_SYNC : Nat := key 0x3200 0x0A
abbrev SYNC_SLIP_MAX : Nat := key 0x3200 0x0B
abbrev CLOSE_WAIT_MAX : Nat := key 0x3200 0x0C
abbrev SYNC_RAMP : Nat := key 0x3200 0x0D
abbrev BRK_CLOSED : Nat := key 0x3200 0x0E
abbrev BUS_STATE : Nat := key 0x3200 0x0F
abbrev BS_DELAY_LAST : Nat := key 0x3200 0x10
abbrev SYNC_OK : Nat := key 0x3200 0x11
abbrev DEAD_CLOSE_OK : Nat := key 0x3200 0x12
abbrev BS_SEED : Nat := key 0x3200 0x13

/-! Keys of chapter 07. -/
abbrev LIM_H_F : Nat := key 0x3400 0x01
abbrev LIM_PRIORITY : Nat := key 0x3400 0x02
abbrev LIM_FIX_ANGLE : Nat := key 0x3400 0x03
abbrev I_SLEW : Nat := key 0x3400 0x04
abbrev I_CONT : Nat := key 0x3400 0x05
abbrev OL_COOL : Nat := key 0x3400 0x06
abbrev ZF_ENABLE : Nat := key 0x3400 0x07
abbrev ZF_XR : Nat := key 0x3400 0x08
abbrev ZF_TC : Nat := key 0x3400 0x09
abbrev AW_GAIN : Nat := key 0x3400 0x0A
abbrev LIM_EXIT_FRAMES : Nat := key 0x3400 0x0B
abbrev ENV_T (j : Nat) : Nat := key 0x3401 (0x01 + j)
abbrev ENV_I (j : Nat) : Nat := key 0x3401 (0x09 + j)
abbrev ENV_STATUS : Nat := key 0x3401 0x11
abbrev LIM_ACTIVE : Nat := key 0x3410 0x01
abbrev LIM_L0 : Nat := key 0x3410 0x02
abbrev OL_TIME : Nat := key 0x3410 0x03
abbrev ZF_MAG : Nat := key 0x3410 0x04
abbrev H_F_NOW : Nat := key 0x3410 0x05
abbrev LIM_ENTRIES : Nat := key 0x3410 0x06
abbrev LIM_CLIP : Nat := key 0x3410 0x07
abbrev I_LIM_MAG : Nat := key 0x3410 0x08
abbrev ANG_RATE_MAX : Nat := key 0x3420 0x01
abbrev DELTA_MAX : Nat := key 0x3420 0x02
abbrev HOLD_RELEASE : Nat := key 0x3420 0x03
abbrev DELTA_NOW : Nat := key 0x3420 0x04
abbrev HOLD_STATE : Nat := key 0x3420 0x05
abbrev JUMP_DET : Nat := key 0x3420 0x06
abbrev NEG_MODE : Nat := key 0x3430 0x01
abbrev K_NEG : Nat := key 0x3430 0x02
abbrev NEG_SHARE : Nat := key 0x3430 0x03
abbrev I_NEG_NOW : Nat := key 0x3430 0x04
abbrev UV_ENTRY : Nat := key 0x3500 0x01
abbrev UV_T (j : Nat) : Nat := key 0x3500 (0x02 + j)
abbrev UV_V (j : Nat) : Nat := key 0x3500 (0x0A + j)
abbrev UV_STATUS : Nat := key 0x3500 0x12
abbrev OV_ENTRY : Nat := key 0x3501 0x01
abbrev OV_T (j : Nat) : Nat := key 0x3501 (0x02 + j)
abbrev OV_V (j : Nat) : Nat := key 0x3501 (0x0A + j)
abbrev OV_STATUS : Nat := key 0x3501 0x12
abbrev RT_RESET : Nat := key 0x3502 0x01
abbrev RT_STATE : Nat := key 0x3502 0x02
abbrev RT_TIME_UV : Nat := key 0x3502 0x03
abbrev RT_TIME_OV : Nat := key 0x3502 0x04
abbrev I_TRIP : Nat := key 0x3510 0x01
abbrev I_ARM_TRIP : Nat := key 0x3510 0x02
abbrev VDC_OV : Nat := key 0x3510 0x03
abbrev VDC_UV : Nat := key 0x3510 0x04
abbrev VDC_UV_TIME : Nat := key 0x3510 0x05
abbrev F_TRIP_LO : Nat := key 0x3510 0x06
abbrev F_TRIP_HI : Nat := key 0x3510 0x07
abbrev F_TRIP_TIME : Nat := key 0x3510 0x08
abbrev ROCOF_TRIP : Nat := key 0x3510 0x09
abbrev ROCOF_TIME : Nat := key 0x3510 0x0A
abbrev PROT_STOP : Nat := key 0x3510 0x0B
abbrev FRESH_MAX (c : Nat) : Nat := key (0x3600 + c) 0x01
abbrev STUCK_FRAMES (c : Nat) : Nat := key (0x3600 + c) 0x02
abbrev VAR_FLOOR (c : Nat) : Nat := key (0x3600 + c) 0x03
abbrev MOVE_FLOOR (c : Nat) : Nat := key (0x3600 + c) 0x04
abbrev RANGE_MAX (c : Nat) : Nat := key (0x3600 + c) 0x05
abbrev RANGE_FRAMES (c : Nat) : Nat := key (0x3600 + c) 0x06
abbrev OBS_ENABLE : Nat := key 0x3610 0x01
abbrev T_BRIDGE : Nat := key 0x3610 0x02
abbrev OBS_TC : Nat := key 0x3610 0x03
abbrev R_F : Nat := key 0x3610 0x04
abbrev X_F : Nat := key 0x3610 0x05
abbrev DEG_STOP_TIME : Nat := key 0x3610 0x06
abbrev OBS_STATE : Nat := key 0x3610 0x07
abbrev BRIDGE_LEFT : Nat := key 0x3610 0x08
abbrev OBS_RESID : Nat := key 0x3610 0x09
abbrev FB_LOST_MASK : Nat := key 0x3620 0x01
abbrev FB_BRIDGED_MASK : Nat := key 0x3620 0x02
abbrev FB_LAST_CAUSE : Nat := key 0x3620 0x03
abbrev FB_LOSS_COUNT : Nat := key 0x3620 0x04

/-! Keys of chapter 08. -/
abbrev MIN_PULSE : Nat := key 0x4000 0x01
abbrev CMD_TIMEOUT : Nat := key 0x4000 0x02
abbrev OUT_STATE : Nat := key 0x4000 0x03
abbrev PWM_CONFIG_STATUS : Nat := key 0x4000 0x04
abbrev PULSE_STRETCH : Nat := key 0x4000 0x05
abbrev LOAD_ALL_COUNT : Nat := key 0x4000 0x06
abbrev LOAD_LATE : Nat := key 0x4000 0x07
abbrev ZS_INJECT : Nat := key 0x4000 0x08
abbrev OVERMOD : Nat := key 0x4000 0x09
abbrev CAR_PERIOD (c : Nat) : Nat := key (0x4001 + c) 0x01
abbrev CAR_OFFSET (c : Nat) : Nat := key (0x4001 + c) 0x02
abbrev CAR_EN (c : Nat) : Nat := key (0x4001 + c) 0x03
abbrev CAR_LATE (c : Nat) : Nat := key (0x4001 + c) 0x04
abbrev CAR_PHASE_ERR (c : Nat) : Nat := key (0x4001 + c) 0x05
abbrev PAIR_USE (p : Nat) : Nat := key (0x4010 + p) 0x01
abbrev PAIR_CARRIER (p : Nat) : Nat := key (0x4010 + p) 0x02
abbrev PAIR_STACK (p : Nat) : Nat := key (0x4010 + p) 0x03
abbrev PAIR_PHASE (p : Nat) : Nat := key (0x4010 + p) 0x04
abbrev PAIR_POS (p : Nat) : Nat := key (0x4010 + p) 0x05
abbrev DEAD_TIME (p : Nat) : Nat := key (0x4010 + p) 0x06
abbrev PAIR_POLARITY (p : Nat) : Nat := key (0x4010 + p) 0x07
abbrev PAIR_ENDPOINT (p : Nat) : Nat := key (0x4010 + p) 0x08
abbrev CMP_ACTIVE (p : Nat) : Nat := key (0x4010 + p) 0x09
abbrev PWMD_SRC (d : Nat) : Nat := key (0x40F0 + d) 0x01
abbrev PWMD_CH (d : Nat) : Nat := key (0x40F0 + d) 0x02
abbrev BENCH_PERIOD (d : Nat) : Nat := key (0x40F0 + d) 0x03
abbrev BENCH_DUTY (d : Nat) : Nat := key (0x40F0 + d) 0x04
abbrev T_OI : Nat := key 0x4100 0x01
abbrev CLAMP_TIME : Nat := key 0x4100 0x02
abbrev NPC_ORDER_FIX : Nat := key 0x4100 0x03
abbrev K_NP : Nat := key 0x4100 0x04
abbrev NP_LIMIT : Nat := key 0x4100 0x05
abbrev NP_DEV : Nat := key 0x4100 0x06
abbrev INS_DELAY : Nat := key 0x4200 0x01
abbrev SWAP_BAND : Nat := key 0x4200 0x02
abbrev SWAP_MAX : Nat := key 0x4200 0x03
abbrev I_DIR_BAND : Nat := key 0x4200 0x04
abbrev INS_STEP_MAX : Nat := key 0x4200 0x05
abbrev N_AVAIL_MIN : Nat := key 0x4200 0x06
abbrev SM_STALE_MAX : Nat := key 0x4200 0x07
abbrev INS_LATE : Nat := key 0x4200 0x08
abbrev N_INS (k : Nat) : Nat := key (0x4210 + k) 0x01
abbrev N_AVAIL (k : Nat) : Nat := key (0x4210 + k) 0x02
abbrev SORT_DIR (k : Nat) : Nat := key (0x4210 + k) 0x03
abbrev LEVEL_RESID (k : Nat) : Nat := key (0x4210 + k) 0x04
abbrev SM_SWITCHES (k : Nat) : Nat := key (0x4210 + k) 0x05
abbrev SM_SWAPS (k : Nat) : Nat := key (0x4210 + k) 0x06
abbrev SM_EXCLUDE (k j : Nat) : Nat := key (0x4220 + k) (0x01 + j)
abbrev SM_BYPASSED (k j : Nat) : Nat := key (0x4230 + k) (0x01 + j)
abbrev TRIP_EN (i : Nat) : Nat := key (0x5100 + i) 0x01
abbrev TRIP_POL (i : Nat) : Nat := key (0x5100 + i) 0x02
abbrev TRIP_FILT (i : Nat) : Nat := key (0x5100 + i) 0x03
abbrev TRIP_BLANK (i : Nat) : Nat := key (0x5100 + i) 0x04
abbrev TRIP_BLANK_MASK (i : Nat) : Nat := key (0x5100 + i) 0x05
abbrev TRIP_ACTION (i : Nat) : Nat := key (0x5100 + i) 0x06
abbrev TRIP_LEVEL (i : Nat) : Nat := key (0x5100 + i) 0x07
abbrev TRIP_LATCH : Nat := key 0x5110 0x01
abbrev TRIP_CLEAR : Nat := key 0x5110 0x02
abbrev TRIP_FIRST : Nat := key 0x5110 0x03
abbrev TRIP_TIME : Nat := key 0x5110 0x04
abbrev TRIP_COUNT : Nat := key 0x5110 0x05
abbrev BLANK_IGNORED : Nat := key 0x5110 0x06

/-! Keys of chapter 09. -/
abbrev LANE_EN (l : Nat) : Nat := key (0x4400 + l) 0x01
abbrev LANE_RATE (l : Nat) : Nat := key (0x4400 + l) 0x02
abbrev FOM_TARGET (l : Nat) : Nat := key (0x4400 + l) 0x03
abbrev FOM_MIN (l : Nat) : Nat := key (0x4400 + l) 0x04
abbrev ASYM_TRIM (l : Nat) : Nat := key (0x4400 + l) 0x05
abbrev PSTATE_REQ (l : Nat) : Nat := key (0x4400 + l) 0x06
abbrev LANE_STATE (l : Nat) : Nat := key (0x4400 + l) 0x07
abbrev FOM_RX (l : Nat) : Nat := key (0x4400 + l) 0x08
abbrev TAPS_TX (l : Nat) : Nat := key (0x4400 + l) 0x09
abbrev TAPS_PEER (l : Nat) : Nat := key (0x4400 + l) 0x0A
abbrev ONEWAY (l : Nat) : Nat := key (0x4400 + l) 0x0B
abbrev PAR_CORR (l : Nat) : Nat := key (0x4400 + l) 0x0C
abbrev PAR_UNCORR (l : Nat) : Nat := key (0x4400 + l) 0x0D
abbrev UL_MISSED (l : Nat) : Nat := key (0x4400 + l) 0x0E
abbrev RETRAINS (l : Nat) : Nat := key (0x4400 + l) 0x0F
abbrev LOAD_DL (l : Nat) : Nat := key (0x4400 + l) 0x10
abbrev LOAD_UL (l : Nat) : Nat := key (0x4400 + l) 0x11
abbrev LOAD_LIMIT (l : Nat) : Nat := key (0x4400 + l) 0x12
abbrev REMOTE_LEAD : Nat := key 0x4440 0x01
abbrev CFG_PER_FRAME : Nat := key 0x4440 0x02
abbrev RETRAIN_UNCORR : Nat := key 0x4440 0x03
abbrev CFG_GEN : Nat := key 0x4440 0x04
abbrev EP_READY_MASK : Nat := key 0x4440 0x05
abbrev REMOTE_LATE : Nat := key 0x4440 0x06
abbrev LINK_CONFIG_STATUS : Nat := key 0x4440 0x07
abbrev EP_LANE (e : Nat) : Nat := key (0x4800 + e) 0x01
abbrev EP_KIND (e : Nat) : Nat := key (0x4800 + e) 0x02
abbrev EP_ARMS (e : Nat) : Nat := key (0x4800 + e) 0x03
abbrev EP_STACKS (e : Nat) : Nat := key (0x4800 + e) 0x04
abbrev EP_SERIAL_EXP (e : Nat) : Nat := key (0x4800 + e) 0x05
abbrev BRIDGE_N (e : Nat) : Nat := key (0x4800 + e) 0x06
abbrev EP_SAFE (e : Nat) : Nat := key (0x4800 + e) 0x07
abbrev UL_START (e : Nat) : Nat := key (0x4800 + e) 0x08
abbrev FAULT_RESERVE (e : Nat) : Nat := key (0x4800 + e) 0x09
abbrev EP_STATE (e : Nat) : Nat := key (0x4800 + e) 0x0A
abbrev EP_SERIAL (e : Nat) : Nat := key (0x4800 + e) 0x0B
abbrev EP_CFG_GEN (e : Nat) : Nat := key (0x4800 + e) 0x0C
abbrev EP_MISSED (e : Nat) : Nat := key (0x4800 + e) 0x0D
abbrev EP_LATE (e : Nat) : Nat := key (0x4800 + e) 0x0E
abbrev EP_FAULTS (e : Nat) : Nat := key (0x4800 + e) 0x0F
abbrev EP_OBEYED (e : Nat) : Nat := key (0x4800 + e) 0x10
abbrev U_ARRIVAL (e : Nat) : Nat := key (0x4800 + e) 0x11

/-! Keys of chapter 10. -/
abbrev LD_FUNC (x : Nat) : Nat := key (0x5000 + x) 0x01
abbrev LD_SUPPLY (x : Nat) : Nat := key (0x5000 + x) 0x02
abbrev UVLO_POS (x : Nat) : Nat := key (0x5000 + x) 0x03
abbrev UVLO_NEG (x : Nat) : Nat := key (0x5000 + x) 0x04
abbrev DESAT_TH (x : Nat) : Nat := key (0x5000 + x) 0x05
abbrev DESAT_BLANK (x : Nat) : Nat := key (0x5000 + x) 0x06
abbrev DESAT_EN (x : Nat) : Nat := key (0x5000 + x) 0x07
abbrev SOFT_OFF (x : Nat) : Nat := key (0x5000 + x) 0x08
abbrev RETRY_WAIT (x : Nat) : Nat := key (0x5000 + x) 0x09
abbrev RETRY_MAX (x : Nat) : Nat := key (0x5000 + x) 0x0A
abbrev LD_CMD (x : Nat) : Nat := key (0x5000 + x) 0x0B
abbrev LD_FREQ (x : Nat) : Nat := key (0x5000 + x) 0x0C
abbrev LD_DUTY (x : Nat) : Nat := key (0x5000 + x) 0x0D
abbrev BOOT_REFRESH (x : Nat) : Nat := key (0x5000 + x) 0x0E
abbrev BOOT_INTERVAL (x : Nat) : Nat := key (0x5000 + x) 0x0F
abbrev BOOT_REFRESH_EN (x : Nat) : Nat := key (0x5000 + x) 0x10
abbrev LD_ON_TRIP (x : Nat) : Nat := key (0x5000 + x) 0x11
abbrev PRECH_TIME_MAX (x : Nat) : Nat := key (0x5000 + x) 0x12
abbrev LD_STATE (x : Nat) : Nat := key (0x5000 + x) 0x13
abbrev LD_FAULT (x : Nat) : Nat := key (0x5000 + x) 0x14
abbrev RETRY_LEFT (x : Nat) : Nat := key (0x5000 + x) 0x15
abbrev FAULT_COUNT (x : Nat) : Nat := key (0x5000 + x) 0x16
abbrev VPOS_MEAS (x : Nat) : Nat := key (0x5000 + x) 0x17
abbrev VNEG_MEAS (x : Nat) : Nat := key (0x5000 + x) 0x18
abbrev LD_DUTY_NOW (x : Nat) : Nat := key (0x5000 + x) 0x19
abbrev LD_REFRESHES (x : Nat) : Nat := key (0x5000 + x) 0x1A
abbrev LD_DROPPED (x : Nat) : Nat := key (0x5000 + x) 0x1B
abbrev LD_CLEAR : Nat := key 0x5010 0x01
abbrev LD_COMMON_COUNT : Nat := key 0x5010 0x02
abbrev LD_LATCH_MASK : Nat := key 0x5010 0x03
abbrev LD_CONFIG_STATUS : Nat := key 0x5010 0x04

/-! Keys of chapter 11. -/
abbrev CLAIM_A : Nat := key 0x6000 0x01
abbrev CLAIM_B : Nat := key 0x6000 0x02
abbrev MODULE_CLAIM : Nat := key 0x6000 0x03
abbrev SERVING_LANE : Nat := key 0x6000 0x04
abbrev LANE_STATE_A : Nat := key 0x6000 0x06
abbrev LANE_STATE_B : Nat := key 0x6000 0x07
abbrev LANE_CMD : Nat := key 0x6001 0x01
abbrev ROTATE_INTERVAL : Nat := key 0x6001 0x02
abbrev UNDIAG_MAX : Nat := key 0x6001 0x03
abbrev EFT_ENABLE : Nat := key 0x6002 0x01
abbrev EFT_TOL : Nat := key 0x6002 0x02
abbrev EFT_DISAGREE_MAX : Nat := key 0x6002 0x03
abbrev EFT_STATE : Nat := key 0x6002 0x04
abbrev CMP_EQUAL : Nat := key 0x6010 0x01
abbrev CMP_MISMATCH : Nat := key 0x6010 0x02
abbrev DIVERGE_SELF : Nat := key 0x6010 0x03
abbrev DIVERGE_EFT : Nat := key 0x6010 0x04
abbrev DIVERGE_UNDIAG : Nat := key 0x6010 0x05
abbrev LAST_DIVERGE_FRAME : Nat := key 0x6010 0x06
abbrev DEMOTIONS_A : Nat := key 0x6010 0x07
abbrev DEMOTIONS_B : Nat := key 0x6010 0x08
abbrev STEP_COUNT : Nat := key 0x6010 0x09
abbrev MIRROR_LAG : Nat := key 0x6011 0x01
abbrev MIRROR_OVERFLOWS : Nat := key 0x6011 0x02
abbrev HEALTH_A : Nat := key 0x6020 0x01
abbrev HEALTH_B : Nat := key 0x6020 0x02
abbrev HEALTH_FLAGS : Nat := key 0x6020 0x03
abbrev KA_CYCLES : Nat := key 0x6020 0x04
abbrev KA_FAILS : Nat := key 0x6020 0x05
abbrev PAIR_MODE : Nat := key 0x6100 0x01
abbrev LEASE_LEN : Nat := key 0x6100 0x02
abbrev PAIR_TIEBREAK : Nat := key 0x6100 0x03
abbrev PAIR_AUTO_START : Nat := key 0x6100 0x04
abbrev HANDOVER_MARGIN : Nat := key 0x6100 0x05
abbrev PLAUS_TOL : Nat := key 0x6100 0x06
abbrev SWITCH_FADE : Nat := key 0x6100 0x07
abbrev MIRROR_BUDGET : Nat := key 0x6100 0x08
abbrev PARTNER_SERIAL_EXP : Nat := key 0x6100 0x09
abbrev SKEW_TOL : Nat := key 0x6100 0x0A
abbrev SKEW_MIN_TIME : Nat := key 0x6100 0x0B
abbrev PAIR_CMD : Nat := key 0x6101 0x01
abbrev UPDATE_STAGE : Nat := key 0x6101 0x02
abbrev PAIR_STATE : Nat := key 0x6110 0x01
abbrev PARTNER_STATE : Nat := key 0x6110 0x02
abbrev PARTNER_CLAIM : Nat := key 0x6110 0x03
abbrev PARTNER_SERIAL : Nat := key 0x6110 0x04
abbrev LEASE_EPOCH_NOW : Nat := key 0x6110 0x05
abbrev COPY_LEFT : Nat := key 0x6110 0x06
abbrev PARTNER_TIME_OFS : Nat := key 0x6110 0x07
abbrev XL_LOAD : Nat := key 0x6110 0x08
abbrev FRAME_STATE_CW : Nat := key 0x6110 0x09
abbrev TAKEOVERS : Nat := key 0x6120 0x01
abbrev HANDOVERS : Nat := key 0x6120 0x02
abbrev CROSSLINK_LOSSES : Nat := key 0x6120 0x03
abbrev PAIR_DIVERGENCES : Nat := key 0x6120 0x04
abbrev COPY_ABORTS : Nat := key 0x6120 0x05
abbrev OWN_BLOCK_FRAMES : Nat := key 0x6120 0x06

/-! Keys of chapter 12. -/
abbrev VENDOR : Nat := key 0x1000 0x01
abbrev PRODUCT : Nat := key 0x1000 0x02
abbrev VARIANT : Nat := key 0x1000 0x03
abbrev SILICON_REV : Nat := key 0x1000 0x04
abbrev SERIAL : Nat := key 0x1000 0x05
abbrev HW_REV : Nat := key 0x1000 0x06
abbrev FW_VERSION : Nat := key 0x1000 0x07
abbrev FW_SLOT : Nat := key 0x1000 0x08
abbrev DICT_VERSION : Nat := key 0x1000 0x09
abbrev UPTIME : Nat := key 0x1000 0x0A
abbrev DICT_UDP_PORT : Nat := key 0x1010 0x01
abbrev SESSION_TIMEOUT : Nat := key 0x1010 0x02
abbrev DELAY_NOTICE : Nat := key 0x1010 0x03
abbrev QUEUE_MAX_WAIT : Nat := key 0x1010 0x04
abbrev SEG_TIMEOUT : Nat := key 0x1010 0x05
abbrev USDO_WAIT : Nat := key 0x1010 0x06
abbrev COMMIT : Nat := key 0x1F00 0x01
abbrev DISCARD : Nat := key 0x1F00 0x02
abbrev STAGED_COUNT : Nat := key 0x1F00 0x03
abbrev CONFIG_GEN : Nat := key 0x1F00 0x04
abbrev COMMIT_STATE : Nat := key 0x1F00 0x05
abbrev LAST_COMMIT_SESSION : Nat := key 0x1F00 0x06
abbrev LAST_COMMIT_FRAME : Nat := key 0x1F00 0x07
abbrev LAST_COMMIT_TIME : Nat := key 0x1F00 0x08
abbrev LAST_COMMIT_RESULT : Nat := key 0x1F00 0x09
abbrev STALE_COUNT : Nat := key 0x1F00 0x0A
abbrev ROLE_CEILING (k : Nat) : Nat := key (0x9300 + k) 0x01
abbrev OWNER_ELIGIBLE (k : Nat) : Nat := key (0x9300 + k) 0x02
abbrev PORT_SERVED (k : Nat) : Nat := key (0x9300 + k) 0x03
abbrev PORT_USED (k : Nat) : Nat := key (0x9300 + k) 0x04
abbrev OWN_REQ : Nat := key 0x9310 0x01
abbrev OWNER_SESSION : Nat := key 0x9310 0x02
abbrev OWN_LEASE : Nat := key 0x9310 0x03
abbrev OWN_LEASE_LEFT : Nat := key 0x9310 0x04
abbrev OWNER_LOSS_ACTION : Nat := key 0x9310 0x05
abbrev OWNER_SINCE : Nat := key 0x9310 0x06
abbrev OWN_CHANGES : Nat := key 0x9310 0x07
abbrev SESSION_STATE (s : Nat) : Nat := key (0x9320 + s) 0x01
abbrev SESSION_ROLE (s : Nat) : Nat := key (0x9320 + s) 0x02
abbrev PEER (s : Nat) : Nat := key (0x9320 + s) 0x03
abbrev SESSION_SAFETY_LOGIN (s : Nat) : Nat := key (0x9320 + s) 0x04
abbrev TX_SERVED (s : Nat) : Nat := key (0x9320 + s) 0x05
abbrev TX_DELAYED (s : Nat) : Nat := key (0x9320 + s) 0x06
abbrev TX_REFUSED (s : Nat) : Nat := key (0x9320 + s) 0x07
abbrev LAST_RESULT (s : Nat) : Nat := key (0x9320 + s) 0x08
abbrev LAST_DETAIL (s : Nat) : Nat := key (0x9320 + s) 0x09
abbrev LAST_QTY (s : Nat) : Nat := key (0x9320 + s) 0x0A
abbrev LAST_TAG (s : Nat) : Nat := key (0x9320 + s) 0x0B
abbrev TX_RATE : Nat := key 0x9330 0x01
abbrev QUEUE_DEPTH : Nat := key 0x9330 0x02
abbrev DELAYED_TOTAL : Nat := key 0x9330 0x03
abbrev REFUSED_TOTAL : Nat := key 0x9330 0x04
abbrev EXPIRED_TOTAL : Nat := key 0x9330 0x05

/-! Keys of chapter 13. -/
abbrev ETH_MODE (k : Nat) : Nat := key (0x9000 + k) 0x01
abbrev MAC_ADDR (k : Nat) : Nat := key (0x9000 + k) 0x02
abbrev LINK_UP (k : Nat) : Nat := key (0x9000 + k) 0x03
abbrev VLAN_ID (k : Nat) : Nat := key (0x9000 + k) 0x04
abbrev VLAN_PCP (k : Nat) : Nat := key (0x9000 + k) 0x05
abbrev IPV4_ADDR (k : Nat) : Nat := key (0x9000 + k) 0x06
abbrev IPV4_PREFIX (k : Nat) : Nat := key (0x9000 + k) 0x07
abbrev IPV4_GW (k : Nat) : Nat := key (0x9000 + k) 0x08
abbrev IPV6_ADDR (k : Nat) : Nat := key (0x9000 + k) 0x09
abbrev IPV6_PREFIX (k : Nat) : Nat := key (0x9000 + k) 0x0A
abbrev IPV6_GW (k : Nat) : Nat := key (0x9000 + k) 0x0B
abbrev PTP_EN (k : Nat) : Nat := key (0x9000 + k) 0x0C
abbrev PTP_VLAN_ID (k : Nat) : Nat := key (0x9000 + k) 0x0D
abbrev PTP_PCP (k : Nat) : Nat := key (0x9000 + k) 0x0E
abbrev INGRESS_LAT (k : Nat) : Nat := key (0x9000 + k) 0x0F
abbrev EGRESS_LAT (k : Nat) : Nat := key (0x9000 + k) 0x10
abbrev CABLE_ASYM (k : Nat) : Nat := key (0x9000 + k) 0x11
abbrev PTP_PORT_STATE (k : Nat) : Nat := key (0x9000 + k) 0x12
abbrev MEAN_PATH_DELAY (k : Nat) : Nat := key (0x9000 + k) 0x13
abbrev RX_FRAMES (k : Nat) : Nat := key (0x9000 + k) 0x14
abbrev TX_FRAMES (k : Nat) : Nat := key (0x9000 + k) 0x15
abbrev RX_DROPPED (k : Nat) : Nat := key (0x9000 + k) 0x16
abbrev RX_ERRORS (k : Nat) : Nat := key (0x9000 + k) 0x17
abbrev PTP_PROFILE : Nat := key 0x9010 0x01
abbrev PTP_DOMAIN : Nat := key 0x9010 0x02
abbrev SERVO_MODE : Nat := key 0x9010 0x03
abbrev LOCK_THRESH : Nat := key 0x9010 0x04
abbrev NATIVE_TC : Nat := key 0x9010 0x05
abbrev SVZ_KP : Nat := key 0x9010 0x06
abbrev SVZ_KI : Nat := key 0x9010 0x07
abbrev SVZ_STEP_THRESH : Nat := key 0x9010 0x08
abbrev FORCE_STEP : Nat := key 0x9010 0x09
abbrev UTC_OFFSET_DEF : Nat := key 0x9010 0x0A
abbrev SERVO_STATE : Nat := key 0x9011 0x01
abbrev OFFSET : Nat := key 0x9011 0x02
abbrev OFFSET_UNC : Nat := key 0x9011 0x03
abbrev TIME_EPOCH : Nat := key 0x9011 0x04
abbrev TIME_QUALITY : Nat := key 0x9011 0x05
abbrev STEP_NEEDED : Nat := key 0x9011 0x06
abbrev STEP_OFFSET : Nat := key 0x9011 0x07
abbrev GM_IDENTITY : Nat := key 0x9011 0x08
abbrev GM_CLASS : Nat := key 0x9011 0x09
abbrev SLAVE_PORT : Nat := key 0x9011 0x0A
abbrev UTC_OFFSET : Nat := key 0x9011 0x0B
abbrev LEAP : Nat := key 0x9011 0x0C
abbrev TAI_NOW : Nat := key 0x9011 0x0D
abbrev TIME_STEP_COUNT : Nat := key 0x9011 0x0E
abbrev LAST_STEP : Nat := key 0x9011 0x0F
abbrev LAUNCH_FRAME (k i : Nat) : Nat := key (0x9020 + 16 * k + i) 0x01
abbrev LAUNCH_TIME (k i : Nat) : Nat := key (0x9020 + 16 * k + i) 0x02
abbrev LAUNCH_PERIOD (k i : Nat) : Nat := key (0x9020 + 16 * k + i) 0x03
abbrev LAUNCH_ARM (k i : Nat) : Nat := key (0x9020 + 16 * k + i) 0x04
abbrev LAUNCH_STATE (k i : Nat) : Nat := key (0x9020 + 16 * k + i) 0x05
abbrev LAUNCH_ACTUAL (k i : Nat) : Nat := key (0x9020 + 16 * k + i) 0x06
abbrev LAUNCH_COUNT (k i : Nat) : Nat := key (0x9020 + 16 * k + i) 0x07
abbrev LATE_POLICY (k : Nat) : Nat := key 0x9040 (k + 1)

/-! Keys of chapter 14. -/
abbrev CAN_EN (k : Nat) : Nat := key (0x9100 + k) 0x01
abbrev FD_EN (k : Nat) : Nat := key (0x9100 + k) 0x02
abbrev NBRP (k : Nat) : Nat := key (0x9100 + k) 0x03
abbrev NTSEG1 (k : Nat) : Nat := key (0x9100 + k) 0x04
abbrev NTSEG2 (k : Nat) : Nat := key (0x9100 + k) 0x05
abbrev NSJW (k : Nat) : Nat := key (0x9100 + k) 0x06
abbrev DBRP (k : Nat) : Nat := key (0x9100 + k) 0x07
abbrev DTSEG1 (k : Nat) : Nat := key (0x9100 + k) 0x08
abbrev DTSEG2 (k : Nat) : Nat := key (0x9100 + k) 0x09
abbrev DSJW (k : Nat) : Nat := key (0x9100 + k) 0x0A
abbrev TDC_MODE (k : Nat) : Nat := key (0x9100 + k) 0x0B
abbrev TDCO (k : Nat) : Nat := key (0x9100 + k) 0x0C
abbrev BUSOFF_AUTO (k : Nat) : Nat := key (0x9100 + k) 0x0D
abbrev BUSOFF_DELAY (k : Nat) : Nat := key (0x9100 + k) 0x0E
abbrev BUS_RECOVER (k : Nat) : Nat := key (0x9100 + k) 0x0F
abbrev ID_BACKOFF (k : Nat) : Nat := key (0x9100 + k) 0x10
abbrev CANOPEN_EN (k : Nat) : Nat := key (0x9100 + k) 0x11
abbrev NODE_ID (k : Nat) : Nat := key (0x9100 + k) 0x12
abbrev HB_PERIOD (k : Nat) : Nat := key (0x9100 + k) 0x13
abbrev PORT_STATE (k : Nat) : Nat := key (0x9100 + k) 0x14
abbrev TEC_REC (k : Nat) : Nat := key (0x9100 + k) 0x15
abbrev CAN_CONFIG_STATUS (k : Nat) : Nat := key (0x9100 + k) 0x16
abbrev TDC_MEAS (k : Nat) : Nat := key (0x9100 + k) 0x17
abbrev RX_UNMATCHED (k : Nat) : Nat := key (0x9100 + k) 0x18
abbrev NMT_STATE (k : Nat) : Nat := key (0x9100 + k) 0x19
abbrev CAN_FLAGS (k : Nat) : Nat := key (0x9100 + k) 0x1A
abbrev BUSOFF_COUNT (k : Nat) : Nat := key (0x9100 + k) 0x1B
abbrev CAN_TS_PAIR (k : Nat) : Nat := key (0x9100 + k) 0x1C
abbrev TT_MODE (k : Nat) : Nat := key (0x9110 + k) 0x01
abbrev TT_REF_ID (k : Nat) : Nat := key (0x9110 + k) 0x02
abbrev TT_CYCLE_LEN (k : Nat) : Nat := key (0x9110 + k) 0x03
abbrev TT_CYCLES (k : Nat) : Nat := key (0x9110 + k) 0x04
abbrev TT_ANCHOR (k : Nat) : Nat := key (0x9110 + k) 0x05
abbrev TT_STATE (k : Nat) : Nat := key (0x9110 + k) 0x06
abbrev CYCLE_COUNT (k : Nat) : Nat := key (0x9110 + k) 0x07
abbrev COLUMN (k j : Nat) : Nat := key (0x9112 + k) (0x01 + j)
abbrev TRIGGER (k j : Nat) : Nat := key (0x9114 + k) (0x01 + j)
abbrev TX_ID (k t : Nat) : Nat := key (0x9120 + 32 * k + t) 0x01
abbrev TX_FORMAT (k t : Nat) : Nat := key (0x9120 + 32 * k + t) 0x02
abbrev TX_SINGLE (k t : Nat) : Nat := key (0x9120 + 32 * k + t) 0x03
abbrev TX_DATA (k t : Nat) : Nat := key (0x9120 + 32 * k + t) 0x04
abbrev TX_REQ (k t : Nat) : Nat := key (0x9120 + 32 * k + t) 0x05
abbrev TX_STATE (k t : Nat) : Nat := key (0x9120 + 32 * k + t) 0x06
abbrev TX_STAMP (k t : Nat) : Nat := key (0x9120 + 32 * k + t) 0x07
abbrev RX_ID (k r : Nat) : Nat := key (0x9160 + 64 * k + r) 0x01
abbrev RX_MASK (k r : Nat) : Nat := key (0x9160 + 64 * k + r) 0x02
abbrev RX_FLAGS (k r : Nat) : Nat := key (0x9160 + 64 * k + r) 0x03
abbrev RX_DATA (k r : Nat) : Nat := key (0x9160 + 64 * k + r) 0x04
abbrev RX_INFO (k r : Nat) : Nat := key (0x9160 + 64 * k + r) 0x05
abbrev RX_STAMP (k r : Nat) : Nat := key (0x9160 + 64 * k + r) 0x06
abbrev RX_OVERRUNS (k r : Nat) : Nat := key (0x9160 + 64 * k + r) 0x07

/-! Keys of chapter 15. -/
abbrev REC_COUNT : Nat := key 0x8000 0x01
abbrev OLDEST_SEQ : Nat := key 0x8000 0x02
abbrev NEWEST_SEQ : Nat := key 0x8000 0x03
abbrev SEQ_WRAP_NOW : Nat := key 0x8000 0x04
abbrev CLEAR_COUNT : Nat := key 0x8000 0x05
abbrev REC_CLEAR : Nat := key 0x8000 0x06
abbrev REC_FREEZE : Nat := key 0x8000 0x07
abbrev FROZEN_LOST : Nat := key 0x8000 0x08
abbrev FIFO_PEAK : Nat := key 0x8000 0x09
abbrev REC_CURSOR : Nat := key 0x8010 0x01
abbrev REC_CURSOR_WRAP : Nat := key 0x8010 0x02
abbrev REC_DATA : Nat := key 0x8010 0x03
abbrev REC_FILTER : Nat := key 0x8010 0x04
abbrev REC_MIN_SEV : Nat := key 0x8010 0x05
abbrev SNAP_SET (g j : Nat) : Nat := key (0x8020 + g) (0x01 + j)
abbrev REC_CFG (code : Nat) : Nat := key (0x8040 + code / 256) (code % 256)
abbrev REC_SUPPRESSED (code : Nat) : Nat := key (0x8060 + code / 256) (code % 256)
abbrev REC_OVERFLOW (code : Nat) : Nat := key (0x8080 + code / 256) (code % 256)
abbrev STREAM_MODE (q : Nat) : Nat := key (0x8100 + q) 0x01
abbrev STREAM_GRID (q : Nat) : Nat := key (0x8100 + q) 0x02
abbrev DEC_EXP_MIN (q : Nat) : Nat := key (0x8100 + q) 0x03
abbrev PRE (q : Nat) : Nat := key (0x8100 + q) 0x04
abbrev POST (q : Nat) : Nat := key (0x8100 + q) 0x05
abbrev HOLD_MODE (q : Nat) : Nat := key (0x8100 + q) 0x06
abbrev HOLD_TIME (q : Nat) : Nat := key (0x8100 + q) 0x07
abbrev HOLD_EVENTS (q : Nat) : Nat := key (0x8100 + q) 0x08
abbrev TRIG_TYPE (q : Nat) : Nat := key (0x8100 + q) 0x09
abbrev TRIG_SIG (q : Nat) : Nat := key (0x8100 + q) 0x0A
abbrev TRIG_DIR (q : Nat) : Nat := key (0x8100 + q) 0x0B
abbrev TRIG_A (q : Nat) : Nat := key (0x8100 + q) 0x0C
abbrev TRIG_B (q : Nat) : Nat := key (0x8100 + q) 0x0D
abbrev TRIG_VALUE (q : Nat) : Nat := key (0x8100 + q) 0x0E
abbrev TRIG_MASK (q : Nat) : Nat := key (0x8100 + q) 0x0F
abbrev ARM (q : Nat) : Nat := key (0x8100 + q) 0x10
abbrev TRIG_NOW (q : Nat) : Nat := key (0x8100 + q) 0x11
abbrev STREAM_STATE (q : Nat) : Nat := key (0x8100 + q) 0x12
abbrev DEC_EXP_NOW (q : Nat) : Nat := key (0x8100 + q) 0x13
abbrev BACKLOG (q : Nat) : Nat := key (0x8100 + q) 0x14
abbrev TRIG_COUNT (q : Nat) : Nat := key (0x8100 + q) 0x15
abbrev TRIG_MISSED (q : Nat) : Nat := key (0x8100 + q) 0x16
abbrev CAPT_T_TRIG (q : Nat) : Nat := key (0x8100 + q) 0x17
abbrev CAPT_DATA (q : Nat) : Nat := key (0x8100 + q) 0x18
abbrev PKT_SENT (q : Nat) : Nat := key (0x8100 + q) 0x19
abbrev BLOCKS_DROPPED (q : Nat) : Nat := key (0x8100 + q) 0x1A
abbrev SIG (q j : Nat) : Nat := key (0x8110 + q) (0x01 + j)
abbrev STREAM_ETH (q : Nat) : Nat := key (0x8120 + q) 0x01
abbrev STREAM_DEST (q : Nat) : Nat := key (0x8120 + q) 0x02
abbrev STREAM_SRC_PORT (q : Nat) : Nat := key (0x8120 + q) 0x03
abbrev STREAM_GUAR (q : Nat) : Nat := key (0x8120 + q) 0x04
abbrev STREAM_MAX (q : Nat) : Nat := key (0x8120 + q) 0x05
abbrev MASK_EN (m : Nat) : Nat := key (0x8140 + m) 0x01
abbrev MASK_STREAM (m : Nat) : Nat := key (0x8140 + m) 0x02
abbrev MASK_SIG (m : Nat) : Nat := key (0x8140 + m) 0x03
abbrev MASK_PERSIST (m : Nat) : Nat := key (0x8140 + m) 0x04
abbrev MASK_UPPER (m : Nat) : Nat := key (0x8140 + m) 0x05
abbrev MASK_LOWER (m : Nat) : Nat := key (0x8140 + m) 0x06
abbrev MASK_STATUS (m : Nat) : Nat := key (0x8140 + m) 0x07
abbrev MASK_VIOL (m : Nat) : Nat := key (0x8140 + m) 0x08

/-! Keys of chapter 16. -/
abbrev SAFETY_STATE : Nat := key 0x7000 0x01
abbrev SGB_CAUSE : Nat := key 0x7000 0x02
abbrev SIN_LEVEL : Nat := key 0x7000 0x03
abbrev OUT_LEVEL : Nat := key 0x7000 0x04
abbrev SOS_INPUT : Nat := key 0x7000 0x05
abbrev SCS : Nat := key 0x7000 0x06
abbrev REACTION_SIN : Nat := key 0x7000 0x07
abbrev REACTION_SOS : Nat := key 0x7000 0x08
abbrev SGB_COUNT : Nat := key 0x7000 0x09
abbrev SGB_TIME : Nat := key 0x7000 0x0A
abbrev LAST_REACTION : Nat := key 0x7000 0x0B
abbrev DIAG_CODE : Nat := key 0x7000 0x0C
abbrev PW_SET : Nat := key 0x7000 0x0D
abbrev ISLAND_FW : Nat := key 0x7000 0x0E
abbrev SAFETY_LOGIN : Nat := key 0x7001 0x01
abbrev SAFETY_LOGOUT : Nat := key 0x7001 0x02
abbrev SAFETY_PW_NEW : Nat := key 0x7001 0x03
abbrev PW_FAILURES : Nat := key 0x7001 0x04
abbrev LOCKOUT_LEFT : Nat := key 0x7001 0x05
abbrev SIN1_MODE : Nat := key 0x7010 0x01
abbrev SIN2_MODE : Nat := key 0x7010 0x02
abbrev SIN1_FILT : Nat := key 0x7010 0x03
abbrev SIN2_FILT : Nat := key 0x7010 0x04
abbrev SGB_GATE_DELAY : Nat := key 0x7010 0x05
abbrev SGB_RESET_MODE : Nat := key 0x7010 0x06
abbrev SOS_EN : Nat := key 0x7010 0x07
abbrev SOS_THRESH : Nat := key 0x7010 0x08
abbrev SOS_HYST : Nat := key 0x7010 0x09
abbrev SOS_FILT : Nat := key 0x7010 0x0A
abbrev SOS_WIRE_MIN : Nat := key 0x7010 0x0B
abbrev OUT_TEST_INTERVAL : Nat := key 0x7010 0x0C
abbrev SAFETY_APPLY : Nat := key 0x7011 0x01
abbrev SAFETY_DISCARD : Nat := key 0x7011 0x02
abbrev SAFETY_STAGED : Nat := key 0x7011 0x03
abbrev SCS_ACK : Nat := key 0x7011 0x04
abbrev SGB_TEST : Nat := key 0x7011 0x05
abbrev LOG_COUNT : Nat := key 0x7100 0x01
abbrev LOG_FIRST : Nat := key 0x7100 0x02
abbrev LOG_NEXT : Nat := key 0x7100 0x03
abbrev LOG_DATA : Nat := key 0x7100 0x04

/-! Keys of chapter 17. -/
abbrev BANK_STATE (b : Nat) : Nat := key (0xB000 + b) 0x01
abbrev CORR_COUNT (b : Nat) : Nat := key (0xB000 + b) 0x02
abbrev UNCORR_COUNT (b : Nat) : Nat := key (0xB000 + b) 0x03
abbrev CORR_HOUR (b : Nat) : Nat := key (0xB000 + b) 0x04
abbrev SPARES_USED (b : Nat) : Nat := key (0xB000 + b) 0x05
abbrev FENCED_ROWS (b : Nat) : Nat := key (0xB000 + b) 0x06
abbrev MARCH_RESULT (b : Nat) : Nat := key (0xB000 + b) 0x07
abbrev MARCH_TIME (b : Nat) : Nat := key (0xB000 + b) 0x08
abbrev MARCH_ROW (b : Nat) : Nat := key (0xB000 + b) 0x09
abbrev LAST_ERR_ROW (b : Nat) : Nat := key (0xB000 + b) 0x0A
abbrev BANK_ROWS (b : Nat) : Nat := key (0xB000 + b) 0x0B
abbrev MARCH_CMD : Nat := key 0xB020 0x01
abbrev MARCH_BUSY : Nat := key 0xB020 0x02
abbrev ROW_CORR_THRESH : Nat := key 0xB020 0x03
abbrev CORR_WARN : Nat := key 0xB020 0x04
abbrev BG_MARCH_EN : Nat := key 0xB020 0x05
abbrev BG_CYCLES : Nat := key 0xB020 0x06
abbrev PWR_REQ (d : Nat) : Nat := key (0xB100 + d) 0x01
abbrev PWR_STATE (d : Nat) : Nat := key (0xB100 + d) 0x02
abbrev PWR_SWITCHES (d : Nat) : Nat := key (0xB100 + d) 0x03
abbrev AUX_KIND : Nat := key 0xB110 0x01
abbrev AUX_INPUT_V : Nat := key 0xB110 0x02
abbrev AUX_FREQ : Nat := key 0xB110 0x03
abbrev INPUT_POWER : Nat := key 0xB110 0x04
abbrev BULK_ENERGY : Nat := key 0xB110 0x05
abbrev RIDE_TIME : Nat := key 0xB110 0x06
abbrev AUX_LOSSES : Nat := key 0xB110 0x07
abbrev LAST_GASPS : Nat := key 0xB110 0x08
abbrev BACKUP_V : Nat := key 0xB111 0x01
abbrev VAULT_FLAGS : Nat := key 0xB111 0x02
abbrev THERMAL_STATE : Nat := key 0xB120 0x01
abbrev T_PEAK : Nat := key 0xB120 0x02

/-! Keys of chapter 18. -/
abbrev DEVICE_CERT : Nat := key 0xC000 0x01
abbrev PROD_CA_CERT : Nat := key 0xC000 0x02
abbrev ROOT_CERT : Nat := key 0xC000 0x03
abbrev DEVICE_PUBKEY : Nat := key 0xC000 0x04
abbrev KEY_STATE : Nat := key 0xC000 0x05
abbrev ATTEST_CHALLENGE : Nat := key 0xC000 0x06
abbrev ATTEST_RESPONSE : Nat := key 0xC000 0x07
abbrev ANCHOR (j : Nat) : Nat := key 0xC010 (0x01 + j)
abbrev REVOKED : Nat := key 0xC011 0x01
abbrev REVOKED_COUNT : Nat := key 0xC011 0x02
abbrev FW_SLOT_PREF : Nat := key 0xC020 0x01
abbrev FW_IMAGE : Nat := key 0xC020 0x02
abbrev FW_IMAGE_STATE : Nat := key 0xC020 0x03
abbrev FW_ACTIVATE : Nat := key 0xC020 0x04
abbrev FW_ACCEPT : Nat := key 0xC020 0x05
abbrev SVN_FLOOR : Nat := key 0xC020 0x06
abbrev SLOT_VERSION : Nat := key 0xC020 0x07
abbrev SLOT_SVN : Nat := key 0xC020 0x08
abbrev LANE_FW : Nat := key 0xC020 0x09
abbrev BOOT_COUNT : Nat := key 0xC020 0x0A
abbrev TAMPER_EN : Nat := key 0xC030 0x01
abbrev TAMPER_LATCH : Nat := key 0xC030 0x02
abbrev TAMPER_CLEAR : Nat := key 0xC030 0x03
abbrev TAMPER_LOG : Nat := key 0xC030 0x04
abbrev WIPE_COUNT : Nat := key 0xC030 0x05
abbrev LAST_WIPE_CAUSE : Nat := key 0xC030 0x06
abbrev LC_STATE : Nat := key 0xC040 0x01
abbrev LC_REQ : Nat := key 0xC040 0x02
abbrev LC_NONCE : Nat := key 0xC040 0x03
abbrev LC_CONFIRM : Nat := key 0xC040 0x04
abbrev VENDOR_TOKEN : Nat := key 0xC040 0x05
abbrev UNLOCK_NONCE : Nat := key 0xC040 0x06
abbrev LC_TRANSITIONS : Nat := key 0xC040 0x07
abbrev RETURN_REPORT : Nat := key 0xC040 0x08

/-! Keys of chapter 19. -/
abbrev M_CONNECTED : Nat := key 0x9200 0x01
abbrev M_ENUMERATIONS : Nat := key 0x9200 0x02
abbrev BOOT_STATE : Nat := key 0x9210 0x01
abbrev BOOT_READY : Nat := key 0x9210 0x02
abbrev BOOT_TIME : Nat := key 0x9210 0x03
abbrev BOOT_FAIL : Nat := key 0x9210 0x04
abbrev TIME_WAIT : Nat := key 0x9210 0x05
abbrev STAGE_END (j : Nat) : Nat := key 0x9210 (0x06 + j)
abbrev RESET_CMD : Nat := key 0x9220 0x01
abbrev RST_SCOPE : Nat := key 0x9220 0x02
abbrev RST_N_LEVEL : Nat := key 0x9220 0x03
abbrev RST_STUCK : Nat := key 0x9220 0x04
abbrev LAST_RESET : Nat := key 0x9220 0x05
abbrev LAST_RESET_TIME : Nat := key 0x9220 0x06
abbrev RESET_COUNT : Nat := key 0x9220 0x07
abbrev WD_COUNT (u : Nat) : Nat := key 0x9230 u
abbrev PR_CMD : Nat := key 0x9240 0x01
abbrev PR_BUSY : Nat := key 0x9240 0x02
abbrev PR_COUNT : Nat := key 0x9240 0x03
abbrev FENCE_DISCARDS : Nat := key 0x9240 0x04
abbrev TARGET_RESETS : Nat := key 0x9240 0x05
abbrev BLOCK_EPOCH (j : Nat) : Nat := key 0x9241 (0x01 + j)

/-- Rows of chapter 01. -/
def rows01a : List OdRow :=
  [⟨0xA040, 1, 0x01, 1, .u16, .RO, [.num 0], []⟩,
   ⟨0xA040, 1, 0x02, 1, .u16, .RO, [.num 0], []⟩,
   ⟨0xA040, 1, 0x03, 1, .u16, .RO, [.num 65535], []⟩,
   ⟨0xA040, 1, 0x04, 1, .u16, .RO, [.num 65535], []⟩,
   ⟨0xA040, 1, 0x05, 1, .u8, .RO, [.num 63], []⟩,
   ⟨0xA040, 1, 0x06, 1, .u8, .RO, [.num 63], []⟩,
   ⟨0xA042, 1, 0x01, 6, .u16, .RO, [.num 0], []⟩,
   ⟨0xA042, 1, 0x07, 6, .u16, .RO, [.num 0], []⟩,
   ⟨0xA041, 1, 0x01, 1, .u32, .RO, [.num 0], []⟩,
   ⟨0xA041, 1, 0x02, 1, .u32, .RO, [.num 0], []⟩,
   ⟨0xA041, 1, 0x03, 1, .u32, .RO, [.num 0], []⟩,
   ⟨0xA041, 1, 0x04, 1, .u32, .RO, [.num 0], []⟩,
   ⟨0xA041, 1, 0x05, 1, .u32, .RO, [.num 0], []⟩,
   ⟨0xA041, 1, 0x06, 1, .u32, .RO, [.num 0], []⟩,
   ⟨0xA041, 1, 0x07, 1, .u32, .RO, [.num 0], []⟩]

/-- Rows of chapter 02. -/
def rows02a : List OdRow :=
  [⟨0x2000, 1, 0x01, 1, .u8, .RWC, [.num 0], [.int 0 1]⟩,
   ⟨0x2000, 1, 0x02, 1, .u8, .RWC, [.num 1], [.int 0 2]⟩,
   ⟨0x2000, 1, 0x03, 1, .u8, .RWC, [.num 1], [.int 0 2]⟩,
   ⟨0x2000, 1, 0x04, 1, .bool, .RWC, [.num 1], [.int 0 1]⟩,
   ⟨0x2000, 1, 0x05, 1, .u16, .RWC, [.num 100], [.int 10 1000]⟩,
   ⟨0x2000, 1, 0x06, 1, .u16, .RWC, [.num 60], [.int 10 3600]⟩,
   ⟨0x2001, 1, 0x01, 1, .u8, .RO, [.num 0], []⟩,
   ⟨0x2001, 1, 0x02, 1, .u8, .RO, [.num 0], []⟩,
   ⟨0x2001, 1, 0x03, 1, .i32, .RO, [.num 0], []⟩,
   ⟨0x2001, 1, 0x04, 1, .u32, .RO, [.num 0], []⟩,
   ⟨0x2001, 1, 0x05, 1, .u32, .RO, [.num 0], []⟩,
   ⟨0x2001, 1, 0x06, 1, .u32, .RO, [.num 0], []⟩,
   ⟨0x2001, 1, 0x07, 1, .bool, .RO, [.num 0], []⟩,
   ⟨0x2001, 1, 0x08, 1, .u16, .RO, [.num 0], []⟩,
   ⟨0x2001, 1, 0x09, 1, .i32, .RO, [.num 0], []⟩,
   ⟨0x2002, 1, 0x01, 1, .i32, .RW, [.num 0], [.int (-200000) 200000]⟩,
   ⟨0x2003, 1, 0x01, 1, .u8, .RWC, [.num 0], [.int 0 2]⟩,
   ⟨0x2003, 1, 0x02, 1, .u8, .RWC, [.num 0], [.int 0 50]⟩,
   ⟨0x2003, 1, 0x03, 1, .u16, .RWC, [.num 31500], [.int 30000 33000]⟩,
   ⟨0x2003, 1, 0x04, 1, .bool, .RO, [.num 0], []⟩,
   ⟨0x2004, 1, 0x01, 1, .u8, .RWC, [.num 1], [.int 1 64]⟩,
   ⟨0x2004, 1, 0x02, 1, .u8, .RWC, [.num 0], [.int 0 63]⟩,
   ⟨0x2004, 1, 0x03, 1, .i32, .RWC, [.num 0], [.int (-625000) 625000]⟩,
   ⟨0x2004, 1, 0x04, 1, .u16, .RWC, [.num 500], [.int 10 5000]⟩,
   ⟨0x2004, 1, 0x05, 1, .u16, .RWC, [.num 10], [.int 1 100]⟩,
   ⟨0x2004, 1, 0x06, 1, .u32, .RO, [.num 0], []⟩,
   ⟨0x2004, 1, 0x07, 1, .bool, .RO, [.num 0], []⟩,
   ⟨0x2004, 1, 0x08, 1, .bool, .RO, [.num 0], []⟩]

/-- Rows of chapter 03. -/
def rows03a : List OdRow :=
  [⟨0x2100, 32, 0x01, 1, .u8, .RWC, [.num 0], [.int 0 1]⟩,
   ⟨0x2100, 32, 0x02, 1, .u8, .RWC, [.num 0], [.int 0 2]⟩,
   ⟨0x2100, 32, 0x03, 1, .u16, .RWC, [.num 125], [.int 125 62500]⟩,
   ⟨0x2100, 32, 0x04, 1, .bool, .RWC, [.num 0], [.int 0 1]⟩,
   ⟨0x2100, 32, 0x05, 1, .bool, .RWC, [.num 0], [.int 0 1]⟩,
   ⟨0x2100, 32, 0x06, 1, .u8, .RWC, [.num 2], [.int 0 4]⟩,
   ⟨0x2100, 32, 0x07, 1, .u8, .RWC, [.num 1], [.int 1 16]⟩,
   ⟨0x2100, 32, 0x08, 1, .bool, .RWC, [.num 1], [.int 0 1]⟩,
   ⟨0x2100, 32, 0x09, 1, .i16, .RO, [.num 0], []⟩,
   ⟨0x2100, 32, 0x0A, 1, .i32, .RO, [.num 0], []⟩,
   ⟨0x2100, 32, 0x0B, 1, .i16, .RO, [.num 0], []⟩,
   ⟨0x2100, 32, 0x0C, 1, .u8, .RO, [.num 0], []⟩,
   ⟨0x2120, 32, 0x01, 1, .u32, .RO, [.num 2147483904], []⟩,
   ⟨0x2120, 32, 0x02, 15, .u32, .RWC, [.num 256], []⟩,
   ⟨0x2140, 1, 0x01, 1, .u8, .RO, [.num 0], []⟩,
   ⟨0x2140, 1, 0x02, 1, .i32, .RO, [.num 0], []⟩,
   ⟨0x2140, 1, 0x03, 1, .u16, .RWC, [.num 1000], [.int 100 5000]⟩,
   ⟨0x2140, 1, 0x04, 1, .u16, .RWC, [.num 10000], [.int 1000 50000]⟩,
   ⟨0x2140, 1, 0x05, 1, .u32, .RO, [.num 0], []⟩,
   ⟨0x2140, 1, 0x06, 1, .u32, .RO, [.num 0], []⟩,
   ⟨0x2140, 1, 0x07, 1, .u32, .RO, [.num 0], []⟩,
   ⟨0x2150, 1, 0x01, 16, .f32, .RO, [.num 0], []⟩,
   ⟨0x2180, 32, 0x01, 16, .u32, .RO, [.num 0], []⟩]

/-- Rows of chapter 04. -/
def rows04a : List OdRow :=
  [⟨0x2200, 32, 0x01, 1, .u8, .RWC, [.num 0], [.int 0 1]⟩,
   ⟨0x2200, 32, 0x02, 1, .f32, .RWC, [.num 1065353216], [.f32 0xC9742400 0x49742400]⟩,
   ⟨0x2200, 32, 0x03, 1, .f32, .RWC, [.num 0], [.f32 0xC1A3D70A 0x41A3D70A]⟩,
   ⟨0x2200, 32, 0x04, 1, .u8, .RWC, [.num 3], [.int 1 5]⟩,
   ⟨0x2200, 32, 0x05, 1, .u8, .RWC, [.num 16], [.int 2 64]⟩,
   ⟨0x2200, 32, 0x06, 1, .u8, .RWC, [.num 255], [.int 0 7, .int 255 255]⟩,
   ⟨0x2200, 32, 0x07, 1, .u8, .RWC, [.num 1], [.int 1 2]⟩,
   ⟨0x2200, 32, 0x08, 1, .u8, .RWC, [.num 0], [.int 0 2]⟩,
   ⟨0x2200, 32, 0x09, 1, .u64, .RWC, [.num 2147483648], [.int 1073741824 4294967296]⟩,
   ⟨0x2200, 32, 0x0A, 1, .u16, .RWC, [.num 256], [.int 64 64, .int 128 128, .int 256 256, .int 512 512]⟩,
   ⟨0x2200, 32, 0x0B, 1, .u8, .RWC, [.num 0], [.int 0 1]⟩,
   ⟨0x2200, 32, 0x0C, 1, .u8, .RO, [.num 0], []⟩,
   ⟨0x2200, 32, 0x0D, 1, .u32, .RO, [.num 0], []⟩,
   ⟨0x2200, 32, 0x0E, 1, .u64, .RO, [.num 0], []⟩,
   ⟨0x2200, 32, 0x0F, 1, .f32, .RO, [.num 0], []⟩,
   ⟨0x2200, 32, 0x10, 1, .u8, .RO, [.num 0], []⟩,
   ⟨0x2240, 8, 0x01, 32, .f32, .RWC, [.num 1065353216, .num 0], [.f32 0xC1800000 0x41800000]⟩,
   ⟨0x2240, 8, 0x21, 1, .f32, .RWC, [.num 0], [.f32 0x00000000 0x41F80000]⟩,
   ⟨0x2260, 1, 0x01, 1, .u32, .RO, [.num 4294967295], []⟩,
   ⟨0x2260, 1, 0x02, 1, .u32, .RO, [.num 0], []⟩,
   ⟨0x2260, 1, 0x03, 1, .u32, .RO, [.num 0], []⟩]

/-- Rows of chapter 05. -/
def rows05a : List OdRow :=
  [⟨0x2800, 1, 0x01, 1, .u32, .RWC, [.num 12500], [.int 6250 125000]⟩,
   ⟨0x2800, 1, 0x02, 1, .u8, .RWC, [.num 255], [.int 0 7, .int 255 255]⟩,
   ⟨0x2800, 1, 0x03, 1, .u32, .RO, [.num 0], []⟩,
   ⟨0x2800, 1, 0x04, 1, .u8, .RO, [.num 0], []⟩,
   ⟨0x2800, 1, 0x05, 1, .u16, .RO, [.num 0], []⟩,
   ⟨0x2810, 1, 0x01, 1, .u16, .RO, [.num 1275], []⟩,
   ⟨0x2810, 1, 0x02, 1, .u16, .RO, [.num 0], []⟩,
   ⟨0x2810, 1, 0x03, 1, .u16, .RO, [.num 0], []⟩,
   ⟨0x2810, 1, 0x04, 1, .u8, .RO, [.num 0], []⟩,
   ⟨0x2810, 1, 0x05, 1, .u32, .RO, [.num 0], []⟩,
   ⟨0x2810, 1, 0x06, 1, .u16, .RO, [.num 0], []⟩,
   ⟨0x2810, 1, 0x07, 1, .u8, .RO, [.num 0], []⟩,
   ⟨0x2811, 1, 0x01, 6, .u16, .RO, [.num 0], []⟩,
   ⟨0x2811, 1, 0x07, 4, .u8, .RO, [.num 0], []⟩,
   ⟨0x2820, 1, 0x01, 1, .bool, .RWC, [.num 1], [.int 0 1]⟩,
   ⟨0x2820, 1, 0x02, 1, .u8, .RO, [.num 0], []⟩,
   ⟨0x2821, 1, 0x01, 4, .f32, .RWC, [.num 1017370378, .num 1008981770, .num 1000593162, .num 1028443341], [.f32 0x38D1B717 0x3F000000]⟩,
   ⟨0x2822, 2, 0x01, 16, .u8, .RWC, [.num 1], [.int 1 3]⟩,
   ⟨0x2824, 2, 0x01, 16, .u8, .RWC, [.num 3], [.int 0 3]⟩,
   ⟨0x2830, 1, 0x01, 1, .u32, .RO, [.num 0], []⟩,
   ⟨0x2830, 1, 0x02, 1, .u32, .RO, [.num 0], []⟩,
   ⟨0x2830, 1, 0x03, 1, .u32, .RO, [.num 0], []⟩,
   ⟨0x2830, 1, 0x04, 1, .u8, .RO, [.num 0], []⟩,
   ⟨0x2830, 1, 0x05, 1, .u32, .RO, [.num 0], []⟩,
   ⟨0x2830, 1, 0x06, 1, .u32, .RO, [.num 0], []⟩,
   ⟨0x2830, 1, 0x07, 1, .u32, .RO, [.num 0], []⟩,
   ⟨0x2830, 1, 0x08, 1, .u32, .RO, [.num 0], []⟩,
   ⟨0x2840, 1, 0x01, 1, .bool, .RO, [.num 0], []⟩,
   ⟨0x2840, 1, 0x02, 1, .u8, .RO, [.num 0], []⟩,
   ⟨0x2840, 1, 0x03, 1, .u32, .RO, [.num 0], []⟩,
   ⟨0x2850, 1, 0x01, 1, .u8, .RWC, [.num 0], [.int 0 1]⟩]

/-- Rows of chapter 06. -/
def rows06a : List OdRow :=
  [⟨0x3000, 1, 0x01, 1, .f32, .RWC, [.num 1232348160], [.f32 0x47C35000 0x4EEE6B28]⟩,
   ⟨0x3000, 1, 0x02, 1, .f32, .RWC, [.num 1162756096], [.f32 0x42C80000 0x49127C00]⟩,
   ⟨0x3000, 1, 0x03, 1, .u8, .RWC, [.num 0], [.int 0 1]⟩,
   ⟨0x3000, 1, 0x04, 1, .f32, .RWC, [.num 1168687104], [.f32 0x42C80000 0x49927C00]⟩,
   ⟨0x3000, 1, 0x05, 1, .u8, .RWC, [.num 1], [.int 0 4]⟩,
   ⟨0x3000, 1, 0x06, 1, .u8, .RWC, [.num 1], [.int 1 8]⟩,
   ⟨0x3000, 1, 0x07, 1, .f32, .RWC, [.num 3212836864], [.f32 0xBF800000 0xBF800000, .f32 0x00000000 0x43C80000]⟩,
   ⟨0x3001, 1, 0x01, 1, .u8, .RW, [.num 0], [.int 0 1]⟩,
   ⟨0x3001, 1, 0x02, 1, .u8, .RO, [.num 0], []⟩,
   ⟨0x3001, 1, 0x03, 1, .u16, .RO, [.num 0], []⟩,
   ⟨0x3001, 1, 0x04, 1, .u16, .RWC, [.num 1000], [.int 0 60000]⟩,
   ⟨0x3001, 1, 0x05, 1, .u16, .RO, [.num 0], []⟩,
   ⟨0x3010, 1, 0x01, 32, .u8, .RWC, [.num 0], [.int 0 21]⟩,
   ⟨0x3020, 1, 0x01, 1, .f32, .RWC, [.num 1084227584], [.f32 0x3DCCCCCD 0x41F00000]⟩,
   ⟨0x3020, 1, 0x02, 1, .f32, .RWC, [.num 1092616192], [.f32 0x00000000 0x43FA0000]⟩,
   ⟨0x3020, 1, 0x03, 1, .f32, .RWC, [.num 1025758986], [.f32 0x3BA3D70A 0x3DF5C28F]⟩,
   ⟨0x3020, 1, 0x04, 1, .f32, .RWC, [.num 0], [.f32 0x00000000 0x3F800000]⟩,
   ⟨0x3020, 1, 0x05, 1, .f32, .RWC, [.num 1064346583], [.f32 0x3F4CCCCD 0x3F800000]⟩,
   ⟨0x3020, 1, 0x06, 1, .f32, .RWC, [.num 1065856532], [.f32 0x3F800000 0x3F99999A]⟩,
   ⟨0x3020, 1, 0x07, 1, .f32, .RO, [.num 0], []⟩,
   ⟨0x3020, 1, 0x08, 1, .f32, .RO, [.num 0], []⟩,
   ⟨0x3020, 1, 0x09, 1, .f32, .RO, [.num 0], []⟩,
   ⟨0x3020, 1, 0x0A, 1, .f32, .RO, [.num 0], []⟩,
   ⟨0x3020, 1, 0x0B, 1, .f32, .RO, [.num 0], []⟩,
   ⟨0x3020, 1, 0x0C, 1, .f32, .RO, [.num 0], []⟩,
   ⟨0x3020, 1, 0x0D, 1, .f32, .RO, [.num 0], []⟩,
   ⟨0x3020, 1, 0x0E, 1, .u8, .RO, [.num 0], []⟩,
   ⟨0x3030, 1, 0x01, 1, .bool, .RWC, [.num 0], [.int 0 1]⟩,
   ⟨0x3030, 1, 0x02, 1, .f32, .RWC, [.num 1106247680], [.f32 0x3F800000 0x44160000]⟩,
   ⟨0x3030, 1, 0x03, 1, .f32, .RWC, [.num 1036831949], [.f32 0x00000000 0x3F800000]⟩,
   ⟨0x3030, 1, 0x04, 1, .f32, .RO, [.num 0], []⟩,
   ⟨0x3040, 1, 0x01, 1, .f32, .RWC, [.num 1025758986], [.f32 0x00000000 0x3DCCCCCD]⟩,
   ⟨0x3040, 1, 0x02, 1, .f32, .RWC, [.num 1028443341], [.f32 0x3BA3D70A 0x41200000]⟩,
   ⟨0x3040, 1, 0x03, 1, .f32, .RWC, [.num 1056964608], [.f32 0x00000000 0x40000000]⟩,
   ⟨0x3040, 1, 0x04, 1, .f32, .RWC, [.num 1056964608], [.f32 0x00000000 0x3F800000]⟩,
   ⟨0x3040, 1, 0x05, 1, .f32, .RWC, [.num 1067869798], [.f32 0x3F800000 0x3FC00000]⟩,
   ⟨0x3040, 1, 0x06, 1, .f32, .RO, [.num 0], []⟩,
   ⟨0x3040, 1, 0x07, 1, .f32, .RO, [.num 0], []⟩,
   ⟨0x3050, 1, 0x01, 1, .f32, .RWC, [.num 1017370378], [.f32 0x00000000 0x3F000000]⟩,
   ⟨0x3050, 1, 0x02, 1, .f32, .RWC, [.num 1041865114], [.f32 0x00000000 0x3F19999A]⟩]

/-- Rows of chapter 06, continued. -/
def rows06b : List OdRow :=
  [⟨0x3060, 1, 0x01, 1, .f32, .RWC, [.num 1056964608], [.f32 0x00000000 0x41A00000]⟩,
   ⟨0x3060, 1, 0x02, 1, .f32, .RWC, [.num 1120403456], [.f32 0x00000000 0x447A0000]⟩,
   ⟨0x3060, 1, 0x03, 1, .f32, .RWC, [.num 1084227584], [.f32 0x3DCCCCCD 0x42C80000]⟩,
   ⟨0x3060, 1, 0x04, 1, .f32, .RWC, [.num 1065353216], [.f32 0x00000000 0x3FC00000]⟩,
   ⟨0x3060, 1, 0x05, 1, .u8, .RO, [.num 0], []⟩,
   ⟨0x3061, 8, 0x01, 1, .u8, .RWC, [.num 0], [.int 0 0, .int 2 40]⟩,
   ⟨0x3061, 8, 0x02, 1, .f32, .RWC, [.num 1101004800], [.f32 0x00000000 0x447A0000]⟩,
   ⟨0x3061, 8, 0x03, 1, .f32, .RWC, [.num 1073741824], [.f32 0x3DCCCCCD 0x42C80000]⟩,
   ⟨0x3070, 1, 0x01, 1, .f32, .RWC, [.num 1061997773], [.f32 0x00000000 0x41200000]⟩,
   ⟨0x3070, 1, 0x02, 1, .f32, .RWC, [.num 1050253722], [.f32 0x00000000 0x40A00000]⟩,
   ⟨0x3070, 1, 0x03, 1, .f32, .RWC, [.num 1034147594], [.f32 0x00000000 0x3F000000]⟩,
   ⟨0x3070, 1, 0x04, 1, .f32, .RWC, [.num 1065353216], [.f32 0x00000000 0x3F99999A]⟩,
   ⟨0x3070, 1, 0x05, 1, .bool, .RWC, [.num 0], [.int 0 1]⟩,
   ⟨0x3080, 1, 0x01, 1, .u8, .RWC, [.num 0], [.int 0 2]⟩,
   ⟨0x3080, 1, 0x02, 1, .f32, .RWC, [.num 1073741824], [.f32 0x00000000 0x42480000]⟩,
   ⟨0x3080, 1, 0x03, 1, .f32, .RWC, [.num 1092616192], [.f32 0x00000000 0x447A0000]⟩,
   ⟨0x3080, 1, 0x04, 1, .u8, .RWC, [.num 0], [.int 0 2]⟩,
   ⟨0x3080, 1, 0x05, 1, .u8, .RWC, [.num 0], [.int 0 31]⟩,
   ⟨0x3080, 1, 0x06, 1, .f32, .RO, [.num 0], []⟩,
   ⟨0x3080, 1, 0x07, 1, .f32, .RO, [.num 0], []⟩,
   ⟨0x3090, 1, 0x01, 1, .u8, .RWC, [.num 0], [.int 0 6]⟩,
   ⟨0x3090, 1, 0x02, 1, .f32, .RWC, [.num 1066192077], [.f32 0x3F800000 0x3FC00000]⟩,
   ⟨0x3090, 1, 0x03, 1, .f32, .RWC, [.num 1066611507], [.f32 0x3F800000 0x3FCCCCCD]⟩,
   ⟨0x3090, 1, 0x04, 1, .f32, .RWC, [.num 1066024305], [.f32 0x3F800000 0x3FC00000]⟩,
   ⟨0x3090, 1, 0x05, 1, .u16, .RWC, [.num 1000], [.int 500 5000]⟩,
   ⟨0x3090, 1, 0x06, 1, .f32, .RWC, [.num 1092616192], [.f32 0x3DCCCCCD 0x447A0000]⟩,
   ⟨0x3090, 1, 0x07, 1, .f32, .RWC, [.num 1240736768], [.f32 0x447A0000 0x4CBEBC20]⟩,
   ⟨0x3090, 1, 0x08, 1, .f32, .RWC, [.num 1167867904], [.f32 0x00000000 0x49742400]⟩,
   ⟨0x3090, 1, 0x09, 1, .f32, .RO, [.num 0], []⟩,
   ⟨0x3090, 1, 0x0A, 1, .f32, .RO, [.num 0], []⟩,
   ⟨0x30A0, 1, 0x01, 1, .u16, .RWC, [.num 0], [.int 0 256]⟩,
   ⟨0x30A0, 1, 0x02, 1, .f32, .RWC, [.num 1157234688], [.f32 0x42C80000 0x459C4000]⟩,
   ⟨0x30A0, 1, 0x03, 1, .f32, .RWC, [.num 1065353216], [.f32 0x00000000 0x41A00000]⟩,
   ⟨0x30A0, 1, 0x04, 1, .f32, .RWC, [.num 1065353216], [.f32 0x00000000 0x41A00000]⟩,
   ⟨0x30A0, 1, 0x05, 1, .f32, .RWC, [.num 1056964608], [.f32 0x00000000 0x41200000]⟩,
   ⟨0x30A0, 1, 0x06, 1, .f32, .RWC, [.num 1101004800], [.f32 0x00000000 0x447A0000]⟩,
   ⟨0x30A0, 1, 0x07, 1, .f32, .RWC, [.num 1112014848], [.f32 0x00000000 0x447A0000]⟩,
   ⟨0x30A0, 1, 0x09, 1, .u8, .RO, [.num 0], []⟩,
   ⟨0x30A1, 1, 0x01, 6, .f32, .RO, [.num 0], []⟩,
   ⟨0x30B0, 1, 0x01, 1, .f32, .RWC, [.num 1045220557], [.f32 0x00000000 0x40A00000]⟩]

/-- Rows of chapter 06, continued. -/
def rows06c : List OdRow :=
  [⟨0x30B0, 1, 0x02, 1, .f32, .RWC, [.num 1084227584], [.f32 0x00000000 0x43FA0000]⟩,
   ⟨0x30B0, 1, 0x03, 1, .f32, .RWC, [.num 1028443341], [.f32 0x00000000 0x3E4CCCCD]⟩,
   ⟨0x30B0, 1, 0x04, 1, .f32, .RO, [.num 0], []⟩,
   ⟨0x3100, 1, 0x01, 1, .f32, .RW, [.num 0], [.f32 0xBF99999A 0x3F99999A]⟩,
   ⟨0x3100, 1, 0x02, 1, .f32, .RW, [.num 0], [.f32 0xBF800000 0x3F800000]⟩,
   ⟨0x3100, 1, 0x03, 1, .f32, .RW, [.num 1065353216], [.f32 0x3F4CCCCD 0x3F99999A]⟩,
   ⟨0x3100, 1, 0x04, 1, .f32, .RW, [.num 1065353216], [.f32 0x3F733333 0x3F866666]⟩,
   ⟨0x3100, 1, 0x05, 1, .f32, .RW, [.num 1065353216], [.f32 0x3F000000 0x3FC00000]⟩,
   ⟨0x3100, 1, 0x06, 1, .f32, .RW, [.num 1065353216], [.f32 0xBF99999A 0x3F99999A]⟩,
   ⟨0x3100, 1, 0x07, 1, .f32, .RW, [.num 3212836864], [.f32 0xBF99999A 0x3F99999A]⟩,
   ⟨0x3100, 1, 0x08, 1, .f32, .RW, [.num 1058642330], [.f32 0xBF800000 0x3F800000]⟩,
   ⟨0x3100, 1, 0x09, 1, .f32, .RW, [.num 3206125978], [.f32 0xBF800000 0x3F800000]⟩,
   ⟨0x3100, 1, 0x0A, 1, .f32, .RW, [.num 1065353216], [.f32 0x3F000000 0x3FC00000]⟩,
   ⟨0x3110, 1, 0x01, 1, .f32, .RWC, [.num 0], [.f32 0x00000000 0x42C80000]⟩,
   ⟨0x3110, 1, 0x03, 1, .f32, .RWC, [.num 0], [.f32 0x00000000 0x42C80000]⟩,
   ⟨0x3110, 1, 0x05, 1, .f32, .RWC, [.num 0], [.f32 0x00000000 0x42C80000]⟩,
   ⟨0x3110, 1, 0x07, 1, .f32, .RWC, [.num 0], [.f32 0x00000000 0x42C80000]⟩,
   ⟨0x3110, 1, 0x09, 1, .f32, .RWC, [.num 0], [.f32 0x00000000 0x42C80000]⟩,
   ⟨0x3110, 1, 0x0B, 1, .f32, .RWC, [.num 0], [.f32 0x00000000 0x42C80000]⟩,
   ⟨0x3110, 1, 0x0D, 1, .f32, .RWC, [.num 0], [.f32 0x00000000 0x42C80000]⟩,
   ⟨0x3110, 1, 0x0F, 1, .f32, .RWC, [.num 0], [.f32 0x00000000 0x42C80000]⟩,
   ⟨0x3110, 1, 0x11, 1, .f32, .RWC, [.num 0], [.f32 0x00000000 0x42C80000]⟩,
   ⟨0x3110, 1, 0x13, 1, .f32, .RWC, [.num 0], [.f32 0x00000000 0x42C80000]⟩,
   ⟨0x3110, 1, 0x15, 1, .f32, .RWC, [.num 0], [.f32 0x00000000 0x42C80000]⟩,
   ⟨0x3110, 1, 0x17, 1, .f32, .RWC, [.num 0], [.f32 0x00000000 0x42C80000]⟩,
   ⟨0x3110, 1, 0x02, 1, .f32, .RWC, [.num 0], [.f32 0x00000000 0x42C80000]⟩,
   ⟨0x3110, 1, 0x04, 1, .f32, .RWC, [.num 0], [.f32 0x00000000 0x42C80000]⟩,
   ⟨0x3110, 1, 0x06, 1, .f32, .RWC, [.num 0], [.f32 0x00000000 0x42C80000]⟩,
   ⟨0x3110, 1, 0x08, 1, .f32, .RWC, [.num 0], [.f32 0x00000000 0x42C80000]⟩,
   ⟨0x3110, 1, 0x0A, 1, .f32, .RWC, [.num 0], [.f32 0x00000000 0x42C80000]⟩,
   ⟨0x3110, 1, 0x0C, 1, .f32, .RWC, [.num 0], [.f32 0x00000000 0x42C80000]⟩,
   ⟨0x3110, 1, 0x0E, 1, .f32, .RWC, [.num 0], [.f32 0x00000000 0x42C80000]⟩,
   ⟨0x3110, 1, 0x10, 1, .f32, .RWC, [.num 0], [.f32 0x00000000 0x42C80000]⟩,
   ⟨0x3110, 1, 0x12, 1, .f32, .RWC, [.num 0], [.f32 0x00000000 0x42C80000]⟩,
   ⟨0x3110, 1, 0x14, 1, .f32, .RWC, [.num 0], [.f32 0x00000000 0x42C80000]⟩,
   ⟨0x3110, 1, 0x16, 1, .f32, .RWC, [.num 0], [.f32 0x00000000 0x42C80000]⟩,
   ⟨0x3110, 1, 0x18, 1, .f32, .RWC, [.num 0], [.f32 0x00000000 0x42C80000]⟩,
   ⟨0x3111, 1, 0x01, 12, .f32, .RO, [.num 0], []⟩,
   ⟨0x3111, 1, 0x0D, 1, .u16, .RO, [.num 0], []⟩,
   ⟨0x3180, 3, 0x01, 1, .bool, .RWC, [.num 0], [.int 0 1]⟩]

/-- Rows of chapter 06, continued. -/
def rows06d : List OdRow :=
  [⟨0x3180, 3, 0x02, 1, .f32, .RWC, [.num 1036831949], [.f32 0x3A83126F 0x41200000]⟩,
   ⟨0x3180, 3, 0x03, 32, .f32, .RWC, [.num 0, .num 1036831949, .num 1045220557, .num 1050253722, .num 1053609165, .num 1056964608, .num 1058642330, .num 1060320051, .num 1061997773, .num 1063675494, .num 1065353216, .num 1066192077, .num 1067030938, .num 1067869798, .num 1068708659, .num 1069547520, .num 1070386381, .num 1071225242, .num 1072064102, .num 1072902963, .num 1073741824, .num 1074161254, .num 1074580685, .num 1075000115, .num 1075419546, .num 1075838976, .num 1076258406, .num 1076677837, .num 1077097267, .num 1077516698, .num 1077936128, .num 1078355558], [.f32 0x00000000 0x447A0000]⟩,
   ⟨0x3180, 3, 0x23, 32, .f32, .RWC, [.num 1065353216], [.f32 0x00000000 0x41200000]⟩,
   ⟨0x3180, 3, 0x43, 1, .u8, .RO, [.num 0], []⟩,
   ⟨0x3180, 3, 0x44, 1, .u8, .RO, [.num 0], []⟩,
   ⟨0x3180, 3, 0x45, 1, .f32, .RO, [.num 1065353216], []⟩,
   ⟨0x3200, 1, 0x01, 1, .bool, .RWC, [.num 0], [.int 0 1]⟩,
   ⟨0x3200, 1, 0x02, 1, .u8, .RWC, [.num 0], [.int 0 1]⟩,
   ⟨0x3200, 1, 0x03, 1, .u8, .RWC, [.num 200], [.int 0 200]⟩,
   ⟨0x3200, 1, 0x04, 1, .f32, .RWC, [.num 1092616192], [.f32 0x3DCCCCCD 0x44160000]⟩,
   ⟨0x3200, 1, 0x05, 1, .f32, .RWC, [.num 1056964608], [.f32 0x3DCCCCCD 0x40000000]⟩,
   ⟨0x3200, 1, 0x06, 1, .f32, .RWC, [.num 1092616192], [.f32 0x3DCCCCCD 0x42700000]⟩,
   ⟨0x3200, 1, 0x07, 1, .f32, .RWC, [.num 1092616192], [.f32 0x3F800000 0x41F00000]⟩,
   ⟨0x3200, 1, 0x08, 1, .f32, .RWC, [.num 1028443341], [.f32 0x3C23D70A 0x3E4CCCCD]⟩,
   ⟨0x3200, 1, 0x09, 1, .f32, .RWC, [.num 1036831949], [.f32 0x3C23D70A 0x3F800000]⟩,
   ⟨0x3200, 1, 0x0A, 1, .u16, .RWC, [.num 100], [.int 20 5000]⟩,
   ⟨0x3200, 1, 0x0B, 1, .f32, .RWC, [.num 1045220557], [.f32 0x3C23D70A 0x3F800000]⟩,
   ⟨0x3200, 1, 0x0C, 1, .u16, .RWC, [.num 2000], [.int 100 60000]⟩,
   ⟨0x3200, 1, 0x0D, 1, .f32, .RWC, [.num 1056964608], [.f32 0x3D4CCCCD 0x41200000]⟩,
   ⟨0x3200, 1, 0x0E, 1, .bool, .RW, [.num 0], [.int 0 1]⟩,
   ⟨0x3200, 1, 0x0F, 1, .u8, .RO, [.num 1], []⟩,
   ⟨0x3200, 1, 0x10, 1, .u8, .RO, [.num 0], []⟩,
   ⟨0x3200, 1, 0x11, 1, .bool, .RO, [.num 0], []⟩,
   ⟨0x3200, 1, 0x12, 1, .bool, .RO, [.num 0], []⟩,
   ⟨0x3200, 1, 0x13, 1, .u16, .RO, [.num 0], []⟩]

/-- Rows of chapter 07. -/
def rows07a : List OdRow :=
  [⟨0x3400, 1, 0x01, 1, .u8, .RWC, [.num 12], [.int 4 16]⟩,
   ⟨0x3400, 1, 0x02, 1, .u8, .RWC, [.num 0], [.int 0 2]⟩,
   ⟨0x3400, 1, 0x03, 1, .f32, .RWC, [.num 3266576384], [.f32 0xC3340000 0x43340000]⟩,
   ⟨0x3400, 1, 0x04, 1, .f32, .RWC, [.num 1084227584], [.f32 0x3DCCCCCD 0x42480000]⟩,
   ⟨0x3400, 1, 0x05, 1, .f32, .RWC, [.num 1065353216], [.f32 0x3F000000 0x3F99999A]⟩,
   ⟨0x3400, 1, 0x06, 1, .f32, .RWC, [.num 1036831949], [.f32 0x3C23D70A 0x3F800000]⟩,
   ⟨0x3400, 1, 0x07, 1, .bool, .RWC, [.num 1], [.int 0 1]⟩,
   ⟨0x3400, 1, 0x08, 1, .f32, .RWC, [.num 1084227584], [.f32 0x3F000000 0x41A00000]⟩,
   ⟨0x3400, 1, 0x09, 1, .f32, .RWC, [.num 1028443341], [.f32 0x3BA3D70A 0x3F800000]⟩,
   ⟨0x3400, 1, 0x0A, 1, .f32, .RWC, [.num 1065353216], [.f32 0x00000000 0x41200000]⟩,
   ⟨0x3400, 1, 0x0B, 1, .u16, .RWC, [.num 250], [.int 1 10000]⟩,
   ⟨0x3401, 1, 0x01, 8, .f32, .RWC, [.num 0, .num 1050253722, .num 1073741824, .num 1092616192], [.f32 0x00000000 0x42700000]⟩,
   ⟨0x3401, 1, 0x09, 8, .f32, .RWC, [.num 1067030938, .num 1067030938, .num 1065772646, .num 1065353216], [.f32 0x3F800000 0x40000000]⟩,
   ⟨0x3401, 1, 0x11, 1, .u8, .RO, [.num 1], []⟩,
   ⟨0x3410, 1, 0x01, 1, .bool, .RO, [.num 0], []⟩,
   ⟨0x3410, 1, 0x02, 1, .f32, .RO, [.num 0], []⟩,
   ⟨0x3410, 1, 0x03, 1, .f32, .RO, [.num 0], []⟩,
   ⟨0x3410, 1, 0x04, 1, .f32, .RO, [.num 0], []⟩,
   ⟨0x3410, 1, 0x05, 1, .u8, .RO, [.num 12], []⟩,
   ⟨0x3410, 1, 0x06, 1, .u32, .RO, [.num 0], []⟩,
   ⟨0x3410, 1, 0x07, 1, .u8, .RO, [.num 0], []⟩,
   ⟨0x3410, 1, 0x08, 1, .f32, .RO, [.num 0], []⟩,
   ⟨0x3420, 1, 0x01, 1, .f32, .RWC, [.num 1000593162], [.f32 0x3A03126F 0x3D4CCCCD]⟩,
   ⟨0x3420, 1, 0x02, 1, .f32, .RWC, [.num 1106247680], [.f32 0x40A00000 0x42B40000]⟩,
   ⟨0x3420, 1, 0x03, 1, .f32, .RWC, [.num 1036831949], [.f32 0x00000000 0x40000000]⟩,
   ⟨0x3420, 1, 0x04, 1, .f32, .RO, [.num 0], []⟩,
   ⟨0x3420, 1, 0x05, 1, .u8, .RO, [.num 0], []⟩,
   ⟨0x3420, 1, 0x06, 1, .f32, .RWC, [.num 1092616192], [.f32 0x40000000 0x42B40000]⟩,
   ⟨0x3430, 1, 0x01, 1, .u8, .RWC, [.num 0], [.int 0 2]⟩,
   ⟨0x3430, 1, 0x02, 1, .f32, .RWC, [.num 1073741824], [.f32 0x00000000 0x40C00000]⟩,
   ⟨0x3430, 1, 0x03, 1, .f32, .RWC, [.num 1053609165], [.f32 0x00000000 0x3F800000]⟩,
   ⟨0x3430, 1, 0x04, 1, .f32, .RO, [.num 0], []⟩,
   ⟨0x3500, 1, 0x01, 1, .f32, .RWC, [.num 1062836634], [.f32 0x3F000000 0x3F733333]⟩,
   ⟨0x3500, 1, 0x02, 8, .f32, .RWC, [.num 0, .num 1048576000, .num 1069547520], [.f32 0x00000000 0x42700000]⟩,
   ⟨0x3500, 1, 0x0A, 8, .f32, .RWC, [.num 0, .num 0, .num 1062836634], [.f32 0x00000000 0x3F733333]⟩,
   ⟨0x3500, 1, 0x12, 1, .u8, .RO, [.num 1], []⟩,
   ⟨0x3501, 1, 0x01, 1, .f32, .RWC, [.num 1066192077], [.f32 0x3F866666 0x3F99999A]⟩,
   ⟨0x3501, 1, 0x02, 8, .f32, .RWC, [.num 0, .num 1036831949, .num 1036831949, .num 1065353216], [.f32 0x00000000 0x42700000]⟩,
   ⟨0x3501, 1, 0x0A, 8, .f32, .RWC, [.num 1067869798, .num 1067869798, .num 1067030938, .num 1067030938, .num 1066192077], [.f32 0x3F800000 0x3FA66666]⟩,
   ⟨0x3501, 1, 0x12, 1, .u8, .RO, [.num 1], []⟩]

/-- Rows of chapter 07, continued. -/
def rows07b : List OdRow :=
  [⟨0x3502, 1, 0x01, 1, .f32, .RWC, [.num 1017370378], [.f32 0x3BA3D70A 0x3F800000]⟩,
   ⟨0x3502, 1, 0x02, 1, .u8, .RO, [.num 0], []⟩,
   ⟨0x3502, 1, 0x03, 1, .f32, .RO, [.num 0], []⟩,
   ⟨0x3502, 1, 0x04, 1, .f32, .RO, [.num 0], []⟩,
   ⟨0x3510, 1, 0x01, 1, .f32, .RWC, [.num 1074580685], [.f32 0x3F8CCCCD 0x40400000]⟩,
   ⟨0x3510, 1, 0x02, 1, .f32, .RWC, [.num 1074580685], [.f32 0x3F000000 0x40400000]⟩,
   ⟨0x3510, 1, 0x03, 1, .f32, .RWC, [.num 1067450368], [.f32 0x3F800000 0x3FCCCCCD]⟩,
   ⟨0x3510, 1, 0x04, 1, .f32, .RWC, [.num 1058642330], [.f32 0x00000000 0x3F800000]⟩,
   ⟨0x3510, 1, 0x05, 1, .u16, .RWC, [.num 10], [.int 0 1000]⟩,
   ⟨0x3510, 1, 0x06, 1, .f32, .RWC, [.num 1064346583], [.f32 0x3F4CCCCD 0x3F800000]⟩,
   ⟨0x3510, 1, 0x07, 1, .f32, .RWC, [.num 1065856532], [.f32 0x3F800000 0x3F99999A]⟩,
   ⟨0x3510, 1, 0x08, 1, .u16, .RWC, [.num 100], [.int 0 10000]⟩,
   ⟨0x3510, 1, 0x09, 1, .f32, .RWC, [.num 0], [.f32 0x00000000 0x00000000, .f32 0x40800000 0x41A00000]⟩,
   ⟨0x3510, 1, 0x0A, 1, .u16, .RWC, [.num 500], [.int 0 10000]⟩,
   ⟨0x3510, 1, 0x0B, 1, .u8, .RWC, [.num 0], [.int 0 1]⟩,
   ⟨0x3600, 3, 0x01, 1, .u8, .RWC, [.num 2], [.int 1 8]⟩,
   ⟨0x3600, 3, 0x02, 1, .u16, .RWC, [.num 500], [.int 16 65535]⟩,
   ⟨0x3600, 3, 0x03, 1, .f32, .RWC, [.num 730643660], [.f32 0x00000000 0x3A83126F]⟩,
   ⟨0x3600, 3, 0x04, 1, .f32, .RWC, [.num 953267991], [.f32 0x358637BD 0x3F800000]⟩,
   ⟨0x3600, 3, 0x05, 1, .f32, .RWC, [.num 1075838976, .num 1070386381, .num 1070386381], [.f32 0x3F000000 0x41200000]⟩,
   ⟨0x3600, 3, 0x06, 1, .u8, .RWC, [.num 2], [.int 1 16]⟩,
   ⟨0x3610, 1, 0x01, 1, .bool, .RWC, [.num 1], [.int 0 1]⟩,
   ⟨0x3610, 1, 0x02, 1, .u16, .RWC, [.num 100], [.int 0 200]⟩,
   ⟨0x3610, 1, 0x03, 1, .f32, .RWC, [.num 1017370378], [.f32 0x3B03126F 0x3F800000]⟩,
   ⟨0x3610, 1, 0x04, 1, .f32, .RWC, [.num 1000593162], [.f32 0x00000000 0x3E4CCCCD]⟩,
   ⟨0x3610, 1, 0x05, 1, .f32, .RWC, [.num 1036831949], [.f32 0x3C23D70A 0x3F000000]⟩,
   ⟨0x3610, 1, 0x06, 1, .u16, .RWC, [.num 20], [.int 0 100]⟩,
   ⟨0x3610, 1, 0x07, 1, .u8, .RO, [.num 0], []⟩,
   ⟨0x3610, 1, 0x08, 1, .u16, .RO, [.num 0], []⟩,
   ⟨0x3610, 1, 0x09, 1, .f32, .RO, [.num 0], []⟩,
   ⟨0x3620, 1, 0x01, 1, .u32, .RO, [.num 0], []⟩,
   ⟨0x3620, 1, 0x02, 1, .u32, .RO, [.num 0], []⟩,
   ⟨0x3620, 1, 0x03, 1, .u16, .RO, [.num 0], []⟩,
   ⟨0x3620, 1, 0x04, 1, .u32, .RO, [.num 0], []⟩]

/-- Rows of chapter 08. -/
def rows08a : List OdRow :=
  [⟨0x4000, 1, 0x01, 1, .u16, .RWC, [.num 625], [.int 0 12500]⟩,
   ⟨0x4000, 1, 0x02, 1, .u16, .RWC, [.num 100], [.int 20 10000]⟩,
   ⟨0x4000, 1, 0x03, 1, .u8, .RO, [.num 0], []⟩,
   ⟨0x4000, 1, 0x04, 1, .u16, .RO, [.num 0], []⟩,
   ⟨0x4000, 1, 0x05, 1, .u32, .RO, [.num 0], []⟩,
   ⟨0x4000, 1, 0x06, 1, .u32, .RO, [.num 0], []⟩,
   ⟨0x4000, 1, 0x07, 1, .u8, .RO, [.num 0], []⟩,
   ⟨0x4000, 1, 0x08, 1, .bool, .RWC, [.num 1], [.int 0 1]⟩,
   ⟨0x4000, 1, 0x09, 1, .u32, .RO, [.num 0], []⟩,
   ⟨0x4001, 8, 0x01, 1, .u32, .RWC, [.num 250000], [.int 15626 1250000]⟩,
   ⟨0x4001, 8, 0x02, 1, .i32, .RWC, [.num 0], [.int (-625000) 625000]⟩,
   ⟨0x4001, 8, 0x03, 1, .bool, .RWC, [.num 0], [.int 0 1]⟩,
   ⟨0x4001, 8, 0x04, 1, .u32, .RO, [.num 0], []⟩,
   ⟨0x4001, 8, 0x05, 1, .i32, .RO, [.num 0], []⟩,
   ⟨0x4010, 24, 0x01, 1, .u8, .RWC, [.num 0], [.int 0 2]⟩,
   ⟨0x4010, 24, 0x02, 1, .u8, .RWC, [.num 0], [.int 0 7]⟩,
   ⟨0x4010, 24, 0x03, 1, .u8, .RWC, [.num 0], [.int 0 7]⟩,
   ⟨0x4010, 24, 0x04, 1, .u8, .RWC, [.num 0], [.int 0 2]⟩,
   ⟨0x4010, 24, 0x05, 1, .u8, .RWC, [.num 0], [.int 0 3]⟩,
   ⟨0x4010, 24, 0x06, 1, .u16, .RWC, [.num 1250], [.int 125 12500]⟩,
   ⟨0x4010, 24, 0x07, 1, .u8, .RWC, [.num 3], [.int 0 3]⟩,
   ⟨0x4010, 24, 0x08, 1, .u8, .RWC, [.num 255], [.int 0 15, .int 255 255]⟩,
   ⟨0x4010, 24, 0x09, 1, .u32, .RO, [.num 0], []⟩,
   ⟨0x40F0, 8, 0x01, 1, .u8, .RWC, [.num 0], [.int 0 2]⟩,
   ⟨0x40F0, 8, 0x02, 1, .u8, .RWC, [.num 0], [.int 0 47]⟩,
   ⟨0x40F0, 8, 0x03, 1, .u32, .RWC, [.num 62500], [.int 1250 1250000]⟩,
   ⟨0x40F0, 8, 0x04, 1, .f32, .RW, [.num 0], [.f32 0x00000000 0x3F800000]⟩,
   ⟨0x4100, 1, 0x01, 1, .u16, .RWC, [.num 1875], [.int 625 6250]⟩,
   ⟨0x4100, 1, 0x02, 1, .u16, .RWC, [.num 10], [.int 0 10]⟩,
   ⟨0x4100, 1, 0x03, 1, .u32, .RO, [.num 0], []⟩,
   ⟨0x4100, 1, 0x04, 1, .f32, .RWC, [.num 1056964608], [.f32 0x00000000 0x41200000]⟩,
   ⟨0x4100, 1, 0x05, 1, .f32, .RWC, [.num 1036831949], [.f32 0x00000000 0x3E99999A]⟩,
   ⟨0x4100, 1, 0x06, 1, .f32, .RO, [.num 0], []⟩,
   ⟨0x4200, 1, 0x01, 1, .u16, .RWC, [.num 2500], [.int 1875 12500]⟩,
   ⟨0x4200, 1, 0x02, 1, .f32, .RWC, [.num 1017370378], [.f32 0x00000000 0x3F000000]⟩,
   ⟨0x4200, 1, 0x03, 1, .u8, .RWC, [.num 4], [.int 0 32]⟩,
   ⟨0x4200, 1, 0x04, 1, .f32, .RWC, [.num 1008981770], [.f32 0x00000000 0x3E4CCCCD]⟩,
   ⟨0x4200, 1, 0x05, 1, .u16, .RWC, [.num 512], [.int 1 512]⟩,
   ⟨0x4200, 1, 0x06, 1, .u16, .RWC, [.num 0], [.int 0 256]⟩,
   ⟨0x4200, 1, 0x07, 1, .u8, .RWC, [.num 8], [.int 1 8]⟩]

/-- Rows of chapter 08, continued. -/
def rows08b : List OdRow :=
  [⟨0x4200, 1, 0x08, 1, .u32, .RO, [.num 0], []⟩,
   ⟨0x4210, 6, 0x01, 1, .i16, .RO, [.num 0], []⟩,
   ⟨0x4210, 6, 0x02, 1, .u16, .RO, [.num 0], []⟩,
   ⟨0x4210, 6, 0x03, 1, .u8, .RO, [.num 0], []⟩,
   ⟨0x4210, 6, 0x04, 1, .f32, .RO, [.num 0], []⟩,
   ⟨0x4210, 6, 0x05, 1, .u32, .RO, [.num 0], []⟩,
   ⟨0x4210, 6, 0x06, 1, .u32, .RO, [.num 0], []⟩,
   ⟨0x4220, 6, 0x01, 8, .u32, .RW, [.num 0], []⟩,
   ⟨0x4230, 6, 0x01, 8, .u32, .RO, [.num 0], []⟩,
   ⟨0x5100, 4, 0x01, 1, .bool, .RWC, [.num 1], [.int 0 1]⟩,
   ⟨0x5100, 4, 0x02, 1, .u8, .RWC, [.num 0], [.int 0 1]⟩,
   ⟨0x5100, 4, 0x03, 1, .u8, .RWC, [.num 8], [.int 0 255]⟩,
   ⟨0x5100, 4, 0x04, 1, .u8, .RWC, [.num 0], [.int 0 156]⟩,
   ⟨0x5100, 4, 0x05, 1, .u32, .RWC, [.num 16777215], [.int 0 16777215]⟩,
   ⟨0x5100, 4, 0x06, 1, .u8, .RWC, [.num 0], [.int 0 1]⟩,
   ⟨0x5100, 4, 0x07, 1, .bool, .RO, [.num 0], []⟩,
   ⟨0x5110, 1, 0x01, 1, .u16, .RO, [.num 0], []⟩,
   ⟨0x5110, 1, 0x02, 1, .u16, .WO, [.num 0], [.int 0 65535]⟩,
   ⟨0x5110, 1, 0x03, 1, .u8, .RO, [.num 255], []⟩,
   ⟨0x5110, 1, 0x04, 1, .tai80, .RO, [.num 0], []⟩,
   ⟨0x5110, 1, 0x05, 1, .u32, .RO, [.num 0], []⟩,
   ⟨0x5110, 1, 0x06, 1, .u32, .RO, [.num 0], []⟩]

/-- Rows of chapter 09. -/
def rows09a : List OdRow :=
  [⟨0x4400, 18, 0x01, 1, .bool, .RWC, [.num 0], [.int 0 1]⟩,
   ⟨0x4400, 18, 0x02, 1, .u8, .RWC, [.num 1], [.int 0 2]⟩,
   ⟨0x4400, 18, 0x03, 1, .u8, .RWC, [.num 160], [.int 64 255]⟩,
   ⟨0x4400, 18, 0x04, 1, .u8, .RWC, [.num 100], [.int 32 255]⟩,
   ⟨0x4400, 18, 0x05, 1, .i16, .RWC, [.num 0], [.int (-1000) 1000]⟩,
   ⟨0x4400, 18, 0x06, 1, .u8, .RW, [.num 0], [.int 0 2]⟩,
   ⟨0x4400, 18, 0x07, 1, .u8, .RO, [.num 0], []⟩,
   ⟨0x4400, 18, 0x08, 1, .u8, .RO, [.num 0], []⟩,
   ⟨0x4400, 18, 0x09, 1, .u16, .RO, [.num 4962], []⟩,
   ⟨0x4400, 18, 0x0A, 1, .u16, .RO, [.num 0], []⟩,
   ⟨0x4400, 18, 0x0B, 1, .u16, .RO, [.num 0], []⟩,
   ⟨0x4400, 18, 0x0C, 1, .u32, .RO, [.num 0], []⟩,
   ⟨0x4400, 18, 0x0D, 1, .u32, .RO, [.num 0], []⟩,
   ⟨0x4400, 18, 0x0E, 1, .u32, .RO, [.num 0], []⟩,
   ⟨0x4400, 18, 0x0F, 1, .u32, .RO, [.num 0], []⟩,
   ⟨0x4400, 18, 0x10, 1, .u16, .RO, [.num 0], []⟩,
   ⟨0x4400, 18, 0x11, 1, .u16, .RO, [.num 0], []⟩,
   ⟨0x4400, 18, 0x12, 1, .u16, .RO, [.num 0], []⟩,
   ⟨0x4440, 1, 0x01, 1, .u16, .RWC, [.num 3125], [.int 1250 62500]⟩,
   ⟨0x4440, 1, 0x02, 1, .u8, .RWC, [.num 1], [.int 1 8]⟩,
   ⟨0x4440, 1, 0x03, 1, .u16, .RWC, [.num 16], [.int 1 1000]⟩,
   ⟨0x4440, 1, 0x04, 1, .u16, .RO, [.num 0], []⟩,
   ⟨0x4440, 1, 0x05, 1, .u16, .RO, [.num 0], []⟩,
   ⟨0x4440, 1, 0x06, 1, .u32, .RO, [.num 0], []⟩,
   ⟨0x4440, 1, 0x07, 1, .u16, .RO, [.num 0], []⟩,
   ⟨0x4800, 16, 0x01, 1, .u8, .RWC, [.num 255], [.int 0 15, .int 255 255]⟩,
   ⟨0x4800, 16, 0x02, 1, .u8, .RWC, [.num 0], [.int 0 2]⟩,
   ⟨0x4800, 16, 0x03, 1, .u8, .RWC, [.num 0], [.int 0 63]⟩,
   ⟨0x4800, 16, 0x04, 1, .u8, .RWC, [.num 0], [.int 0 255]⟩,
   ⟨0x4800, 16, 0x05, 1, .u32, .RWC, [.num 0], []⟩,
   ⟨0x4800, 16, 0x06, 1, .u8, .RWC, [.num 3], [.int 1 8]⟩,
   ⟨0x4800, 16, 0x07, 1, .u8, .RWC, [.num 0], [.int 0 1]⟩,
   ⟨0x4800, 16, 0x08, 1, .u16, .RWC, [.num 1250], [.int 625 12500]⟩,
   ⟨0x4800, 16, 0x09, 1, .u8, .RWC, [.num 4], [.int 0 16]⟩,
   ⟨0x4800, 16, 0x0A, 1, .u8, .RO, [.num 0], []⟩,
   ⟨0x4800, 16, 0x0B, 1, .u32, .RO, [.num 0], []⟩,
   ⟨0x4800, 16, 0x0C, 1, .u16, .RO, [.num 0], []⟩,
   ⟨0x4800, 16, 0x0D, 1, .u8, .RO, [.num 0], []⟩,
   ⟨0x4800, 16, 0x0E, 1, .u32, .RO, [.num 0], []⟩,
   ⟨0x4800, 16, 0x0F, 1, .u32, .RO, [.num 0], []⟩]

/-- Rows of chapter 09, continued. -/
def rows09b : List OdRow :=
  [⟨0x4800, 16, 0x10, 1, .u8, .RO, [.num 2], []⟩,
   ⟨0x4800, 16, 0x11, 1, .u32, .RO, [.num 0], []⟩]

/-- Rows of chapter 10. -/
def rows10a : List OdRow :=
  [⟨0x5001, 6, 0x01, 1, .u8, .RWC, [.num 0], [.int 0 4]⟩,
   ⟨0x5001, 6, 0x02, 1, .u8, .RWC, [.num 0], [.int 0 1]⟩,
   ⟨0x5001, 6, 0x03, 1, .f32, .RWC, [.num 1093664768], [.f32 0x41000000 0x41900000]⟩,
   ⟨0x5001, 6, 0x04, 1, .f32, .RWC, [.num 3223322624], [.f32 0xC1600000 0xC0000000]⟩,
   ⟨0x5001, 6, 0x05, 1, .f32, .RWC, [.num 1088421888], [.f32 0x40400000 0x41200000]⟩,
   ⟨0x5001, 6, 0x06, 1, .f32, .RWC, [.num 1073741824], [.f32 0x3F000000 0x41000000]⟩,
   ⟨0x5001, 6, 0x07, 1, .bool, .RWC, [.num 1], [.int 0 1]⟩,
   ⟨0x5001, 6, 0x08, 1, .f32, .RWC, [.num 1077936128], [.f32 0x3F800000 0x41400000]⟩,
   ⟨0x5001, 6, 0x09, 1, .u16, .RWC, [.num 1000], [.int 10 10000]⟩,
   ⟨0x5001, 6, 0x0A, 1, .u8, .RWC, [.num 3], [.int 0 15]⟩,
   ⟨0x5001, 6, 0x0B, 1, .u8, .RW, [.num 0], [.int 0 2]⟩,
   ⟨0x5001, 6, 0x0C, 1, .u16, .RWC, [.num 1000], [.int 500 50000]⟩,
   ⟨0x5001, 6, 0x0D, 1, .f32, .RW, [.num 0], [.f32 0x00000000 0x3F800000]⟩,
   ⟨0x5001, 6, 0x0E, 1, .f32, .RWC, [.num 1065353216], [.f32 0x3F000000 0x40A00000]⟩,
   ⟨0x5001, 6, 0x0F, 1, .u16, .RWC, [.num 1000], [.int 50 10000]⟩,
   ⟨0x5001, 6, 0x10, 1, .bool, .RWC, [.num 1], [.int 0 1]⟩,
   ⟨0x5001, 6, 0x11, 1, .u8, .RWC, [.num 1], [.int 0 1]⟩,
   ⟨0x5001, 6, 0x12, 1, .u16, .RWC, [.num 5000], [.int 100 60000]⟩,
   ⟨0x5001, 6, 0x13, 1, .u8, .RO, [.num 0], []⟩,
   ⟨0x5001, 6, 0x14, 1, .u8, .RO, [.num 0], []⟩,
   ⟨0x5001, 6, 0x15, 1, .u8, .RO, [.num 3], []⟩,
   ⟨0x5001, 6, 0x16, 1, .u32, .RO, [.num 0], []⟩,
   ⟨0x5001, 6, 0x17, 1, .f32, .RO, [.num 0], []⟩,
   ⟨0x5001, 6, 0x18, 1, .f32, .RO, [.num 0], []⟩,
   ⟨0x5001, 6, 0x19, 1, .f32, .RO, [.num 0], []⟩,
   ⟨0x5001, 6, 0x1A, 1, .u32, .RO, [.num 0], []⟩,
   ⟨0x5001, 6, 0x1B, 1, .u32, .RO, [.num 0], []⟩,
   ⟨0x5010, 1, 0x01, 1, .u8, .WO, [.num 0], [.int 0 63]⟩,
   ⟨0x5010, 1, 0x02, 1, .u32, .RO, [.num 0], []⟩,
   ⟨0x5010, 1, 0x03, 1, .u8, .RO, [.num 0], []⟩,
   ⟨0x5010, 1, 0x04, 1, .u16, .RO, [.num 0], []⟩]

/-- Rows of chapter 11. -/
def rows11a : List OdRow :=
  [⟨0x6000, 1, 0x01, 1, .u16, .RO, [.num 10], []⟩,
   ⟨0x6000, 1, 0x02, 1, .u16, .RO, [.num 11], []⟩,
   ⟨0x6000, 1, 0x03, 1, .u16, .RO, [.num 0], []⟩,
   ⟨0x6000, 1, 0x04, 1, .u8, .RO, [.num 255], []⟩,
   ⟨0x6000, 1, 0x06, 1, .u8, .RO, [.num 0], []⟩,
   ⟨0x6000, 1, 0x07, 1, .u8, .RO, [.num 0], []⟩,
   ⟨0x6001, 1, 0x01, 1, .u8, .RW, [.num 0], [.int 0 5]⟩,
   ⟨0x6001, 1, 0x02, 1, .u16, .RWC, [.num 24], [.int 0 720]⟩,
   ⟨0x6001, 1, 0x03, 1, .u8, .RWC, [.num 3], [.int 1 10]⟩,
   ⟨0x6002, 1, 0x01, 1, .bool, .RWC, [.num 1], [.int 0 1]⟩,
   ⟨0x6002, 1, 0x02, 1, .f32, .RWC, [.num 1028443341], [.f32 0x3BA3D70A 0x3F000000]⟩,
   ⟨0x6002, 1, 0x03, 1, .u16, .RWC, [.num 1000], [.int 16 65535]⟩,
   ⟨0x6002, 1, 0x04, 1, .u8, .RO, [.num 0], []⟩,
   ⟨0x6010, 1, 0x01, 1, .u32, .RO, [.num 0], []⟩,
   ⟨0x6010, 1, 0x02, 1, .u32, .RO, [.num 0], []⟩,
   ⟨0x6010, 1, 0x03, 1, .u32, .RO, [.num 0], []⟩,
   ⟨0x6010, 1, 0x04, 1, .u32, .RO, [.num 0], []⟩,
   ⟨0x6010, 1, 0x05, 1, .u32, .RO, [.num 0], []⟩,
   ⟨0x6010, 1, 0x06, 1, .u32, .RO, [.num 0], []⟩,
   ⟨0x6010, 1, 0x07, 1, .u32, .RO, [.num 0], []⟩,
   ⟨0x6010, 1, 0x08, 1, .u32, .RO, [.num 0], []⟩,
   ⟨0x6010, 1, 0x09, 1, .u16, .RO, [.num 0], []⟩,
   ⟨0x6011, 1, 0x01, 1, .u16, .RO, [.num 0], []⟩,
   ⟨0x6011, 1, 0x02, 1, .u32, .RO, [.num 0], []⟩,
   ⟨0x6020, 1, 0x01, 1, .u8, .RO, [.num 0], []⟩,
   ⟨0x6020, 1, 0x02, 1, .u8, .RO, [.num 0], []⟩,
   ⟨0x6020, 1, 0x03, 1, .u16, .RO, [.num 0], []⟩,
   ⟨0x6020, 1, 0x04, 1, .u32, .RO, [.num 0], []⟩,
   ⟨0x6020, 1, 0x05, 1, .u32, .RO, [.num 0], []⟩,
   ⟨0x6100, 1, 0x01, 1, .u8, .RWC, [.num 0], [.int 0 2]⟩,
   ⟨0x6100, 1, 0x02, 1, .u8, .RWC, [.num 5], [.int 3 20]⟩,
   ⟨0x6100, 1, 0x03, 1, .u8, .RO, [.num 0], []⟩,
   ⟨0x6100, 1, 0x04, 1, .bool, .RWC, [.num 0], [.int 0 1]⟩,
   ⟨0x6100, 1, 0x05, 1, .u8, .RWC, [.num 64], [.int 0 255]⟩,
   ⟨0x6100, 1, 0x06, 1, .f32, .RWC, [.num 1017370378], [.f32 0x3A83126F 0x3E4CCCCD]⟩,
   ⟨0x6100, 1, 0x07, 1, .f32, .RWC, [.num 1036831949], [.f32 0x3C23D70A 0x40000000]⟩,
   ⟨0x6100, 1, 0x08, 1, .u16, .RWC, [.num 64], [.int 16 512]⟩,
   ⟨0x6100, 1, 0x09, 1, .u32, .RWC, [.num 0], []⟩,
   ⟨0x6100, 1, 0x0A, 1, .f32, .RWC, [.num 1008981770], [.f32 0x3A83126F 0x3DCCCCCD]⟩,
   ⟨0x6100, 1, 0x0B, 1, .u32, .RWC, [.num 600], [.int 10 86400]⟩]

/-- Rows of chapter 11, continued. -/
def rows11b : List OdRow :=
  [⟨0x6101, 1, 0x01, 1, .u8, .RW, [.num 0], [.int 0 2]⟩,
   ⟨0x6101, 1, 0x02, 1, .u8, .RO, [.num 0], []⟩,
   ⟨0x6110, 1, 0x01, 1, .u8, .RO, [.num 0], []⟩,
   ⟨0x6110, 1, 0x02, 1, .u8, .RO, [.num 0], []⟩,
   ⟨0x6110, 1, 0x03, 1, .u16, .RO, [.num 0], []⟩,
   ⟨0x6110, 1, 0x04, 1, .u32, .RO, [.num 0], []⟩,
   ⟨0x6110, 1, 0x05, 1, .u32, .RO, [.num 0], []⟩,
   ⟨0x6110, 1, 0x06, 1, .u32, .RO, [.num 0], []⟩,
   ⟨0x6110, 1, 0x07, 1, .i32, .RO, [.num 0], []⟩,
   ⟨0x6110, 1, 0x08, 1, .u16, .RO, [.num 0], []⟩,
   ⟨0x6110, 1, 0x09, 1, .u16, .RO, [.num 0], []⟩,
   ⟨0x6120, 1, 0x01, 1, .u32, .RO, [.num 0], []⟩,
   ⟨0x6120, 1, 0x02, 1, .u32, .RO, [.num 0], []⟩,
   ⟨0x6120, 1, 0x03, 1, .u32, .RO, [.num 0], []⟩,
   ⟨0x6120, 1, 0x04, 1, .u32, .RO, [.num 0], []⟩,
   ⟨0x6120, 1, 0x05, 1, .u32, .RO, [.num 0], []⟩,
   ⟨0x6120, 1, 0x06, 1, .u32, .RO, [.num 0], []⟩]

/-- Rows of chapter 12. -/
def rows12a : List OdRow :=
  [⟨0x1000, 1, 0x01, 1, .str, .RO, [.bytes [67, 101, 114, 105, 115, 116, 105, 110, 111]], []⟩,
   ⟨0x1000, 1, 0x02, 1, .str, .RO, [.bytes [83, 86, 90, 54, 52, 49, 54, 45, 83]], []⟩,
   ⟨0x1000, 1, 0x03, 1, .u8, .RO, [.num 0], []⟩,
   ⟨0x1000, 1, 0x04, 1, .u8, .RO, [.num 67], []⟩,
   ⟨0x1000, 1, 0x05, 1, .u32, .RO, [.num 0], []⟩,
   ⟨0x1000, 1, 0x06, 1, .u16, .RO, [.num 0], []⟩,
   ⟨0x1000, 1, 0x07, 1, .u16, .RO, [.num 0], []⟩,
   ⟨0x1000, 1, 0x08, 1, .u8, .RO, [.num 0], []⟩,
   ⟨0x1000, 1, 0x09, 1, .u16, .RO, [.num 256], []⟩,
   ⟨0x1000, 1, 0x0A, 1, .u32, .RO, [.num 0], []⟩,
   ⟨0x1010, 1, 0x01, 1, .u16, .RWC, [.num 40616], [.int 1024 65535]⟩,
   ⟨0x1010, 1, 0x02, 1, .u16, .RWC, [.num 30], [.int 5 600]⟩,
   ⟨0x1010, 1, 0x03, 1, .u16, .RWC, [.num 10], [.int 2 100]⟩,
   ⟨0x1010, 1, 0x04, 1, .u16, .RWC, [.num 1000], [.int 100 10000]⟩,
   ⟨0x1010, 1, 0x05, 1, .u16, .RWC, [.num 2000], [.int 100 60000]⟩,
   ⟨0x1010, 1, 0x06, 1, .u16, .RWC, [.num 50], [.int 10 1000]⟩,
   ⟨0x1F00, 1, 0x01, 1, .u8, .WO, [.num 0], [.int 1 1]⟩,
   ⟨0x1F00, 1, 0x02, 1, .u8, .WO, [.num 0], [.int 1 1]⟩,
   ⟨0x1F00, 1, 0x03, 1, .u16, .RO, [.num 0], []⟩,
   ⟨0x1F00, 1, 0x04, 1, .u32, .RO, [.num 0], []⟩,
   ⟨0x1F00, 1, 0x05, 1, .u8, .RO, [.num 0], []⟩,
   ⟨0x1F00, 1, 0x06, 1, .u8, .RO, [.num 255], []⟩,
   ⟨0x1F00, 1, 0x07, 1, .u32, .RO, [.num 0], []⟩,
   ⟨0x1F00, 1, 0x08, 1, .tai80, .RO, [.num 0], []⟩,
   ⟨0x1F00, 1, 0x09, 1, .u8, .RO, [.num 0], []⟩,
   ⟨0x1F00, 1, 0x0A, 1, .u16, .RO, [.num 0], []⟩,
   ⟨0x9300, 4, 0x01, 1, .u8, .RWC, [.num 1, .num 1, .num 1, .num 1], [.int 0 2]⟩,
   ⟨0x9304, 1, 0x01, 1, .u8, .RO, [.num 2], []⟩,
   ⟨0x9300, 4, 0x02, 1, .bool, .RWC, [.num 1], [.int 0 1]⟩,
   ⟨0x9304, 1, 0x02, 1, .bool, .RO, [.num 1], []⟩,
   ⟨0x9300, 5, 0x03, 1, .u32, .RO, [.num 0], []⟩,
   ⟨0x9300, 5, 0x04, 1, .u16, .RO, [.num 0], []⟩,
   ⟨0x9310, 1, 0x01, 1, .u8, .WO, [.num 0], [.int 1 3]⟩,
   ⟨0x9310, 1, 0x02, 1, .u8, .RO, [.num 255], []⟩,
   ⟨0x9310, 1, 0x03, 1, .u16, .RWC, [.num 5], [.int 1 600]⟩,
   ⟨0x9310, 1, 0x04, 1, .u32, .RO, [.num 0], []⟩,
   ⟨0x9310, 1, 0x05, 1, .u8, .RWC, [.num 0], [.int 0 1]⟩,
   ⟨0x9310, 1, 0x06, 1, .tai80, .RO, [.num 0], []⟩,
   ⟨0x9310, 1, 0x07, 1, .u32, .RO, [.num 0], []⟩,
   ⟨0x9320, 11, 0x01, 1, .u8, .RO, [.num 0], []⟩]

/-- Rows of chapter 12, continued. -/
def rows12b : List OdRow :=
  [⟨0x9320, 11, 0x02, 1, .u8, .RO, [.num 0], []⟩,
   ⟨0x9320, 11, 0x03, 1, .oct, .RO, [.bytes []], []⟩,
   ⟨0x9320, 11, 0x04, 1, .bool, .RO, [.num 0], []⟩,
   ⟨0x9320, 11, 0x05, 1, .u32, .RO, [.num 0], []⟩,
   ⟨0x9320, 11, 0x06, 1, .u32, .RO, [.num 0], []⟩,
   ⟨0x9320, 11, 0x07, 1, .u32, .RO, [.num 0], []⟩,
   ⟨0x9320, 11, 0x08, 1, .u8, .RO, [.num 0], []⟩,
   ⟨0x9320, 11, 0x09, 1, .u16, .RO, [.num 0], []⟩,
   ⟨0x9320, 11, 0x0A, 1, .u32, .RO, [.num 0], []⟩,
   ⟨0x9320, 11, 0x0B, 1, .u16, .RO, [.num 0], []⟩,
   ⟨0x9330, 1, 0x01, 1, .u16, .RO, [.num 0], []⟩,
   ⟨0x9330, 1, 0x02, 1, .u16, .RO, [.num 0], []⟩,
   ⟨0x9330, 1, 0x03, 1, .u32, .RO, [.num 0], []⟩,
   ⟨0x9330, 1, 0x04, 1, .u32, .RO, [.num 0], []⟩,
   ⟨0x9330, 1, 0x05, 1, .u32, .RO, [.num 0], []⟩]

/-- Rows of chapter 13. -/
def rows13a : List OdRow :=
  [⟨0x9000, 2, 0x01, 1, .u8, .RWC, [.num 1], [.int 0 2]⟩,
   ⟨0x9000, 2, 0x02, 1, .oct, .RO, [.bytes []], []⟩,
   ⟨0x9000, 2, 0x03, 1, .bool, .RO, [.num 0], []⟩,
   ⟨0x9000, 2, 0x04, 1, .u16, .RWC, [.num 0], [.int 0 4094]⟩,
   ⟨0x9000, 2, 0x05, 1, .u8, .RWC, [.num 4], [.int 0 7]⟩,
   ⟨0x9000, 2, 0x06, 1, .u32, .RWC, [.num 0], []⟩,
   ⟨0x9000, 2, 0x07, 1, .u8, .RWC, [.num 24], [.int 8 30]⟩,
   ⟨0x9000, 2, 0x08, 1, .u32, .RWC, [.num 0], []⟩,
   ⟨0x9000, 2, 0x09, 1, .oct, .RWC, [.bytes (List.replicate 16 0)], [.len 16 16]⟩,
   ⟨0x9000, 2, 0x0A, 1, .u8, .RWC, [.num 64], [.int 16 127]⟩,
   ⟨0x9000, 2, 0x0B, 1, .oct, .RWC, [.bytes (List.replicate 16 0)], [.len 16 16]⟩,
   ⟨0x9000, 2, 0x0C, 1, .bool, .RWC, [.num 1], [.int 0 1]⟩,
   ⟨0x9000, 2, 0x0D, 1, .u16, .RWC, [.num 0], [.int 0 4094]⟩,
   ⟨0x9000, 2, 0x0E, 1, .u8, .RWC, [.num 4], [.int 0 7]⟩,
   ⟨0x9000, 2, 0x0F, 1, .u16, .RO, [.num 0], []⟩,
   ⟨0x9000, 2, 0x10, 1, .u16, .RO, [.num 0], []⟩,
   ⟨0x9000, 2, 0x11, 1, .i32, .RWC, [.num 0], [.int (-100000) 100000]⟩,
   ⟨0x9000, 2, 0x12, 1, .u8, .RO, [.num 0], []⟩,
   ⟨0x9000, 2, 0x13, 1, .i32, .RO, [.num 0], []⟩,
   ⟨0x9000, 2, 0x14, 1, .u32, .RO, [.num 0], []⟩,
   ⟨0x9000, 2, 0x15, 1, .u32, .RO, [.num 0], []⟩,
   ⟨0x9000, 2, 0x16, 1, .u32, .RO, [.num 0], []⟩,
   ⟨0x9000, 2, 0x17, 1, .u32, .RO, [.num 0], []⟩,
   ⟨0x9010, 1, 0x01, 1, .u8, .RWC, [.num 2], [.int 0 2]⟩,
   ⟨0x9010, 1, 0x02, 1, .u8, .RWC, [.num 0], [.int 0 127]⟩,
   ⟨0x9010, 1, 0x03, 1, .u8, .RWC, [.num 1], [.int 0 2]⟩,
   ⟨0x9010, 1, 0x04, 1, .u32, .RWC, [.num 1000], [.int 50 100000]⟩,
   ⟨0x9010, 1, 0x05, 1, .f32, .RWC, [.num 1106247680], [.f32 0x40800000 0x44160000]⟩,
   ⟨0x9010, 1, 0x06, 1, .f32, .RWC, [.num 1060320051], [.f32 0x00000000 0x41200000]⟩,
   ⟨0x9010, 1, 0x07, 1, .f32, .RWC, [.num 1050253722], [.f32 0x00000000 0x41200000]⟩,
   ⟨0x9010, 1, 0x08, 1, .u32, .RWC, [.num 100], [.int 4 1000000]⟩,
   ⟨0x9010, 1, 0x09, 1, .u8, .WO, [.num 0], [.int 1 1]⟩,
   ⟨0x9010, 1, 0x0A, 1, .i16, .RWC, [.num 37], [.int 0 100]⟩,
   ⟨0x9011, 1, 0x01, 1, .u8, .RO, [.num 0], []⟩,
   ⟨0x9011, 1, 0x02, 1, .i32, .RO, [.num 0], []⟩,
   ⟨0x9011, 1, 0x03, 1, .u32, .RO, [.num 0], []⟩,
   ⟨0x9011, 1, 0x04, 1, .u16, .RO, [.num 0], []⟩,
   ⟨0x9011, 1, 0x05, 1, .u8, .RO, [.num 0], []⟩,
   ⟨0x9011, 1, 0x06, 1, .bool, .RO, [.num 0], []⟩,
   ⟨0x9011, 1, 0x07, 1, .u64, .RO, [.num 0], []⟩]

/-- Rows of chapter 13, continued. -/
def rows13b : List OdRow :=
  [⟨0x9011, 1, 0x08, 1, .oct, .RO, [.bytes []], []⟩,
   ⟨0x9011, 1, 0x09, 1, .u8, .RO, [.num 255], []⟩,
   ⟨0x9011, 1, 0x0A, 1, .u8, .RO, [.num 255], []⟩,
   ⟨0x9011, 1, 0x0B, 1, .i16, .RO, [.num 37], []⟩,
   ⟨0x9011, 1, 0x0C, 1, .u8, .RO, [.num 0], []⟩,
   ⟨0x9011, 1, 0x0D, 1, .tai80, .RO, [.num 0], []⟩,
   ⟨0x9011, 1, 0x0E, 1, .u32, .RO, [.num 0], []⟩,
   ⟨0x9011, 1, 0x0F, 1, .u64, .RO, [.num 0], []⟩,
   ⟨0x9020, 32, 0x01, 1, .oct, .RW, [.bytes []], [.len 60 1514]⟩,
   ⟨0x9020, 32, 0x02, 1, .tai80, .RW, [.num 0], []⟩,
   ⟨0x9020, 32, 0x03, 1, .u32, .RW, [.num 0], [.int 0 0, .int 10000 1000000000]⟩,
   ⟨0x9020, 32, 0x04, 1, .u8, .WO, [.num 0], [.int 0 1]⟩,
   ⟨0x9020, 32, 0x05, 1, .u8, .RO, [.num 0], []⟩,
   ⟨0x9020, 32, 0x06, 1, .tai80, .RO, [.num 0], []⟩,
   ⟨0x9020, 32, 0x07, 1, .u32, .RO, [.num 0], []⟩,
   ⟨0x9040, 1, 0x01, 2, .u8, .RWC, [.num 0], [.int 0 1]⟩]

/-- Rows of chapter 14. -/
def rows14a : List OdRow :=
  [⟨0x9100, 2, 0x01, 1, .bool, .RWC, [.num 0], [.int 0 1]⟩,
   ⟨0x9100, 2, 0x02, 1, .bool, .RWC, [.num 1], [.int 0 1]⟩,
   ⟨0x9100, 2, 0x03, 1, .u16, .RWC, [.num 2], [.int 1 256]⟩,
   ⟨0x9100, 2, 0x04, 1, .u16, .RWC, [.num 31], [.int 2 256]⟩,
   ⟨0x9100, 2, 0x05, 1, .u16, .RWC, [.num 8], [.int 2 128]⟩,
   ⟨0x9100, 2, 0x06, 1, .u16, .RWC, [.num 8], [.int 1 128]⟩,
   ⟨0x9100, 2, 0x07, 1, .u8, .RWC, [.num 2], [.int 1 32]⟩,
   ⟨0x9100, 2, 0x08, 1, .u8, .RWC, [.num 5], [.int 1 32]⟩,
   ⟨0x9100, 2, 0x09, 1, .u8, .RWC, [.num 2], [.int 1 16]⟩,
   ⟨0x9100, 2, 0x0A, 1, .u8, .RWC, [.num 2], [.int 1 16]⟩,
   ⟨0x9100, 2, 0x0B, 1, .u8, .RWC, [.num 1], [.int 0 2]⟩,
   ⟨0x9100, 2, 0x0C, 1, .u8, .RWC, [.num 12], [.int 0 127]⟩,
   ⟨0x9100, 2, 0x0D, 1, .bool, .RWC, [.num 1], [.int 0 1]⟩,
   ⟨0x9100, 2, 0x0E, 1, .u16, .RWC, [.num 100], [.int 0 10000]⟩,
   ⟨0x9100, 2, 0x0F, 1, .u8, .WO, [.num 0], [.int 1 1]⟩,
   ⟨0x9100, 2, 0x10, 1, .u16, .RWC, [.num 100], [.int 10 10000]⟩,
   ⟨0x9100, 2, 0x11, 1, .bool, .RWC, [.num 1], [.int 0 1]⟩,
   ⟨0x9100, 2, 0x12, 1, .u8, .RWC, [.num 0], [.int 0 127]⟩,
   ⟨0x9100, 2, 0x13, 1, .u16, .RWC, [.num 1000], [.int 0 0, .int 10 60000]⟩,
   ⟨0x9100, 2, 0x14, 1, .u8, .RO, [.num 0], []⟩,
   ⟨0x9100, 2, 0x15, 1, .u16, .RO, [.num 0], []⟩,
   ⟨0x9100, 2, 0x16, 1, .u16, .RO, [.num 0], []⟩,
   ⟨0x9100, 2, 0x17, 1, .u8, .RO, [.num 0], []⟩,
   ⟨0x9100, 2, 0x18, 1, .u32, .RO, [.num 0], []⟩,
   ⟨0x9100, 2, 0x19, 1, .u8, .RO, [.num 0], []⟩,
   ⟨0x9100, 2, 0x1A, 1, .u8, .RO, [.num 0], []⟩,
   ⟨0x9100, 2, 0x1B, 1, .u32, .RO, [.num 0], []⟩,
   ⟨0x9100, 2, 0x1C, 1, .oct, .RO, [.bytes []], []⟩,
   ⟨0x9110, 2, 0x01, 1, .u8, .RWC, [.num 0], [.int 0 2]⟩,
   ⟨0x9110, 2, 0x02, 1, .u16, .RWC, [.num 16], [.int 0 2047]⟩,
   ⟨0x9110, 2, 0x03, 1, .u16, .RWC, [.num 1000], [.int 64 65535]⟩,
   ⟨0x9110, 2, 0x04, 1, .u8, .RWC, [.num 1], [.int 1 64]⟩,
   ⟨0x9110, 2, 0x05, 1, .bool, .RWC, [.num 1], [.int 0 1]⟩,
   ⟨0x9110, 2, 0x06, 1, .u8, .RO, [.num 0], []⟩,
   ⟨0x9110, 2, 0x07, 1, .u8, .RO, [.num 0], []⟩,
   ⟨0x9112, 2, 0x01, 32, .u64, .RWC, [.num 0], []⟩,
   ⟨0x9114, 2, 0x01, 128, .u32, .RWC, [.num 0], []⟩,
   ⟨0x9120, 64, 0x01, 1, .u32, .RWC, [.num 0], []⟩,
   ⟨0x9120, 64, 0x02, 1, .u8, .RWC, [.num 0], [.int 0 2]⟩,
   ⟨0x9120, 64, 0x03, 1, .bool, .RWC, [.num 0], [.int 0 1]⟩]

/-- Rows of chapter 14, continued. -/
def rows14b : List OdRow :=
  [⟨0x9120, 64, 0x04, 1, .oct, .RW, [.bytes []], [.len 12 12, .len 16 16, .len 20 20, .len 24 24, .len 32 32, .len 48 48, .len 64 64, .len 0 8]⟩,
   ⟨0x9120, 64, 0x05, 1, .u8, .WO, [.num 0], [.int 1 1]⟩,
   ⟨0x9120, 64, 0x06, 1, .u8, .RO, [.num 0], []⟩,
   ⟨0x9120, 64, 0x07, 1, .u32, .RO, [.num 0], []⟩,
   ⟨0x9160, 128, 0x01, 1, .u32, .RWC, [.num 0], []⟩,
   ⟨0x9160, 128, 0x02, 1, .u32, .RWC, [.num 0], [.int 0 536870911]⟩,
   ⟨0x9160, 128, 0x03, 1, .u8, .RWC, [.num 0], [.int 0 7]⟩,
   ⟨0x9160, 128, 0x04, 1, .oct, .RO, [.bytes []], []⟩,
   ⟨0x9160, 128, 0x05, 1, .u16, .RO, [.num 0], []⟩,
   ⟨0x9160, 128, 0x06, 1, .u32, .RO, [.num 0], []⟩,
   ⟨0x9160, 128, 0x07, 1, .u32, .RO, [.num 0], []⟩]

/-- Rows of chapter 15. -/
def rows15a : List OdRow :=
  [⟨0x8000, 1, 0x01, 1, .u32, .RO, [.num 0], []⟩,
   ⟨0x8000, 1, 0x02, 1, .u32, .RO, [.num 0], []⟩,
   ⟨0x8000, 1, 0x03, 1, .u32, .RO, [.num 0], []⟩,
   ⟨0x8000, 1, 0x04, 1, .u16, .RO, [.num 0], []⟩,
   ⟨0x8000, 1, 0x05, 1, .u32, .RO, [.num 0], []⟩,
   ⟨0x8000, 1, 0x06, 1, .u8, .WO, [.num 0], [.int 1 1]⟩,
   ⟨0x8000, 1, 0x07, 1, .u8, .RW, [.num 0], [.int 0 1]⟩,
   ⟨0x8000, 1, 0x08, 1, .u32, .RO, [.num 0], []⟩,
   ⟨0x8000, 1, 0x09, 1, .u8, .RO, [.num 0], []⟩,
   ⟨0x8010, 1, 0x01, 1, .u32, .RW, [.num 0], []⟩,
   ⟨0x8010, 1, 0x02, 1, .u16, .RW, [.num 0], []⟩,
   ⟨0x8010, 1, 0x03, 1, .oct, .RO, [.bytes []], []⟩,
   ⟨0x8010, 1, 0x04, 1, .u32, .RW, [.num 0], []⟩,
   ⟨0x8010, 1, 0x05, 1, .u8, .RW, [.num 0], [.int 0 2]⟩,
   ⟨0x8020, 15, 0x01, 24, .u32, .RWC, [.num 0], [.int 0 16777215]⟩,
   ⟨0x8041, 18, 0x01, 255, .u32, .RWC, [.num 0], []⟩,
   ⟨0x8061, 18, 0x01, 255, .u32, .RO, [.num 0], []⟩,
   ⟨0x8081, 18, 0x01, 255, .u32, .RO, [.num 0], []⟩,
   ⟨0x8100, 4, 0x01, 1, .u8, .RWC, [.num 0], [.int 0 3]⟩,
   ⟨0x8100, 4, 0x02, 1, .u16, .RWC, [.num 0], [.int 0 0, .int 256 287]⟩,
   ⟨0x8100, 4, 0x03, 1, .u8, .RWC, [.num 0], [.int 0 15]⟩,
   ⟨0x8100, 4, 0x04, 1, .u32, .RWC, [.num 1000], []⟩,
   ⟨0x8100, 4, 0x05, 1, .u32, .RWC, [.num 1000], []⟩,
   ⟨0x8100, 4, 0x06, 1, .u8, .RWC, [.num 0], [.int 0 1]⟩,
   ⟨0x8100, 4, 0x07, 1, .u32, .RWC, [.num 1000], [.int 1 100000000]⟩,
   ⟨0x8100, 4, 0x08, 1, .u16, .RWC, [.num 1], [.int 1 65535]⟩,
   ⟨0x8100, 4, 0x09, 1, .u8, .RWC, [.num 0], [.int 0 5]⟩,
   ⟨0x8100, 4, 0x0A, 1, .u8, .RWC, [.num 0], [.int 0 63]⟩,
   ⟨0x8100, 4, 0x0B, 1, .u8, .RWC, [.num 0], [.int 0 2]⟩,
   ⟨0x8100, 4, 0x0C, 1, .f32, .RWC, [.num 0], []⟩,
   ⟨0x8100, 4, 0x0D, 1, .f32, .RWC, [.num 0], []⟩,
   ⟨0x8100, 4, 0x0E, 1, .u32, .RWC, [.num 0], []⟩,
   ⟨0x8100, 4, 0x0F, 1, .u32, .RWC, [.num 0], []⟩,
   ⟨0x8100, 4, 0x10, 1, .u8, .WO, [.num 0], [.int 0 1]⟩,
   ⟨0x8100, 4, 0x11, 1, .u8, .WO, [.num 0], [.int 1 1]⟩,
   ⟨0x8100, 4, 0x12, 1, .u8, .RO, [.num 0], []⟩,
   ⟨0x8100, 4, 0x13, 1, .u8, .RO, [.num 0], []⟩,
   ⟨0x8100, 4, 0x14, 1, .u32, .RO, [.num 0], []⟩,
   ⟨0x8100, 4, 0x15, 1, .u32, .RO, [.num 0], []⟩,
   ⟨0x8100, 4, 0x16, 1, .u32, .RO, [.num 0], []⟩]

/-- Rows of chapter 15, continued. -/
def rows15b : List OdRow :=
  [⟨0x8100, 4, 0x17, 1, .tai80, .RO, [.num 0], []⟩,
   ⟨0x8100, 4, 0x18, 1, .oct, .RO, [.bytes []], []⟩,
   ⟨0x8100, 4, 0x19, 1, .u32, .RO, [.num 0], []⟩,
   ⟨0x8100, 4, 0x1A, 1, .u32, .RO, [.num 0], []⟩,
   ⟨0x8110, 4, 0x01, 64, .u32, .RWC, [.num 0], [.int 0 16777215]⟩,
   ⟨0x8120, 4, 0x01, 1, .u8, .RWC, [.num 0], [.int 0 2]⟩,
   ⟨0x8120, 4, 0x02, 1, .oct, .RWC, [.bytes (List.replicate 18 0)], [.len 18 18]⟩,
   ⟨0x8120, 4, 0x03, 1, .u16, .RWC, [.num 40620, .num 40621, .num 40622, .num 40623], [.int 1024 65535]⟩,
   ⟨0x8120, 4, 0x04, 1, .u16, .RWC, [.num 0], [.int 0 800]⟩,
   ⟨0x8120, 4, 0x05, 1, .u16, .RWC, [.num 100], [.int 1 1000]⟩,
   ⟨0x8140, 8, 0x01, 1, .bool, .RWC, [.num 0], [.int 0 1]⟩,
   ⟨0x8140, 8, 0x02, 1, .u8, .RWC, [.num 0], [.int 0 3]⟩,
   ⟨0x8140, 8, 0x03, 1, .u8, .RWC, [.num 0], [.int 0 63]⟩,
   ⟨0x8140, 8, 0x04, 1, .u8, .RWC, [.num 3], [.int 1 255]⟩,
   ⟨0x8140, 8, 0x05, 1, .oct, .RWC, [.bytes (f32Bytes256 127)], [.len 1024 1024]⟩,
   ⟨0x8140, 8, 0x06, 1, .oct, .RWC, [.bytes (f32Bytes256 255)], [.len 1024 1024]⟩,
   ⟨0x8140, 8, 0x07, 1, .u8, .RO, [.num 0], []⟩,
   ⟨0x8140, 8, 0x08, 1, .u32, .RO, [.num 0], []⟩]

/-- Rows of chapter 16. -/
def rows16a : List OdRow :=
  [⟨0x7000, 1, 0x01, 1, .u8, .RO, [.num 0], []⟩,
   ⟨0x7000, 1, 0x02, 1, .u16, .RO, [.num 1], []⟩,
   ⟨0x7000, 1, 0x03, 1, .u8, .RO, [.num 0], []⟩,
   ⟨0x7000, 1, 0x04, 1, .u8, .RO, [.num 0], []⟩,
   ⟨0x7000, 1, 0x05, 1, .f32, .RO, [.num 0], []⟩,
   ⟨0x7000, 1, 0x06, 1, .u32, .RO, [.num 0], []⟩,
   ⟨0x7000, 1, 0x07, 1, .u16, .RO, [.num 0], []⟩,
   ⟨0x7000, 1, 0x08, 1, .u16, .RO, [.num 0], []⟩,
   ⟨0x7000, 1, 0x09, 1, .u32, .RO, [.num 0], []⟩,
   ⟨0x7000, 1, 0x0A, 1, .tai80, .RO, [.num 0], []⟩,
   ⟨0x7000, 1, 0x0B, 1, .u16, .RO, [.num 0], []⟩,
   ⟨0x7000, 1, 0x0C, 1, .u16, .RO, [.num 0], []⟩,
   ⟨0x7000, 1, 0x0D, 1, .bool, .RO, [.num 0], []⟩,
   ⟨0x7000, 1, 0x0E, 1, .u16, .RO, [.num 0], []⟩,
   ⟨0x7001, 1, 0x01, 1, .str, .WO, [.bytes []], [.len 12 64]⟩,
   ⟨0x7001, 1, 0x02, 1, .u8, .WO, [.num 0], [.int 1 1]⟩,
   ⟨0x7001, 1, 0x03, 1, .str, .WO, [.bytes []], [.len 12 64]⟩,
   ⟨0x7001, 1, 0x04, 1, .u8, .RO, [.num 0], []⟩,
   ⟨0x7001, 1, 0x05, 1, .u32, .RO, [.num 0], []⟩,
   ⟨0x7010, 1, 0x01, 1, .u8, .RWS, [.num 1], [.int 0 2]⟩,
   ⟨0x7010, 1, 0x02, 1, .u8, .RWS, [.num 1], [.int 0 2]⟩,
   ⟨0x7010, 1, 0x03, 1, .u16, .RWS, [.num 3], [.int 3 1000]⟩,
   ⟨0x7010, 1, 0x04, 1, .u16, .RWS, [.num 3], [.int 3 1000]⟩,
   ⟨0x7010, 1, 0x05, 1, .u8, .RWS, [.num 20], [.int 0 200]⟩,
   ⟨0x7010, 1, 0x06, 1, .u8, .RWS, [.num 0], [.int 0 1]⟩,
   ⟨0x7010, 1, 0x07, 1, .bool, .RWS, [.num 1], [.int 0 1]⟩,
   ⟨0x7010, 1, 0x08, 1, .f32, .RWS, [.num 1073741824], [.f32 0x3F000000 0x41200000]⟩,
   ⟨0x7010, 1, 0x09, 1, .f32, .RWS, [.num 1056964608], [.f32 0x3DCCCCCD 0x40000000]⟩,
   ⟨0x7010, 1, 0x0A, 1, .u8, .RWS, [.num 50], [.int 20 100]⟩,
   ⟨0x7010, 1, 0x0B, 1, .f32, .RWS, [.num 1056964608], [.f32 0xC1280000 0x40A00000]⟩,
   ⟨0x7010, 1, 0x0C, 1, .u32, .RWS, [.num 10], [.int 1 86400]⟩,
   ⟨0x7011, 1, 0x01, 1, .u8, .RWS, [.num 0], [.int 0 1]⟩,
   ⟨0x7011, 1, 0x02, 1, .u8, .WO, [.num 0], [.int 1 1]⟩,
   ⟨0x7011, 1, 0x03, 1, .u8, .RO, [.num 0], []⟩,
   ⟨0x7011, 1, 0x04, 1, .u32, .RWS, [.num 0], []⟩,
   ⟨0x7011, 1, 0x05, 1, .u8, .RWS, [.num 0], [.int 0 1]⟩,
   ⟨0x7100, 1, 0x01, 1, .u16, .RO, [.num 0], []⟩,
   ⟨0x7100, 1, 0x02, 1, .u32, .RO, [.num 0], []⟩,
   ⟨0x7100, 1, 0x03, 1, .u32, .RO, [.num 0], []⟩,
   ⟨0x7100, 1, 0x04, 1, .oct, .RO, [.bytes []], []⟩]

/-- Rows of chapter 17. -/
def rows17a : List OdRow :=
  [⟨0xB000, 17, 0x01, 1, .u8, .RO, [.num 0], []⟩,
   ⟨0xB000, 17, 0x02, 1, .u32, .RO, [.num 0], []⟩,
   ⟨0xB000, 17, 0x03, 1, .u32, .RO, [.num 0], []⟩,
   ⟨0xB000, 17, 0x04, 1, .u16, .RO, [.num 0], []⟩,
   ⟨0xB000, 17, 0x05, 1, .u8, .RO, [.num 0], []⟩,
   ⟨0xB000, 17, 0x06, 1, .u16, .RO, [.num 0], []⟩,
   ⟨0xB000, 17, 0x07, 1, .u8, .RO, [.num 0], []⟩,
   ⟨0xB000, 17, 0x08, 1, .tai80, .RO, [.num 0], []⟩,
   ⟨0xB000, 17, 0x09, 1, .u32, .RO, [.num 0], []⟩,
   ⟨0xB000, 17, 0x0A, 1, .u32, .RO, [.num 0], []⟩,
   ⟨0xB000, 17, 0x0B, 1, .u32, .RO, [.num 4096, .num 4096, .num 4096, .num 4096, .num 16384, .num 8192, .num 4096, .num 4096, .num 4096, .num 4096, .num 16384, .num 8192, .num 131072, .num 16384, .num 4096, .num 512, .num 8192], []⟩,
   ⟨0xB020, 1, 0x01, 1, .u16, .WO, [.num 0], []⟩,
   ⟨0xB020, 1, 0x02, 1, .u32, .RO, [.num 0], []⟩,
   ⟨0xB020, 1, 0x03, 1, .u8, .RWC, [.num 4], [.int 1 255]⟩,
   ⟨0xB020, 1, 0x04, 1, .u16, .RWC, [.num 100], [.int 10 10000]⟩,
   ⟨0xB020, 1, 0x05, 1, .bool, .RWC, [.num 1], [.int 0 1]⟩,
   ⟨0xB020, 1, 0x06, 1, .u32, .RO, [.num 0], []⟩,
   ⟨0xB100, 3, 0x01, 1, .u8, .RO, [.num 1], []⟩,
   ⟨0xB103, 13, 0x01, 1, .u8, .RWC, [.num 1], [.int 0 2]⟩,
   ⟨0xB100, 16, 0x02, 1, .u8, .RO, [.num 0], []⟩,
   ⟨0xB100, 16, 0x03, 1, .u32, .RO, [.num 0], []⟩,
   ⟨0xB110, 1, 0x01, 1, .u8, .RO, [.num 0], []⟩,
   ⟨0xB110, 1, 0x02, 1, .f32, .RO, [.num 0], []⟩,
   ⟨0xB110, 1, 0x03, 1, .f32, .RO, [.num 0], []⟩,
   ⟨0xB110, 1, 0x04, 1, .f32, .RO, [.num 0], []⟩,
   ⟨0xB110, 1, 0x05, 1, .f32, .RO, [.num 0], []⟩,
   ⟨0xB110, 1, 0x06, 1, .f32, .RO, [.num 0], []⟩,
   ⟨0xB110, 1, 0x07, 1, .u32, .RO, [.num 0], []⟩,
   ⟨0xB110, 1, 0x08, 1, .u32, .RO, [.num 0], []⟩,
   ⟨0xB111, 1, 0x01, 1, .f32, .RO, [.num 0], []⟩,
   ⟨0xB111, 1, 0x02, 1, .u8, .RO, [.num 0], []⟩,
   ⟨0xB120, 1, 0x01, 1, .u8, .RO, [.num 0], []⟩,
   ⟨0xB120, 1, 0x02, 1, .f32, .RO, [.num 0], []⟩]

/-- Rows of chapter 18. -/
def rows18a : List OdRow :=
  [⟨0xC000, 1, 0x01, 1, .oct, .RO, [.bytes []], []⟩,
   ⟨0xC000, 1, 0x02, 1, .oct, .RO, [.bytes []], []⟩,
   ⟨0xC000, 1, 0x03, 1, .oct, .RO, [.bytes []], []⟩,
   ⟨0xC000, 1, 0x04, 1, .oct, .RO, [.bytes []], []⟩,
   ⟨0xC000, 1, 0x05, 1, .u8, .RO, [.num 0], []⟩,
   ⟨0xC000, 1, 0x06, 1, .oct, .WO, [.bytes []], [.len 48 48]⟩,
   ⟨0xC000, 1, 0x07, 1, .oct, .RO, [.bytes []], []⟩,
   ⟨0xC010, 1, 0x01, 4, .oct, .RW, [.bytes []], [.len 0 1024]⟩,
   ⟨0xC011, 1, 0x01, 1, .oct, .RW, [.bytes []], [.len 0 2304]⟩,
   ⟨0xC011, 1, 0x02, 1, .u8, .RO, [.num 0], []⟩,
   ⟨0xC020, 1, 0x01, 1, .u8, .RW, [.num 0], [.int 0 1]⟩,
   ⟨0xC020, 1, 0x02, 1, .oct, .WO, [.bytes []], [.len 0 25165824]⟩,
   ⟨0xC020, 1, 0x03, 1, .u8, .RO, [.num 0], []⟩,
   ⟨0xC020, 1, 0x04, 1, .u8, .WO, [.num 0], [.int 1 3]⟩,
   ⟨0xC020, 1, 0x05, 1, .u8, .WO, [.num 0], [.int 1 1]⟩,
   ⟨0xC020, 1, 0x06, 1, .u16, .RO, [.num 0], []⟩,
   ⟨0xC020, 1, 0x07, 1, .u32, .RO, [.num 0], []⟩,
   ⟨0xC020, 1, 0x08, 1, .u32, .RO, [.num 0], []⟩,
   ⟨0xC020, 1, 0x09, 1, .u32, .RO, [.num 0], []⟩,
   ⟨0xC020, 1, 0x0A, 1, .u32, .RO, [.num 0], []⟩,
   ⟨0xC030, 1, 0x01, 1, .u8, .RWC, [.num 31], [.int 0 31]⟩,
   ⟨0xC030, 1, 0x02, 1, .u8, .RO, [.num 0], []⟩,
   ⟨0xC030, 1, 0x03, 1, .u8, .WO, [.num 0], [.int 0 31]⟩,
   ⟨0xC030, 1, 0x04, 1, .oct, .RO, [.bytes []], []⟩,
   ⟨0xC030, 1, 0x05, 1, .u32, .RO, [.num 0], []⟩,
   ⟨0xC030, 1, 0x06, 1, .u8, .RO, [.num 0], []⟩,
   ⟨0xC040, 1, 0x01, 1, .u8, .RO, [.num 1], []⟩,
   ⟨0xC040, 1, 0x02, 1, .u8, .WO, [.num 0], [.int 1 3]⟩,
   ⟨0xC040, 1, 0x03, 1, .oct, .RO, [.bytes []], []⟩,
   ⟨0xC040, 1, 0x04, 1, .oct, .WO, [.bytes []], [.len 16 16]⟩,
   ⟨0xC040, 1, 0x05, 1, .oct, .WO, [.bytes []], [.len 128 128]⟩,
   ⟨0xC040, 1, 0x06, 1, .oct, .RO, [.bytes []], []⟩,
   ⟨0xC040, 1, 0x07, 1, .u8, .RO, [.num 1], []⟩,
   ⟨0xC040, 1, 0x08, 1, .oct, .RO, [.bytes []], []⟩]

/-- Rows of chapter 19. -/
def rows19a : List OdRow :=
  [⟨0x9200, 1, 0x01, 1, .bool, .RO, [.num 0], []⟩,
   ⟨0x9200, 1, 0x02, 1, .u32, .RO, [.num 0], []⟩,
   ⟨0x9210, 1, 0x01, 1, .u8, .RO, [.num 1], []⟩,
   ⟨0x9210, 1, 0x02, 1, .bool, .RO, [.num 0], []⟩,
   ⟨0x9210, 1, 0x03, 1, .u32, .RO, [.num 0], []⟩,
   ⟨0x9210, 1, 0x04, 1, .u8, .RO, [.num 0], []⟩,
   ⟨0x9210, 1, 0x05, 1, .u16, .RWC, [.num 3000], [.int 0 30000]⟩,
   ⟨0x9210, 1, 0x06, 10, .u32, .RO, [.num 0], []⟩,
   ⟨0x9220, 1, 0x01, 1, .u8, .WO, [.num 0], [.int 1 3]⟩,
   ⟨0x9220, 1, 0x02, 1, .u8, .RWC, [.num 0], [.int 0 1]⟩,
   ⟨0x9220, 1, 0x03, 1, .bool, .RO, [.num 1], []⟩,
   ⟨0x9220, 1, 0x04, 1, .bool, .RO, [.num 0], []⟩,
   ⟨0x9220, 1, 0x05, 1, .u16, .RO, [.num 0], []⟩,
   ⟨0x9220, 1, 0x06, 1, .tai80, .RO, [.num 0], []⟩,
   ⟨0x9220, 1, 0x07, 1, .u32, .RO, [.num 0], []⟩,
   ⟨0x9230, 1, 0x01, 8, .u32, .RO, [.num 0], []⟩,
   ⟨0x9240, 1, 0x01, 1, .u8, .WO, [.num 0], [.int 1 9]⟩,
   ⟨0x9240, 1, 0x02, 1, .u16, .RO, [.num 0], []⟩,
   ⟨0x9240, 1, 0x03, 1, .u32, .RO, [.num 0], []⟩,
   ⟨0x9240, 1, 0x04, 1, .u32, .RO, [.num 0], []⟩,
   ⟨0x9240, 1, 0x05, 1, .u32, .RO, [.num 0], []⟩,
   ⟨0x9241, 1, 0x01, 9, .u8, .RO, [.num 0], []⟩]

/-- The rows whose index has the high byte `hi`. -/
def rowsFor (hi : Nat) : List OdRow :=
  match hi with
  | 0x10 => rows12a ++ rows12b
  | 0x1F => rows12a ++ rows12b
  | 0x20 => rows02a
  | 0x21 => rows03a
  | 0x22 => rows04a
  | 0x28 => rows05a
  | 0x30 => rows06a ++ rows06b ++ rows06c ++ rows06d
  | 0x31 => rows06a ++ rows06b ++ rows06c ++ rows06d
  | 0x32 => rows06a ++ rows06b ++ rows06c ++ rows06d
  | 0x34 => rows07a ++ rows07b
  | 0x35 => rows07a ++ rows07b
  | 0x36 => rows07a ++ rows07b
  | 0x40 => rows08a ++ rows08b
  | 0x41 => rows08a ++ rows08b
  | 0x42 => rows08a ++ rows08b
  | 0x44 => rows09a ++ rows09b
  | 0x48 => rows09a ++ rows09b
  | 0x50 => rows10a
  | 0x51 => rows08a ++ rows08b
  | 0x60 => rows11a ++ rows11b
  | 0x61 => rows11a ++ rows11b
  | 0x70 => rows16a
  | 0x71 => rows16a
  | 0x80 => rows15a ++ rows15b
  | 0x81 => rows15a ++ rows15b
  | 0x90 => rows13a ++ rows13b
  | 0x91 => rows14a ++ rows14b
  | 0x92 => rows19a
  | 0x93 => rows12a ++ rows12b
  | 0xA0 => rows01a
  | 0xB0 => rows17a
  | 0xB1 => rows17a
  | 0xC0 => rows18a
  | _ => []

/-- The row that holds entry `index`.`sub`. -/
def findRow (index sub : Nat) : Option OdRow :=
  (rowsFor (index / 256)).find? fun r =>
    decide (r.index ≤ index) && decide (index < r.index + r.count) && decide (r.sub ≤ sub) && decide (sub < r.sub + r.subs)

/-- The sub-indexes present at an index, by row. -/
def subsOf (index : Nat) : List (Nat × Nat) :=
  ((rowsFor (index / 256)).filter fun r => decide (r.index ≤ index) && decide (index < r.index + r.count)).map fun r => (r.sub, r.subs)

/-- The index exists. -/
def hasIndex (index : Nat) : Bool := !(subsOf index).isEmpty

/-- Sub-index 0x00 of a record: its highest sub-index; an index with one sub-index is no record (R315). -/
def highestSub (index : Nat) : Option Nat :=
  let xs := subsOf index
  if (xs.map (·.2)).foldl (· + ·) 0 ≤ 1 then none else some ((xs.map fun x => x.1 + x.2 - 1).foldl Nat.max 0)

end OD
end Sys2Proof
end

