-- ==== Sys2Proof/Machine/Sparse.lean ====
section
/-!
DEFINITION. Machine/Sparse.lean: sparse data by key in one canonical form: keys strictly rising, and no entry equal to
what an unlisted key reads as (`d`). The object dictionary, the bank contents and every sparse table of the state are
held so.
-/
namespace Sys2Proof

/-- The listed value at key `k`, if any. -/
def sparseFind {α : Type} : List (Nat × α) → Nat → Option α
  | [], _ => none
  | (j, v) :: m, k => if j = k then some v else sparseFind m k

/-- Replace or insert at its place in the rising order. -/
def sparseInsert {α : Type} : List (Nat × α) → Nat → α → List (Nat × α)
  | [], k, v => [(k, v)]
  | (j, w) :: m, k, v =>
    if k < j then (k, v) :: (j, w) :: m
    else if k = j then (k, v) :: m
    else (j, w) :: sparseInsert m k v

/-- Take what is listed at key `k` out. -/
def sparseErase {α : Type} : List (Nat × α) → Nat → List (Nat × α)
  | [], _ => []
  | (j, w) :: m, k => if j = k then sparseErase m k else (j, w) :: sparseErase m k

/-- What key `k` reads as: its entry, or the default. -/
def sparseGet {α : Type} (d : Nat → α) (m : List (Nat × α)) (k : Nat) : α :=
  (sparseFind m k).getD (d k)

/-- Write key `k`, keeping the canonical form. -/
def sparseSet {α : Type} [DecidableEq α] (d : Nat → α) (m : List (Nat × α)) (k : Nat) (v : α) : List (Nat × α) :=
  if v = d k then sparseErase m k else sparseInsert m k v

/-- Every key of the list lies above `k`. -/
def sparseAbove {α : Type} (k : Nat) : List (Nat × α) → Bool
  | [] => true
  | (j, _) :: _ => decide (k < j)

/-- The canonical form. -/
def sparseWf {α : Type} [DecidableEq α] (d : Nat → α) : List (Nat × α) → Bool
  | [] => true
  | (k, v) :: m => sparseAbove k m && decide (v ≠ d k) && sparseWf d m

end Sys2Proof
end

