-- ==== Sys2Proof/Machine/State.lean ====
section
/-!
DEFINITION. Machine/State.lean: everything the spec gives the module, as plain data: the object dictionary, the state each
unit keeps beside it, the record of what the module has sent, and the queue of waiting commands. Every structure's defaults
are its values at reset; INVENTORY.md lists each with its rule, and notes/assumptions says where the spec gives none.
-/
namespace Sys2Proof.Machine
open Sys2Proof

/-- Why the machine stops with a fault: an access to an address the spec says does not exist. -/
inductive Fault where
  /-- BANK_READ of a row beyond the rows Table 17.1 gives the bank (safe: nothing is claimed of it). -/
  | noSuchRow (bank row : Nat)
  deriving DecidableEq, Repr

/-- Why a command is refused by the model. -/
inductive Refusal where
  /-- The command has no meaning yet (safe: nothing is claimed of it). -/
  | notModelled (mnemonic : String)
  deriving DecidableEq, Repr

/-! ### The event recorder (chapter 15) -/

/-- One record, or one entry of the staging FIFO before its sequence number is known (Table 15.1, R395, R396). -/
structure Rec where
  seqWrap : Nat := 0
  seq : Nat := 0
  epoch : Nat := 0
  tai : Nat := 0
  code : Nat := 0
  severity : Nat := 0
  timeQ : Nat := 0
  set : Bool := true
  summary : Bool := false
  origin : Nat := 0
  detail : Nat := 0
  session : Nat := 0xFF
  frame : Nat := 0
  count : Nat := 1
  snap : List (Nat × Nat) := []
  deriving DecidableEq, Repr, Inhabited

/-- The token bucket of one code (R401): tokens used up, suppressed occurrences pending, the DETAIL of the last of them. -/
structure Bucket where
  used : Nat := 0
  pend : Nat := 0
  lastDetail : Nat := 0
  since : Nat := 0
  deriving DecidableEq, Repr, Inhabited

/-- A session's place in the recorder (R405): cursor, its wrap, filter and severity floor. -/
structure Cursor where
  seq : Nat := 0
  wrap : Nat := 0
  filter : Nat := 0
  minSev : Nat := 0
  deriving DecidableEq, Repr

/-- The recorder: staging FIFO (oldest first), the reserved AUX_SUPPLY entry, the ring in H.REC (oldest first), the next
sequence number, the buckets, bypassing records that wait for room, codes that lost occurrences, the freeze, and the sessions' cursors
(R394, R398, R401–R407). -/
structure Recorder where
  fifo : List Rec := []
  aux : Option Rec := none
  ring : List Rec := []
  nextSeq : Nat := 1
  nextWrap : Nat := 0
  buckets : List (Nat × Bucket) := []
  waiting : List Rec := []
  lost : List (Nat × Nat) := []
  frozen : Bool := false
  cursors : Vector Cursor 12 := Vector.replicate 12 {}
  deriving DecidableEq, Repr

/-! ### Architecture (chapter 01) -/

/-- One package fabric link: the sender's replay buffer, newest first (R14), the codeword whose replay is awaited, and the
last codeword delivered, and how many this link has corrected (Table 1.6). -/
structure FabLink where
  replay : List (BitVec 144) := []
  wait : Option (BitVec 144) := none
  delivered : BitVec 144 := 0
  corrected : Nat := 0
  deriving DecidableEq, Repr

/-- One Gill gauge: d_floor, its delay at the floor corner, trimmed at the factory and held in OTP (R26, in units of the measured delay;
log 119), its last 16 samples newest first as SI × 1024 (R27), when it was last renewed and for how many consecutive samples it has shown
no alarm condition (R28, R29). -/
structure Gauge where
  floor : Nat := 1024
  samples : List Nat := []
  renewedAt : Nat := 0
  goodRun : Nat := 0
  deriving DecidableEq, Repr

/-- The package fabric links (hub–A, hub–B, A–B) and the Gill gauges of both lane dies. -/
structure Arch where
  links : Vector FabLink 3 := Vector.replicate 3 {}
  gaugesA : Vector Gauge 6 := Vector.replicate 6 {}
  gaugesB : Vector Gauge 6 := Vector.replicate 6 {}
  deriving DecidableEq, Repr

/-! ### Memory banks, power, vault (chapter 17) -/

/-- One bank: its codewords by address (`row * 32 + column`; spare rows follow the listed rows), corrected reads as row and instant, instants of
the last hour's, remaps row to spare, fenced rows, its march engine (algorithm asked for, rows of the request and of the background march, passes, and the tick and the frame of its last row step),
spares that failed, the codeword last delivered with the flag that it was corrected (Table 1.6), and the instants Table 11.3 needs (R449–R459). -/
structure Bank where
  cells : List (Nat × BitVec 144) := []
  rowHits : List (Nat × Nat) := []
  hourHits : List Nat := []
  remap : List (Nat × Nat) := []
  fenced : List Nat := []
  corrHigh : Bool := false
  marchAlg : Nat := 0
  marchOnRequest : Bool := false
  marchRow : Nat := 0
  marchFail : Bool := false
  marchRepair : Bool := false
  bgRow : Nat := 0
  failedSpares : List Nat := []
  bgPass : Nat := 0
  stepAt : Option Nat := none
  stepFrame : Option Nat := none
  delivered : BitVec 144 := 0
  flagged : Bool := false
  corr100At : Option Nat := none
  uncorrAt : Option Nat := none
  deriving DecidableEq, Repr

/-- One stored copy of the configuration in H.DICT (R454). -/
structure ConfigCopy where
  gen : Nat := 0
  crc : Nat := 0
  good : Bool := false
  entries : List (Nat × Val) := []
  deriving DecidableEq, Repr

/-- Domains, auxiliary supply, vault and thermal watch (R460–R468). -/
structure Power where
  banks : Vector Bank 17 := Vector.replicate 17 {}
  copies : Vector ConfigCopy 2 := Vector.replicate 2 {}
  auxLost : Bool := false
  lastGasp : Bool := false
  vaultTai : Nat := 0
  vaultAt : Nat := 0
  vaultUtc : Int := 37
  vaultUtcValid : Bool := false
  dieTemps : Vector F32 6 := Vector.replicate 6 0
  hotSince : Option Nat := none
  deriving DecidableEq, Repr

/-! ### Timebase (chapter 02) -/

/-- The double-buffered divider and interleave values (R41). -/
structure DivSet where
  pd : Nat := 1
  n : Nat := 1
  idx : Nat := 0
  trim : Int := 0
  tol : Nat := 500
  pull : Nat := 10
  deriving DecidableEq, Repr

/-- The TB-PLL and SYS-PLL (R33–R54); the state number is OD 2001.01. -/
structure Timebase where
  refQualified : Bool := false
  refQualAt : Nat := 0
  refLostAt : Nat := 0
  holdCause : Nat := 0
  holdAt : Nat := 0
  holdExpired : Bool := false
  rephasing : Bool := false
  freqAcquired : Bool := false
  pending : Option DivSet := none
  pendingFrom : Nat := 0
  inForce : DivSet := {}
  lockedAt : Nat := 0
  alignedOnce : Bool := false
  tcxoFailed : Bool := false
  movePending : Bool := false
  ssPending : Bool := false
  ssMode : Nat := 0
  ssDepth : Nat := 0
  ssRate : Nat := 31500
  deriving DecidableEq, Repr

/-! ### Modulation, PWM unit and trips (chapter 08) -/

/-- One carrier as it really runs (R53, R188, R189): whether its pairs have started; the LTC tick of its last reload (-1: none yet), whether
that was a valley, the length of the half it began, by how much the following down half of the same period differs from T_c/2; a pull granted
to the period from the next valley; words waiting for the following reload, and when LOAD_ALL last filled the pending set (R196). -/
structure Carrier where
  started : Bool := false
  at1 : Int := -1
  up : Bool := true
  len : Nat := 0
  rest : Int := 0
  pull : Int := 0
  late : Bool := false
  loadAt : Nat := 0
  deriving DecidableEq, Repr

/-- A compare edge moved later: to the high channel active or not, its instant, and whether minimum pulse moved it (R191) or the NPC/ANPC
order alone, which never drops an edge (R200). -/
structure HeldEdge where
  high : Bool := false
  at1 : Nat := 0
  pulse : Bool := false
  deriving DecidableEq, Repr

/-- One pair: shadow word, pending word, active word (Table 8.3); a compare edge moved later; and the compare state whose edge the unit last
took up, `none` before the first. -/
structure Pair where
  shadow : BitVec 32 := 0
  pending : Option (BitVec 32) := none
  active : BitVec 32 := 0
  switching : Bool := false
  delayed : Option HeldEdge := none
  seen : Option Bool := none
  deriving DecidableEq, Repr

/-- One channel: its level (active or not), when it last changed, and a turn-on that is still held back: until when, and whether the NPC/ANPC order and
minimum pulse have moved it beyond dead time (R190, R191, R200). -/
structure Channel where
  active : Bool := false
  edgeAt : Nat := 0
  turnOn : Option Nat := none
  moved : Bool := false
  stretched : Bool := false
  deriving DecidableEq, Repr

/-- One trip input: raw pin level, since when it has been asserted, the end of the blanking window, and an assertion that
waits for it (R207). -/
structure TripIn where
  pin : Bool := false
  assertedAt : Option Nat := none
  blankUntil : Nat := 0
  waiting : Bool := false
  deriving DecidableEq, Repr

/-- The PWM watchdog oscillator that times a sequence (R203): the length of its cycle in thousandths of a tick, and PAIR_POLARITY of the 24
pairs as last committed when it took over. -/
structure Watchdog where
  cycle : Nat := 28410
  polarity : List Nat := []
  deriving DecidableEq, Repr

/-- The safe-state sequence that runs (R201–R203): GATE_OFF or CLAMP, from when, whether step 2 is still due, the watchdog oscillator where that times
it, and the OUT_STATE it ends in. -/
structure StopSeq where
  clamp : Bool := false
  at1 : Nat := 0
  step2 : Bool := true
  watchdog : Option Watchdog := none
  endState : Nat := 5
  deriving DecidableEq, Repr

/-- The PWM unit. -/
structure Pwm where
  carriers : Vector Carrier 8 := Vector.replicate 8 {}
  pairs : Vector Pair 24 := Vector.replicate 24 {}
  channels : Vector Channel 48 := Vector.replicate 48 {}
  trips : Vector TripIn 4 := Vector.replicate 4 {}
  seq : Option StopSeq := none
  safeParcels : Option Bool := none
  stopLtc : Nat := 0
  directLow : Vector Bool 8 := Vector.replicate 8 false
  loadAllAt : Nat := 0
  haltedA : Bool := false
  haltedB : Bool := false
  deriving DecidableEq, Repr

/-- One MMC arm: voltage codes and ages of its submodules by index, the inserted set of the last committed frame with its
polarity, the last direction, the sorted order, and whether it was modulated since the outputs were last off (R210–R215). -/
structure Arm where
  volts : List (Nat × Nat) := []
  volts1 : List (Nat × Nat) := []
  tag : Option Nat := none
  seenAt : List (Nat × Nat) := []
  inserted : List Nat := []
  reverse : Bool := false
  nPrev : Int := 0
  discharging : Bool := false
  order : List Nat := []
  fresh : Bool := true
  applyAt : Nat := 0
  excluded : List Nat := []
  availLow : Bool := false
  avail : List Nat := []
  deriving DecidableEq, Repr

/-! ### Local drives (chapter 10) -/

/-- One local drive channel (R258–R276); LD_STATE and LD_FAULT are OD entries. -/
structure LdChan where
  on : Bool := false
  onAt : Nat := 0
  offAt : Nat := 0
  softAt : Option Nat := none
  pendFault : Bool := false
  waitAt : Option Nat := none
  runSince : Nat := 0
  detectAt : Option Nat := none
  desatHigh : Bool := false
  uvPos : Bool := false
  uvNeg : Bool := false
  recoverAt : Option Nat := none
  lowSince : Option Nat := none
  unavailable : Bool := false
  duties : List (F32 × Nat) := []
  periodAt : Nat := 0
  refreshAt : Option Nat := none
  prechOffAt : Option Nat := none
  contOnAt : Nat := 0
  bootOffAt : Option Nat := none
  holdOff : Bool := false
  deriving DecidableEq, Repr

/-! ### The law (chapters 06 and 07) -/

/-- A two-vector (α, β) or (d, q). -/
structure Ab where
  a : F32 := 0
  b : F32 := 0
  deriving DecidableEq, Repr

/-- The states of one resonator on one axis (R135). -/
structure Res where
  e1 : F32 := 0
  e2 : F32 := 0
  y1 : F32 := 0
  y2 : F32 := 0
  deriving DecidableEq, Repr

/-- The argument of a piecewise element as a frame formed it, and the bounds between its branches (R106 step 4). -/
structure Piece where
  arg : F32 := 0
  cuts : List F32 := []
  deriving DecidableEq, Repr

/-- What one frame leaves in the history: t0, samples by role, the filter and bus voltages used, bus phases, and (set at its
commit) i_ref, the phases of u_out and p_f (R126, R127, R173, R180). -/
structure HistEntry where
  t0 : Nat := 0
  x : List F32 := []
  vf : Ab := {}
  vb : Ab := {}
  vbPh : List F32 := []
  iref : Ab := {}
  u : List F32 := []
  pf : F32 := 0
  deriving DecidableEq, Repr

/-- The committed state of the law on one lane (R104): measurement, bus, ramps, rotor, reactive path, resonators, limiter, DC,
chopper, MMC, stacks, observer; its mode decisions (R105); and the arguments of the piecewise elements of its frame (R106). Ticks are of
`now`. -/
structure Law where
  pieces : List Piece := []
  hist : List HistEntry := []
  pf : F32 := 0
  qf : F32 := 0
  vMag : F32 := 0
  vPos : Ab := {}
  vNeg : Ab := {}
  capPos : Ab := {}
  busPos : Ab := {}
  busMag : F32 := 0
  rms : List F32 := []
  thB : F32 := 0
  thBValid : Bool := false
  thBPrev : F32 := 0
  thBPrevValid : Bool := false
  thBSeeded : Bool := false
  omegaB : F32 := 0x3F800000
  rocof : F32 := 0
  jump : F32 := 0
  ramps : Vector F32 12 := Vector.replicate 12 0
  thHi : F32 := 0
  thLo : F32 := 0
  omega : F32 := 0
  omegaLim : Bool := false
  pOrder : F32 := 0
  pLim : Int := 0
  dpr : F32 := 0
  frLim : Bool := false
  pdc : F32 := 0
  eE : F32 := 0
  ei : F32 := 0
  e : F32 := 0
  eLim : Bool := false
  eStart : F32 := 0
  eTarget : F32 := 0
  dRf : F32 := 0
  dXf : F32 := 0
  resA : Res := {}
  resB : Res := {}
  harmA : Vector Res 8 := Vector.replicate 8 {}
  harmB : Vector Res 8 := Vector.replicate 8 {}
  harmOut : Nat := 0
  vref : Ab := {}
  iref : Ab := {}
  irefDq : Ab := {}
  ilim : Ab := {}
  ineg : Ab := {}
  limActive : Bool := false
  limQuiet : Nat := 0
  limWas : Bool := false
  warm : List Ab := []
  horizon : Nat := 12
  tauO : F32 := 0
  l0 : F32 := 0
  clip : Nat := 0
  dZ : F32 := 0
  delta : F32 := 0
  hold : Nat := 0
  releaseAt : Option Nat := none
  uOut : Ab := {}
  u0 : F32 := 0
  ic : Ab := {}
  icPh : List F32 := []
  iGrid : Ab := {}
  icap : Ab := {}
  vf : Ab := {}
  eW : F32 := 0
  w : F32 := 0
  xw : F32 := 0
  pff : F32 := 0
  chOn : Bool := false
  chExhausted : Bool := false
  duty : F32 := 0
  eCh : F32 := 0
  wk : Vector F32 6 := Vector.replicate 6 0
  xz : Vector F32 3 := Vector.replicate 3 0
  resZ : Vector Res 3 := Vector.replicate 3 {}
  vArm : Vector F32 6 := Vector.replicate 6 0
  armClamp : Nat := 0
  xs : Vector (Vector F32 3) 8 := Vector.replicate 8 (Vector.replicate 3 0)
  du : Vector (Vector F32 3) 8 := Vector.replicate 8 (Vector.replicate 3 0)
  shareDev : F32 := 0
  seg : Vector Nat 3 := Vector.replicate 3 0
  gain : Vector F32 3 := Vector.replicate 3 0x3F800000
  obsB : Ab := {}
  vHat : Ab := {}
  obsResid : F32 := 0
  vdc : F32 := 0
  vdcUp : F32 := 0
  vdcLo : F32 := 0
  deriving DecidableEq, Repr, Inhabited

/-- A ride-through timer (R163): running since, and since when its quantity is back on the normal side. -/
structure RtTimer where
  since : Option Nat := none
  normal : Option Nat := none
  deriving DecidableEq, Repr

/-- The feedback checks of one filter channel (R180, R183): frames not fresh, out of range, good in a row, stuck, last two
actual samples, and how many frames back one was missing (R103). -/
structure FbChan where
  notFresh : Nat := 0
  range : Nat := 0
  good : Nat := 0
  stuck : Bool := false
  h1 : Option F32 := none
  h2 : Option F32 := none
  hMiss : Nat := 2
  deriving DecidableEq, Repr

/-- The supervisor of law states and the module's protection timers (R148–R155, R163, R164, R180–R184). -/
structure Super where
  targets : Vector F32 10 := Vector.replicate 10 0
  settledOnce : Bool := false
  deadSince : Option Nat := none
  liveSince : Option Nat := none
  deadNoted : Bool := false
  delayAt : Nat := 0
  delayRms : List F32 := []
  energiseDead : Bool := false
  holdOn : Bool := false
  holdAcc : Nat := 0
  holdAt : Nat := 0
  syncSince : Option Nat := none
  closeFrom : Nat := 0
  brkPending : Option Bool := none
  brkActed : Bool := false
  freeSync : Bool := false
  stopFrom : Nat := 0
  quietSince : Option Nat := none
  stopHeld : Bool := false
  uv : RtTimer := {}
  ov : RtTimer := {}
  vdcUvSince : Option Nat := none
  freqSince : Option Nat := none
  rocofSince : Option Nat := none
  degFrom : Option Nat := none
  bridging : Bool := false
  bridgeFrom : Nat := 0
  bridgeUsed : Nat := 0
  blend : Option Nat := none
  returnedAt : Option Nat := none
  fb : Vector FbChan 32 := Vector.replicate 32 {}
  stackI : Vector (List F32) 8 := Vector.replicate 8 []
  stackFresh : Vector Bool 8 := Vector.replicate 8 false
  deriving DecidableEq, Repr

/-! ### Signals (Table 15.2) and capture triggers that the recorder feeds -/

/-- The values signals name beside the dictionary: frame-path samples of the last committed frame, latest measurement
outputs, and the committed law vector (Table 15.2). -/
structure Signals where
  sample : Vector F32 32 := Vector.replicate 32 0
  meas : Vector F32 32 := Vector.replicate 32 0
  law : Vector F32 12 := Vector.replicate 12 0
  deriving DecidableEq, Repr

/-- One block of a stream (R408): grid index before decimation, LTC and TAI with epoch at its instant, the exponent in force, whether derived
samples are invalid (R409), raw values. -/
structure CapBlock where
  idx : Nat := 0
  at1 : Nat := 0
  tai : Nat := 0
  epoch : Nat := 0
  dec : Nat := 0
  invalid : Bool := false
  vals : List Nat := []
  deriving DecidableEq, Repr

/-- One mark (Table 15.7); `pos` is the grid index of its sample, or the blocks dropped. -/
structure Mark where
  kind : Nat := 0
  arg : Nat := 0
  code : Nat := 0
  pos : Nat := 0
  deriving DecidableEq, Repr

/-- One capture stream beside its OD entries (R408–R418): blocks held, oldest first; grid index of the next sample; the values before; the
event codes that trigger its first sample at or after their entry, each with its LTC; blocks still to be written after a trigger, and whether a mask caused it; hold-off (since when,
conditions ignored); the window read to its end; blocks of it sent; marks waiting; paused; the final packet due; blocks dropped since the last
packet; shedding seen; exponent in force, last change and a change awaited; the last grid instant and period; when the rate allows the next packet. -/
structure Stream where
  blocks : List CapBlock := []
  idx : Nat := 0
  prev : Option (List Nat) := none
  evTrig : List (Nat × Nat) := []
  postLeft : Option Nat := none
  byMask : Bool := false
  hold : Option (Nat × Nat) := none
  readEnd : Bool := false
  sent : Nat := 0
  marks : List Mark := []
  paused : Bool := false
  last : Bool := false
  gap : Nat := 0
  shedding : Bool := false
  dec : Nat := 0
  changedAt : Option Nat := none
  decPending : Option Nat := none
  lastAt : Nat := 0
  per : Nat := 0
  sendAt : Nat := 0
  deriving DecidableEq, Repr

/-! ### Lanes (chapter 11) -/

/-- What a lane's commit of one frame sends the comparator (R284): frame number, digest, summary (u_out α, β, 0 and ω), or a slip
mark. -/
structure LaneCommit where
  frame : Nat := 0
  slip : Bool := false
  digest : BitVec 128 := 0
  summary : List F32 := []
  deriving DecidableEq, Repr

/-- One lane beside its OD entries (R280–R294): its pending commit, whether this frame is done and its state already advanced, whether its self-diagnostics failed since its last equal
frame (R288), slips in a row, times of undiagnosed divergences (R291), and the conditions of Table 11.3 with their times. -/
structure LaneRec where
  commit : Option LaneCommit := none
  diagFail : Bool := false
  frameBad : Bool := false
  slipRun : Nat := 0
  slipCounted : Nat := 0
  slipAt : Option Nat := none
  undiagAt : List Nat := []
  poisonAt : Option Nat := none
  siLow : Bool := false
  siOkSince : Option Nat := none
  hot : Bool := false
  kaAt : Nat := 0
  kaIncomplete : Bool := false
  stepCount : Nat := 0
  fenced : Bool := false
  booted : Bool := false
  servedSince : Nat := 0
  version : Nat := 0
  skewRun : Nat := 0
  shadowAt : Nat := 0
  resynced : Bool := false
  law : Law := {}
  done : Bool := true
  next : Option Law := none
  spec : Option Law := none
  t0c : Nat := 0
  commitRun : Nat := 0
  deriving DecidableEq, Repr

/-- Lane redundancy: both lanes, the swap announced for the next frame (R294), the mirror queue (R286), the Eft's warming and
disagreement counts (R290), and the secret key of the digest (R284). -/
structure Lanes where
  a : LaneRec := {}
  b : LaneRec := {}
  swapTo : Option Lane := none
  afterSwapReset : Option Lane := none
  afterSwapOff : List (Nat × Nat) := []
  mirrorQueue : Nat := 0
  eftWarm : Nat := 0
  eftDisagree : Nat := 0
  eftNeedsRetest : Bool := false
  digestKey : BitVec 128 := 0
  rotateDue : Bool := false
  loopbackOk : Vector Bool 18 := Vector.replicate 18 true
  deriving DecidableEq, Repr

/-! ### Acquisition (chapter 03) -/

/-- The factory trim of a core in OTP from which background calibration starts (R66; log 131): skew, gain, offset in the units of Table 3.7. -/
structure AdcTrim where
  skew : Int := 0
  gain : Int := 0
  offset : Int := 0
  deriving DecidableEq, Repr

/-- One ADC core beside its OD entries: fault and pair-fallback latches (on the even core of a pair), whether it is the half that failed out
of a pair, progress of its start-up calibration (completed; conversions of AGND, own and other reference so far; a failure seen), bad
readings in a row (R71), the latest code of the other half's reference (R72), over-range of the primary input, the last primary value
with its hold and whether a slot after it was taken (R68), due sequence entries in serving order with the LTC from which they are eligible
(R69), the LTC of the last switch of its settings, whether its grid waits for the next t0, and from which t0 it runs (Table 3.5); in half
ticks of the LTC the last hold, a slot to be skipped (R64), and the last placement of a secondary or calibration conversion (R67); when it
last converted AGND, own and other reference (R71). -/
structure AdcCore where
  faulted : Bool := false
  fallback : Bool := false
  restore : Bool := false
  failedOut : Bool := false
  calDone : Bool := false
  calAgnd : Nat := 0
  calOwn : Nat := 0
  calOther : Nat := 0
  calBad : Bool := false
  agndBad : Nat := 0
  ownBad : Nat := 0
  otherRef : Option Int := none
  ovr : Bool := false
  held : Option Int := none
  heldAt : Nat := 0
  taken : Option Nat := none
  due : List (Nat × Nat) := []
  switchAt : Option Nat := none
  newGrid : Bool := false
  gridFrom : Nat := 0
  lastHold : Nat := 0
  skip : Option Nat := none
  placedAt : Nat := 0
  calAt : Vector Nat 3 := Vector.replicate 3 0
  deriving DecidableEq, Repr

/-- What the cores share: a start-up calibration is due (R73), the latest code of each internal channel with the core that read it (32: none)
(Table 3.4), the level of the divergence record (R72), and the factory trims. -/
structure AdcUnit where
  calNeeded : Bool := true
  ich : Vector (Option Int) 16 := Vector.replicate 16 none
  ichCore : Vector Nat 16 := Vector.replicate 16 32
  divergeLevel : Nat := 0
  trims : Vector AdcTrim 32 := Vector.replicate 32 {}
  deriving DecidableEq, Repr

/-! ### Filter chain (chapter 04) -/

/-- One measurement output (R89): value, LTC instant, flags VALID, SETTLED, OVR, SUBST, FAULT, GRIDSYNC, and its angle bin. -/
structure MeasOut where
  value : F32 := 0
  instant : Int := 0
  valid : Bool := false
  settled : Bool := false
  ovr : Bool := false
  subst : Bool := false
  fault : Bool := false
  gridsync : Bool := false
  bin : Nat := 0
  deriving DecidableEq, Repr

/-- The filter chain of one channel: CIC registers modulo 2^48, FIR and resampler memories newest first, resampler position in
2⁻³² input periods and output index, inputs each stage still lacks and the earliest stage stepped in the settling under way (3: none; R90, R91), flag tracing counters (R89), the conversions of
the present frame window, frames until the frame path is settled, bin error, and the ring of 1,024 outputs newest first. -/
structure Chain where
  integ : List Nat := []
  comb : List Nat := []
  cicPhase : Nat := 0
  fir : List F32 := []
  firPhase : Nat := 0
  rs : List F32 := []
  pos : Nat := 0
  rho : Nat := 0x80000000
  outIdx : Nat := 0
  cicLeft : Nat := 48
  firLeft : Nat := 0
  rsLeft : Nat := 0
  stepped : Nat := 0
  cicOvr : Nat := 0
  firOvr : Nat := 0
  rsOvr : Nat := 0
  cicSubst : Nat := 0
  firSubst : Nat := 0
  rsSubst : Nat := 0
  settled : Bool := false
  fpLeft : Nat := 2
  fpSettled : Bool := false
  window : List (Int × Int × Bool) := []
  windowLate : Bool := false
  windowCut : Bool := false
  gridsync : Bool := false
  clamped : Bool := false
  binErr : F32 := 0
  binGoodAt : Option Nat := none
  ring : List MeasOut := []
  deriving DecidableEq, Repr

/-- The frame-path block (Table 4.2): samples, flag nibbles, frame number, LTC of t0, time epoch. -/
structure FpBlock where
  samples : List F32 := []
  nibbles : List Nat := []
  number : Nat := 0
  t0 : Nat := 0
  epoch : Nat := 0
  deriving DecidableEq, Repr

/-! ### Control frame (chapter 05) -/

/-- The frame grid and the frame in progress (R96–R113): its number, t0 and the t0 of the frame before, the block, whether speculation began and the
path taken (`true` delta, `false` full), a block that was missed, steps shed, the stamps of R113 and a restoration due at the next boundary,
predictions x_p, cold frames begun anew in this frame (R108), an output codeword that reached the hub poisoned (R22), whether the frame's bursts have
left, held bursts still owed with their frame number and t0 (R234), and the last two committed feed-forward payloads with their instants, newest first
(R139, R389). -/
structure Frame where
  grid : Bool := false
  n : Nat := 0
  t0 : Nat := 0
  t0Prev : Nat := 0
  begun : Bool := false
  block : Option FpBlock := none
  specOn : Bool := false
  afterSlip : Bool := false
  streak : Nat := 0
  commitAt : Nat := 0
  shed : List Nat := []
  shedOkAt : Option Nat := none
  marginOkAt : Option Nat := none
  xp : List F32 := []
  chainReset : Bool := false
  missed : Bool := false
  path : Option Bool := none
  coldNew : Bool := false
  restore : Bool := false
  outBad : Bool := false
  burst : Bool := false
  owed : Option (Nat × Nat) := none
  ff : List (Nat × List Byte) := []
  deriving DecidableEq, Repr

/-- The answer to a dictionary transaction (Table 12.9): result code, QTY, DETAIL, the TIME field, POSITION (DELAYED
only), OFFSET, data, and OP, INDEX and SUB of the request it answers (0 for a command row, log 2). -/
structure Reply where
  code : Nat := 0
  qty : Nat := 0
  detail : Nat := 0
  time : Nat := 0
  position : Nat := 0
  offset : Nat := 0
  data : List Byte := []
  op : Nat := 0
  index : Nat := 0
  sub : Nat := 0
  deriving DecidableEq, Repr

/-! ### The Tabras link (chapter 09) -/

/-- A parcel receiver: block lock, bundle lock and its block offset, runs of clean and of bad bundles at the candidate offset
(R224), and the good parcels that wait to be used, oldest first (R225). -/
structure Rx where
  blockLock : Bool := false
  bundleLock : Bool := false
  offset : Nat := 0
  good : Nat := 0
  bad : Nat := 0
  buf : List (BitVec 128) := []
  deriving DecidableEq, Repr

/-- A 64b/66b block: its sync header, 01 data or 10 control, and its scrambled payload (R222). -/
structure LineBlock where
  sync : BitVec 2 := 1
  payload : BitVec 64 := 0
  deriving DecidableEq, Repr

/-- A transmitter of the link: the tick at which its first bundle began, the last 58 bits it sent, newest highest, which the scrambler works on (R222),
and how many bundles these include (R223). -/
structure LineTx where
  start : Nat := 0
  scr : BitVec 58 := 0
  sent : Nat := 0
  deriving DecidableEq, Repr

/-- What one end of a lane keeps of its training (R227–R230): entry to ADAPT, since when FOM is at target, the best FOM and the far taps it came with;
its own request to the far transmitter (REQ_SEQ, codes, SET taps), whether that waits for its acknowledgement, and when the last one came; whether the
best taps have been asked for, and acknowledged; READY here and at the far end; the far request last applied; and the last far STAMP with its
arrival. -/
structure Trainer where
  adaptAt : Nat := 0
  fomSince : Option Nat := none
  bestFom : Nat := 0
  bestTaps : Nat := 0x1362
  reqSeq : Nat := 0
  req : Nat := 0
  set : Nat := 0
  waits : Bool := false
  ackAt : Nat := 0
  asked : Bool := false
  acked : Bool := false
  ready : Bool := false
  peerReady : Bool := false
  farSeq : Option Nat := none
  stamp : Nat := 0
  stampAt : Nat := 0
  deriving DecidableEq, Repr

/-- The module's end of one serial lane beside its OD entries: receiver, transmitter, training, delay exchanges (R231), frames of uncorrectable
parcels (R232), weak and retrain stamps, power state to send and to enter (R233), command parcels of the last committed frame (R110),
the next configuration item (R238), and the parcels of the next burst whose codeword H.LINK lost (Table 17.2). -/
structure SerLane where
  rx : Rx := {}
  tx : LineTx := {}
  tr : Trainer := {}
  exchanges : List Int := []
  trained : Bool := false
  uncorrAt : List Nat := []
  weakAt : Nat := 0
  retrainAt : Nat := 0
  powerSend : Option (Nat × Nat) := none
  powerDue : Option (Nat × Nat) := none
  cmd : List (BitVec 128) := []
  item : Nat := 0
  lostTx : List Nat := []
  deriving DecidableEq, Repr

/-- What the module knows of an endpoint beside its OD entries: uplink of this frame seen or given up, frames in a row without one,
the last echo and the port it came on, SEQs of the last two uplinks (R250), the last LATE byte. -/
structure EpView where
  seen : Bool := false
  lost : Bool := false
  silent : Nat := 0
  echo : BitVec 128 := 0
  port : Nat := 0
  echoed : Bool := false
  seqs : List (List Nat) := []
  late : Nat := 0
  mismatch : Bool := false
  deriving DecidableEq, Repr

/-- One edge of an edge set (Table 9.9): level after it and its offset from START. -/
structure SetEdge where
  level : Bool := false
  ofs : Nat := 0
  deriving DecidableEq, Repr

/-- An edge set (Table 9.9). -/
structure EdgeSet where
  pair : Nat := 0
  down : Bool := false
  forceOff : Bool := false
  start : Nat := 0
  h : Option SetEdge := none
  l : Option SetEdge := none
  deriving DecidableEq, Repr

/-- The configuration of one remote pair at its endpoint (Table 9.11, items 0x10 + p). -/
structure EpPairCfg where
  pair : Nat := 0
  period : Nat := 0
  anchor : Nat := 0
  dead : Nat := 0
  pos : Nat := 0
  phase : Nat := 0
  stack : Nat := 0
  polarity : Nat := 3
  deriving DecidableEq, Repr

/-- A configuration generation at an endpoint (Table 9.11). -/
structure EpCfg where
  gen : Nat := 0
  topology : Nat := 0
  mode : Nat := 0
  bridgeN : Nat := 3
  epSafe : Nat := 0
  period : Nat := 0
  toi : Nat := 6250
  clampUs : Nat := 0
  ulStart : Nat := 1250
  reserve : Nat := 4
  armMask : Nat := 0
  stackMask : Nat := 0
  nSm : Nat := 0
  fullBridge : Bool := false
  pairs : List EpPairCfg := []
  deriving DecidableEq, Repr

/-- A fault an endpoint reports (Table 9.17), and how many more uplinks carry it (R250). -/
structure EpFault where
  kind : Nat := 0
  group : Nat := 0
  index : Nat := 0
  device : Nat := 0
  seq : Nat := 0
  time : Nat := 0
  value : Nat := 0
  action : Nat := 0
  left : Nat := 3
  deriving DecidableEq, Repr

/-- One upstream port of an endpoint: receiver, transmitter, training, its state as LANE_STATE numbers them, FOM and transmit taps (R228–R230), when
its fast retrain began (R232), the rate it scans (2 is 12.5 Gb/s, R226) and since when, received parcels corrected and discarded, the last claim with its
role, epoch, sender and the instant and frame it came with, until when its lease is fresh (R243), the one-way delay it was told, and a power state to
enter with its LTC (R233). -/
structure EpPort where
  rx : Rx := {}
  tx : LineTx := {}
  tr : Trainer := {}
  lane : Nat := 1
  fom : Nat := 0
  retrainAt : Nat := 0
  rate : Nat := 2
  dwellAt : Nat := 0
  corr : Nat := 0
  uncorr : Nat := 0
  claim : Nat := 0
  claimAt : Option Nat := none
  epoch : Nat := 0
  freshUntil : Option Nat := none
  sender : Nat := 0
  frameNo : Nat := 0
  oneway : Nat := 0
  taps : Nat := 0x1362
  power : Option (Nat × Nat) := none
  deriving DecidableEq, Repr

/-- A device channel of an endpoint: its level before any planned edge, when it last changed, and planned edges in order of their
ticks, which the hub executes by itself. -/
structure EpChan where
  level : Bool := false
  edgeAt : Nat := 0
  plan : List (Nat × Bool) := []
  deriving DecidableEq, Repr

/-- A safe state an endpoint runs (R248): KIND of Table 9.7, t_oi in ticks, CLAMP_TIME in µs, the instant of step 1. -/
structure EpStop where
  kind : Nat := 1
  toi : Nat := 6250
  clampUs : Nat := 0
  at1 : Nat := 0
  deriving DecidableEq, Repr

/-- An endpoint (R226, R236, R240–R250): EP_STATE, ports, obeyed port, LTC copy less `now`, last accepted frame, its t0 and SENDER,
t0 of the frame awaited, missed and late counts, highest epoch, configuration in force and items collected, edge sets and last
executed sets, channels, submodule states with insertions awaiting their tick (tick, arm, part, codes), bypassed submodules, the safe
state and whether RUN = 0 was seen in it, legs put into GATE_OFF by a local fault (stack, phase), and faults to report. -/
structure Endpoint where
  state : Nat := 0
  serial : Nat := 0
  ports : Vector EpPort 2 := Vector.replicate 2 {}
  obeyed : Option Nat := none
  ltcOfs : Int := 0
  lastFrame : Option Nat := none
  frameNo : Nat := 0
  t0 : Nat := 0
  sender : Nat := 0
  claimObeyed : Nat := 0
  awaited : Option Nat := none
  missed : Nat := 0
  late : Nat := 0
  seq : Nat := 0
  epochH : Nat := 0
  cfg : Option EpCfg := none
  items : List (Nat × Nat × Nat) := []
  sets : List EdgeSet := []
  lastSets : List EdgeSet := []
  chans : Vector EpChan 48 := Vector.replicate 48 {}
  sub : Vector (List Nat) 6 := Vector.replicate 6 []
  due : List (Nat × Nat × Nat × List Nat) := []
  bypassed : List (Nat × Nat) := []
  stop : Option EpStop := none
  sawIdle : Bool := false
  legsOff : List (Nat × Nat) := []
  faults : List EpFault := []
  ulSent : Option Nat := none
  deriving DecidableEq, Repr

/-- An edge set that a later burst may still replace (R237): its pair and start, the channels after it, how many of its edges were delayed or
dropped, how many the NPC/ANPC order moved, and whether its turn-on was dropped with the next edge (R191). -/
structure HubSet where
  set : EdgeSet := {}
  start : Nat := 0
  h : EpChan := {}
  l : EpChan := {}
  pulses : Nat := 0
  fixes : Nat := 0
  skip : Bool := false
  deriving DecidableEq, Repr

/-- The link: the 18 serial lanes, the endpoints as the module sees them, the endpoints themselves, the last edges of each remote channel (level and
LTC tick) that no burst can replace any more, and whether the next edge of a pair is dropped; and the sets a later burst may still replace, in order of
their starts. -/
structure Link where
  lanes : Vector SerLane 18 := Vector.replicate 18 {}
  views : Vector EpView 16 := Vector.replicate 16 {}
  eps : Vector Endpoint 16 := Vector.replicate 16 {}
  hub : Vector EpChan 48 := Vector.replicate 48 {}
  skip : Vector Bool 24 := Vector.replicate 24 false
  sets : List HubSet := []
  deriving DecidableEq, Repr

/-! ### Module pairs (chapter 11) -/

/-- The pair beside its OD entries (R295–R310): when the roles began to be resolved; the partner heard, its heartbeat and block of the
present frame, frames in a row without both, the last heartbeat's arrival and its flags; highest epoch seen; a takeover under
way and the role change due at the next frame; a handover announced; differences d of the law channels with their last 64
values, since when PLAUS_TOL is exceeded; own block in use; fade of d; the partner's digest run; the copy; shadow and
hand-over timers; since when the t0 difference is small; the path the active took
in a frame; the snapshot to be sent; on a standby the committed set mirrored to it, whether a heartbeat has named its switching boundary, and the
identity of the active's owner (R308, R331). -/
structure PairRec where
  startAt : Nat := 0
  heard : Bool := false
  hb : Bool := false
  blockIn : Bool := false
  missRun : Nat := 0
  lastHbAt : Nat := 0
  partnerFw : Nat := 0
  partnerGen : Nat := 0
  partnerHandover : Bool := false
  partnerOwn : Bool := false
  highEpoch : Nat := 0
  takeover : Bool := false
  roleNext : Option Nat := none
  handover : Option Nat := none
  diffs : List (List F32) := []
  d : List F32 := []
  plausSince : Option Nat := none
  ownUsed : Bool := false
  fadeFrom : Option Nat := none
  partner : Option LaneCommit := none
  own : Option LaneCommit := none
  copyReq : Bool := false
  epochFrame : Option Nat := none
  snapshot : List (BitVec 128) := []
  autoStart : Bool := false
  skewRun : Nat := 0
  shadowAt : Nat := 0
  healthAhead : Option Nat := none
  skewOkSince : Option Nat := none
  switchDelta : Nat := 0
  block : Option FpBlock := none
  path : Option (Nat × Bool) := none
  snapOut : List (BitVec 128) := []
  mirrorSet : Option (List (Nat × Val)) := none
  switchNamed : Bool := false
  ownerId : Option (BitVec 384) := none
  deriving DecidableEq, Repr

/-! ### Network time (chapter 13) -/

/-- The servo and the calendar beside their OD entries (R357–R367): per port the master last announced there with its arrival and whether
a path delay is known; the last 16 offsets, newest first; measurements since power-up or loss of timebase, with the first and the last
instant; integrator and rate; whether the first step is made and LOCKED was ever reached, and when LOCKED was left; runs of
measurements small, large, ahead by more than 1 ms, not so, and above SVZ_STEP_THRESH; the grandmaster's own time epoch, and both before COASTING; the
leap flag seen: UTC day, change, whether made. -/
structure Servo where
  masters : Vector (Option (Announce × Nat)) 2 := Vector.replicate 2 none
  pathKnown : Vector Bool 2 := Vector.replicate 2 false
  offs : List Int := []
  count : Nat := 0
  firstAt : Nat := 0
  lastAt : Nat := 0
  integ : F32 := 0
  rate : Int := 0
  stepDone : Bool := false
  everLocked : Bool := false
  leftAt : Option Nat := none
  lockRun : Nat := 0
  looseRun : Nat := 0
  backRun : Nat := 0
  okRun : Nat := 0
  threshRun : Nat := 0
  gmEpoch : Nat := 0
  gmBefore : Option (Nat × Nat) := none
  leap : Option (Nat × Int × Bool) := none
  deriving DecidableEq, Repr


/-! ### CAN FD ports (chapter 14) -/

/-- One transmit object beside its OD entries: started by a trigger in this column, and the tick its start window ends (R386), bit errors since its last success (R383), ACK errors in a
row (R384), since when it is withheld. -/
structure CanTx where
  trig : Bool := false
  trigBy : Nat := 0
  bitErrs : Nat := 0
  ackErrs : Nat := 0
  backAt : Option Nat := none
  deriving DecidableEq, Repr

/-- A time-triggered schedule in force: column and trigger words, TT_CYCLE_LEN, TT_CYCLES, TT_ANCHOR (R385, R386). -/
structure Sched where
  cols : List Nat := []
  trigs : List Nat := []
  len : Nat := 0
  cycles : Nat := 1
  anchor : Bool := true
  deriving DecidableEq, Repr

/-- One CAN FD port (R378–R390): transmit objects, shadow buffers, objects overrun since their last read, since when bus-off and whether
recovery was asked, the last reference (tick, LTC) and the priority of its master, the schedule in force, a committed one that waits for
the next reference, whether the open column arbitrates and the tick it ends, and the last heartbeat. -/
structure CanPort where
  tx : Vector CanTx 32 := Vector.replicate 32 {}
  shadow : Vector (Option CanFrame) 64 := Vector.replicate 64 none
  overrun : List Nat := []
  busoffAt : Nat := 0
  recoverAsked : Bool := false
  refAt : Nat := 0
  refLtc : Nat := 0
  refSeen : Bool := false
  prio : Option Nat := none
  sched : Sched := {}
  schedDue : Bool := false
  arb : Bool := false
  arbBy : Nat := 0
  hbAt : Nat := 0
  deriving DecidableEq, Repr



/-! ### Host sessions and the dictionary engine (chapter 12) -/

/-- The mark of a host transaction in a mirrored queue (R287): received, applied with the reply stored for it, replied. -/
inductive TxMark where
  | received
  | applied (r : Reply)
  | replied
  deriving DecidableEq, Repr

/-- A request as it arrives (Tables 12.7, 12.8): session, OP (1 OPEN, 2 CLOSE, 3 READ, 4 WRITE, 5 KEEPALIVE), entry, TAG, OFFSET, LAST,
READ_STAGED, data; a USDO transfer; whether it carries a TAG of its own, which the reply cache keeps; when it arrived and when its next DELAYED
notice is due; USDO_WAIT has passed while it was in service (R348); its mark (R287); taken over from the former active of a pair, whose owner sent it. -/
structure Request where
  session : Nat := 0
  op : Nat := 5
  index : Nat := 0
  sub : Nat := 0
  tag : Nat := 0
  offset : Nat := 0
  last : Bool := true
  readStaged : Bool := false
  data : List Byte := []
  usdo : Bool := false
  tagged : Bool := true
  at1 : Nat := 0
  noticeAt : Nat := 0
  late : Bool := false
  mark : TxMark := .received
  owned : Bool := false
  deriving DecidableEq, Repr

/-- A staged value with the CONFIG_GEN it was staged at (R332). -/
structure Staged where
  val : Val
  gen : Nat
  deriving DecidableEq, Repr

/-- A segmented write under way (R344): entry, TAG of its latest segment, octets so far, when the latest segment arrived; an image is kept by length
only. -/
structure SegXfer where
  key : Nat
  tag : Nat
  size : Nat
  data : List Byte
  at1 : Nat
  deriving DecidableEq, Repr

/-- A session beside its OD entries: its DTLS association, its staging set by entry, oldest first, its segmented writes, the replies of the last 64 TAGs newest
first (TAG, OP, reply), and its last request (R322–R325, R332, R344). -/
structure HostSession where
  assoc : Option Nat := none
  staged : List (Nat × Staged) := []
  segs : List SegXfer := []
  replies : List (Nat × Nat × Reply) := []
  lastAt : Nat := 0
  deriving DecidableEq, Repr

/-- A commit past its checks (R333, R335): session, its transaction, set, when both lanes have reported the program loaded, whether its answer is still
wanted (R325), and in pair mode whether its boundary has been named (R308). -/
structure CommitRun where
  session : Nat
  req : Request
  set : List (Nat × Val)
  loadedAt : Nat
  answer : Bool := true
  named : Bool := false
  deriving DecidableEq, Repr

/-- The dictionary engine: sessions by index, the queue in order of arrival, the transaction in service until when, the window and its budgets
(R339), the running commit, the owner's lease, per entry the CONFIG_GEN of its last change × 256 + the session that made it (R334), a reservation
of ownership by identity until when (R331), the identity the active module mirrors, services of the last second, DTLS associations with
their ports, chains and peers, and on a standby module the marked transactions mirrored to it (R287). -/
structure Hosts where
  sessions : Vector HostSession 12 := Vector.replicate 12 {}
  queue : List Request := []
  busyUntil : Nat := 0
  windowAt : Nat := 0
  safetyUsed : Nat := 0
  ownerUsed : Nat := 0
  commit : Option CommitRun := none
  leaseAt : Nat := 0
  changed : List (Nat × Nat) := []
  reserve : Option (BitVec 384 × Nat) := none
  served : List Nat := []
  assocs : List (Nat × Nat × CertChain × List Byte) := []
  mirrored : List Request := []
  deriving DecidableEq, Repr

/-! ### Start-up, reset, partial reset (chapter 19) -/

/-- The start-up controller (R492–R504): the cold start runs; stages begun and not ended; t_p; when D12 was switched on and when TIMEBASE ended;
the pin RST_N: low, since when, whether it holds the module (1) or a lane (2, 3); blocks in partial reset with t_q and whether the drain has
ended; ends of partial resets that a watchdog began, by block (until the end, the beginning); a module reset that waits for the handover (source). -/
structure Boot where
  running : Bool := false
  open_ : List Nat := []
  tp : Nat := 0
  d12At : Nat := 0
  tbDoneAt : Nat := 0
  rstLow : Bool := false
  rstAt : Nat := 0
  held : Nat := 0
  resets : List (Nat × Nat × Bool) := []
  wdEnd : List (Nat × Nat) := []
  resetDue : Option Nat := none
  deriving DecidableEq, Repr

/-! ### Safety island (chapter 16) -/

/-- A change-log entry (Table 16.7). -/
structure SafetyLog where
  seq : Nat := 0
  tai : Nat := 0
  epoch : Nat := 0
  session : Nat := 0xFF
  kind : Nat := 0
  changed : Nat := 0
  oldScs : Nat := 0
  newScs : Nat := 0
  deriving DecidableEq, Repr

/-- The island beside its OD entries (R425–R445): causes whose condition has ended; SGB_GATE_DELAY running; since when both channels of an input
read high; the last test pulse failed, per channel; both channels of an input read low since its fault (R427); salt and hash of the password; sessions logged in with their last RWS access; logins being
verified (session, its transaction, password); staging sets by session; per port failures, lockout end and length in minutes; the change log, oldest first. -/
structure Safety where
  ended : Nat := 0
  gateAt : Option Nat := none
  highSince : Vector (Option Nat) 2 := Vector.replicate 2 none
  pulseFail : Vector Bool 4 := Vector.replicate 4 false
  bothLow : Vector Bool 2 := Vector.replicate 2 false
  hash : Option (Nat × BitVec 384) := none
  logins : List (Nat × Nat) := []
  verifying : List (Nat × Option Request × List Byte) := []
  staged : List (Nat × List (Nat × Val)) := []
  fails : Vector Nat 5 := Vector.replicate 5 0
  lockUntil : Vector (Option Nat) 5 := Vector.replicate 5 none
  lockMin : Vector Nat 5 := Vector.replicate 5 0
  log : List SafetyLog := []
  deriving DecidableEq, Repr


/-! ### Identity, security, images (chapter 18) -/

/-- An image slot (R478): whole and verified, its versions, and the lane-part versions its hub part accepts. -/
structure ImageSlot where
  valid : Bool := false
  version : Nat := 0
  svn : Nat := 0
  laneMin : Nat := 0
  laneMax : Nat := 0
  deriving DecidableEq, Repr

/-- The security controller and the image store beside their OD entries (R471–R489): tamper sources present, the last 16 detections (TAI s, epoch,
source), detections not yet recorded, a wipe begun without D1, the vault key (none: zeroised, R474, R475); attestations under way and ready (session, octets); the life-cycle request (session, request, instant); whether the vendor range is open; image slots A and B, the slot the module runs from, and
a load under way (session, next offset); the slot each lane runs from. -/
structure Security where
  tamperPresent : Nat := 0
  tamperLog : List (Nat × Nat × Nat) := []
  tamperDue : List Nat := []
  wipeDue : Option Nat := none
  vaultKey : Option (BitVec 256) := some 0
  attest : List (Nat × List Byte) := []
  response : List (Nat × List Byte) := []
  lcReq : Option (Nat × Nat × Nat) := none
  vendorOpen : Bool := false
  slots : Vector ImageSlot 2 := #v[{ valid := true, laneMax := 65535 }, {}]
  running : Nat := 0
  load : Option (Nat × Nat) := none
  loadAt : Nat := 0
  laneSlot : Vector Nat 2 := Vector.replicate 2 0
  deriving DecidableEq, Repr


/-! ### What leaves the module -/

/-- One thing the module has sent, newest first in `State.out`. -/
inductive Emit where
  /-- A CANopen FD emergency message of port `k` for an event code (R390). -/
  | emcy (k code : Nat)
  /-- The answer to a session (Table 12.9): session, TAG, reply. -/
  | reply (session tag : Nat) (r : Reply)
  /-- A NOTICE to a session (R328–R330, R477): RESULT and DETAIL. -/
  | notice (session code detail : Nat)
  /-- A USDO abort code to the client of a session (Table 12.10). -/
  | usdoAbort (session code : Nat)
  /-- A downlink burst of serial lane `l`, queued at LTC `q` (R234): its codewords, and the blocks on the line (R222, R223). -/
  | downlink (l q : Nat) (words : List (BitVec 144)) (line : List LineBlock)
  /-- An uplink burst of a port of an endpoint, begun at LTC `q` of its copy (R236). -/
  | uplink (e port q : Nat) (words : List (BitVec 144)) (line : List LineBlock)
  /-- Training bundles of one end of a lane (R226, R227): `.lane` the module's, `.endpoint` an endpoint's. -/
  | training (tx : RxPort) (words : List (BitVec 144)) (line : List LineBlock)
  /-- Idle control blocks of one end of a lane in P1 (R222, Table 9.3). -/
  | control (tx : RxPort) (line : List LineBlock)
  /-- The fault of a failed TCXO raised on port `k` while the Ethernet clocks still run (R47). -/
  | netFault (k : Nat)
  /-- An Ethernet frame of port `k` (0 E1, 1 E2): a launch frame without its FCS (R368). -/
  | launch (k slot : Nat) (frame : List Byte)
  /-- The answer of port `k` to ARP, IPv6 neighbour discovery, ICMP echo or ICMPv6 echo (R355). -/
  | netAnswer (k : Nat) (kind : EthKind)
  /-- A CAN frame of port `k`: identifier, extended or not, TX_FORMAT, data (R380). -/
  | can (k id : Nat) (ide : Bool) (fmt : Nat) (data : List Byte)
  /-- A datagram of capture stream `q` (R415). -/
  | stream (q : Nat) (payload : List Byte)
  /-- A cross-link burst of lane 16 (X0) or 17 (X1) (R297). -/
  | crosslink (l : Nat) (words : List (BitVec 144)) (line : List LineBlock)
  deriving DecidableEq, Repr

/-- The machine. `now` counts timebase ticks of 1.6 ns since power-up; `ltc` is the local time counter (R38); `dict` is the
object dictionary in sparse canonical form; `free` is the model's own counter of free values (log 5). -/
structure State where
  variant : Variant := .S
  now : Nat := 0
  ltc : Nat := 0
  free : Nat := 0
  dict : List (Nat × Val) := []
  recorder : Recorder := {}
  arch : Arch := {}
  power : Power := {}
  tb : Timebase := {}
  pwm : Pwm := {}
  arms : Vector Arm 6 := Vector.replicate 6 {}
  ld : Vector LdChan 6 := Vector.replicate 6 {}
  sig : Signals := {}
  streams : Vector Stream 4 := Vector.replicate 4 {}
  maskRun : Vector Nat 8 := Vector.replicate 8 0
  lanes : Lanes := {}
  frame : Frame := {}
  sup : Super := {}
  adc : Vector AdcCore 32 := Vector.replicate 32 {}
  adcUnit : AdcUnit := {}
  chains : Vector Chain 32 := Vector.replicate 32 {}
  link : Link := {}
  pair : PairRec := {}
  servo : Servo := {}
  safety : Safety := {}
  security : Security := {}
  hosts : Hosts := {}
  boot : Boot := {}
  can : Vector CanPort 2 := Vector.replicate 2 {}
  launchAt : Vector Nat 32 := Vector.replicate 32 0
  launchBusy : Vector Nat 2 := Vector.replicate 2 0
  ethWait : Vector (List EthKind) 2 := Vector.replicate 2 []
  out : List Emit := []
  pending : List Instr := []
  deriving DecidableEq, Repr


/-- The module at reset (power-up): every field at the value INVENTORY.md lists. (Log 3, 4 and 8, DESIGN CHOICE, unsafe.) (log 3, DESIGN CHOICE, unsafe) (log 4, DESIGN CHOICE, unsafe) (log 8, DESIGN CHOICE, unsafe) (log 131, DESIGN CHOICE, unsafe) -/
def State.reset : State := {}

end Sys2Proof.Machine
end

