-- ==== Sys2Proof/Machine/Formed.lean ====
section
/-!
DEFINITION. Machine/Formed.lean: reading and writing dictionary entries, counting, time stamps, and the entries whose value is formed as it is
looked at.
-/
namespace Sys2Proof.Machine
open Sys2Proof

/-! ### Units of time -/

/-- Milliseconds in timebase ticks of 1.6 ns (R33). -/
def ms (n : Nat) : Nat := n * 625000
/-- Microseconds in ticks. -/
def us (n : Nat) : Nat := n * 625
/-- Seconds in ticks. -/
def sec (n : Nat) : Nat := n * 625000000
/-- Nanoseconds of a number of ticks, rounded down. -/
def nsOf (ticks : Nat) : Nat := ticks * 8 / 5
/-- Whole ticks of a number of nanoseconds. -/
def ticksOfNs (ns : Nat) : Nat := ns * 5 / 8

/-! ### The object dictionary -/

/-- The default of REC_CFG for a code: BURST, REFILL and no snapshot set (R400, Table 15.10). -/
def recCfgDefault (code : Nat) : Nat :=
  match Ev.severity code with
  | 0 => 8 * 2 ^ 24 + 1000 * 2 ^ 8
  | 1 => 16 * 2 ^ 24 + 100 * 2 ^ 8
  | _ => 64 * 2 ^ 24 + 10 * 2 ^ 8

/-- The `i`-th default of a row; the last one repeats. -/
def nthDefault : List Val → Nat → Val
  | [], _ => .num 0
  | [v], _ => v
  | v :: _, 0 => v
  | _ :: vs, i + 1 => nthDefault vs i

/-- What an entry reads as until something writes it: the Default column of its table. -/
def odDefault (k : Nat) : Val :=
  match OD.findRow (k / 256) (k % 256) with
  | none => .num 0
  | some r =>
    if 0x8041 ≤ k / 256 ∧ k / 256 ≤ 0x8052 then .num (recCfgDefault ((k / 256 - 0x8040) * 256 + k % 256))
    else nthDefault r.dflts (if r.subs = 1 then k / 256 - r.index else k % 256 - r.sub)

/-- The number a value stands for (0 for octets). -/
def Val.asInt : Val → Int
  | .num n => n
  | .bytes _ => 0

/-- The octets a value stands for (none for a number). -/
def Val.asBytes : Val → List Byte
  | .num _ => []
  | .bytes b => b

/-- The value of entry `k`. -/
def State.od (s : State) (k : Nat) : Val := sparseGet odDefault s.dict k
/-- Entry `k` as an integer. -/
def State.int (s : State) (k : Nat) : Int := Val.asInt (s.od k)
/-- Entry `k` as a natural number. -/
def State.nat (s : State) (k : Nat) : Nat := (s.int k).toNat
/-- Entry `k` as a binary32 pattern. -/
def State.f32 (s : State) (k : Nat) : F32 := BitVec.ofInt 32 (s.int k)
/-- Entry `k` as a flag. -/
def State.flag (s : State) (k : Nat) : Bool := decide (s.int k ≠ 0)
/-- Entry `k` as octets. -/
def State.octets (s : State) (k : Nat) : List Byte := Val.asBytes (s.od k)

/-- Write entry `k`. -/
def State.put (s : State) (k : Nat) (v : Val) : State := { s with dict := sparseSet odDefault s.dict k v }
/-- Write entry `k` with an integer. -/
def State.putI (s : State) (k : Nat) (n : Int) : State := s.put k (.num n)
/-- Write entry `k` with a natural number. -/
def State.putN (s : State) (k : Nat) (n : Nat) : State := s.put k (.num n)
/-- Write entry `k` with a binary32 pattern. -/
def State.putF (s : State) (k : Nat) (x : F32) : State := s.put k (.num x.toNat)
/-- Write entry `k` with a flag. -/
def State.putB (s : State) (k : Nat) (b : Bool) : State := s.put k (.num (if b then 1 else 0))
/-- A saturating 32-bit counter counts `n`. -/
def State.count (s : State) (k n : Nat) : State := s.putN k (Nat.min (s.nat k + n) 0xFFFFFFFF)
/-- A saturating 32-bit counter counts one. -/
def State.bump (s : State) (k : Nat) : State := s.count k 1
/-- A wrapping 32-bit counter counts one. -/
def State.bumpW (s : State) (k : Nat) : State := s.putN k ((s.nat k + 1) % 4294967296)
/-- Bit `i` of entry `k`. -/
def State.bit (s : State) (k i : Nat) : Bool := (s.nat k).testBit i
/-- A number with bit `i` set or cleared. -/
def withBit (n i : Nat) (b : Bool) : Nat :=
  if n.testBit i then (if b then n else n - 2 ^ i) else (if b then n + 2 ^ i else n)
/-- Set or clear bit `i` of entry `k`. -/
def State.putBit (s : State) (k i : Nat) (b : Bool) : State := s.putN k (withBit (s.nat k) i b)

/-- Append to what the module has sent. -/
def State.emit (s : State) (e : Emit) : State := { s with out := e :: s.out }
/-- Take the next free value's number and advance the counter (log 5, DESIGN CHOICE, safe). -/
def State.draw (s : State) : Nat × State := (s.free, { s with free := s.free + 1 })

/-- Further `n` free values are used up. -/
def State.drawn (s : State) (n : Nat) : State := { s with free := s.free + n }

/-! ### Time -/

/-- TAI in nanoseconds of the present LTC (chapter 02, "Local time and the alignment grid"). -/
def State.taiNs (s : State) : Nat := nsOf s.ltc % 2 ^ 64
/-- The TAI80 value of the present instant: the time epoch above the nanoseconds. -/
def State.tai80 (s : State) : Int := ((s.nat OD.TIME_EPOCH * 2 ^ 64 + s.taiNs : Nat) : Int)
/-- `d` ticks have passed since the stamp `t`. -/
def State.past (s : State) (t d : Nat) : Bool := decide (t + d ≤ s.now)
/-- Whole milliseconds since the stamp `t`. -/
def State.msSince (s : State) (t : Nat) : Nat := (s.now - t) / 625000

/-! ### Helpers of the units these values come from -/

/-- The `i`-th member of a fixed array, or the default outside it. -/
def vget {α : Type} {n : Nat} (d : α) (v : Vector α n) (i : Nat) : α := v[i]?.getD d

/-- The array with member `i` replaced (unchanged outside it). -/
def vset {α : Type} {n : Nat} (v : Vector α n) (i : Nat) (x : α) : Vector α n := v.setIfInBounds i x

/-- Domain `d` is on (R460). -/
def State.domainOn (s : State) (d : Nat) : Bool := decide (s.nat (OD.PWR_STATE d) = 1)

/-- The status index of a session number (R322): E1.0–3, E2.0–3, C1, C2, M. -/
def sessIdx (session : Nat) : Nat :=
  if session < 4 then session
  else if 0x10 ≤ session ∧ session < 0x14 then session - 0x0C
  else if session = 0x20 then 8
  else if session = 0x30 then 9
  else if session = 0x40 then 10
  else 11

/-- The physical port of a session (R352): 0 E1, 1 E2, 2 C1, 3 C2, 4 M. -/
def sessPort (session : Nat) : Nat := session / 16

/-- The session numbers in the order of their indexes (R322). -/
def allSessions : List Nat := [0x00, 0x01, 0x02, 0x03, 0x10, 0x11, 0x12, 0x13, 0x20, 0x30, 0x40]

/-- A lane's record. -/
def State.lane (s : State) : Lane → LaneRec
  | .a => s.lanes.a
  | .b => s.lanes.b

/-- One ADC core. -/
def State.core (s : State) (c : Nat) : AdcCore := vget {} s.adc c

/-- One channel's chain. -/
def State.chain (s : State) (n : Nat) : Chain := vget {} s.chains n

/-- The even core of the pair a core belongs to by number. -/
def evenOf (c : Nat) : Nat := c - c % 2

/-- Cores 2j and 2j + 1 form a pair: decided by the even core alone (R65). -/
def State.pairFormed (s : State) (c : Nat) : Bool :=
  s.flag (OD.ADC_PAIR (evenOf c)) && s.flag (OD.ADC_ENABLE (evenOf c))

/-- The pair has fallen back to its healthy core (R66). -/
def State.pairBack (s : State) (c : Nat) : Bool := s.pairFormed c && (s.core (evenOf c)).fallback

/-- The core is enabled: by its own entry, or as a half of a formed pair. -/
def State.coreOn (s : State) (c : Nat) : Bool := s.pairFormed c || s.flag (OD.ADC_ENABLE c)

/-- The channel a core's primary stream feeds (chapter 04). -/
def State.chanOf (s : State) (c : Nat) : Nat := if s.pairFormed c then evenOf c else c

/-- The channel delivers valid output (R79): of a pair every core that is not faulted has completed its start-up calibration, and one is not
faulted (R73). -/
def State.chanValid (s : State) (n : Nat) : Bool :=
  let ok (c : Nat) : Bool := (s.core c).faulted || (s.core c).calDone
  if s.pairFormed n then
    n % 2 = 0 && ok n && ok (n + 1) && !((s.core n).faulted && (s.core (n + 1)).faulted)
  else s.flag (OD.ADC_ENABLE n) && !(s.core n).faulted && (s.core n).calDone

/-- The channel is faulted: a paired one only when both cores are (R79). -/
def State.chanFault (s : State) (n : Nat) : Bool :=
  if s.pairFormed n then (s.core (evenOf n)).faulted && (s.core (evenOf n + 1)).faulted else (s.core n).faulted

/-- P_s in half ticks (R62). -/
def State.ps2 (s : State) (n : Nat) : Nat :=
  let pc := s.nat (OD.ADC_PERIOD n)
  if s.pairFormed n && !s.pairBack n then pc else 2 * pc

/-- CIC order N. -/
def State.cicN (s : State) (n : Nat) : Nat := s.nat (OD.CIC_ORDER n)

/-- CIC decimation R. -/
def State.cicR (s : State) (n : Nat) : Nat := s.nat (OD.CIC_DEC n)

/-- The FIR is in use (R85). -/
def State.firOn (s : State) (n : Nat) : Bool := decide (s.nat (OD.FIR_SET n) < 8)

/-- The resampler is on (R87). -/
def State.rsOn (s : State) (n : Nat) : Bool := decide (s.nat (OD.RS_MODE n) ≠ 0)

/-- FIR decimation in use. -/
def State.firD (s : State) (n : Nat) : Nat := if s.firOn n then s.nat (OD.FIR_DEC n) else 1

/-- Total group delay of the stages in use, in ticks (R84–R86, R89). -/
def State.groupDelay (s : State) (n : Nat) : Int :=
  let r := s.cicR n
  let cic4 := s.cicN n * (r - 1) * s.ps2 n
  let fir := if s.firOn n then fnearest (fmul (s.f32 (OD.FIR_DELAY (s.nat (OD.FIR_SET n)))) (fq (r * s.ps2 n : Nat) 2)) else 0
  let rs4 := if s.rsOn n then 15 * r * s.firD n * s.ps2 n else 0
  ((cic4 + rs4) / 4 : Nat) + fir

/-- DEGR: start-up calibration incomplete, or reference divergence above warning (Table 3.3, R72). -/
def State.degr (s : State) (c : Nat) : Bool :=
  !(s.core c).calDone || decide ((s.int OD.REF_DIVERGENCE).natAbs > s.nat OD.REF_DIV_WARN)

/-- t_h: the longer of the times since HOLDOVER was entered and since the servo left LOCKED, or made its first measurement. -/
def State.unheldTicks (s : State) : Nat :=
  let tb := if s.nat OD.TB_STATE = 4 then s.now - s.tb.holdAt else 0
  let sv := if s.nat OD.SERVO_STATE = 3 then 0
    else if s.servo.everLocked then s.now - s.servo.leftAt.getD s.now else s.now - s.servo.firstAt
  Nat.max tb sv

/-- e in ns; none before the servo's first measurement. -/
def State.interleaveErr (s : State) : Option Nat :=
  if s.servo.count = 0 then none
  else
    let th := s.unheldTicks
    let early := Nat.min th (sec 10)
    let residue := (List.range 8).foldl (fun m c => Nat.max m (s.int (OD.CAR_PHASE_ERR c)).natAbs) 0
    some (s.nat OD.OFFSET_UNC + nsOf (2 * early + 5 * (th - early)) / 1000000 + nsOf residue)

/-- The session holds a safety login. -/
def State.loggedIn (s : State) (session : Nat) : Bool := s.safety.logins.any fun x => decide (x.1 = session)

/-- Lockout left on a port, ticks. -/
def State.lockoutTicks (s : State) (port : Nat) : Nat :=
  match vget none s.safety.lockUntil port with
  | some t => t - s.now
  | none => 0

/-- One bank. -/
def State.bank (s : State) (b : Nat) : Bank := vget {} s.power.banks b

/-- Corrected codewords of the last hour. -/
def State.corrHour (s : State) (b : Nat) : Nat := ((s.bank b).hourHits.filter fun t => decide (s.now < t + sec 3600)).length

/-- PWR_REQ; D0–D2 are as the module supplies them (R460). -/
def State.pwrReq (s : State) (d : Nat) : Nat := if d = 2 ∧ s.variant = .A then 0 else s.nat (OD.PWR_REQ d)

/-- Milliseconds since t_p. -/
def State.bootMs (s : State) : Nat := s.msSince s.boot.tp

/-! ### Values formed as they are looked at -/

/-- The lease left, ms. -/
def State.leaseLeft (s : State) : Nat :=
  if s.nat OD.OWNER_SESSION = 0xFF then 0 else (s.hosts.leaseAt + sec (s.nat OD.OWN_LEASE) - s.now) / 625000

/-- ADC_CORE_STATE (Table 3.7). (Log 18, DEDUCED, unsafe.) -/
def State.coreState (s : State) (c : Nat) : Nat :=
  if s.domainOn 7 = false ∨ s.coreOn c = false then 0
  else if (s.core c).faulted then 4
  else if (s.core c).calDone = false then 1
  else if s.pairBack c then 5
  else if s.degr c then 3
  else 2

/-- SETTLE_LEFT: remaining settling in µs, rounded down (R91, log 13, DESIGN CHOICE, unsafe): the sum of what the stages still lack, one after
the other, less the inputs of the one that fills which have already come. -/
def State.settleLeft (s : State) (n : Nat) : Nat :=
  let c := s.chain n
  let part := if c.cicLeft ≠ 0 then 0 else if c.firLeft ≠ 0 then c.cicPhase else if c.rsLeft ≠ 0 then c.cicPhase + s.cicR n * c.firPhase else 0
  ((c.cicLeft + c.firLeft * s.cicR n + c.rsLeft * s.cicR n * s.firD n - part) * s.ps2 n) / 1250

/-- ρ in use, in 2⁻³²: RS_RATIO in fixed mode, the module's own in grid-locked mode (R86, R87; OD (2200 + n).0E). -/
def State.rhoNow (s : State) (n : Nat) : Nat :=
  if s.nat (OD.RS_MODE n) = 1 then s.nat (OD.RS_RATIO n) else if s.rsOn n then (s.chain n).rho else 0

/-- A result register of core `c` carries FAULT: core faulted, D7 off or timebase lost (Table 3.3). -/
def State.resultFault (s : State) (c : Nat) : Bool :=
  (s.core c).faulted || !s.domainOn 7 || !(decide (s.nat OD.TB_STATE = 3) || decide (s.nat OD.TB_STATE = 4))

/-- CH_STATUS with what follows the cores at once: VALID only while the channel delivers valid output, FAULT (Tables 4.3, 4.6). -/
def State.chStatus (s : State) (n : Nat) : Nat :=
  let v := s.nat (OD.CH_STATUS n)
  withBit (withBit v 3 (v.testBit 3 && s.chanValid n)) 0 (s.chanFault n)

/-- CIC_WIDTH: W = 18 + ceil(N · log2 R) (R83). -/
def State.cicWidth (s : State) (n : Nat) : Nat := 18 + ((List.range 31).find? fun w => decide (s.cicR n ^ s.cicN n ≤ 2 ^ w)).getD 31

/-- The version a lane part runs, 0 while it runs none. -/
def State.lanePart (s : State) (l : Lane) : Nat := if (s.lane l).booted then (s.lane l).version % 65536 else 0

/-- What the module forms of families of entries. -/
def State.familyVal (s : State) (k : Nat) : Option Nat :=
  let i := k / 256
  let j := k % 256
  let n (x : Nat) : Option Nat := some x
  if i / 32 = 0x2100 / 32 ∧ j = 0x0C then n (s.coreState (i - 0x2100))
  else if i / 32 = 0x2180 / 32 then n (withBit (s.nat k) 26 (s.resultFault (i - 0x2180)))
  else if i / 32 = 0x2200 / 32 ∧ j = 0x0C then n (s.chStatus (i - 0x2200))
  else if i / 32 = 0x2200 / 32 ∧ j = 0x0D then n (s.settleLeft (i - 0x2200))
  else if i / 32 = 0x2200 / 32 ∧ j = 0x0F then n (fq (s.groupDelay (i - 0x2200)) 625).toNat
  else if i / 32 = 0x2200 / 32 ∧ j = 0x10 then n (s.cicWidth (i - 0x2200))
  else if 0x9320 ≤ i ∧ i ≤ 0x932A ∧ j = 4 then n (if s.loggedIn (allSessions.getD (i - 0x9320) 0xFF) then 1 else 0)
  else if i = 0xB102 ∧ j = 1 then n (s.pwrReq 2)
  else if 0xB000 ≤ i ∧ i ≤ 0xB010 ∧ k = OD.CORR_HOUR (i - 0xB000) then n (Nat.min (s.corrHour (i - 0xB000)) 65535)
  else none

/-- The whole numbers the module forms of its state; `none` where the entry holds its value. (Log 17, DEDUCED, unsafe.) -/
def State.formed (s : State) (k : Nat) : Option Nat :=
  if k = OD.HOLDOVER_TIME then (if s.nat OD.TB_STATE = 4 then some (Nat.min (s.msSince s.tb.holdAt) 0xFFFFFFFF) else none)
  else if k = OD.INTERLEAVE_ERR then some (match s.interleaveErr with | some e => Nat.min e 0xFFFFFFFE | none => 0xFFFFFFFF)
  else if k = OD.TX_RATE then some (s.hosts.served.filter fun t => decide (s.now < t + sec 1)).length
  else if k = OD.QUEUE_DEPTH then some s.hosts.queue.length
  else if k = OD.COMMIT_STATE then some (match s.hosts.commit with | some c => if s.now < c.loadedAt then 2 else 3 | none => 0)
  else if k = OD.VARIANT then some (if s.variant = .A then 0 else 1)
  else if k = OD.UPTIME then some (Nat.min (s.bootMs / 1000) 0xFFFFFFFF)
  else if k = OD.OWN_LEASE_LEFT then some s.leaseLeft
  else if k = OD.LANE_FW then some (s.lanePart .b * 65536 + s.lanePart .a)
  else if k % 256 = 0 then OD.highestSub (k / 256)
  else s.familyVal k

/-- REFCLK_IN is in use: the module continuously measures the TCXO against it (R43). -/
def State.refInUse (s : State) : Bool := s.flag OD.REF_ACTIVE && s.tb.refQualified && decide (s.nat OD.TB_STATE ≠ 0)

/-- The present measurement of the TCXO against REFCLK_IN, 0.01 ppb (R43; free at every tick, log 5). -/
def State.tcxoVsRef (s : State) : Int := ((Config.tcxoVsRef s.now % 2 ^ 32 : Nat) : Int) - 2 ^ 31

/-- An entry as the dictionary, the recorder and captures see it. -/
def State.live (s : State) (k : Nat) : Int :=
  if k = OD.TCXO_VS_REF ∧ s.refInUse = true then s.tcxoVsRef
  else match s.formed k with
    | some n => n
    | none => s.int k

end Sys2Proof.Machine
end

