-- ==== Sys2Proof/Machine/Ops.lean ====
section
/-!
DEFINITION. Machine/Ops.lean: the named operations that every command uses: raising an occurrence in the event recorder, and the shared stops of the law and of the outputs.
-/
namespace Sys2Proof.Machine
open Sys2Proof

/-! ### The event recorder (R394–R404) -/

/-- What a source tells the recorder of one occurrence. -/
structure Occ where
  code : Nat
  detail : Nat := 0
  set : Bool := true
  session : Nat := 0xFF
  count : Nat := 1
  origin : Nat := 0
  extra : List (Nat × Nat) := []
  deriving DecidableEq, Repr

/-- The raw 32-bit value of a number in a snapshot slot: sign-extended to 32 bits (R396). -/
def raw32 (n : Int) : Nat := (n % 4294967296).toNat

/-- The raw value of a signal (Table 15.2). A submodule voltage is its code in units of 0.1 V (Table 9.15). -/
def State.signal (s : State) (id : Nat) : Nat :=
  if id < 0x100 then 0
  else if id < 0x200 then (vget 0 s.sig.sample (id - 0x100)).toNat
  else if id < 0x300 then (vget 0 s.sig.meas (id - 0x200)).toNat
  else if id < 0x400 then (vget 0 s.sig.law (id - 0x300)).toNat
  else if id < 0x1000 then 0
  else if id < 0x1600 then (fq ((sparseGet (fun _ => 0xFFFF) (vget {} s.arms ((id - 0x1000) / 256)).volts (id % 256) : Nat) : Int) 10).toNat
  else raw32 (s.live id)

/-- The default snapshot of a code's subsystem (Table 15.3); `x` is the family variable, DETAIL[7:0] (R397). -/
def defaultSnap (code x : Nat) : List Nat :=
  match code / 256 with
  | 0x01 => [OD.TB_STATE, OD.TB_TUNE, OD.HOLDOVER_TIME, OD.INTERLEAVE_ERR, OD.TIME_QUALITY]
  | 0x02 => [OD.ADC_CAL_STATE, OD.REF_DIVERGENCE, OD.ADC_FAULT_MASK, OD.ICH_VALUE 0, OD.ICH_VALUE 1, OD.ADC_RESULT x 0]
  | 0x03 => [OD.UNSETTLED_MASK, OD.GRIDSYNC_MASK, OD.FP_MISSED, OD.CH_STATUS x]
  | 0x04 =>
    [OD.FRAME_STATE, OD.SI_LANE_A, OD.SI_LANE_B, OD.SHED_LEVEL, OD.SQUASHES, OD.ADMIT_COST] ++
    (if code = Ev.ADMISSION_REFUSED then [OD.LAST_REFUSAL, OD.LAST_REFUSAL_QTY, OD.LAST_REFUSAL_LOC] else [])
  | 0x05 => [OD.LAW_STATE, OD.OMEGA, OD.THETA, OD.P_E, OD.Q_E, OD.E_NOW, OD.V_MAG, OD.OMEGA_BUS, OD.BUS_STATE, OD.FAULT_CAUSE]
  | 0x06 => [OD.LAW_STATE, OD.P_E, OD.Q_E, OD.V_MAG, OD.LIM_L0, OD.OL_TIME, OD.ZF_MAG, OD.DELTA_NOW, OD.RT_TIME_UV, OD.FB_LOST_MASK]
  | 0x07 => [OD.OUT_STATE, OD.TRIP_LATCH, OD.LOAD_LATE, 0x300, 0x301]
  | 0x08 => [OD.LANE_STATE x, OD.FOM_RX x, OD.PAR_UNCORR x, OD.ONEWAY x]
  | 0x09 => [OD.LD_STATE x, OD.LD_FAULT x, OD.RETRY_LEFT x, OD.VPOS_MEAS x, OD.VNEG_MEAS x]
  | 0x0A => [OD.CLAIM_A, OD.CLAIM_B, OD.LANE_STATE_A, OD.LANE_STATE_B, OD.HEALTH_A, OD.HEALTH_B, OD.EFT_STATE]
  | 0x0B => [OD.PAIR_STATE, OD.PARTNER_STATE, OD.MODULE_CLAIM, OD.PARTNER_CLAIM, OD.LEASE_EPOCH_NOW, OD.STEP_COUNT]
  | 0x0C => [OD.OWNER_SESSION, OD.CONFIG_GEN, OD.QUEUE_DEPTH, OD.TX_RATE]
  | 0x0D => [OD.SERVO_STATE, OD.OFFSET, OD.OFFSET_UNC, OD.TIME_EPOCH, OD.SLAVE_PORT]
  | 0x0E => [OD.PORT_STATE x, OD.TEC_REC x, OD.CAN_FLAGS x, OD.TT_STATE x]
  | _ => [OD.LAW_STATE, OD.OUT_STATE, OD.TRIP_LATCH, OD.SERVING_LANE, OD.MODULE_CLAIM]

/-- The members of the snapshot set a code names in its REC_CFG (R397, Table 15.10). -/
def State.snapSet (s : State) (code : Nat) : List Nat :=
  let g := s.nat (OD.REC_CFG code) / 16 % 16
  if g = 0 then []
  else ((List.range 24).map fun j => s.nat (OD.SNAP_SET (g - 1) j)).filter (fun id => decide (id ≠ 0))

/-- The snapshot of an occurrence: defaults, what the code adds, the snapshot set, cut at 24 values (R397). -/
def State.snapshot (s : State) (code detail : Nat) (extra : List (Nat × Nat)) : List (Nat × Nat) :=
  (((defaultSnap code (detail % 256)).map fun id => (id, s.signal id)) ++ extra ++
   ((s.snapSet code).map fun id => (id, s.signal id))).take 24

/-- The severity of one occurrence (R399, R72). -/
def State.severityOf (s : State) (code : Nat) (set : Bool) : Nat :=
  if !set then 0
  else if code = Ev.ADC_REF_DIVERGE then
    (if s.adcUnit.divergeLevel = 2 then 2 else 1)
  else Ev.severity code

/-- The record an occurrence makes, before its sequence number (R395–R398). -/
def State.recordOf (s : State) (o : Occ) (summary : Bool) : Rec :=
  { epoch := s.nat OD.TIME_EPOCH, tai := s.taiNs, code := o.code, severity := s.severityOf o.code o.set,
    timeQ := s.nat OD.TIME_QUALITY, set := o.set, summary := summary, origin := o.origin, detail := o.detail % 65536,
    session := o.session, frame := s.nat OD.FRAME_NUMBER, count := o.count,
    snap := s.snapshot o.code o.detail o.extra }

/-- The emergency messages of a fail record with SET 1: one on each port on the bus that is a CANopen FD device (R390, R399). -/
def State.emergency (s : State) (r : Rec) : State :=
  if r.severity = 2 ∧ r.set = true then
    (List.range 2).foldl (init := s) fun s k =>
      if (decide (s.nat (OD.PORT_STATE k) = 2) || decide (s.nat (OD.PORT_STATE k) = 3)) && s.flag (OD.CANOPEN_EN k) && s.flag (OD.NODE_ID k) then s.emit (.emcy k r.code) else s
  else s

/-- Put the recorder's fields. -/
def State.setRec (s : State) (r : Recorder) : State := { s with recorder := r }

/-- The highest fill of the staging FIFO since power-up (Table 15.10). -/
def State.fifoPeak (s : State) : State := s.putN OD.FIFO_PEAK (Nat.max (s.nat OD.FIFO_PEAK) s.recorder.fifo.length)

/-- An entry reaches the staging FIFO (R403, R404, R407): AUX_SUPPLY ahead of everything not yet written and into the reserved
entry when the 128 are full; any other one behind them, or lost and counted when they are full. -/
def State.enterFifo (s : State) (r : Rec) : State :=
  let q := s.recorder
  if q.frozen then s.bump OD.FROZEN_LOST
  else if r.code = Ev.AUX_SUPPLY then
    (if q.fifo.length < 128 then ((s.setRec { q with fifo := r :: q.fifo }).fifoPeak).emergency r
     else (s.setRec { q with aux := some r }).emergency r)
  else if q.fifo.length < 128 then ((s.setRec { q with fifo := q.fifo ++ [r] }).fifoPeak).emergency r
  else
    (s.setRec { q with lost := sparseSet (fun _ => 0) q.lost r.code (sparseGet (fun _ => 0) q.lost r.code + 1) }).bump
      (OD.REC_OVERFLOW r.code)

/-- A record that bypasses the buckets and is never dropped: it waits when the FIFO is full (R402); a summary of a fail code is a fail record too
(R399). -/
def State.bypass (s : State) (r : Rec) : State :=
  let q := s.recorder
  if q.frozen && r.code != Ev.REC_FROZEN then s.bump OD.FROZEN_LOST
  else if q.fifo.length < 128 then ((s.setRec { q with fifo := q.fifo ++ [r] }).fifoPeak).emergency r
  else s.setRec { q with waiting := q.waiting ++ [r] }

/-- The bucket of a code. -/
def State.bucket (s : State) (code : Nat) : Bucket := sparseGet (fun _ => {}) s.recorder.buckets code

/-- Replace the bucket of a code. -/
def State.putBucket (s : State) (code : Nat) (b : Bucket) : State :=
  s.setRec { s.recorder with buckets := sparseSet (fun _ => {}) s.recorder.buckets code b }

/-- Conditions of Table 15.5 count on stream `q`: it runs, or its frozen window awaits re-arming (R410). -/
def State.streamHears (s : State) (q : Nat) : Bool :=
  let st := s.nat (OD.STREAM_STATE q)
  decide (st ≠ 0) && decide (st ≠ 4) && (decide (st ≠ 3) || decide (s.nat (OD.STREAM_MODE q) = 2))

/-- Capture streams whose trigger is an event code take the occurrence as theirs, suppressed or not (R401, Table 15.5). -/
def State.eventTriggers (s : State) (code : Nat) : State :=
  { s with streams := Vector.ofFn fun q : Fin 4 =>
      let st := vget {} s.streams q.val
      if s.streamHears q.val = true ∧ s.nat (OD.TRIG_TYPE q.val) = 5 ∧
          code &&& (s.nat (OD.TRIG_MASK q.val) % 65536) = s.nat (OD.TRIG_VALUE q.val) % 65536
      then { st with evTrig := st.evTrig ++ [(code, s.ltc)] } else st }

/-- BURST of a code's rate limit. -/
def State.burst (s : State) (code : Nat) : Nat := s.nat (OD.REC_CFG code) / 2 ^ 24

/-- An occurrence is raised: capture triggers see it; it takes a token into the FIFO, or is suppressed and counted
(R401). Codes 0x1201–0x1203 bypass the buckets (R402). -/
def State.occur (s : State) (o : Occ) : State :=
  let s := s.eventTriggers o.code
  let b := s.bucket o.code
  if o.code = Ev.REC_CLEARED ∨ o.code = Ev.REC_OVERFLOW ∨ o.code = Ev.REC_FROZEN then s.bypass (s.recordOf o false)
  else if b.used < s.burst o.code then
    (s.putBucket o.code { b with used := b.used + 1, since := if b.used = 0 then s.now else b.since }).enterFifo
      (s.recordOf o false)
  else
    (s.putBucket o.code { b with pend := b.pend + 1, lastDetail := o.detail }).bump (OD.REC_SUPPRESSED o.code)

/-- An occurrence with a code, a DETAIL and SET. (Log 23, DESIGN CHOICE, unsafe.) -/
def State.note (s : State) (code detail : Nat) (set : Bool := true) : State := s.occur { code := code, detail := detail, set := set }

/-- The timebase is valid in LOCKED and HOLDOVER (Table 2.3). -/
def State.tbValid (s : State) : Bool := decide (s.nat OD.TB_STATE = 3) || decide (s.nat OD.TB_STATE = 4)

/-! ### Law state and outputs (R148, R198, R201–R206) -/

/-- PRESYNC with the breaker open and the gates on: breaker mode, except after an unauthorised rise in a non-gated state (R153, R154). -/
def State.gatedSync (s : State) : Bool := decide (s.nat OD.BS_TOPO = 1) && !s.sup.freeSync

/-- The law states in which the gates are on (Table 6.4): ENERGISE, RUN, STOPPING, and PRESYNC in breaker mode. -/
def State.gatedState (s : State) (st : Nat) : Bool :=
  decide (st = 4) || decide (st = 6) || decide (st = 7) || (decide (st = 5) && s.gatedSync)

/-- The observer's bridge ends with the law's loops, without a return (R183). -/
def State.endBridge (s : State) : State :=
  if s.sup.bridging then
    (({ s with sup := { s.sup with bridging := false, blend := none } }).putN OD.OBS_STATE (if s.flag OD.OBS_ENABLE then 1 else 0)).putN OD.BRIDGE_LEFT 0
  else s

/-- Outside RUN and STOPPING both ride-through timers are held at zero; one that ran is recorded as reset (R163). -/
def State.rtHold (s : State) : State :=
  let ran := s.sup.uv.since.isSome || s.sup.ov.since.isSome
  let s := { s with sup := { s.sup with uv := {}, ov := {} } }
  let s := ((s.putN OD.RT_STATE 0).putF OD.RT_TIME_UV 0).putF OD.RT_TIME_OV 0
  if ran then s.note Ev.RT_ENTERED 0 false else s

/-- OUT_STATE changes, with its cause (Table 15.11, code 0x0701). -/
def State.setOut (s : State) (st cause : Nat) : State :=
  if s.nat OD.OUT_STATE = st then s else (s.putN OD.OUT_STATE st).note Ev.OUT_STATE (st * 256 + cause)

/-- The outputs are armed (R198): the stop whose safe-state parcels were sent is over. -/
def State.armOutputs (s : State) : State := ({ s with pwm := { s.pwm with safeParcels := none } } : State).setOut 1 1

/-- LAW_STATE changes, with its cause (R148; Table 15.11, code 0x0501); entering a gated state arms the outputs (R198) and ends
the stop whose safe-state parcels were sent; outside RUN and STOPPING the ride-through timers are held, and a bridge goes on only where the
loops do (R163, R183, R184). -/
def State.setLaw (s : State) (st cause : Nat) : State :=
  let old := s.nat OD.LAW_STATE
  if old = st then s
  else
    let s := (s.putN OD.LAW_STATE st).note Ev.LAW_STATE (old * 4096 + st * 256 + cause)
    let s := { s with sup := { s.sup with freeSync := s.sup.freeSync && decide (st = 5) } }
    let s := if st = 6 ∨ st = 7 then s else s.rtHold
    let s := if s.gatedState st || (decide (st = 8) && s.sup.degFrom.isSome) then s else s.endBridge
    if s.gatedState st && decide (s.nat OD.OUT_STATE = 0) then s.armOutputs else s

/-- One channel of the PWM unit. -/
def State.chan (s : State) (i : Nat) : Channel := vget {} s.pwm.channels i

/-- Each edge of a local channel of a pair in TRIP_BLANK_MASK opens the blanking window of that trip input, or restarts it
(R207); TRIP_BLANK counts 12.8 ns, 8 ticks. -/
def State.openBlanking (s : State) (p : Nat) : State :=
  (List.range 4).foldl (init := s) fun s i =>
    if s.bit (OD.TRIP_BLANK_MASK i) p && s.flag (OD.TRIP_BLANK i) then
      let t : TripIn := { vget {} s.pwm.trips i with blankUntil := s.now + 8 * s.nat (OD.TRIP_BLANK i) }
      { s with pwm := { s.pwm with trips := vset s.pwm.trips i t } }
    else s

/-- A channel takes a level now; where that is an edge, blanking windows open (R207). A turn-on that was held back is over. -/
def State.chanSet (s : State) (i : Nat) (level : Bool) : State :=
  let c := s.chan i
  if c.active = level then { s with pwm := { s.pwm with channels := vset s.pwm.channels i { active := level, edgeAt := c.edgeAt } } }
  else { s with pwm := { s.pwm with channels := vset s.pwm.channels i { active := level, edgeAt := s.now } } }.openBlanking (i / 2)

/-- A channel goes inactive now; a turn-on still held back by dead time is cancelled. -/
def State.chanOff (s : State) (i : Nat) : State := s.chanSet i false

/-- A channel goes active now. -/
def State.chanOn (s : State) (i : Nat) : State := s.chanSet i true

/-- The device of a channel (Table 8.1): 1–6 for S1–S6, 0 for a 2-level device. -/
def deviceOf (topology pos : Nat) (high : Bool) : Nat :=
  match topology, pos, high with
  | 1, 1, true => 1
  | 1, 1, false => 3
  | 1, 2, true => 2
  | 1, 2, false => 4
  | 2, 1, true => 1
  | 2, 1, false => 5
  | 2, 2, true => 2
  | 2, 2, false => 3
  | 2, 3, true => 4
  | 2, 3, false => 6
  | _, _, _ => 0

/-- The device switched by channel `i`. -/
def State.device (s : State) (i : Nat) : Nat :=
  deviceOf (s.nat OD.TOPOLOGY) (s.nat (OD.PAIR_POS (i / 2))) (decide (i % 2 = 0))

/-- Outer devices are S1 and S4 (R199). -/
def isOuter (d : Nat) : Bool := decide (d = 1) || decide (d = 4)

/-- The devices the CLAMP state holds active (Table 8.5): S2, S3 on NPC; S2, S5, S6 on ANPC. -/
def clampActive (topology d : Nat) : Bool :=
  if topology = 1 then decide (d = 2) || decide (d = 3)
  else if topology = 2 then decide (d = 2) || decide (d = 5) || decide (d = 6)
  else false

/-- A local drive channel, its index 0–5 for LD1–LD6. -/
def State.ldc (s : State) (x : Nat) : LdChan := vget {} s.ld x
/-- Replace a local drive channel. -/
def State.setLd (s : State) (x : Nat) (c : LdChan) : State := { s with ld := vset s.ld x c }

/-- The output of channel `x` (0–5) turns off normally (R259); a state ON or RETRY_WAIT becomes OFF (Table 10.4, R271). -/
def State.ldOff (s : State) (x : Nat) : State :=
  let c := s.ldc x
  let s := s.setLd x { c with on := false, offAt := if c.on then s.now else c.offAt, waitAt := none, refreshAt := none }
  let st := s.nat (OD.LD_STATE (x + 1))
  if st = 2 ∨ st = 4 then s.putN (OD.LD_STATE (x + 1)) 1 else s

/-- A latched trip or a law stop turns off every channel of function 2–4 whose LD_ON_TRIP is 1 and clears its LD_CMD (R265). -/
def State.ldTripOff (s : State) : State :=
  (List.range 6).foldl (init := s) fun s x =>
    let f := s.nat (OD.LD_FUNC (x + 1))
    if 2 ≤ f ∧ f ≤ 4 ∧ s.nat (OD.LD_ON_TRIP (x + 1)) = 1 then (s.ldOff x).putN (OD.LD_CMD (x + 1)) 0 else s

/-- Step 1 of a sequence on the local pairs (Table 8.5): every channel of a 2-level converter, the outer devices of NPC and
ANPC; every turn-on of normal modulation is cancelled (R202). -/
def State.seqStep1 (s : State) : State :=
  (List.range 48).foldl (init := s) fun s i =>
    let d := s.device i
    if d = 0 || isOuter d then s.chanOff i
    else { s with pwm := { s.pwm with channels := vset s.pwm.channels i { active := (s.chan i).active, edgeAt := (s.chan i).edgeAt } } }

/-- Bench pins are forced low, until their PWMD_SRC is written again: at START, any trip and any law stop (R217). -/
def State.benchLow (s : State) : State :=
  { s with pwm := { s.pwm with
      directLow := Vector.ofFn fun d : Fin 8 => vget false s.pwm.directLow d.val || decide (s.nat (OD.PWMD_SRC d.val) = 2) } }

/-- Normal modulation ceases: no carrier drives pairs or is pulled, no word is pending, no edge is delayed; the safe-state command goes to remote pairs,
whose edge sets are over, and to arms (R201). -/
def State.endModulation (s : State) (clamp : Bool) : State :=
  let s := ((List.range 8).foldl (init := s) fun s c => s.putI (OD.CAR_PHASE_ERR c) 0).putB OD.PULL_ACTIVE false
  { s with
    pwm := { s.pwm with
      carriers := s.pwm.carriers.map (fun c => { c with started := false, late := false, pull := 0, rest := 0 })
      pairs := s.pwm.pairs.map (fun p => { p with pending := none, switching := false, delayed := none, seen := none })
      safeParcels := some clamp
      stopLtc := s.ltc }
    link := { s.link with
      hub := s.link.hub.map (fun c => { c with level := false, edgeAt := if c.level then s.ltc else c.edgeAt })
      skip := Vector.replicate 24 false
      sets := [] } }

/-- The watchdog oscillator takes a sequence over (R203): its cycle, that of 22 MHz to 18 MHz (Table 1.7), is free (log 5), and the polarity last
committed stays. (Log 156, DEDUCED, unsafe.) -/
def State.onWatchdog (s : State) : Watchdog × State :=
  let k := s.draw.1
  ({ cycle := 28410 + Config.freeNat k % 6313, polarity := (List.range 24).map fun p => s.nat (OD.PAIR_POLARITY p) }, s.draw.2)

/-- Step 1 of `t` ticks of a sequence lies at least this many ticks back when they are over: on the watchdog oscillator ceil(t × 22 MHz) of its
cycles (R203). -/
def StopSeq.span (q : StopSeq) (t : Nat) : Nat :=
  match q.watchdog with
  | none => t
  | some w => ((t * 352 + 9999) / 10000 * w.cycle + 999) / 1000

/-- A sequence that runs when the timebase is lost goes on with the watchdog oscillator; no step restarts (R203, R218). -/
def State.seqOnWatchdog (s : State) (q : StopSeq) (lost : Bool) : StopSeq × State :=
  if lost && q.watchdog.isNone then ({ q with watchdog := some s.onWatchdog.1 }, s.onWatchdog.2) else (q, s)

/-- Replace the running stop sequence. -/
def State.setSeq (s : State) (q : Option StopSeq) : State := { s with pwm := { s.pwm with seq := q } }

/-- A stop comes while a sequence `q` runs (R202): GATE_OFF takes over from CLAMP, and nothing else restarts; the sequence ends in the worse of the two
states. -/
def State.stopAgain (s : State) (q : StopSeq) (clamp : Bool) (endState cause : Nat) : State :=
  if q.clamp && !clamp then
    let s : State := { s with pwm := { s.pwm with safeParcels := some false } }
    if 3 ≤ s.nat OD.TOPOLOGY then ((s.setSeq none).setOut 3 cause).setOut endState 5
    else (s.setOut 3 cause).setSeq (some { q with clamp := false, step2 := true, endState := endState })
  else s.setSeq (some { q with endState := Nat.max q.endState endState })

/-- A stop is requested: GATE_OFF or CLAMP from step 1 (R201); escalation and repeats by R202. `endState` is the OUT_STATE the
sequence ends in, `cause` that of Table 15.11; `lost`: the timebase is lost. (Log 86, DEDUCED, unsafe.) -/
def State.stopOutputs (s : State) (clamp lost : Bool) (endState cause : Nat) : State :=
  let s := s.benchLow
  let topo := s.nat OD.TOPOLOGY
  let clamp := clamp && decide (topo ≠ 0)
  match s.pwm.seq with
  | some q =>
    (s.seqOnWatchdog q lost).2.stopAgain (s.seqOnWatchdog q lost).1 clamp endState cause
  | none =>
    if s.nat OD.OUT_STATE = 5 then s
    else
      let s := (s.seqStep1.endModulation clamp).setOut 3 cause
      if topo = 0 ∨ (3 ≤ topo ∧ clamp = false) then s.setOut endState 5
      else
        let s := if 3 ≤ topo then s.setOut 4 cause else s
        let q : StopSeq := { clamp := clamp, at1 := s.now, step2 := decide (topo < 3), endState := endState }
        (s.seqOnWatchdog q lost).2.setSeq (some (s.seqOnWatchdog q lost).1)

/-- A running sequence ends: its OUT_STATE, cause "sequence ended" (R198, Table 15.11). -/
def State.endSequence (s : State) : State :=
  match s.pwm.seq with
  | none => s
  | some q => ({ s with pwm := { s.pwm with seq := none } }).setOut q.endState 5

/-- Leaving a state withdraws SYNC_OK and DEAD_CLOSE_OK (Table 15.11, code 0x0506, cause `why`). -/
def State.withdraw (s : State) (why : Nat) : State :=
  let s := { s with sup := { s.sup with syncSince := none } }
  let s := if s.flag OD.SYNC_OK then (s.putN OD.SYNC_OK 0).note Ev.SYNC_OK (why * 256 + 1) false else s
  if s.flag OD.DEAD_CLOSE_OK then (s.putN OD.DEAD_CLOSE_OK 0).note Ev.SYNC_OK (why * 256 + 2) false else s

/-- A protective stop (R148): the law enters FAULT with its cause, LD channels follow R265, the outputs take the sequence. -/
def State.protStop (s : State) (code : Nat) (clamp : Bool) : State :=
  let s := if s.nat OD.LAW_STATE = 8 then ({ s with sup := { s.sup with degFrom := none } }).endBridge else ((s.withdraw 4).putN OD.FAULT_CAUSE code).setLaw 8 12
  (s.ldTripOff).stopOutputs clamp false 5 4

/-- A source latches its bit of TRIP_LATCH (R206): recorded, counted, first source and its time kept. -/
def State.latchTrip (s : State) (bit : Nat) : State :=
  let first := decide (s.nat OD.TRIP_FIRST = 0xFF)
  let s := if first then (s.putN OD.TRIP_FIRST bit).putI OD.TRIP_TIME s.tai80 else s
  ((s.putBit OD.TRIP_LATCH bit true).bump OD.TRIP_COUNT).note Ev.TRIP bit

/-- A trip: latch and protective stop (R206). -/
def State.trip (s : State) (bit : Nat) (clamp : Bool) : State := (s.latchTrip bit).protStop Ev.TRIP clamp

/-! ### Answers to sessions (Table 12.4, R346) -/

/-- A plain result code. -/
def Reply.of (code : Nat) : Reply := { code := code }
/-- 0x00 OK. -/
def Reply.ok : Reply := {}
/-- 0x18 WRONG_STATE. -/
def Reply.wrongState : Reply := { code := 0x18 }
/-- 0x1A TRIP_ACTIVE. -/
def Reply.tripActive : Reply := { code := 0x1A }
/-- 0x14 OUT_OF_RANGE. -/
def Reply.outOfRange : Reply := { code := 0x14 }
/-- 0x71 ROLE_DENIED. -/
def Reply.roleDenied : Reply := { code := 0x71 }
/-- 0x13 TYPE_MISMATCH. -/
def Reply.typeMismatch : Reply := { code := 0x13 }

/-- The TIME field of Table 12.9 for a number of milliseconds: in ms while it fits, else in whole seconds rounded up, saturating. (Log 47, DESIGN CHOICE, unsafe.) -/
def timeField (n : Nat) : Nat := if n ≤ 0x7FFF then n else 0x8000 + Nat.min ((n + 999) / 1000) 0x7FFF

/-- The length of STR or OCT data against the `lo … hi` its entry states: TYPE_MISMATCH above, OUT_OF_RANGE below (R317). -/
def lengthRefusal (n lo hi : Nat) : Option Reply :=
  if hi < n then some Reply.typeMismatch else if n < lo then some Reply.outOfRange else none

/-- The last result of a session is kept in OD (9320 + s) (R346); a response other than OK and DELAYED counts as refused. (Log 52, DEDUCED, unsafe.) -/
def State.keepLast (s : State) (session tag : Nat) (r : Reply) : State :=
  let i := sessIdx session
  let s := ((s.putN (OD.LAST_RESULT i) r.code).putN (OD.LAST_DETAIL i) (r.detail % 65536)).putN (OD.LAST_QTY i) r.qty
  let s := s.putN (OD.LAST_TAG i) (if session = 0x20 ∨ session = 0x30 then 0 else tag)
  if r.code ≤ 1 ∨ 11 ≤ i then s else s.bump (OD.TX_REFUSED i)

/-- Answer a session: the last result is kept and the response leaves the module (R321, R346). -/
def State.answer (s : State) (session tag : Nat) (r : Reply) : State := (s.keepLast session tag r).emit (.reply session tag r)

/-- A session beside its OD entries. -/
def State.host (s : State) (session : Nat) : HostSession := vget {} s.hosts.sessions (sessIdx session)
/-- Replace the dictionary engine's record. -/
def State.setHosts (s : State) (h : Hosts) : State := { s with hosts := h }
/-- Replace a session's record. -/
def State.setHost (s : State) (session : Nat) (h : HostSession) : State :=
  s.setHosts { s.hosts with sessions := vset s.hosts.sessions (sessIdx session) h }

/-- Abort codes on C1 and C2 (Table 12.10); `known`: the index exists, `write`: the transfer was a write. -/
def abortCode (code : Nat) (known write : Bool) : Nat :=
  if code = 0x10 then (if known then 0x06090011 else 0x06020000)
  else if code = 0x11 then (if write then 0x06010002 else 0x06010001)
  else if code = 0x13 then 0x06070010
  else if code = 0x14 then 0x06090030
  else if code = 0x15 then 0x05040001
  else if code = 0x18 ∨ code = 0x1A ∨ code = 0x80 ∨ code = 0x81 then 0x08000022
  else if 0x40 ≤ code ∧ code ≤ 0x5F then 0x08000020
  else if 0x60 ≤ code ∧ code ≤ 0x6F then 0x06010000
  else if 0x70 ≤ code ∧ code ≤ 0x7F then 0x08000021
  else 0x08000000

/-- The final response of a transaction leaves: kept as the session's last result and, with a TAG, in its reply cache of 64 (R344, R346); on C1
and C2 a failure is an abort code (R347), and after USDO_WAIT the result is only kept (R348). (Log 51, DEDUCED, unsafe.) -/
def State.finish (s : State) (q : Request) (r : Reply) : State :=
  let r := { r with op := q.op + 0x80, index := q.index, sub := q.sub }
  let h := s.host q.session
  let s := if q.tagged then
      s.setHost q.session { h with replies := ((q.tag, q.op, r) :: h.replies.filter (fun x => decide (x.1 ≠ q.tag))).take 64 } else s
  if q.late then s.keepLast q.session q.tag r
  else
    let s := s.answer q.session q.tag r
    if q.usdo ∧ r.code ≠ 0 then s.emit (.usdoAbort q.session (abortCode r.code (OD.hasIndex q.index) (decide (q.op = 4)))) else s

/-- The owner's lease has run out (R328). -/
def State.leaseExpired (s : State) : Bool := s.past s.hosts.leaseAt (sec (s.nat OD.OWN_LEASE))

/-- A request of a session has arrived: it restarts SESSION_TIMEOUT (R325) and renews the owner's lease unless that has expired (R328,
Table 12.12). -/
def State.heard (s : State) (session : Nat) : State :=
  if sessIdx session < 11 then
    let s := if s.nat OD.OWNER_SESSION = session ∧ s.leaseExpired = false then s.setHosts { s.hosts with leaseAt := s.now } else s
    s.setHost session { s.host session with lastAt := s.now }
  else s

/-- A transaction is served: it counts for its session, its physical port and its class (R339; 1 safety, 2 owner), and in TX_RATE. -/
def State.served (s : State) (session cls : Nat) : State :=
  if sessIdx session < 11 then
    let p := sessPort session
    let s := ((s.bumpW (OD.TX_SERVED (sessIdx session))).bumpW (OD.PORT_SERVED p)).putN (OD.PORT_USED p) (s.nat (OD.PORT_USED p) + 1)
    let h := s.hosts
    s.setHosts { h with safetyUsed := h.safetyUsed + (if cls = 1 then 1 else 0), ownerUsed := h.ownerUsed + (if cls = 2 then 1 else 0)
                        served := s.now :: h.served.filter (fun t => decide (s.now < t + sec 1)) }
  else s

/-- A dictionary engine in partial reset answers BUSY_RESET with its retry-after (R501, Table 19.4). -/
def Reply.busyReset : Reply := { code := 0x80, time := 20 }

/-- The domain a block of Table 19.4 lies in. -/
def blockDomain (b : Nat) : Nat :=
  if b ≤ 2 then 1 else if b = 3 then 15 else if b = 4 then 9 else if b = 5 then 8 else if b ≤ 7 then 11 else 10

/-- The retry-after of a block, ms (Table 19.4). -/
def blockRetry (b : Nat) : Nat :=
  if b = 1 then 20 else if b = 2 then 10 else if b = 3 then 5 else if b = 4 ∨ b = 5 then 1 else 2

/-- BUSY_RESET while a block is reset or its domain is off (R501). (Log 70, DESIGN CHOICE, unsafe.) -/
def State.blockBusy (s : State) (b : Nat) : Option Reply :=
  if s.domainOn (blockDomain b) = false then some { code := 0x80, time := 0x7FFF }
  else if s.bit OD.PR_BUSY b then some { code := 0x80, time := blockRetry b }
  else none

/-- The refusal `r` of a request to a block, which the block's reset precedes. -/
def State.unlessBusy (s : State) (b : Nat) (r : Option Reply) : Option Reply := (s.blockBusy b).orElse fun _ => r

/-- A module of a pair whose claim does not hold role 0x3 (R308). -/
def State.standbyModule (s : State) : Bool := decide (s.nat OD.PAIR_MODE ≠ 0) && decide (s.nat OD.MODULE_CLAIM / 4096 ≠ 3)

/-- Why a session may not write a command object (R308, R324, Table 12.6): a standby module answers so; an OBSERVER is denied, any
other session that is not the owner is told the owner. -/
def State.ownerRefusal (s : State) (session : Nat) : Option Reply :=
  if s.standbyModule then some { code := 0x7C }
  else if s.nat OD.OWNER_SESSION = session ∧ sessIdx session < 11 then (if s.leaseExpired then some { code := 0x73 } else none)
  else if s.nat (OD.SESSION_ROLE (sessIdx session)) = 0 then some Reply.roleDenied
  else some { code := 0x70, detail := s.nat OD.OWNER_SESSION }

/-- Why a session may not write another RW or WO entry outside 2000–6FFF: an OBSERVER is denied (Table 12.6). -/
def State.roleRefusal (s : State) (session : Nat) : Option Reply :=
  if s.nat (OD.SESSION_ROLE (sessIdx session)) = 0 then some Reply.roleDenied else none

/-- Why a session that must have role SERVICE may not act. -/
def State.serviceRefusal (s : State) (session : Nat) : Option Reply :=
  if s.nat (OD.SESSION_ROLE (sessIdx session)) = 2 then none else some Reply.roleDenied

/-- No entry may be written: RETIRED serves M read-only (Table 18.3), RECOVERY answers all but a few entries WRONG_STATE (R479). -/
def State.writesBarred (s : State) : Bool := decide (s.nat OD.LC_STATE = 4) || decide (s.nat OD.BOOT_STATE = 12)

/-- Run a command of a session unless it is refused, and answer it (TAG 0: a command row carries none, log 2, DESIGN CHOICE, safe); `cls` as in `served`. -/
def State.serveCommand (s : State) (cls session : Nat) (refusal : Option Reply) (act : State → State × Reply) : State :=
  if s.bit OD.PR_BUSY 1 then (s.heard session).answer session 0 Reply.busyReset
  else
    let t := (s.heard session).served session cls
    match refusal with
    | some r => t.answer session 0 r
    | none => (act t).1.answer session 0 (act t).2

/-- As `serveCommand`, where writes are not barred. -/
def State.commandOf (s : State) (cls session : Nat) (refusal : Option Reply) (act : State → State × Reply) : State :=
  s.serveCommand cls session (if s.writesBarred then some Reply.wrongState else refusal) act

/-- A command of any session, in the owner's class where it owns. -/
def State.command (s : State) (session : Nat) (refusal : Option Reply) (act : State → State × Reply) : State :=
  s.commandOf (if s.nat OD.OWNER_SESSION = session then 2 else 0) session refusal act

/-- As `command`, for a read from OFFSET, which is bulk beyond 0 (R338). -/
def State.bulkCommand (s : State) (session offset : Nat) (refusal : Option Reply) (act : State → State × Reply) : State :=
  s.commandOf (if s.nat OD.OWNER_SESSION = session ∧ offset = 0 then 2 else 0) session refusal act

/-- A safety transaction (R338): an RWS access. -/
def State.safetyCommand (s : State) (session : Nat) (refusal : Option Reply) (act : State → State × Reply) : State :=
  s.commandOf 1 session refusal act

end Sys2Proof.Machine
end

