-- ==== Sys2Proof/Machine/Filter.lean ====
section
/-!
DEFINITION. Machine/Filter.lean: chapter 04: the filter chain of each channel: frame window and frame-path block, CIC, compensation
FIR, fractional resampler, settling, flags and angle bins.
-/
namespace Sys2Proof.Machine
open Sys2Proof

/-! ### Cores, pairs and channels (R65, R66, R79) -/

/-- Replace a core. -/
def State.setCore (s : State) (c : Nat) (x : AdcCore) : State := { s with adc := vset s.adc c x }

/-- Replace a chain. -/
def State.setChain (s : State) (n : Nat) (x : Chain) : State := { s with chains := vset s.chains n x }

/-- LSB of a channel's core in volts, over a factor (Table 3.1): numerator and denominator. -/
def State.lsb (s : State) (n : Nat) : Nat × Nat := if s.nat (OD.ADC_RANGE n) = 1 then (1953125, 100000000000) else (78125, 1000000000)

/-! ### Settings of the stages -/

/-- Memory of a stage in its own inputs (R91): CIC N·R, FIR 32, resampler 16. -/
def State.stageMem (s : State) (n stage : Nat) : Nat :=
  if stage = 0 then s.cicN n * s.cicR n
  else if stage = 1 then (if s.firOn n then 32 else 0)
  else (if s.rsOn n then 16 else 0)

/-! ### Stepping and settling (R90, R91) -/

/-- UNSETTLED_MASK: 1 while either path of the channel is not settled (Table 4.5). -/
def State.refreshUnsettled (s : State) (n : Nat) : State :=
  let ch := s.chain n
  (s.putBit OD.UNSETTLED_MASK n (!(ch.settled && ch.fpSettled))).putBit (OD.CH_STATUS n) 2 ch.settled

/-- A stage and all downstream of it are cleared and lack their full memory (R90); while the channel settles, settling restarts from the
earliest stage stepped by either step. FC_UNSETTLED is recorded when SETTLED goes. -/
def State.stepStage (s : State) (n stage : Nat) : State :=
  let ch := s.chain n
  let stage := if ch.settled then stage else Nat.min stage ch.stepped
  let ch0 : Chain := if stage = 0 then { ch with integ := [], comb := [], cicPhase := 0, cicOvr := 0, cicSubst := 0, cicLeft := s.stageMem n 0 } else ch
  let ch1 : Chain := if stage ≤ 1 then { ch0 with fir := [], firPhase := 0, firOvr := 0, firSubst := 0, firLeft := s.stageMem n 1 } else ch0
  let ch2 : Chain := { ch1 with rs := [], pos := 0, rsOvr := 0, rsSubst := 0, rsLeft := s.stageMem n 2, settled := false, stepped := stage }
  let s := (s.setChain n ch2).refreshUnsettled n
  if ch.settled then s.note Ev.FC_UNSETTLED n else s

/-- The frame path of a channel is not settled for at least the next `k` frames (R91). -/
def State.stepFrame (s : State) (n k : Nat) : State :=
  (s.setChain n { s.chain n with fpLeft := Nat.max k (s.chain n).fpLeft, fpSettled := false }).refreshUnsettled n

/-- A channel switch (R90): every stage is stepped; the frame path settles at the first frame whose whole window lies under the new
conditions. -/
def State.channelSwitch (s : State) (n : Nat) : State :=
  let inWindow := !(s.chain n).window.isEmpty
  (s.stepStage n 0).stepFrame n (if inWindow then 2 else 1)

/-- A pair falls back (R66, R81, R90): a window under way is cut short, its sample is formed of the conversions present and only SETTLED is
cleared; else the switch is as any other. (Log 135, DEDUCED, unsafe.) -/
def State.fallbackSwitch (s : State) (n : Nat) : State :=
  let cut := !(s.chain n).window.isEmpty
  (s.setChain n { s.chain n with windowCut := cut || (s.chain n).windowCut }).stepStage n 0 |>.stepFrame n 1

/-- Every channel is stepped: reset of the chain, D7 or D8 switched on, loss of timebase (R90). -/
def State.stepAll (s : State) : State :=
  (List.range 32).foldl (init := s) fun s n => (s.stepStage n 0).stepFrame n 2

/-! ### The stages -/

/-- 2^48, the modulus of CIC registers (R83). -/
def cicMod : Int := 281474976710656

/-- The integrators after one input: each adds the one before it (R83). -/
def integrate (x : Int) : List Nat → List Nat
  | [] => []
  | a :: as =>
    let y := ((a : Int) + x) % cicMod
    y.toNat :: integrate y as

/-- The combs after one decimated value: each subtracts its previous input (R83); the output and the registers. -/
def combs (x : Int) : List Nat → Int × List Nat
  | [] => (x, [])
  | p :: ps =>
    let y := (x - p) % cicMod
    let r := combs y ps
    (r.1, (x % cicMod).toNat :: r.2)

/-- A 48-bit two's complement number. -/
def signed48 (x : Int) : Int := if x % cicMod ≥ 140737488355328 then x % cicMod - cicMod else x % cicMod

/-- The registers of a channel's CIC, zero where none is stored. -/
def regsOf (n : Nat) (xs : List Nat) : List Nat := (List.range n).map fun i => xs.getD i 0

/-- Σ h_i · x_i in tap order (log 12, DESIGN CHOICE, unsafe). -/
def dotF : List F32 → List F32 → F32 → F32
  | h :: hs, x :: xs, acc => dotF hs xs (fadd acc (fmul h x))
  | _, _, acc => acc

/-- Coefficients of a FIR set (R85). -/
def State.firCoefs (s : State) (set : Nat) : List F32 := (List.range 32).map fun k => s.f32 (OD.FIR_COEF set k)

/-- The coefficient of phase `p` 0–64 and tap `j` (R86): step 64·j + p of a prototype that is symmetric about its middle, 512, and so of linear
phase; phase 64 of a tap is phase 0 of the next (log 11). -/
def rsCoef (p j : Nat) : F32 := Config.rsProto (Nat.min (64 * j + p) (1024 - (64 * j + p)))

/-- One interpolated resampler output at a position fraction (R86): two adjacent phases by its top 6 bits, linear between them by
the remaining 26. -/
def rsOutput (taps : List F32) (frac : Nat) : F32 :=
  let p := frac / 67108864
  let w := fq (frac % 67108864 : Nat) 67108864
  let y0 := dotF ((List.range 16).map fun j => rsCoef p j) taps 0
  let y1 := dotF ((List.range 16).map fun j => rsCoef (p + 1) j) taps 0
  fadd y0 (fmul w (fsub y1 y0))

/-- A measurement output leaves the chain (R89): +0.0 with VALID and SETTLED clear while suppressed; it joins the ring of 1,024 and
is the channel's latest signal (Table 15.2). -/
def State.measOut (s : State) (n : Nat) (v : F32) (instant : Int) (ovr subst : Bool) (bin : Nat) : State :=
  let ch := s.chain n
  let ok := s.chanValid n && ch.settled
  let value := if ok then fmul (s.f32 (OD.CH_GAIN n)) (fsub v (s.f32 (OD.CH_OFFSET n))) else 0
  let o : MeasOut := { value := value, instant := instant, valid := ok, settled := ok, ovr := ovr, subst := subst,
                       fault := s.chanFault n, gridsync := ch.gridsync && s.rsOn n, bin := bin }
  let s := s.setChain n { ch with ring := (o :: ch.ring).take 1024 }
  let s := s.putN (OD.CH_STATUS n) ((if ch.clamped then 32 else 0) + (if ch.gridsync then 16 else 0) + (if s.chanValid n then 8 else 0) +
    (if ch.settled then 4 else 0) + (if ovr then 2 else 0) + (if s.chanFault n then 1 else 0))
  { s with sig := { s.sig with meas := vset s.sig.meas n value } }

/-- The resampler takes one input (R86): outputs whose position lies before the next input leave. `full`: the stages before it were filled. -/
def State.rsInput (s : State) (n : Nat) (v : F32) (hold : Nat) (full ovr subst : Bool) : State :=
  let ch := s.chain n
  let step := 2 ^ 64 / Nat.max 1 (s.rhoNow n)
  let ch' : Chain := { ch with rs := (v :: ch.rs).take 16, rsLeft := if full then ch.rsLeft - 1 else ch.rsLeft
                               rsOvr := if ovr then 16 else ch.rsOvr - 1, rsSubst := if subst then 16 else ch.rsSubst - 1 }
  let s := s.setChain n ch'
  if ch'.pos < 2 ^ 32 then
    let y := rsOutput ch'.rs ch'.pos
    let per2 := s.cicR n * s.firD n * s.ps2 n
    let inst : Int := (hold : Int) - s.groupDelay n + ((ch'.pos * per2 / 2 ^ 33 : Nat) : Int)
    let s := s.measOut n y inst (decide (ch'.rsOvr ≠ 0)) (decide (ch'.rsSubst ≠ 0)) (ch'.outIdx % Nat.max 1 (s.nat (OD.RS_K n)))
    s.setChain n { s.chain n with pos := ch'.pos + step - 2 ^ 32, outIdx := ch'.outIdx + 1 }
  else s.setChain n { ch' with pos := ch'.pos - 2 ^ 32 }

/-- What follows the FIR: the resampler, or the output itself. -/
def State.afterFir (s : State) (n : Nat) (v : F32) (hold : Nat) (full ovr subst : Bool) : State :=
  if s.rsOn n then s.rsInput n v hold full ovr subst
  else s.measOut n v ((hold : Int) - s.groupDelay n) ovr subst 0

/-- The FIR takes one input (R85); it fills once the CIC is full, and what it gives from then on fills the resampler (R91). -/
def State.firInput (s : State) (n : Nat) (v : F32) (hold : Nat) (full ovr subst : Bool) : State :=
  if s.firOn n then
    let ch := s.chain n
    let ch' : Chain := { ch with fir := (v :: ch.fir).take 32, firLeft := if full then ch.firLeft - 1 else ch.firLeft, firPhase := (ch.firPhase + 1) % s.firD n
                                 firOvr := if ovr then 32 else ch.firOvr - 1, firSubst := if subst then 32 else ch.firSubst - 1 }
    let s := s.setChain n ch'
    if ch'.firPhase = 0 then
      s.afterFir n (dotF (s.firCoefs (s.nat (OD.FIR_SET n))) ch'.fir 0) hold (full && decide (ch.firLeft = 0)) (decide (ch'.firOvr ≠ 0)) (decide (ch'.firSubst ≠ 0))
    else s
  else s.afterFir n v hold full ovr subst

/-- One conversion enters the measurement path (R63, R83, R84); the stages fill one after the other, from the first conversion of a channel
that delivers valid output (R73, R91). -/
def State.feedMeas (s : State) (n : Nat) (code : Int) (hold : Nat) (ovr subst : Bool) : State :=
  if s.domainOn 8 then
    let ch := s.chain n
    let nn := s.cicN n
    let r := s.cicR n
    let full := decide (ch.cicLeft = 0) && s.chanValid n
    let integ := integrate code (regsOf nn ch.integ)
    let ch' : Chain := { ch with integ := integ, cicPhase := (ch.cicPhase + 1) % r, cicLeft := if s.chanValid n then ch.cicLeft - 1 else ch.cicLeft
                                 cicOvr := if ovr then nn * r else ch.cicOvr - 1, cicSubst := if subst then nn * r else ch.cicSubst - 1 }
    if ch'.cicPhase = 0 then
      let y := combs ((integ.getLast?.getD 0 : Nat) : Int) (regsOf nn ch.comb)
      let lsb := s.lsb n
      let v := fmul (fofInt (signed48 y.1)) (fq (lsb.1 : Nat) (lsb.2 * r ^ nn))
      (s.setChain n { ch' with comb := y.2 }).firInput n v hold full (decide (ch'.cicOvr ≠ 0)) (decide (ch'.cicSubst ≠ 0))
    else s.setChain n ch'
  else s

/-! ### Frame path (R80–R82) -/

/-- The weight numerator of slot `k` (R80). -/
def fpWeight (shape m : Nat) (k : Int) : Int := if shape = 1 then (m : Int) + 1 - k.natAbs else 1

/-- The frame-path value of a channel from the conversions present, weights renormalised to sum to 1 (R80, R81). -/
def State.fpValue (s : State) (n : Nat) : F32 :=
  let ch := s.chain n
  let m := s.nat (OD.ADC_FRAME_WIN n)
  let sh := s.nat (OD.FP_SHAPE n)
  let sum := ch.window.foldl (fun a p => a + fpWeight sh m p.1 * p.2.1) 0
  let wsum := ch.window.foldl (fun a p => a + fpWeight sh m p.1) 0
  let lsb := s.lsb n
  let v := fmul (fofInt sum) (fq (lsb.1 : Nat) (lsb.2 * Nat.max 1 wsum.toNat))
  fmul (s.f32 (OD.CH_GAIN n)) (fsub v (s.f32 (OD.CH_OFFSET n)))

/-- A channel at the block's release: sample, nibble (Table 4.3), and the chain for the next window. -/
def State.fpChannel (s : State) (n : Nat) : F32 × Nat × Chain :=
  let ch := s.chain n
  let left := ch.fpLeft - 1
  let cut := ch.windowCut
  let valid := s.chanValid n && !ch.window.isEmpty
  let settled := valid && decide (left = 0) && !cut
  let ovr := ch.window.any fun p => p.2.2
  let fault := s.chanFault n || ch.windowLate
  let ok := valid && decide (left = 0)
  ((if ok then s.fpValue n else 0),
   (if ok then 8 else 0) + (if settled then 4 else 0) + (if ovr then 2 else 0) + (if fault then 1 else 0),
   { ch with window := [], windowLate := false, windowCut := false, fpLeft := left, fpSettled := settled })

/-- A block that cannot be released is counted and recorded, once for its frame (R82, R95). -/
def State.blockMissed (s : State) : State :=
  if s.frame.begun = true ∧ s.frame.block = none ∧ s.frame.missed = false then
    let s := { s with frame := { s.frame with chainReset := false, missed := true } }
    (s.bump OD.FP_MISSED).note Ev.FP_BLOCK_MISSED 0
  else s

/-- FP_BLOCK_RELEASE (R82): at t0 + 1.40 µs the block of ten codewords leaves for both lanes, the Eft and the link engine; a block that
cannot be released is counted and recorded. -/
def State.fpBlockRelease (s : State) : State :=
  if s.frame.begun = true ∧ s.frame.block = none ∧ s.frame.missed = false ∧ s.frame.t0 + 875 ≤ s.ltc then
    if s.tbValid && s.domainOn 8 && !s.frame.chainReset && !s.bit OD.PR_BUSY 5 then
      let out := (List.range 32).map fun n => s.fpChannel n
      let b : FpBlock := { samples := out.map fun p => p.1, nibbles := out.map fun p => p.2.1, number := s.frame.n, t0 := s.frame.t0,
                           epoch := s.nat OD.TIME_EPOCH }
      let s := (List.range 32).foldl (init := s) fun s n => (s.setChain n (s.fpChannel n).2.2).refreshUnsettled n
      { s with frame := { s.frame with block := some b } }
    else s.blockMissed
  else s

/-- FC_SETTLED (R90, R91): every stepped stage has received its full memory. -/
def State.fcSettled (s : State) (n : Nat) : State :=
  let ch := s.chain n
  if ch.cicLeft = 0 ∧ ch.firLeft = 0 ∧ ch.rsLeft = 0 ∧ ch.settled = false ∧ s.chanValid n = true then
    ((s.setChain n { ch with settled := true, stepped := 3 }).refreshUnsettled n).note Ev.FC_SETTLED n
  else s

/-- FC_SETTLED. -/
def execFcSettled (n : Fin 32) (s : State) : Host.Outcome State Fault Refusal := .next (s.fcSettled n.val)

/-! ### Grid lock (R87, R88) -/

/-- GRIDSYNC of a channel changes, recorded. -/
def State.setGridsync (s : State) (n : Nat) (b : Bool) : State :=
  let ch := s.chain n
  if ch.gridsync = b then s
  else
    (((s.setChain n { ch with gridsync := b }).putBit OD.GRIDSYNC_MASK n b).putBit (OD.CH_STATUS n) 4 b).note Ev.RS_GRIDSYNC n b

/-- f_in of the resampler in Hz (R86). -/
def State.rsFin (s : State) (n : Nat) : F32 := fq 1250000000 (Nat.max 1 (s.cicR n * s.firD n * s.ps2 n))

/-- RATIO_CLAMPED of a channel changes, recorded (R88). -/
def State.setClamped (s : State) (n : Nat) (b : Bool) : State :=
  let ch := s.chain n
  if ch.clamped = b then s
  else ((s.setChain n { ch with clamped := b }).putBit (OD.CH_STATUS n) 5 b).note Ev.RS_RATIO_CLAMPED n b

/-- A ratio in 2⁻³², held to the bounds of ρ, and whether it lay outside them (R86, R88). -/
def rhoOf (x : F32) : Nat × Bool :=
  let r := fnearest (fmul x (fofInt 4294967296))
  (Nat.max 0x40000000 (Nat.min 0x100000000 r.toNat), decide (r < 0x40000000) || decide (r > 0x100000000))

/-- ρ recomputed at a frame boundary for a grid-locked channel (R87, R88). `f` is f_meas; `angle` the reference angle in radians at LTC
`at1`, if available: without it ρ is K × f_nom/f_in. A K × f/f_in outside the bounds puts ρ to the bound at once; otherwise ρ moves by at most
0.1 % towards K × f_meas/f_in with its phase correction. (Log 82, DEDUCED, unsafe.) -/
def State.rsUpdate (s : State) (n : Nat) (f fnom : F32) (at1 : Nat) (angle : Option F32) : State :=
  if s.nat (OD.RS_MODE n) = 2 then
    let ch := s.chain n
    let k := s.nat (OD.RS_K n)
    let base (hz : F32) : F32 := fdiv (fmul (fofInt k) hz) (s.rsFin n)
    match angle with
    | none =>
      let r := rhoOf (base fnom)
      ((s.setChain n { ch with rho := r.1, binGoodAt := none }).setClamped n r.2).setGridsync n false
    | some a =>
      let err :=
        match ch.ring with
        | [] => fzero
        | o :: _ =>
          let back := fmul (fmul ftwoPi f) (fq ((((at1 : Int) - o.instant) * 8)) 5000000000)
          let here := fdiv (fwrap (fsub a back)) ftwoPi
          let e := fsub (fq (o.bin : Nat) k) here
          fsub e (fofInt (fnearest e))
      let b := rhoOf (base f)
      let lim := ch.rho / 1000
      let want := (rhoOf (fmul (base f) (fsub fone (fdiv err (fofInt 20))))).1
      let r := if b.2 then b.1 else Nat.max (ch.rho - lim) (Nat.min (ch.rho + lim) want)
      let small := flt (fabs err) (fq 1 (4 * k))
      let s := s.setChain n { ch with rho := r, binErr := fabs err, binGoodAt := if small && !b.2 then some (ch.binGoodAt.getD s.now) else none }
      let s := s.setClamped n b.2
      if b.2 then s.setGridsync n false else s
  else s

/-- The resampler leaves grid-locked mode: GRIDSYNC and RATIO_CLAMPED go (R87, R88). -/
def State.rsLeaves (s : State) (n : Nat) : State :=
  if s.nat (OD.RS_MODE n) = 2 then s
  else ((s.setChain n { s.chain n with binGoodAt := none }).setClamped n false).setGridsync n false

/-- RS_GRIDSYNC (R87): the bin error has stayed below 1/(4K) for 4 cycles of f_nom, or exceeds 1/(2K). -/
def State.rsGridsync (s : State) (n : Nat) : State :=
  let ch := s.chain n
  let k := s.nat (OD.RS_K n)
  let f := if s.nat OD.F_NOM = 1 then 60 else 50
  if ch.gridsync = false then
    (match ch.binGoodAt with
     | some t => if s.nat (OD.RS_MODE n) = 2 ∧ s.past t (4 * 625000000 / f) = true then s.setGridsync n true else s
     | none => s)
  else if flt (fq 1 (2 * k)) ch.binErr then s.setGridsync n false
  else s

/-- RS_GRIDSYNC. -/
def execRsGridsync (n : Fin 32) (s : State) : Host.Outcome State Fault Refusal := .next (s.rsGridsync n.val)

end Sys2Proof.Machine
end

