-- ==== Sys2Proof/Machine/IslandOps.lean ====
section
/-!
DEFINITION. Machine/IslandOps.lean: what other units use of the safety island (chapter 16): CRC-32, its records, SAFETY_STATE and release
(R431, R433, R444, R448).
-/
namespace Sys2Proof.Machine
open Sys2Proof

/-- A number as `w` octets, least significant first (R316). -/
def leBytes : Nat → Nat → List Byte
  | 0, _ => []
  | w + 1, n => BitVec.ofNat 8 n :: leBytes w (n / 256)

/-- One bit step of the reflected CRC-32. -/
def crcBit (c : BitVec 32) : BitVec 32 := if c.getLsbD 0 then (c >>> 1) ^^^ 0xEDB88320#32 else c >>> 1

/-- One octet of the CRC-32. -/
def crcByte (c : BitVec 32) (b : Byte) : BitVec 32 :=
  crcBit (crcBit (crcBit (crcBit (crcBit (crcBit (crcBit (crcBit (c ^^^ b.zeroExtend 32))))))))

/-- CRC-32 of IEEE 802.3 (R444). -/
def crc32 (bs : List Byte) : BitVec 32 := bs.foldl crcByte 0xFFFFFFFF#32 ^^^ 0xFFFFFFFF#32

/-- Replace the island's record. -/
def State.setSafety (s : State) (x : Safety) : State := { s with safety := x }

/-- An island occurrence, ORIGIN 3 (R448). -/
def State.islandNote (s : State) (code detail : Nat) (set : Bool := true) (session : Nat := 0xFF) : State :=
  s.occur { code := code, detail := detail, set := set, session := session, origin := 3 }

/-- SAFETY_STATE from the causes: 1 none, 4 a diagnostic fault, 0 before the self-test, 3 all ended, 2 else (R431, Table 16.8). -/
def State.safetyState (s : State) : Nat :=
  let c := s.nat OD.SGB_CAUSE
  if c = 0 then 1
  else if c.testBit 10 || c.testBit 9 then 4
  else if c.testBit 0 && !s.safety.ended.testBit 0 then 0
  else if c &&& s.safety.ended = c then 3
  else 2

/-- SAFETY_STATE follows. -/
def State.refreshSafety (s : State) : State := s.putN OD.SAFETY_STATE s.safetyState

/-- SGB holds causes that persist (R433). -/
def State.sgbPersists (s : State) : Bool :=
  decide (s.variant = .S) && (decide (s.nat OD.SAFETY_STATE = 0) || decide (s.nat OD.SAFETY_STATE = 2) || decide (s.nat OD.SAFETY_STATE = 4))

/-- Release (R433): recorded with the causes it ends; outputs energised, bit 8 of TRIP_LATCH cleared, SAFETY_STATE 1. -/
def State.sgbRelease (s : State) : State :=
  if s.variant = .S ∧ s.nat OD.SAFETY_STATE = 3 then
    let s := s.islandNote Ev.SGB (s.nat OD.SGB_CAUSE) false
    let s := s.setSafety { s.safety with ended := 0, gateAt := none }
    let s := ((s.putN OD.SGB_CAUSE 0).putN OD.OUT_LEVEL 7).putBit OD.TRIP_LATCH 8 false
    (if s.nat OD.TRIP_LATCH = 0 then s.putN OD.TRIP_FIRST 0xFF else s).refreshSafety
  else s

end Sys2Proof.Machine
end

