-- ==== Sys2Proof/Machine/LaneOps.lean ====
section
/-!
DEFINITION. Machine/LaneOps.lean: the shared operations on the two lanes: reading and replacing a lane's record, its state and
claim (R280–R282, R291), a self-diagnostic failure (R288), demotion, and the change of serving lane.
-/
namespace Sys2Proof.Machine
open Sys2Proof

/-- Replace a lane's record. -/
def State.setLaneRec (s : State) (l : Lane) (r : LaneRec) : State :=
  match l with
  | .a => { s with lanes := { s.lanes with a := r } }
  | .b => { s with lanes := { s.lanes with b := r } }

/-- The entry LANE_STATE_A or LANE_STATE_B. -/
def laneKey : Lane → Nat
  | .a => OD.LANE_STATE_A
  | .b => OD.LANE_STATE_B

/-- The state of a lane (Table 11.2). -/
def State.laneSt (s : State) (l : Lane) : Nat := s.nat (laneKey l)

/-- The ROLE of a lane state (Table 11.2). -/
def roleOf (st : Nat) : Nat :=
  if st = 5 then 3 else if st = 4 ∨ st = 6 then 2 else if st = 8 then 1 else 0

/-- The TIE of a lane: its strap, or PAIR_TIEBREAK in pair mode (Table 11.1). (Log 115, DEDUCED, unsafe.) -/
def State.tie (s : State) (l : Lane) : Nat :=
  if s.nat OD.PAIR_MODE = 0 then (match l with | .a => 0xA | .b => 0xB) else s.nat OD.PAIR_TIEBREAK

/-- The health entry of a lane. -/
def healthKey : Lane → Nat
  | .a => OD.HEALTH_A
  | .b => OD.HEALTH_B

/-- A lane's claim number (R280). -/
def State.claim (s : State) (l : Lane) : Nat :=
  roleOf (s.laneSt l) * 4096 + s.nat (healthKey l) % 256 * 16 + s.tie l

/-- The serving lane, if there is one (SERVING_LANE). -/
def State.serving (s : State) : Option Lane :=
  if s.nat OD.SERVING_LANE = 0 then some .a else if s.nat OD.SERVING_LANE = 1 then some .b else none

/-- The ROLE of a pair state (Table 11.7); ALONE has the serving lane's. -/
def pairRoleOf (st lane : Nat) : Nat :=
  if st = 0 then lane else if st = 5 then 3 else if st = 4 ∨ st = 7 ∨ st = 8 then 2 else if st = 6 then 1 else 0

/-- The ROLE of the module: its serving lane's, in pair mode that of its pair state (R281, Table 11.7). -/
def State.moduleRole (s : State) : Nat :=
  match s.serving with
  | none => 0
  | some l => if s.nat OD.PAIR_MODE = 0 then roleOf (s.laneSt l) else pairRoleOf (s.nat OD.PAIR_STATE) (roleOf (s.laneSt l))

/-- HEALTH of the module's claim before the cap: reduced by 32 while the other lane is not STANDBY (R281). -/
def State.moduleHealth (s : State) : Nat :=
  match s.serving with
  | none => 0
  | some l =>
    let h := s.nat (healthKey l) % 256
    if s.laneSt l.other = 4 then h else h - 32

/-- The module's claim (R281): HEALTH is 0xFF during a takeover, and capped at 0xFE while active in claim mode otherwise (R303). -/
def State.moduleClaim (s : State) : Nat :=
  match s.serving with
  | none => 0
  | some l =>
    let h := s.moduleHealth
    let role := s.moduleRole
    let h := if s.nat OD.PAIR_MODE = 1 ∧ role = 3 then (if s.pair.takeover then 0xFF else Nat.min h 0xFE) else h
    role * 4096 + h * 16 + s.tie l

/-- The claims and LANE_REDUNDANCY_LOST follow the lane states and health scores (R280, R281, R493). -/
def State.refreshClaims (s : State) : State :=
  let s := (s.putN OD.CLAIM_A (s.claim .a)).putN OD.CLAIM_B (s.claim .b)
  let s := s.putN OD.MODULE_CLAIM s.moduleClaim
  match s.serving with
  | none => s
  | some l => s.putBit OD.HEALTH_FLAGS 0 (decide (s.laneSt l.other ≠ 4))

/-- A lane's state changes, recorded with its cause (Table 15.11, code 0x0A01). (Log 22, DESIGN CHOICE, unsafe.) -/
def State.setLane (s : State) (l : Lane) (st cause : Nat) : State :=
  if s.laneSt l = st then s
  else
    let s := (s.putN (laneKey l) st).note Ev.LANE_STATE (l.num * 4096 + st * 256 + cause)
    s.refreshClaims

/-- Service has passed: the new server acts on a host transaction by its mark (R287). What was received stays queued, to be applied; of what was applied the
stored reply is sent; what was replied is over. -/
def State.actOnMark (s : State) (q : Request) : State :=
  match q.mark with
  | .received => { s with hosts := { s.hosts with queue := s.hosts.queue ++ [q] } }
  | .applied r => s.emit (.reply q.session q.tag r)
  | .replied => s

/-- The new server acts on every transaction of its queue, oldest first (R287). -/
def State.actOnMarks (s : State) : State :=
  s.hosts.queue.foldl (fun s q => s.actOnMark q) { s with hosts := { s.hosts with queue := [] } }

/-- A lane takes service: SERVING, its service time starts (R282, R294), and it takes up the host transactions (R287). -/
def State.serve (s : State) (l : Lane) (cause : Nat) : State :=
  let s := s.actOnMarks
  let s := (s.putN OD.SERVING_LANE l.num).setLane l 5 cause
  (s.setLaneRec l { s.lane l with servedSince := s.now }).refreshClaims

/-- A lane fails its self-diagnostics (R288). -/
def State.diagFailed (s : State) (l : Lane) : State := s.setLaneRec l { s.lane l with diagFail := true }

/-- An uncorrectable or poisoned codeword in a lane's banks or fabric port (R288, Table 11.3). -/
def State.lanePoison (s : State) (l : Lane) : State :=
  s.setLaneRec l { s.lane l with diagFail := true, poisonAt := some s.now }

/-- The frame a lane computes is invalid, handled as for a NaN; TILE_POISON counts the frames so invalidated (Tables 1.6, 1.10). -/
def State.frameInvalid (s : State) (l : Lane) : State :=
  let s := if s.frame.begun && !(s.lane l).done && !(s.lane l).frameBad then s.bump (match l with | .a => OD.TILE_POISON_A | .b => OD.TILE_POISON_B) else s
  s.setLaneRec l { s.lane l with frameBad := true }

/-- A poisoned operand reaches a lane's tiles: its frame is invalid, which counts as a self-diagnostic failure (Table 1.6). -/
def State.tilePoison (s : State) (l : Lane) : State := (s.lanePoison l).frameInvalid l

/-- A poisoned fetch or load traps the house core, which counts it and reports a self-diagnostic failure (Table 1.6). -/
def State.houseTrap (s : State) (l : Lane) : State :=
  (s.bump (match l with | .a => OD.HOUSE_TRAP_A | .b => OD.HOUSE_TRAP_B)).lanePoison l

/-- A lane is demoted to RETEST (R291); when it served and the other lane is STANDBY, that one serves from the next frame. -/
def State.demote (s : State) (l : Lane) (cause : Nat) : State :=
  let served := decide (s.serving = some l)
  let s := s.bump (match l with | .a => OD.DEMOTIONS_A | .b => OD.DEMOTIONS_B)
  let s := s.setLane l 1 cause
  let s := s.setLaneRec l { s.lane l with stepCount := 0, commit := none }
  if served then
    (if s.laneSt l.other = 4 then s.serve l.other cause
     else (s.putN OD.SERVING_LANE 0xFF).refreshClaims)
  else s

end Sys2Proof.Machine
end

