-- ==== Sys2Proof/Machine/Pwm.lean ====
section
/-!
DEFINITION. Machine/Pwm.lean: chapter 08: carriers and reloads, compare edges with dead time, minimum pulse and the NPC/ANPC
order, safe-state sequences, trips, and the submodule sorter.
-/
namespace Sys2Proof.Machine
open Sys2Proof

/-! ### Carriers and reloads -/

/-- A whole number held between bounds. -/
def iclamp (n lo hi : Int) : Int := if n < lo then lo else if hi < n then hi else n

/-- The period T_c of a carrier in ticks. -/
def State.carPeriod (s : State) (c : Nat) : Nat := s.nat (OD.CAR_PERIOD c)

/-- The interleave offset O_m for a period `t` (R50, R96): the divider values in force, modulo the period. -/
def State.interleaveOffset (s : State) (t : Nat) : Nat :=
  let d := s.tb.inForce
  let k := if d.n = 0 then 0 else (2 * d.idx * t + d.n) / (2 * d.n)
  (((k : Int) + d.trim) % (t : Int)).toNat

/-- The anchor A = O_m + O_c of a carrier, modulo its period (R50). -/
def State.anchor (s : State) (c : Nat) : Nat :=
  let t := s.carPeriod c
  ((((s.interleaveOffset t : Nat) : Int) + s.int (OD.CAR_OFFSET c)) % (t : Int)).toNat

/-- A pair is in use (R192). -/
def State.pairUsed (s : State) (p : Nat) : Bool := decide (s.nat (OD.PAIR_USE p) ≠ 0)

/-- A carrier carries a pair in use. -/
def State.carrierUsed (s : State) (c : Nat) : Bool :=
  (List.range 24).any fun p => s.pairUsed p && decide (s.nat (OD.PAIR_CARRIER p) = c)

/-- Replace a carrier. -/
def State.setCarrier (s : State) (c : Nat) (x : Carrier) : State :=
  { s with pwm := { s.pwm with carriers := vset s.pwm.carriers c x } }
/-- Replace a pair. -/
def State.setPair (s : State) (p : Nat) (x : Pair) : State := { s with pwm := { s.pwm with pairs := vset s.pwm.pairs p x } }
/-- One pair. -/
def State.pair' (s : State) (p : Nat) : Pair := vget {} s.pwm.pairs p
/-- One carrier. -/
def State.car (s : State) (c : Nat) : Carrier := vget {} s.pwm.carriers c

/-- A half-period: its first tick, whether that is a valley (an up half), and its length (R188, R189). -/
structure Half where
  start : Int
  up : Bool
  len : Nat
  deriving DecidableEq, Repr

/-- The half that holds LTC `t` of a carrier with valley `v` and halves of `h` ticks. -/
def halfFrom (v : Int) (h t : Nat) : Half :=
  let k := ((t : Int) - v) / (h : Int)
  { start := v + k * (h : Int), up := decide (k % 2 = 0), len := h }

/-- The valley that follows the period in progress of a carrier as it runs, its granted pull left aside; on its anchor before its pairs switch
(R53, R198). -/
def State.carPhase (s : State) (c : Nat) : Int :=
  let x := s.car c
  if x.started then x.at1 + x.len + (if x.up then ((s.carPeriod c / 2 : Nat) : Int) + x.rest else 0) else (s.anchor c : Int)

/-- The half of a carrier that holds LTC `t`: the one its last reload began, the down half of the same period, those of the next period with a pull
granted to it, or an unpulled one after them. -/
def State.halfAt (s : State) (c t : Nat) : Half :=
  let x := s.car c
  let v := s.carPhase c
  let half : Int := ((s.carPeriod c / 2 : Nat) : Int)
  if x.started then
    if (t : Int) < x.at1 + x.len then { start := x.at1, up := x.up, len := x.len }
    else if (t : Int) < v then { start := x.at1 + x.len, up := false, len := (v - (x.at1 + x.len)).toNat }
    else if (t : Int) < v + half + x.pull / 2 then { start := v, up := true, len := (half + x.pull / 2).toNat }
    else if (t : Int) < v + 2 * half + x.pull then
      { start := v + half + x.pull / 2, up := false, len := (half + (x.pull - x.pull / 2)).toNat }
    else halfFrom (v + 2 * half + x.pull) (s.carPeriod c / 2) t
  else halfFrom v (s.carPeriod c / 2) t

/-- The halves of a carrier from LTC `t` on whose first reload lies before `b`, at most `fuel` of them. -/
def State.halves (s : State) (c : Nat) : Nat → Nat → Nat → List Half
  | 0, _, _ => []
  | fuel + 1, t, b =>
    let h := s.halfAt c t
    if b ≤ t ∨ h.len = 0 then []
    else (if h.start = (t : Int) then [h] else []) ++ s.halves c fuel (h.start + h.len).toNat b

/-- The present half of a carrier. -/
def State.carHalf (s : State) (c : Nat) : Half := s.halfAt c s.ltc

/-- Ticks since the present half's reload. -/
def State.carTicks (s : State) (c : Nat) : Nat := ((s.ltc : Int) - (s.carHalf c).start).toNat

/-- The carrier count c: up from the valley to the peak and down again (R188). -/
def State.carCount (s : State) (c : Nat) : Nat :=
  let h := s.carHalf c
  if h.up then s.carTicks c else h.len - s.carTicks c

/-- This tick is a valley or a peak of the carrier (R188). -/
def State.atReload (s : State) (c : Nat) : Bool := decide ((s.carHalf c).start = (s.ltc : Int))

/-- The shorter signed way from the carrier's valleys to the anchor, modulo T_c (R53). -/
def State.pullError (s : State) (c : Nat) : Int :=
  let t : Int := s.carPeriod c
  let d := ((s.anchor c : Int) - s.carPhase c) % t
  if t < 2 * d then d - t else d

/-- CAR_PHASE_ERR of every started carrier, and PULL_ACTIVE, follow the anchors (OD (4001 + c).05, OD 2004.07). -/
def State.refreshPulls (s : State) : State :=
  let err (c : Nat) : Int := if (s.car c).started then s.pullError c else 0
  let s := (List.range 8).foldl (init := s) fun s c => s.putI (OD.CAR_PHASE_ERR c) (err c)
  s.putB OD.PULL_ACTIVE ((List.range 8).any fun c => decide (err c ≠ 0))

/-- CARRIER_PULL (R53): the period from the next valley of a running carrier is lengthened or shortened by at most CARRIER_PULL × T_c, its
two halves alike (log 122, DESIGN CHOICE, unsafe). -/
def State.carrierPull (s : State) (c : Nat) : State :=
  if (s.car c).started then
    let m : Int := ((s.tb.inForce.pull * s.carPeriod c / 10000 : Nat) : Int)
    s.setCarrier c { s.car c with pull := iclamp (s.pullError c) (-m) m }
  else s

/-- CARRIER_PULL. -/
def execCarrierPull (c : Fin 8) (s : State) : Host.Outcome State Fault Refusal := .next (s.carrierPull c.val)

/-- The CMP field of a shadow word, no larger than T_c/2 (Table 8.3). -/
def cmpOf (w : BitVec 32) (half : Nat) : Nat := Nat.min (w.toNat % 2 ^ 20) half
/-- FORCE_OFF of a shadow word. -/
def forceOff (w : BitVec 32) : Bool := w.toNat.testBit 31

/-- An offset of `x` ticks in a half of `half` ticks, scaled to one of `len` ticks: floor(x·H/(T_c/2) + 0.5) (R189). -/
def scaledTo (x half len : Nat) : Nat := (2 * x * len + half) / (2 * half)

/-- The compare edge of a half, in ticks from its start: CMP after the valley, T_c/2 − CMP after the peak, scaled to the half (R189). -/
def compareTick (up : Bool) (cmp half len : Nat) : Nat := scaledTo (if up then cmp else half - cmp) half len

/-- The compare state of the pair's high channel at this tick (R189): in an up half active from its edge on, in a down half until its edge,
never with CMP = T_c/2. (Log 118, DEDUCED, unsafe.) -/
def State.compareState (s : State) (p : Nat) : Bool :=
  let c := s.nat (OD.PAIR_CARRIER p)
  let half := s.carPeriod c / 2
  let h := s.carHalf c
  let e := compareTick h.up (cmpOf (s.pair' p).active half) half h.len
  if h.up then decide (e ≤ s.carTicks c) else decide (s.carTicks c < e)

/-- At a reload a pair takes its pending word where LOAD_ALL lies more than 64 ticks back, or keeps its active one; FORCE_OFF makes both
channels inactive; words that came too late for this reload become pending for the next (R196). -/
def State.reloadPair (s : State) (c p : Nat) : State :=
  if s.pairUsed p && decide (s.nat (OD.PAIR_CARRIER p) = c) then
    let x := s.pair' p
    let due := s.past (s.car c).loadAt 65
    let next := if (s.car c).late then some x.shadow else if due then none else x.pending
    match x.pending.filter (fun _ => due) with
    | none => s.setPair p { x with pending := next }
    | some w =>
      let s := s.setPair p { x with active := w, pending := next, switching := true }
      let s := s.putN (OD.CMP_ACTIVE p) (cmpOf w (s.carPeriod c / 2))
      if forceOff w then ((s.chanOff (2 * p)).chanOff (2 * p + 1)).setPair p { s.pair' p with delayed := none, seen := none } else s
  else s

/-- A pair of the carrier has started switching. -/
def State.carrierSwitching (s : State) (c : Nat) : Bool :=
  (List.range 24).any fun p => s.pairUsed p && decide (s.nat (OD.PAIR_CARRIER p) = c) && (s.pair' p).switching

/-- The carrier begins a half at this reload: its valley gives a granted pull to the two halves of the period (R53, R189). -/
def State.halfBegins (s : State) (c : Nat) : State :=
  let x := s.car c
  let h := s.carHalf c
  let p := if x.started then x.pull else 0
  let y : Carrier := { x with
    started := s.carrierSwitching c, at1 := s.ltc, up := h.up, len := h.len
    rest := if h.up then p - p / 2 else 0, pull := if h.up then 0 else p
    loadAt := if x.late then s.now else x.loadAt, late := false }
  (s.setCarrier c y).refreshPulls

/-- CARRIER_RELOAD (R188, R196, R198): at a valley or a peak pending words are taken, once; ARMED becomes RUNNING when every carrier in use
has started. -/
def State.carrierReload (s : State) (c : Nat) : State :=
  if (s.nat OD.OUT_STATE = 1 ∨ s.nat OD.OUT_STATE = 2) ∧ s.flag (OD.CAR_EN c) = true ∧ s.atReload c = true ∧ (s.car c).at1 ≠ (s.ltc : Int) then
    let s := (List.range 24).foldl (init := s) fun s p => s.reloadPair c p
    let s := s.halfBegins c
    if s.nat OD.OUT_STATE = 1 ∧ ((List.range 8).all fun k => !s.carrierUsed k || (s.car k).started) = true then s.setOut 2 2
    else s
  else s

/-- CARRIER_RELOAD. -/
def execCarrierReload (c : Fin 8) (s : State) : Host.Outcome State Fault Refusal := .next (s.carrierReload c.val)

/-- Ticks left until the carrier's next reload: 0 on the tick of one that has not run yet. -/
def State.reloadIn (s : State) (c : Nat) : Nat :=
  if s.atReload c = true ∧ (s.car c).at1 ≠ (s.ltc : Int) then 0 else (s.carHalf c).len - s.carTicks c

/-- LOAD_ALL (R196): every shadow word enters its pair's pending set; a carrier within 64 ticks of its reload keeps its pending
words, takes the new ones at that reload, and is marked LOAD_LATE. (Log 29, DEDUCED, unsafe.) -/
def State.loadAll (s : State) : State :=
  let s := s.bumpW OD.LOAD_ALL_COUNT
  let s := { s with pwm := { s.pwm with loadAllAt := s.now } }
  (List.range 8).foldl (init := s) fun s c =>
    if s.carrierUsed c then
      if s.reloadIn c ≤ 64 then
        (((s.setCarrier c { s.car c with late := true }).putBit OD.LOAD_LATE c true).bump (OD.CAR_LATE c)).note Ev.LOAD_LATE c
      else
        let s := (s.putBit OD.LOAD_LATE c false).setCarrier c { s.car c with late := false, loadAt := s.now }
        (List.range 24).foldl (init := s) fun s p =>
          if s.pairUsed p && decide (s.nat (OD.PAIR_CARRIER p) = c) then
            s.setPair p { s.pair' p with pending := some (s.pair' p).shadow } else s
    else s

/-! ### Edges -/

/-- The outer device whose going inactive an inner one waits for (R200): S1 for S2 and S5, S4 for S3 and S6. -/
def outerOf (d : Nat) : Nat :=
  if d = 2 ∨ d = 5 then 1 else if d = 3 ∨ d = 6 then 4 else 0

/-- The inner device an outer one waits for before it goes active (R200): S2 for S1, S3 for S4. -/
def innerOf (d : Nat) : Nat := if d = 1 then 2 else if d = 4 then 3 else 0

/-- The channel of device `d` in the same stack and phase as pair `p`. -/
def State.sibling (s : State) (p d : Nat) : Option Nat :=
  (List.range 48).find? fun i =>
    s.pairUsed (i / 2) && decide (s.device i = d) &&
    decide (s.nat (OD.PAIR_STACK (i / 2)) = s.nat (OD.PAIR_STACK p)) &&
    decide (s.nat (OD.PAIR_PHASE (i / 2)) = s.nat (OD.PAIR_PHASE p))

/-- The earliest instant at which channel `i` may go inactive by the NPC/ANPC order (R200): t_oi after its outer device went
inactive; while that one is still active, t_oi from now. (Log 87, DEDUCED, unsafe.) -/
def State.guardOff (s : State) (i : Nat) : Nat :=
  match s.sibling (i / 2) (outerOf (s.device i)) with
  | none => s.now
  | some o =>
    if outerOf (s.device i) = 0 then s.now
    else if (s.chan o).active then s.now + s.nat OD.T_OI
    else Nat.max s.now ((s.chan o).edgeAt + s.nat OD.T_OI)

/-- The earliest instant at which channel `i` may go active by the NPC/ANPC order (R200): its inner device active for at least
DEAD_TIME; while that one is inactive, DEAD_TIME from now. -/
def State.guardOn (s : State) (i : Nat) : Nat :=
  match s.sibling (i / 2) (innerOf (s.device i)) with
  | none => s.now
  | some o =>
    let dt := s.nat (OD.DEAD_TIME (o / 2))
    if innerOf (s.device i) = 0 then s.now
    else if (s.chan o).active then Nat.max s.now ((s.chan o).edgeAt + dt)
    else s.now + dt

/-- The instant before which minimum pulse admits no edge of channel `i` (R191). -/
def State.pulseOk (s : State) (i : Nat) : Nat := (s.chan i).edgeAt + s.nat OD.MIN_PULSE

/-- A channel's turn-on held back until `t`, and what has moved it beyond dead time. -/
def State.scheduleOn (s : State) (i t : Nat) (moved stretched : Bool) : State :=
  let c : Channel := { s.chan i with turnOn := some t, moved := moved, stretched := stretched }
  { s with pwm := { s.pwm with channels := vset s.pwm.channels i c } }

/-- An edge moved by the NPC/ANPC order is counted and recorded (R200). -/
def State.orderFix (s : State) (p : Nat) : State := (s.bump OD.NPC_ORDER_FIX).note Ev.NPC_ORDER_FIX p

/-- The edge itself: the channel that goes inactive switches now, the other goes active after dead time, guard and minimum
pulse, in that order (R190, R191, R200). -/
def State.issueEdge (s : State) (p : Nat) (highActive : Bool) : State :=
  let off := if highActive then 2 * p + 1 else 2 * p
  let on := if highActive then 2 * p else 2 * p + 1
  let s := s.chanOff off
  let s := s.setPair p { s.pair' p with delayed := none }
  let base := s.now + s.nat (OD.DEAD_TIME p)
  let g := Nat.max base (s.guardOn on)
  let s := if base < g then s.orderFix p else s
  let t := if s.nat OD.MIN_PULSE = 0 then g else Nat.max g (s.pulseOk on)
  let s := if g < t then s.bump OD.PULSE_STRETCH else s
  s.scheduleOn on t (decide (base < g)) (decide (g < t))

/-- An edge that was held back waits for its instant: when that has come it is issued, unless the outer device it follows is still active or went
inactive less than t_oi ago, which moves it on (R200). -/
def State.heldEdge (s : State) (p : Nat) (h : HeldEdge) : State :=
  let g := s.guardOff (if h.high then 2 * p + 1 else 2 * p)
  if s.now < h.at1 then s
  else if s.now < g then s.setPair p { s.pair' p with delayed := some { h with at1 := g } }
  else s.issueEdge p h.high

/-- A new compare edge of a pair that nothing holds back (R191, R200): its turn-off is moved by the guard and by minimum pulse, in this order. Where
the channel that goes inactive has not gone active yet because minimum pulse delayed it, both edges are dropped and its complement keeps its state. -/
def State.newEdge (s : State) (p : Nat) (highActive : Bool) : State :=
  let s := s.setPair p { s.pair' p with seen := some highActive }
  let off := if highActive then 2 * p + 1 else 2 * p
  if (s.chan off).active then
    let g := s.guardOff off
    let s := if s.now < g then s.orderFix p else s
    let t := if s.nat OD.MIN_PULSE = 0 then g else Nat.max g (s.pulseOk off)
    let s := if g < t then s.bump OD.PULSE_STRETCH else s
    if s.now < t then s.setPair p { s.pair' p with delayed := some { high := highActive, at1 := t, pulse := decide (g < t) } }
    else s.issueEdge p highActive
  else if (s.chan off).stretched then (s.chanOff off).bump OD.PULSE_STRETCH
  else s.issueEdge p highActive

/-- COMPARE_EDGE on a local pair that switches: the unit takes each edge up once, when the compare state is that of the edge. While an earlier edge is
held back, the command of that edge issues it when its instant has come. The opposite edge drops both where minimum pulse holds the earlier one, which
was counted when it was delayed (R191); where the NPC/ANPC order holds it, no edge is dropped and the opposite one follows it (R200). (Log 87, DEDUCED,
unsafe.) -/
def State.compareEdge (s : State) (p : Nat) (highActive : Bool) : State :=
  let x := s.pair' p
  if s.nat (OD.PAIR_USE p) = 1 ∧ x.switching = true ∧ s.pwm.seq = none ∧ forceOff x.active = false then
    match x.delayed with
    | some h =>
      if h.high = highActive then s.heldEdge p h
      else if h.pulse && (s.compareState p == highActive) then
        (s.setPair p { x with delayed := none, seen := some highActive }).bump OD.PULSE_STRETCH
      else s
    | none => if s.compareState p = highActive ∧ x.seen ≠ some highActive then s.newEdge p highActive else s
  else s

/-- COMPARE_EDGE. -/
def execCompareEdge (p : Fin 24) (highActive : Bool) (s : State) : Host.Outcome State Fault Refusal :=
  .next (s.compareEdge p.val highActive)

/-- DEAD_TIME_TURN_ON (R190): the channel held back by dead time goes active when its instant has come; an outer device still
waits for its inner one (R200); a sequence admits only the devices its CLAMP state holds active (R201). -/
def State.deadTimeTurnOn (s : State) (i : Nat) : State :=
  match (s.chan i).turnOn with
  | none => s
  | some t =>
    let allowed := match s.pwm.seq with
      | none => true
      | some q => q.clamp && clampActive (s.nat OD.TOPOLOGY) (s.device i)
    if t ≤ s.now ∧ allowed = true then
      let g := s.guardOn i
      let c := s.chan i
      if s.now < g then (if c.moved then s else s.orderFix (i / 2)).scheduleOn i g true c.stretched
      else s.chanOn i
    else s

/-- DEAD_TIME_TURN_ON. -/
def execDeadTimeTurnOn (ch : Fin 48) (s : State) : Host.Outcome State Fault Refusal := .next (s.deadTimeTurnOn ch.val)

/-! ### Pins -/

/-- The level of a PWM pin: the channel's level under PAIR_POLARITY (bit 1 H, bit 0 L; 1 = active high) while D12 is on; none, high
impedance, otherwise (R189, R205). A sequence on the watchdog oscillator keeps the polarity last committed when that took over (R203). -/
def State.pwmPin (s : State) (i : Nat) : Option Bool :=
  let kept := (s.pwm.seq.bind fun q => q.watchdog).map fun w => w.polarity.getD (i / 2) 3
  let polarity := kept.getD (s.nat (OD.PAIR_POLARITY (i / 2)))
  if s.domainOn 12 = true then some ((s.chan i).active == polarity.testBit (1 - i % 2)) else none

/-- The on-time of a bench generator in ticks (R217). -/
def State.benchOn (s : State) (d : Nat) : Nat :=
  (fnearest (fmul (s.f32 (OD.BENCH_DUTY d)) (fofInt (s.nat (OD.BENCH_PERIOD d))))).toNat

/-- The level of a direct pin (R205, R217): low, its channel's output level, or the bench generator's pulses anchored to the LTC, which need
LAW_STATE OFF and TRIP_LATCH 0 and stay low until PWMD_SRC is written again. -/
def State.directPin (s : State) (d : Nat) : Option Bool :=
  if s.domainOn 12 = true then
    let src := s.nat (OD.PWMD_SRC d)
    some (if src = 1 then s.pwmPin (s.nat (OD.PWMD_CH d)) == some true
      else decide (src = 2 ∧ s.nat OD.LAW_STATE = 0 ∧ s.nat OD.TRIP_LATCH = 0 ∧ vget false s.pwm.directLow d = false ∧
        s.ltc % s.nat (OD.BENCH_PERIOD d) < s.benchOn d))
  else none

/-! ### Safe-state sequences -/

/-- A device the CLAMP state holds active turns on, no sooner than DEAD_TIME after its complement went inactive (R201). -/
def State.clampOn (s : State) (i : Nat) : State :=
  let other := if i % 2 = 0 then i + 1 else i - 1
  let t := (s.chan other).edgeAt + s.nat (OD.DEAD_TIME (i / 2))
  if (s.chan i).active then s
  else if t ≤ s.now then s.chanOn i
  else s.scheduleOn i t false false

/-- SAFE_STEP2 (R201): t_oi after step 1 the inner devices go inactive (GATE_OFF), or those the CLAMP state does not hold go
inactive and then the others turn on, DEAD_TIME after their complements. -/
def State.safeStep2 (s : State) : State :=
  match s.pwm.seq with
  | none => s
  | some q =>
    if q.step2 = true ∧ s.past q.at1 (q.span (s.nat OD.T_OI)) = true then
      if q.clamp then
        let held (i : Nat) : Bool := decide (s.nat (OD.PAIR_USE (i / 2)) = 1) && clampActive (s.nat OD.TOPOLOGY) (s.device i)
        let s := (List.range 48).foldl (init := s) fun s i => if held i then s else s.chanOff i
        let s := (List.range 48).foldl (init := s) fun s i => if held i then s.clampOn i else s
        ({ s with pwm := { s.pwm with seq := some { q with step2 := false } } }).setOut 4 4
      else ((List.range 48).foldl (init := s) fun s i => s.chanOff i).endSequence
    else s

/-- SAFE_STEP2. -/
def execSafeStep2 (s : State) : Host.Outcome State Fault Refusal := .next s.safeStep2

/-- CLAMP_TIME_END (R201): every remaining active device goes inactive, not sooner than t_oi after step 1; remote pairs and arms
are told GATE_OFF. -/
def State.clampTimeEnd (s : State) : State :=
  match s.pwm.seq with
  | none => s
  | some q =>
    if q.clamp = true ∧ s.past q.at1 (Nat.max (q.span (ms (s.nat OD.CLAMP_TIME))) (q.span (s.nat OD.T_OI))) = true then
      let s := (List.range 48).foldl (init := s) fun s i => s.chanOff i
      ({ s with pwm := { s.pwm with safeParcels := some false } }).endSequence
    else s

/-- CLAMP_TIME_END. -/
def execClampTimeEnd (s : State) : Host.Outcome State Fault Refusal := .next s.clampTimeEnd

/-! ### Trips -/

/-- DEBUG_HALT (R204): a halt of the serving lane starts GATE_OFF and latches DEBUG_HALT; one of the standby has no effect on
outputs. `halt` false is the end of the halt, which TRIP_CLEAR looks at (R209). (Log 96, DEDUCED, unsafe.) -/
def State.debugHalt (s : State) (l : Lane) (halt : Bool) : State :=
  let s := match l with
    | .a => { s with pwm := { s.pwm with haltedA := halt } }
    | .b => { s with pwm := { s.pwm with haltedB := halt } }
  if halt = true ∧ s.serving = some l then s.trip 6 false else s

/-- DEBUG_HALT. -/
def execDebugHalt (lane : Lane) (halt : Bool) (s : State) : Host.Outcome State Fault Refusal := .next (s.debugHalt lane halt)

/-- One trip input. -/
def State.tripIn (s : State) (i : Nat) : TripIn := vget {} s.pwm.trips i
/-- Replace a trip input. -/
def State.setTripIn (s : State) (i : Nat) (t : TripIn) : State := { s with pwm := { s.pwm with trips := vset s.pwm.trips i t } }

/-- The pin level asserts the input (TRIP_POL: 0 active low, 1 active high). -/
def State.tripAsserts (s : State) (i : Nat) (level : Bool) : Bool := decide (level = s.flag (OD.TRIP_POL i))

/-- A filtered assertion acts: its bit latches and TRIP_ACTION runs (R206, R207). -/
def State.tripActs (s : State) (i : Nat) : State :=
  if s.flag (OD.TRIP_EN i) && !s.bit OD.TRIP_LATCH i then s.trip i (decide (s.nat (OD.TRIP_ACTION i) = 1)) else s

/-- TRIP_INPUT (R207): the pin's level is seen. An assertion that has persisted TRIP_FILT ticks counts; inside a blanking window
it waits for the window's end. -/
def State.tripInput (s : State) (i : Nat) (level : Bool) : State :=
  let t := s.tripIn i
  if s.tripAsserts i level then
    let since := t.assertedAt.getD s.now
    let s := s.setTripIn i { t with pin := level, assertedAt := some since }
    if s.past since (s.nat (OD.TRIP_FILT i)) then
      let s := s.putB (OD.TRIP_LEVEL i) level
      if s.now < t.blankUntil then s.setTripIn i { s.tripIn i with waiting := true } else s.tripActs i
    else s
  else (s.setTripIn i { t with pin := level, assertedAt := none }).putB (OD.TRIP_LEVEL i) level

/-- TRIP_INPUT. -/
def execTripInput (i : Fin 4) (level : Bool) (s : State) : Host.Outcome State Fault Refusal := .next (s.tripInput i.val level)

/-- BLANK_WINDOW_END (R207): an assertion inside the window acts if it still stands, else it is ignored and counted. -/
def State.blankWindowEnd (s : State) (i : Nat) : State :=
  let t := s.tripIn i
  if t.waiting = true ∧ t.blankUntil ≤ s.now then
    let s := s.setTripIn i { t with waiting := false }
    if t.assertedAt.isSome then s.tripActs i else (s.bump OD.BLANK_IGNORED).note Ev.TRIP_BLANKED i
  else s

/-- BLANK_WINDOW_END. -/
def execBlankWindowEnd (i : Fin 4) (s : State) : Host.Outcome State Fault Refusal := .next (s.blankWindowEnd i.val)

/-- CMD_TIMEOUT (Table 8.6): no LOAD_ALL for max(CMD_TIMEOUT, 5F) while RUNNING. -/
def State.cmdTimeout (s : State) : State :=
  if s.nat OD.OUT_STATE = 2 ∧
      s.past s.pwm.loadAllAt (Nat.max (us (s.nat OD.CMD_TIMEOUT)) (5 * s.nat OD.FRAME_PERIOD)) = true
  then s.trip 7 false else s

/-- CMD_TIMEOUT. -/
def execCmdTimeout (s : State) : Host.Outcome State Fault Refusal := .next s.cmdTimeout

/-- The cause of a TRIP_LATCH bit persists (R209). CMD_TIMEOUT never does. -/
def State.tripPersists (s : State) (bit : Nat) : Bool :=
  if bit < 4 then
    (match (s.tripIn bit).assertedAt with
     | some t => s.past t (s.nat (OD.TRIP_FILT bit)) && s.flag (OD.TRIP_EN bit)
     | none => false)
  else if bit = 5 then !s.tbValid
  else if bit = 6 then (match s.serving with
    | some .a => s.pwm.haltedA
    | some .b => s.pwm.haltedB
    | none => false)
  else if bit = 8 then s.sgbPersists
  else false

/-- TRIP_CLEAR (R209): refused whole with TRIP_ACTIVE when the cause of any written bit persists; otherwise the written bits
clear; bit 8 releases Safe Gate Block (R433). Every clear and refusal is recorded with the port. -/
def State.tripClear (s : State) (session mask : Nat) : State × Reply :=
  if (List.range 9).any (fun b => mask.testBit b && s.tripPersists b) then
    (s.occur { code := Ev.TRIP_CLEAR_REFUSED, detail := sessPort session, session := session }, Reply.tripActive)
  else
    let s := if mask.testBit 8 then s.sgbRelease else s
    let s := s.putN OD.TRIP_LATCH (s.nat OD.TRIP_LATCH - (s.nat OD.TRIP_LATCH &&& mask))
    let s := if s.nat OD.TRIP_LATCH = 0 then s.putN OD.TRIP_FIRST 0xFF else s
    (s.occur { code := Ev.TRIP_CLEARED, detail := sessPort session, session := session }, Reply.ok)

/-- TRIP_CLEAR, a command object of the owner. -/
def execTripClear (session mask : Nat) (s : State) : Host.Outcome State Fault Refusal :=
  .next (s.command session (s.ownerRefusal session) fun s => s.tripClear session mask)

/-! ### The MMC sorter -/

/-- One arm. -/
def State.arm (s : State) (k : Nat) : Arm := vget {} s.arms k
/-- Replace an arm. -/
def State.setArm (s : State) (k : Nat) (a : Arm) : State := { s with arms := vset s.arms k a }

/-- The voltage codes that frame `n` works with: those of the uplink of frame n − 1 or before (R115, R141). -/
def Arm.codes (a : Arm) (n : Nat) : List (Nat × Nat) := if a.tag = some n then a.volts1 else a.volts

/-- The voltage code of submodule `j` of arm `k` in the present frame (0xFFFF: not measured, Table 9.15). -/
def State.smCode (s : State) (k j : Nat) : Nat := sparseGet (fun _ => 0xFFFF) ((s.arm k).codes s.frame.n) j

/-- Submodule `j` of arm `k` is available (R210): not bypassed, not excluded, refreshed within SM_STALE_MAX frames. -/
def State.smAvailable (s : State) (k j : Nat) : Bool :=
  let a := s.arm k
  !s.bit (OD.SM_BYPASSED k (j / 32)) (j % 32) && !(a.excluded.contains j) &&
  (match sparseFind a.seenAt j with
   | none => false
   | some f => decide ((s.frame.n + 2 ^ 32 - f) % 2 ^ 32 ≤ s.nat OD.SM_STALE_MAX))

/-- Insert a submodule by rising voltage code, ties by rising index (the list is built from the highest index down). -/
def insertByCode (code : Nat → Nat) (j : Nat) : List Nat → List Nat
  | [] => [j]
  | i :: is => if code j ≤ code i then j :: i :: is else i :: insertByCode code j is

/-- The available submodules of an arm in the sorter's order (R212). -/
def State.sortArm (s : State) (k : Nat) : List Nat :=
  (((List.range (s.nat OD.N_SM)).filter fun j => s.smAvailable k j).reverse).foldl
    (fun acc j => insertByCode (s.smCode k) j acc) []

/-- MMC_SORT (R212, R210, R216): the order of the arm's available submodules; a change of availability is recorded; an arm below
N_AVAIL_MIN stops the converter. -/
def State.mmcSort (s : State) (k : Nat) : State :=
  let order := s.sortArm k
  let av := (List.range (s.nat OD.N_SM)).filter fun j => s.smAvailable k j
  let changed := decide ((s.arm k).avail ≠ av)
  let s := s.setArm k { s.arm k with order := order, avail := av }
  let s := s.putN (OD.N_AVAIL k) av.length
  let s := if changed then s.note Ev.MMC_SM_CHANGE k else s
  let low := decide (av.length < s.nat OD.N_AVAIL_MIN)
  let was := (s.arm k).availLow
  let s := s.setArm k { s.arm k with availLow := low }
  if low && !was then (s.note Ev.MMC_AVAIL_LOW k).protStop Ev.MMC_AVAIL_LOW false else s

/-- MMC_SORT. -/
def execMmcSort (arm : Fin 6) (s : State) : Host.Outcome State Fault Refusal := .next (s.mmcSort arm.val)

end Sys2Proof.Machine
end

