-- ==== Sys2Proof/Machine/Grid.lean ====
section
/-!
DEFINITION. Machine/Grid.lean: the frame grid on the LTC: the instants t0 of R96, also while the reference carrier is pulled (R98).
-/
namespace Sys2Proof.Machine
open Sys2Proof

/-- F in ticks (R96). -/
def State.fTicks (s : State) : Nat := s.nat OD.FRAME_PERIOD

/-- j of R98: T_c/2 = j × F for the reference carrier; 0 where there is none or none fits. -/
def State.framesPerHalf (s : State) : Nat :=
  let c := s.nat OD.REF_CARRIER
  if 8 ≤ c then 0
  else
    let t := s.carPeriod c
    let f := s.fTicks
    if t % 2 = 0 ∧ f ≠ 0 ∧ t / 2 % f = 0 ∧ t / 2 / f ≤ 1024 then t / 2 / f else 0

/-- A_f: the reference carrier's anchor, as pulled while its carrier runs, else the interleave offset formed with F (R96, R98). (Log 39, DESIGN CHOICE, unsafe.) -/
def State.frameAnchor (s : State) : Int :=
  let c := s.nat OD.REF_CARRIER
  if c < 8 then s.carPhase c
  else (s.interleaveOffset s.fTicks : Int)

/-- The `i`-th of the `j` frame instants of a half, in ticks from its start: frame lengths follow the half's in proportion, rounded (R98). -/
def halfInstant (h : Half) (j i : Nat) : Int := h.start + ((2 * i * h.len + j) / (2 * j) : Nat)

/-- The least grid instant above `t`. -/
def State.gridAfter (s : State) (t : Nat) : Nat :=
  let c := s.nat OD.REF_CARRIER
  let j := s.framesPerHalf
  if c < 8 ∧ (s.car c).started = true ∧ j ≠ 0 then
    let h := s.halfAt c t
    let i := (((t : Int) - h.start).toNat * j) / Nat.max 1 h.len
    let g (k : Nat) : Int := halfInstant h j (i + k)
    (if (t : Int) < g 0 then g 0 else if (t : Int) < g 1 then g 1 else g 2).toNat
  else
    let f : Int := s.fTicks
    let d := ((t : Int) - s.frameAnchor) % f
    ((t : Int) + (f - d)).toNat

/-- The greatest grid instant not above `t`, where no frame runs (R535). -/
def State.gridBefore (s : State) (t : Nat) : Nat := (t : Int).toNat - (((t : Int) - s.frameAnchor) % (s.fTicks : Int)).toNat

end Sys2Proof.Machine
end

