-- ==== Sys2Proof/Machine/Adc.lean ====
section
/-!
DEFINITION. Machine/Adc.lean: chapter 03: conversions and result registers, the measurement stream of a core, core faults and pair
fall-back, start-up and background calibration, reference divergence and internal channels; and the warnings that rest on the
internal channels (R466, R468).
-/
namespace Sys2Proof.Machine
open Sys2Proof

/-- Conversions run: D7 on, timebase valid (R535), the core enabled, and in a pair that fell back only the healthy core for the
primary (R66). -/
def State.coreRuns (s : State) (c : Nat) : Bool := s.domainOn 7 && s.tbValid && s.coreOn c

/-- An 18-bit code, saturated (R59). -/
def satCode (code : Int) : Int := if code > 131071 then 131071 else if code < -131072 then -131072 else code

/-- A code at full scale (R59). -/
def fullScale (code : Int) : Bool := decide (code ≥ 131071) || decide (code ≤ -131072)

/-- A result register after a write (Table 3.3): COUNT wraps; a faulted core keeps the last good code. FAULT is formed at the read
(`State.read`). -/
def State.writeResult (s : State) (c e : Nat) (code : Int) (ovr subst : Bool) : State :=
  let old := s.nat (OD.ADC_RESULT c e)
  let cnt := (old / 2 ^ 28 + 1) % 16
  let bits := if (s.core c).faulted then old % 2 ^ 18 else (code % 262144).toNat
  s.putN (OD.ADC_RESULT c e)
    (cnt * 2 ^ 28 + (if ovr then 2 ^ 27 else 0) + (if (s.core c).faulted then 2 ^ 26 else 0) + (if s.degr c then 2 ^ 25 else 0) +
     (if subst then 2 ^ 24 else 0) + bits)

/-! ### The conversion grid (R62, R64, R65, R67, R535) -/

/-- This core converts for its channel: not the half of a pair that failed out of it (R66). -/
def State.coreFeeds (s : State) (c : Nat) : Bool := !(s.pairBack c && (s.core c).failedOut)

/-- The offset of a core's slots from those of its channel in half ticks: P_c/2 on the odd core of a pair that has not fallen back (R65). -/
def State.slotOffset (s : State) (c : Nat) : Nat :=
  if s.pairFormed c && !s.pairBack c && decide (c % 2 = 1) then s.nat (OD.ADC_PERIOD (s.chanOf c)) else 0

/-- The t0 before or at a hold, and whether the present frame's t0 is still to come (R64: the grid is anchored anew to each t0). -/
def State.slotBase (s : State) (hold2 : Nat) : Nat × Bool :=
  if s.frame.grid = false then (s.gridBefore (hold2 / 2), false)
  else if 2 * s.frame.t0 ≤ hold2 then (s.frame.t0, false)
  else (s.frame.t0Prev, true)

/-- The slot of core `c` whose hold lies at half tick `hold2`, if there is one: k counted from t0 in units of P_s, P_c/2 for a formed pair
(R62, R65). Slots before t0 count back from the F/P_c that a frame has, so that the last one absorbs a difference of its length (R64; log 130, DESIGN CHOICE, unsafe); one that is skipped is none. -/
def State.slotAt (s : State) (c hold2 : Nat) : Option Int :=
  let x := s.core c
  let pc := s.nat (OD.ADC_PERIOD (s.chanOf c))
  let ofs := s.slotOffset c
  let base := s.slotBase (hold2 - ofs)
  let d := hold2 - ofs - 2 * base.1
  let i := d / (2 * pc)
  if x.newGrid = true ∨ hold2 < 2 * x.gridFrom ∨ hold2 < ofs + 2 * base.1 ∨ d % (2 * pc) ≠ 0 ∨ x.skip = some hold2 then none
  else
    let n := s.fTicks / pc
    if base.2 = true ∧ n ≤ i then none
    else
      let j : Int := if base.2 then (i : Int) - n else i
      some (if s.pairFormed c then 2 * j + (if ofs = 0 then 0 else 1) else j)

/-- The hold, in half ticks, of a primary conversion of core `c` that lies `after` ticks back: on a half tick for the odd core of a pair with odd
P_c (R65). -/
def State.holdBefore (s : State) (c after : Nat) : Nat := 2 * (s.ltc - after) + s.slotOffset c % 2

/-- The slot whose conversion completes now, 160 ns after its hold (R70): no sooner than 125 ticks after the core's last hold. -/
def State.slotNow (s : State) (c : Nat) : Option Int :=
  let h := s.holdBefore c 100
  if (s.core c).lastHold ≠ 0 ∧ h < (s.core c).lastHold + 250 then none else s.slotAt c h

/-- The frame window of a channel: |k| ≤ m (R62). -/
def State.inWindow (s : State) (n : Nat) (k : Int) : Bool := decide (k.natAbs ≤ s.nat (OD.ADC_FRAME_WIN n))

/-- The hold at which a secondary or calibration conversion of core `c` that lies `after` ticks back may be placed (R67): with P_c ≥ 250 a
midpoint, floor(P_c/2) after a slot and outside [t0 − m·P_c, t0 + m·P_c]; below that a slot outside the window, at most one in any 8. -/
def State.placeBefore (s : State) (c after : Nat) : Option Nat :=
  let n := s.chanOf c
  let pc := s.nat (OD.ADC_PERIOD n)
  let m := s.nat (OD.ADC_FRAME_WIN n)
  let h := s.holdBefore c after
  let x := s.core c
  if 250 ≤ pc then
    let slot := h - 2 * (pc / 2)
    let near (t0 : Nat) : Bool := decide (2 * t0 ≤ h + 2 * (m * pc)) && decide (h ≤ 2 * t0 + 2 * (m * pc))
    if (s.slotAt c slot).isSome && !(s.frame.grid && (near s.frame.t0 || near s.frame.t0Prev)) && decide (x.placedAt < h) then some h else none
  else
    match s.slotAt c h with
    | some k =>
      if !s.inWindow n k && (decide (x.placedAt = 0) || decide (x.placedAt + 16 * pc ≤ h)) && (decide (x.lastHold = 0) || decide (x.lastHold + 250 ≤ h))
      then some h else none
    | none => none

/-- The last slot of a core before a new t0 is skipped where it would come less than 125 ticks before the core's slot at it (R64). -/
def State.skipSlots (s : State) : State :=
  (List.range 32).foldl (init := s) fun s c =>
    let pc := s.nat (OD.ADC_PERIOD (s.chanOf c))
    let len := s.frame.t0 - s.frame.t0Prev
    let last := Nat.min (s.fTicks / pc - 1) ((len - 1) / pc)
    if s.coreOn c && decide (len < last * pc + 125) then
      s.setCore c { s.core c with skip := some (2 * (s.frame.t0Prev + last * pc) + s.slotOffset c) }
    else s

/-- At the frame boundary the new grid of a core whose settings were switched is anchored to the new t0 (Table 3.5). -/
def State.anchorCores (s : State) : State :=
  (List.range 32).foldl (init := s) fun s c =>
    if (s.core c).newGrid then s.setCore c { s.core c with newGrid := false, gridFrom := s.frame.t0 } else s

/-! ### Core faults and pair fall-back (R66, R71) -/

/-- A core is faulted: latched, masked, recorded; a pair with one healthy core falls back, and its channel switches (R66, R71, R90). -/
def State.coreFault (s : State) (c : Nat) : State :=
  if (s.core c).faulted then s
  else
    let s := s.setCore c { s.core c with faulted := true }
    let s := (s.putBit OD.ADC_FAULT_MASK c true).note Ev.ADC_CORE_FAULT c
    let e := evenOf c
    let other := if c % 2 = 0 then c + 1 else e
    if s.pairFormed c && !(s.core other).faulted && !(s.core e).fallback then
      let s := s.setCore c { s.core c with failedOut := true, held := none, taken := none }
      let s := s.setCore e { s.core e with fallback := true }
      (s.fallbackSwitch e).note Ev.ADC_PAIR_FALLBACK e true
    else s.channelSwitch (s.chanOf c)

/-- A faulted core that has passed calibration is released; a pair whose re-enabling was asked for is restored (R66, R71). -/
def State.coreReleased (s : State) (c : Nat) : State :=
  let s := if (s.core c).faulted then
      let s := ((s.setCore c { s.core c with faulted := false }).putBit OD.ADC_FAULT_MASK c false).note Ev.ADC_CORE_FAULT c false
      if s.coreFeeds c then s.channelSwitch (s.chanOf c) else s
    else s
  let e := evenOf c
  if (s.core e).fallback && (s.core e).restore && !(s.core e).faulted && !(s.core (e + 1)).faulted then
    let s := s.setCore (e + 1) { s.core (e + 1) with failedOut := false, held := none, taken := none }
    let s := s.setCore e { s.core e with fallback := false, restore := false, failedOut := false, held := none, taken := none }
    (s.channelSwitch e).note Ev.ADC_PAIR_FALLBACK e false
  else s

/-- The factory trim of a core. -/
def State.trim (s : State) (c : Nat) : AdcTrim := vget {} s.adcUnit.trims c

/-- The start-up calibration of one core begins (R73), its corrections from the factory trim (R66). -/
def State.coreCalStart (s : State) (c : Nat) : State :=
  let t := s.trim c
  let s := ((s.putI (OD.ADC_SKEW_CAL c) t.skew).putI (OD.ADC_GAIN_CAL c) t.gain).putI (OD.ADC_OFFSET_CAL c) t.offset
  s.setCore c { s.core c with calDone := false, calAgnd := 0, calOwn := 0, calOther := 0, calBad := false, agndBad := 0, ownBad := 0
                              held := none, taken := none }

/-- A commit switches the settings of a core (Table 3.5): conversions in flight reach the result registers only, the new grid starts at the
next t0. -/
def State.coreSwitched (s : State) (c : Nat) : State :=
  s.setCore c { s.core c with switchAt := some s.ltc, newGrid := true, held := none, taken := none, skip := none }

/-- A commit touches a core (R66, R71): a faulted core is recalibrated; a commit that re-enables pairing asks for the pair's restoration. -/
def State.coreTouched (s : State) (c : Nat) (pairing : Bool) : State :=
  let e := evenOf c
  let s := if pairing && (s.core e).fallback then s.setCore e { s.core e with restore := true } else s
  let bad := (s.core c).faulted || (pairing && ((s.core e).faulted || (s.core (e + 1)).faulted))
  if bad then
    let s := if (s.core c).faulted then s.coreCalStart c else s
    let s := if pairing && (s.core e).faulted then s.coreCalStart e else s
    if pairing && (s.core (e + 1)).faulted then s.coreCalStart (e + 1) else s
  else if pairing then s.coreReleased c
  else s

/-! ### Primary conversions (R63, R64, R68) -/

/-- The mean of two neighbouring codes; its half where the sum is odd is not stated (free value). -/
def State.meanCode (s : State) (a b : Int) : Int × State :=
  if (a + b) % 2 = 0 then ((a + b) / 2, s)
  else
    let d := s.draw
    ((a + b) / 2 + (Config.freeNat d.1 % 2 : Nat), d.2)

/-- Over-range of a primary input, recorded when it is set or cleared (Table 3.8). -/
def State.overrange (s : State) (c : Nat) (b : Bool) : State :=
  if (s.core c).ovr = b then s else (s.setCore c { s.core c with ovr := b }).note Ev.ADC_OVERRANGE c b

/-- A taken or skipped slot at hold `at1`: the mean of its neighbours, marked SUBST (R64, R68), in the result register before the value that
follows it, and in the measurement path. -/
def State.substitute (s : State) (c : Nat) (prev code : Int) (at1 : Nat) : State :=
  let m := s.meanCode prev code
  ((m.2.bump OD.SUBST_COUNT).writeResult c 0 m.1 false true).feedMeas (s.chanOf c) m.1 at1 false true

/-- A primary value enters the measurement path: at once, or one period later on a core with P_c below 250 ticks; a taken or skipped slot
before it is substituted (R64, R68). In a pair a value's neighbours are those of its own core, P_c either side (log 132, DESIGN CHOICE,
unsafe). (Log 136, DESIGN CHOICE, unsafe.) -/
def State.primaryMeas (s : State) (c : Nat) (code : Int) (hold2 : Nat) : State :=
  let n := s.chanOf c
  let x := s.core c
  let slow := decide (250 ≤ s.nat (OD.ADC_PERIOD n))
  let skipped := x.skip.filter fun k => decide (k < hold2)
  let s := match x.held with
    | some p =>
      let s := if !slow && x.taken.isNone then s.feedMeas n p x.heldAt (fullScale p) false else s
      let s := match x.taken with
        | some t => s.substitute c p code (t / 2)
        | none => s
      match skipped with
      | some k => s.substitute c p code (k / 2)
      | none => s
    | none => s
  let s := s.setCore c { s.core c with held := some code, heldAt := hold2 / 2, taken := none, lastHold := hold2
                                       skip := if skipped.isSome then none else x.skip }
  if slow then s.feedMeas n code (hold2 / 2) (fullScale code) false else s

/-- A primary conversion completes at its slot `k` (R62, R63, R70): its result register, the frame window of a core that delivers, the
measurement path (R79: a faulted or uncalibrated core's outputs are suppressed there). -/
def State.primaryDone (s : State) (c : Nat) (k : Int) (code : Int) : State :=
  let n := s.chanOf c
  let code := satCode code
  let ovr := fullScale code
  let hold2 := s.holdBefore c 100
  if s.coreFeeds c then
    let ok := s.frame.grid && !(s.core c).faulted && (s.core c).calDone && s.inWindow n k
    let s := if ok then s.setChain n { s.chain n with window := (s.chain n).window ++ [(k, code, ovr)] } else s
    let s := s.primaryMeas c code hold2
    (s.writeResult c 0 code ovr false).overrange c ovr
  else ((s.setCore c { s.core c with lastHold := hold2 }).writeResult c 0 code ovr false).overrange c ovr

/-- A conversion that was in flight when a commit switched its core's settings (Table 3.5). -/
def State.inFlight (s : State) (c : Nat) : Bool :=
  match (s.core c).switchAt with
  | some t => decide (s.ltc < t + 100) && decide ((s.core c).lastHold < 2 * (s.ltc - 100))
  | none => false

/-- A conversion in flight completes with the old settings: its result register only. -/
def State.flightDone (s : State) (c : Nat) (code : Int) : State :=
  let code := satCode code
  ((s.setCore c { s.core c with lastHold := 2 * (s.ltc - 100) }).writeResult c 0 code (fullScale code) false).overrange c (fullScale code)

/-! ### Calibration and secondary conversions (R67, R69, R71–R73) -/

/-- A secondary or calibration conversion is placed at `hold2`; on a core with P_c below 250 ticks it takes the slot, and the stream goes on
with the held value (R67, R68). -/
def State.takeSlot (s : State) (c hold2 : Nat) : State :=
  let n := s.chanOf c
  let x := s.core c
  let s := s.setCore c { x with placedAt := hold2 }
  if s.nat (OD.ADC_PERIOD n) < 250 then
    let s := s.setCore c { s.core c with lastHold := hold2, taken := some hold2 }
    match x.held, x.taken with
    | some p, none => if s.coreFeeds c then s.feedMeas n p x.heldAt (fullScale p) false else s
    | _, _ => s
  else s

/-- A due entry still stands: enabled, and within the sequence's length. -/
def State.seqStands (s : State) (c e : Nat) : Bool := (s.nat (OD.SEQ_E c e)).testBit 31 && decide (e < s.nat (OD.ADC_SEQ_LEN c))

/-- Entries that a commit disabled leave the order; one that is due again while it still waits is counted as starved, and only the newer
request is kept (R69). -/
def State.dueSweep (s : State) (c : Nat) : State :=
  let x := s.core c
  let due := x.due.filter fun d => s.seqStands c d.1
  let old (d : Nat × Nat) : Bool := due.any fun e => decide (e.1 = d.1) && decide (d.2 < e.2) && decide (e.2 ≤ s.ltc)
  let gone := due.filter old
  let s := s.setCore c { x with due := due.filter fun d => !old d }
  gone.foldl (init := s) fun s _ => (s.bump OD.SEQ_STARVED).note Ev.ADC_SEQ_STARVED c

/-- The secondary entry that is first in order for a conversion held at LTC `h` (R69). -/
def State.seqHead (s : State) (c h : Nat) : Option Nat := ((s.core c).due.find? fun d => decide (d.2 < h)).map (·.1)

/-- The period of a background calibration conversion: 1 ms for AGND and the own reference, 10 ms for the other half's (R71). -/
def calPeriod (kind : Nat) : Nat := if kind = 2 then ms 10 else ms 1

/-- A background calibration conversion of a kind is due for `over` ticks (R71). -/
def State.calDue (s : State) (c kind after : Nat) : Bool := s.past (vget 0 (s.core c).calAt kind) (calPeriod kind + after)

/-- Some background calibration conversion of the core is 10 ms overdue, and so goes first (R71, Table 3.5). -/
def State.calFirst (s : State) (c : Nat) : Bool := (List.range 3).any fun k => s.calDue c k (ms 10)

/-- An own-reference reading lies outside ±0.5 % of 4.096 V (R71). -/
def ownRefBad (code : Int) : Bool := decide ((code * 78125 - 4096000000).natAbs * 1000 > 5 * 4096000000)
/-- An AGND reading lies outside ±0.1 % of full scale (R71). -/
def agndBad (code : Int) : Bool := decide (code.natAbs * 1000 > 131072)

/-- A background correction moves by at most `lim` either way (R66); by how much is not stated (free value). -/
def State.moveCal (s : State) (k lim : Nat) (bound : Int) : State :=
  let d := s.draw
  let v := s.int k + ((Config.freeNat d.1 % (2 * lim + 1) : Nat) : Int) - lim
  d.2.putI k (if v > bound then bound else if v < -bound - 1 then -bound - 1 else v)

/-- A start-up calibration sets a core's offset and gain (R73); their values are not stated (free values within the types). -/
def State.setCal (s : State) (c : Nat) : State :=
  let d := s.draw
  let e := d.2.draw
  (e.2.putI (OD.ADC_OFFSET_CAL c) ((Config.freeNat d.1 % 65536 : Nat) - 32768 : Int)).putI (OD.ADC_GAIN_CAL c)
    ((Config.freeNat e.1 % 4294967296 : Nat) - 2147483648 : Int)

/-- The latest code of an internal channel (Table 3.4), read by core `c`. -/
def State.setIch (s : State) (c i : Nat) (code : Int) : State :=
  { s with adcUnit := { s.adcUnit with ich := vset s.adcUnit.ich i (some code), ichCore := vset s.adcUnit.ichCore i c } }

/-- A core whose start-up conversions are complete passes or fails the step (R73). -/
def State.coreCalDone (s : State) (c : Nat) : State :=
  let x := s.core c
  if x.calDone = false ∧ 64 ≤ x.calAgnd ∧ 64 ≤ x.calOwn ∧ 64 ≤ x.calOther then
    if x.calBad then s.coreFault c
    else
      let s := ((s.setCore c { x with calDone := true }).setCal c).coreReleased c
      (s.stepStage (s.chanOf c) 0).stepFrame (s.chanOf c) 1
  else s

/-- The reading of a calibration conversion: `kind` 0 AGND, 1 own reference, 2 the other half's (R71–R73). Three bad readings in a row fault
the core; the first background one of any core moves the calibration state from 2 to 3; skew moves in a pair only (R66). -/
def State.calReading (s : State) (c kind : Nat) (code : Int) : State :=
  let code := satCode code
  let x := s.core c
  let bad := if kind = 0 then agndBad code else if kind = 1 then ownRefBad code else false
  let ab := if kind = 0 then (if bad then x.agndBad + 1 else 0) else x.agndBad
  let ob := if kind = 1 then (if bad then x.ownBad + 1 else 0) else x.ownBad
  let three := decide (3 ≤ ab) || decide (3 ≤ ob)
  let s := s.setIch c (if kind = 0 then 2 else if (kind = 1) = (c < 16) then 0 else 1) code
  let x' : AdcCore := { x with agndBad := ab, ownBad := ob, otherRef := if kind = 2 then some code else x.otherRef,
                               calAt := vset x.calAt kind s.now }
  if x.calDone = false then
    let s := s.setCore c { x' with calBad := x.calBad || three, calAgnd := x.calAgnd + (if kind = 0 then 1 else 0),
                                   calOwn := x.calOwn + (if kind = 1 then 1 else 0), calOther := x.calOther + (if kind = 2 then 1 else 0) }
    (if three then s.coreFault c else s).coreCalDone c
  else
    let s := s.setCore c x'
    let s := if s.nat OD.ADC_CAL_STATE = 2 then s.putN OD.ADC_CAL_STATE 3 else s
    let s := if kind = 0 then s.moveCal (OD.ADC_OFFSET_CAL c) 50 32767
      else if kind = 1 then s.moveCal (OD.ADC_GAIN_CAL c) 3814 2147483647
      else if s.pairFormed c then s.moveCal (OD.ADC_SKEW_CAL c) 10 32767 else s
    if three then s.coreFault c else s

/-- A calibration conversion completes: during the start-up calibration in a slot of the core; in the background where it is due, after the due
secondary entries unless it is 10 ms overdue (R67, R71, R73, Table 3.5). -/
def State.calConversion (s : State) (c kind : Nat) (code : Int) : State :=
  if (s.core c).calDone = false then
    if s.adcUnit.calNeeded = false ∧ (s.slotNow c).isSome = true then
      (s.setCore c { s.core c with lastHold := s.holdBefore c 100 }).calReading c kind code
    else s
  else
    match s.placeBefore c 100 with
    | some h =>
      if s.calDue c kind 0 && (s.calDue c kind (ms 10) || (!s.calFirst c && (s.seqHead c (h / 2)).isNone)) then
        (s.takeSlot c h).calReading c kind code
      else s
    | none => s

/-- A due secondary entry is served, in a place of R67 after the frame window: only the first in the core's order, and not before a
calibration conversion that is 10 ms overdue (R69, R71, Table 3.5). -/
def State.secondaryDone (s : State) (c e : Nat) (code : Int) : State :=
  match s.placeBefore c 100 with
  | some h =>
    if s.seqHead c (h / 2) = some e ∧ s.calFirst c = false then
      let code := satCode code
      let w := s.nat (OD.SEQ_E c e)
      let x := s.core c
      let s := s.setCore c { x with due := x.due.eraseP fun d => decide (d.1 = e) }
      let s := s.writeResult c e code (fullScale code) false
      let s := if w.testBit 4 then s.setIch c (w % 16) code else s
      s.takeSlot c h
    else s
  | none => s

/-- ADC_CONVERSION_DONE (R70, R535): a conversion completes 160 ns after its hold, on the core's grid. (Log 77, DEDUCED, safe.) -/
def State.conversionDone (s : State) (c : Nat) (slot : Slot) (code : Int) : State :=
  if s.coreRuns c then
    let s := s.dueSweep c
    match slot with
    | .primary k =>
      if s.inFlight c then s.flightDone c code
      else if s.slotNow c = some k then s.primaryDone c k code else s
    | .secondary e => s.secondaryDone c (e.val + 1) code
    | .agnd => s.calConversion c 0 code
    | .ownRef => s.calConversion c 1 code
    | .otherRef => s.calConversion c 2 code
  else s

/-- ADC_CONVERSION_DONE. -/
def execAdcConversionDone (c : Fin 32) (slot : Slot) (code : Int) (s : State) : Host.Outcome State Fault Refusal :=
  .next (s.conversionDone c.val slot code)

/-- A conversion held 400 ns (250 ticks) ago has not completed: of a slot of the window, or of any other place of a conversion (R71). -/
def State.holdLate (s : State) (c : Nat) (window : Bool) : Bool :=
  let h := s.holdBefore c 250
  match s.slotAt c h with
  | some k => (s.inWindow (s.chanOf c) k == window) && decide ((s.core c).lastHold < h)
  | none => !window && (s.placeBefore c 250).isSome

/-- ADC_CONVERSION_TIMEOUT (R71, R81): a conversion not complete 400 ns after its hold faults the core; one of the frame window marks
the channel's window. -/
def execAdcConversionTimeout (c : Fin 32) (window : Bool) (s : State) : Host.Outcome State Fault Refusal :=
  .next (
    if s.coreRuns c.val && s.holdLate c.val window then
      let n := s.chanOf c.val
      (if window then s.setChain n { s.chain n with windowLate := true } else s).coreFault c.val
    else s)

/-- The secondary entries due in frame `n` (R69), those with n mod N_e = 0, join each core's order, eligible after the frame window. -/
def State.seqDue (s : State) (n : Nat) : State :=
  (List.range 32).foldl (init := s) fun s c =>
    if s.coreOn c then
      let s := s.dueSweep c
      let m := s.nat (OD.ADC_FRAME_WIN (s.chanOf c)) * s.nat (OD.ADC_PERIOD (s.chanOf c))
      let es := ((List.range 15).map (· + 1)).filter fun e =>
        s.seqStands c e && decide (n % Nat.max 1 (s.nat (OD.SEQ_E c e) / 256 % 65536) = 0)
      s.setCore c { s.core c with due := (s.core c).due ++ es.map fun e => (e, s.frame.t0 + m) }
    else s

/-! ### Start-up calibration (R73) -/

/-- ADC_STARTUP_CAL: the step begins on every enabled core when one is due and conversions run. -/
def State.startupCal (s : State) : State :=
  if s.adcUnit.calNeeded && s.domainOn 7 && s.tbValid then
    let s := (List.range 32).foldl (init := s) fun s c => if s.coreOn c then s.coreCalStart c else s
    ({ s with adcUnit := { s.adcUnit with calNeeded := false } }).putN OD.ADC_CAL_STATE 1
  else s

/-- ADC_STARTUP_CAL. -/
def execAdcStartupCal (s : State) : Host.Outcome State Fault Refusal := .next s.startupCal

/-- ADC_CAL_DONE: every enabled core has completed the step; a core that failed it leaves the state at 4, failed. (Log 78, DEDUCED, unsafe.) -/
def State.adcCalDone (s : State) : State :=
  if s.nat OD.ADC_CAL_STATE = 1 ∧ s.adcUnit.calNeeded = false then
    let on := (List.range 32).filter fun c => s.coreOn c
    if on.all (fun c => (s.core c).calDone) then (s.putN OD.ADC_CAL_STATE 2).note Ev.ADC_CAL_DONE 0
    else if on.all (fun c => (s.core c).calDone || (s.core c).calBad) then s.putN OD.ADC_CAL_STATE 4
    else s
  else s

/-- ADC_CAL_DONE. -/
def execAdcCalDone (s : State) : Host.Outcome State Fault Refusal := .next s.adcCalDone

/-- Timebase lost: conversions under way are gone (Table 3.5); a start-up calibration under way is abandoned and restarts in full (R73). Until
it does, OD 2140.01 stays at 1 (log 133, DESIGN CHOICE, unsafe). -/
def State.adcTbLost (s : State) : State :=
  let s := (List.range 32).foldl (init := s) fun s c =>
    s.setCore c { s.core c with held := none, taken := none, skip := none, switchAt := none, lastHold := 0, placedAt := 0, gridFrom := 0, newGrid := false }
  if s.nat OD.ADC_CAL_STATE = 1 then { s with adcUnit := { s.adcUnit with calNeeded := true } } else s

/-- Domain D7 is switched on: start-up calibration repeats, cores recalibrate, pairs are restored once they pass (R66, R71, R73). -/
def State.adcDomainOn (s : State) : State :=
  let s := (List.range 32).foldl (init := s) fun s c =>
    (s.coreCalStart c).setCore c { (s.coreCalStart c).core c with restore := (s.core c).fallback }
  ({ s with adcUnit := { s.adcUnit with calNeeded := true } }).stepAll

/-! ### Internal channels (R72, R466, R468) -/

/-- The engineering value of an internal channel from its latest code (Table 3.4). -/
def ichValue (i : Nat) (code : Int) : F32 :=
  if i = 3 ∨ i = 4 ∨ i = 5 then fq (code * 78125) 8000000000
  else if i = 7 ∨ i = 9 then fq (code * 78125) 2000000000
  else if i = 8 then fq (code * 78125 * 2) 1000000000
  else if 10 ≤ i then fsub (fq (code * 78125) 10000000) (fq 27315 100)
  else fq (code * 78125) 1000000000

/-- The mean of the healthy cores' relative errors of the other half's reference (R72), rounded towards −∞ to a whole ppm (log 13). -/
def State.refDivergence (s : State) : Int :=
  let es := ((List.range 32).filter fun c => s.coreOn c && !(s.core c).faulted).filterMap fun c => (s.core c).otherRef
  if es.isEmpty then 0 else es.foldl (fun a code => a + (code * 78125 - 4096000000)) 0 / (4096 * (es.length : Int))

/-- The level of the divergence record. -/
def State.divergeTo (s : State) (lvl : Nat) : State := { s with adcUnit := { s.adcUnit with divergeLevel := lvl } }

/-- ADC_REF_DIVERGE follows the magnitude of REF_DIVERGENCE (R72; log 134, DEDUCED, unsafe): recorded above warning, repeated with fail
severity above fail, and recorded back below warning. -/
def State.judgeDivergence (s : State) : State :=
  let d := (s.int OD.REF_DIVERGENCE).natAbs
  let lvl := if d > s.nat OD.REF_DIV_FAIL then 2 else if d > s.nat OD.REF_DIV_WARN then 1 else 0
  let old := s.adcUnit.divergeLevel
  if lvl = 0 ∧ old ≠ 0 then (s.divergeTo 0).note Ev.ADC_REF_DIVERGE 0 false
  else
    let s := if old = 0 ∧ 1 ≤ lvl then (s.divergeTo 1).note Ev.ADC_REF_DIVERGE 0 true else s
    if lvl = 2 ∧ old < 2 then (s.divergeTo 2).note Ev.ADC_REF_DIVERGE 0 true else s.divergeTo lvl

/-- The highest die temperature; a die with both sensors faulted, their latest results carrying FAULT, counts as above
125 °C (R71, R468). (Log 40, DEDUCED, unsafe.) -/
def State.dieMax (s : State) : F32 :=
  let t (i : Nat) : F32 := vget 0 s.power.dieTemps i
  let faulted (i : Nat) : Bool := (s.core (vget 32 s.adcUnit.ichCore (10 + i))).faulted
  let bad (d : Nat) : Bool := faulted (2 * d) && faulted (2 * d + 1)
  let base := ((List.range 6).filter fun i => !faulted i).foldl (fun m i => fmax m (t i)) (t 0)
  if bad 0 || bad 1 || bad 2 then fmax base (fofInt 126) else base

/-- The thermal watch on new readings (R468): warning above 115 °C, cleared below 110 °C, and since when 125 °C is reached. -/
def State.thermalWatch (s : State) : State :=
  let m := s.dieMax
  let s := s.putF OD.T_PEAK (fmax (s.f32 OD.T_PEAK) m)
  let hot := fle (fofInt 125) m
  let s := { s with power := { s.power with hotSince := if hot then some (s.power.hotSince.getD s.now) else none } }
  let st := s.nat OD.THERMAL_STATE
  if flt (fofInt 115) m then (if st = 0 then (s.putN OD.THERMAL_STATE 1).note Ev.OVERTEMP 0 else s)
  else if flt m (fofInt 110) then
    (if st = 0 then s else (s.putN OD.THERMAL_STATE 0).note Ev.OVERTEMP (if st = 2 then 1 else 0) false)
  else s

/-- V_BACKUP below 2.0 V while D1 is on is recorded (R466). -/
def State.backupWatch (s : State) : State :=
  let v := s.f32 (OD.ICH_VALUE 9)
  let s := s.putF OD.BACKUP_V v
  let low := (vget none s.adcUnit.ich 9).isSome && flt v ftwoV && s.domainOn 1
  let was := s.bit OD.VAULT_FLAGS 1
  if low = was then s else (s.putBit OD.VAULT_FLAGS 1 low).note Ev.BACKUP_LOW 0 low
where
  /-- 2.0 V. -/
  ftwoV : F32 := 0x40000000#32

/-- ICH_VALUE_UPDATE (R72): the house core converts the latest internal results and judges them. -/
def State.ichUpdate (s : State) : State :=
  if s.domainOn 7 && s.tbValid then
    let s := (List.range 16).foldl (init := s) fun s i =>
      match vget none s.adcUnit.ich i with
      | some code => s.putF (OD.ICH_VALUE i) (ichValue i code)
      | none => s
    let temps : Vector F32 6 := Vector.ofFn fun i : Fin 6 => s.f32 (OD.ICH_VALUE (10 + i.val))
    let s := { s with power := { s.power with dieTemps := temps } }
    ((s.putI OD.REF_DIVERGENCE s.refDivergence).judgeDivergence.thermalWatch).backupWatch
  else s

/-- ICH_VALUE_UPDATE. -/
def execIchValueUpdate (s : State) : Host.Outcome State Fault Refusal := .next s.ichUpdate

end Sys2Proof.Machine
end

