-- ==== Sys2Proof/Machine/Bushel.lean ====
section
/-!
DEFINITION. Machine/Bushel.lean: the 144/128 Bushel code of every bank, fabric link and parcel (R15–R20), as the spec states it
in GF(16).
-/
namespace Sys2Proof

/-- Multiply by α in GF(16), α⁴ = α + 1 (R16). -/
def gfDouble (x : Nat) : Nat := if x < 8 then 2 * x else Nat.xor (2 * x - 16) 3

/-- Multiplication in GF(16) (R16). -/
def gfMul (x y : Nat) : Nat :=
  let y1 := gfDouble y
  let y2 := gfDouble y1
  let y3 := gfDouble y2
  Nat.xor (Nat.xor (if x.testBit 0 then y else 0) (if x.testBit 1 then y1 else 0))
    (Nat.xor (if x.testBit 2 then y2 else 0) (if x.testBit 3 then y3 else 0))

/-- The inverse of a non-zero element: its 14th power. -/
def gfInv (x : Nat) : Nat :=
  let x2 := gfMul x x
  let x4 := gfMul x2 x2
  let x8 := gfMul x4 x4
  gfMul x8 (gfMul x4 x2)

/-- f(s, t) = s² + s·t + c·t² with c = 0x8 (R16). -/
def gfForm (s t : Nat) : Nat := Nat.xor (Nat.xor (gfMul s s) (gfMul s t)) (gfMul 8 (gfMul t t))

/-- Symbol `j` of a codeword (R15). -/
def symbol (w : BitVec 144) (j : Nat) : Nat := w.toNat / 16 ^ j % 16

/-- The point (s, t) of symbol `j` (Table 1.5); symbol 33 has none. -/
def symbolPoint (j : Nat) : Option (Nat × Nat) :=
  if j < 32 then some (j % 16, 2 + j / 16)
  else if j = 32 then some (0, 0)
  else if j = 34 then some (1, 0)
  else if j = 35 then some (0, 1)
  else none

/-- A syndrome (S0, S1, S2, S3). -/
structure Syndrome where
  s0 : Nat
  s1 : Nat
  s2 : Nat
  s3 : Nat
  deriving DecidableEq, Repr

/-- The contribution of symbol value `c` at place `j`: c · h_j (R17). -/
def Syndrome.addSymbol (z : Syndrome) (j c : Nat) : Syndrome :=
  match symbolPoint j with
  | some (s, t) =>
    { s0 := Nat.xor z.s0 c, s1 := Nat.xor z.s1 (gfMul c (gfForm s t)), s2 := Nat.xor z.s2 (gfMul c s), s3 := Nat.xor z.s3 (gfMul c t) }
  | none => { z with s1 := Nat.xor z.s1 c }

/-- The sum of c_j · h_j over the places of `js`. -/
def syndromeOver (w : BitVec 144) (js : List Nat) : Syndrome :=
  js.foldl (fun z j => z.addSymbol j (symbol w j)) ⟨0, 0, 0, 0⟩

/-- The syndrome of a codeword (R17). -/
def bushelSyndrome (w : BitVec 144) : Syndrome := syndromeOver w (List.range 36)

/-- The codeword of 128 data bits (R17). -/
def bushelEncode (d : BitVec 128) : BitVec 144 :=
  let z := syndromeOver (d.setWidth 144) (List.range 32)
  let p2 := z.s2
  let p3 := z.s3
  let p0 := Nat.xor (Nat.xor z.s0 z.s2) z.s3
  let p1 := Nat.xor (Nat.xor z.s1 z.s2) (gfMul 8 z.s3)
  BitVec.ofNat 144 (d.toNat + 2 ^ 128 * (p0 + 16 * p1 + 256 * p2 + 4096 * p3))

/-- What the decoder reports (R18). -/
inductive Decoded where
  | clean
  | corrected (w : BitVec 144)
  | poison
  | uncorrectable
  deriving DecidableEq, Repr

/-- A codeword with error `e` taken out of symbol `j`. -/
def fixSymbol (w : BitVec 144) (j e : Nat) : BitVec 144 := w ^^^ BitVec.ofNat 144 (e * 16 ^ j)

/-- The symbol whose point is (s, t) (Table 1.5). -/
def symbolAt (s t : Nat) : Option Nat := (List.range 36).find? fun j => decide (symbolPoint j = some (s, t))

/-- The decoder (R18). -/
def bushelDecode (w : BitVec 144) : Decoded :=
  let z := bushelSyndrome w
  if z = ⟨0, 0, 0, 0⟩ then .clean
  else if z.s0 = 0 then
    (if z.s2 = 0 ∧ z.s3 = 0 then .corrected (fixSymbol w 33 z.s1) else .uncorrectable)
  else
    let i := gfInv z.s0
    let s := gfMul z.s2 i
    let t := gfMul z.s3 i
    if gfMul z.s1 i ≠ gfForm s t then .uncorrectable
    else if s = 1 ∧ t = 1 then .poison
    else match symbolAt s t with
      | some j => .corrected (fixSymbol w j z.s0)
      | none => .uncorrectable

/-- A codeword with its four check symbols inverted (R20). -/
def bushelPoison (w : BitVec 144) : BitVec 144 := w ^^^ BitVec.ofNat 144 (0xFFFF * 2 ^ 128)

/-- The 128 data bits of a codeword (Table 1.4). -/
def bushelData (w : BitVec 144) : BitVec 128 := w.setWidth 128

/-- Whether the decoder delivers data: clean or corrected (R22). -/
def Decoded.good : Decoded → Bool
  | .clean => true
  | .corrected _ => true
  | _ => false

/-- What the reader is given: the corrected word, the word itself when clean, or the word with the poison mark (R21). Which data a
codeword carries once it is poisoned for being uncorrectable the spec does not say: the received data bits, encoded anew (log 121, DESIGN CHOICE,
unsafe). -/
def bushelDeliver (w : BitVec 144) : BitVec 144 :=
  match bushelDecode w with
  | .clean => w
  | .corrected v => v
  | .poison => w
  | .uncorrectable => bushelPoison (bushelEncode (bushelData w))

end Sys2Proof
end

