-- ==== Sys2Proof/Machine/Arch.lean ====
section
/-!
DEFINITION. Machine/Arch.lean: chapter 01: package fabric links, the house core's supervision, the Gill gauges and the speed
index. BANK_READ stands with the memory banks, in Machine/Memory.lean.
-/
namespace Sys2Proof.Machine
open Sys2Proof

/-- What a codeword that is not delivered as data does to the unit that takes it (Table 1.6). At the hub it is a codeword of the serving lane's outputs, which
are then withheld (R22, log 137, DEDUCED, unsafe). -/
def State.consumerPoison (s : State) (c : Consumer) : State :=
  match c with
  | .hub => { s with frame := { s.frame with outBad := true } }
  | .tile l => s.tilePoison l
  | .house l => s.houseTrap l

/-- Replace a fabric link. -/
def State.setLink (s : State) (i : Nat) (f : FabLink) : State :=
  { s with arch := { s.arch with links := vset s.arch.links i f } }

/-- A codeword arrives on a package fabric link (R14). `sent` is what the sender put on the link and `err` what the wire
changed; when a replay is awaited, what is sent is the codeword from the sender's replay buffer. A correctable error is
corrected and counted, per link; an uncorrectable codeword is requested again once, and the second time forwarded poisoned. What records
the link error is FAB_POISON; the spec names no event code for it (log 120, DESIGN CHOICE, unsafe). -/
def State.fabricArrival (s : State) (link : Nat) (dest : Consumer) (sent err : BitVec 144) : State :=
  let f := vget {} s.arch.links link
  let replay := f.wait.isSome
  let w := f.wait.getD sent ^^^ err
  let buf := if replay then f.replay else (sent :: f.replay).take 8
  match bushelDecode w with
  | .clean => s.setLink link { f with replay := buf, wait := none, delivered := w }
  | .corrected v => (s.setLink link { f with replay := buf, wait := none, delivered := v, corrected := f.corrected + 1 }).bump OD.FAB_CORR
  | .poison => (s.setLink link { f with replay := buf, wait := none, delivered := w }).consumerPoison dest
  | .uncorrectable =>
    if replay then
      ((s.setLink link { f with replay := buf, wait := none, delivered := bushelDeliver w }).bump OD.FAB_POISON).consumerPoison dest
    else (s.setLink link { f with replay := buf, wait := some sent }).bump OD.FAB_REPLAY

/-- FABRIC_CODEWORD_ARRIVAL (R14). -/
def execFabricCodewordArrival (link : Fin 3) (dest : Consumer) (sent err : BitVec 144) (s : State) :
    Host.Outcome State Fault Refusal :=
  .next (s.fabricArrival link.val dest sent err)

/-- HOUSE_SUPERVISION_MISS: a control-flow signature failure of the lane (R12, R288). -/
def execHouseSupervisionMiss (lane : Lane) (s : State) : Host.Outcome State Fault Refusal :=
  .next (s.diagFailed lane)

/-! ### Gill gauges -/

/-- The gauges of a lane die. -/
def State.gauges (s : State) : Lane → Vector Gauge 6
  | .a => s.arch.gaugesA
  | .b => s.arch.gaugesB

/-- Replace the gauges of a lane die. -/
def State.setGauges (s : State) (l : Lane) (g : Vector Gauge 6) : State :=
  match l with
  | .a => { s with arch := { s.arch with gaugesA := g } }
  | .b => { s with arch := { s.arch with gaugesB := g } }

/-- The entry GILL_OK of a lane die. -/
def gillOkKey : Lane → Nat
  | .a => OD.GILL_OK_A
  | .b => OD.GILL_OK_B

/-- The entries SI_LANE and SI_MIN of a lane. -/
def siKey : Lane → Nat
  | .a => OD.SI_LANE_A
  | .b => OD.SI_LANE_B
/-- The entry of a lane's lowest SI. -/
def siMinKey : Lane → Nat
  | .a => OD.SI_MIN_A
  | .b => OD.SI_MIN_B
/-- The entry of a gauge's reading. -/
def gillKey (l : Lane) (g : Nat) : Nat :=
  match l with
  | .a => OD.GILL_A g
  | .b => OD.GILL_B g

/-- A gauge's reading: the minimum of its last 16 samples (R27); 0 before the first. -/
def Gauge.reading (g : Gauge) : Nat :=
  match g.samples with
  | [] => 0
  | x :: xs => xs.foldl Nat.min x

/-- Insert into a rising list. -/
def insertRising (x : Nat) : List Nat → List Nat
  | [] => [x]
  | y :: ys => if x ≤ y then x :: y :: ys else y :: insertRising x ys

/-- A list in rising order. -/
def sortRising (xs : List Nat) : List Nat := xs.foldl (fun acc x => insertRising x acc) []

/-- The median: the middle value, or with an even number the mean of the two middle ones, rounded down; none where no gauge is healthy, and
then no reading differs from it (log 10, DESIGN CHOICE, unsafe). -/
def median (xs : List Nat) : Option Nat :=
  let v := sortRising xs
  let n := v.length
  if n = 0 then none
  else if n % 2 = 1 then some (v.getD (n / 2) 0)
  else some ((v.getD (n / 2 - 1) 0 + v.getD (n / 2) 0) / 2)

/-- The readings of the healthy gauges of a lane die. -/
def State.healthyReadings (s : State) (l : Lane) : List Nat :=
  ((List.range 6).filter fun g => s.bit (gillOkKey l) g).map fun g => (vget {} (s.gauges l) g).reading

/-- An alarm condition of a reading against its die's median: outside 0.500–4.000, or more than 20 % from the median
(R28). Readings are SI × 1024. -/
def gillAlarm (reading : Nat) (med : Option Nat) : Bool :=
  decide (reading < 512) || decide (reading > 4096) || med.any fun m => decide (5 * (reading - m + (m - reading)) > m)

/-- The lane's SI from its healthy gauges: their minimum; 0 and a self-diagnostic failure while fewer than four are healthy
(R27, R29). -/
def State.refreshSi (s : State) (l : Lane) : State :=
  let rs := s.healthyReadings l
  let si := if rs.length < 4 then 0 else (rs.foldl Nat.min 65535)
  let s := s.putN (siKey l) si
  let s := s.putN (siMinKey l) (Nat.min si (s.nat (siMinKey l)))
  if rs.length < 4 then s.diagFailed l else s

/-- A gauge's speed index from the measured replica delay, SI = d_floor / d, as SI × 1024 rounded down, in 16 bits (R26, R27; log 119, DESIGN CHOICE, unsafe). -/
def Gauge.index (g : Gauge) (d : Nat) : Nat := Nat.min (1024 * g.floor / d) 65535

/-- One gauge after a measurement: its index joins the last 16. A token that did not return (none, or no time at all) leaves the reading
unrenewed. -/
def Gauge.take (g : Gauge) (now : Nat) : Option Nat → Gauge
  | none => g
  | some d => if d = 0 then g else { g with samples := (g.index d :: g.samples).take 16, renewedAt := now }

/-- The gauges of a lane die after one measured delay each (R27). -/
def State.takeSamples (s : State) (l : Lane) (vals : List (Option Nat)) : State :=
  s.setGauges l (Vector.ofFn fun g : Fin 6 => (vget {} (s.gauges l) g.val).take s.now (vals.getD g.val none))

/-- The alarm of one gauge is raised, or its run of good samples continues with a sample that returned (R28, R29). -/
def State.judgeGauge (s : State) (l : Lane) (med : Option Nat) (g : Nat) : State :=
  let gg := vget {} (s.gauges l) g
  let bad := gillAlarm gg.reading med || decide (gg.renewedAt + us 4 < s.now)
  let s := s.setGauges l (vset (s.gauges l) g { gg with goodRun := if bad then 0 else if gg.renewedAt = s.now then gg.goodRun + 1 else gg.goodRun })
  let s := s.putN (gillKey l g) gg.reading
  if bad then s.putBit (gillOkKey l) g false else s

/-- GAUGE_SAMPLE: every gauge of the die takes its measured delay, alarms are raised, and the lane's SI follows (R27–R29). -/
def State.gaugeSample (s : State) (l : Lane) (vals : List (Option Nat)) : State :=
  let s := s.takeSamples l vals
  let med := median (s.healthyReadings l)
  ((List.range 6).foldl (init := s) fun s g => s.judgeGauge l med g).refreshSi l

/-- GAUGE_SAMPLE (R27). -/
def execGaugeSample (lane : Lane) (vals : List (Option Nat)) (s : State) : Host.Outcome State Fault Refusal :=
  .next (s.gaugeSample lane vals)

/-- GILL_RENEW_TIMEOUT: a reading not renewed for 4 µs raises the alarm and is excluded (R28). -/
def execGillRenewTimeout (lane : Lane) (g : Fin 6) (s : State) : Host.Outcome State Fault Refusal :=
  .next (
    let gg := vget {} (s.gauges lane) g.val
    if s.past gg.renewedAt (us 4) then
      ((s.setGauges lane (vset (s.gauges lane) g.val { gg with goodRun := 0 })).putBit (gillOkKey lane) g.val false).refreshSi lane
    else s)

/-- GAUGE_HEALTHY_AGAIN: after 1,000 consecutive samples without an alarm condition (R29). -/
def execGaugeHealthyAgain (lane : Lane) (g : Fin 6) (s : State) : Host.Outcome State Fault Refusal :=
  .next (
    if 1000 ≤ (vget {} (s.gauges lane) g.val).goodRun then (s.putBit (gillOkKey lane) g.val true).refreshSi lane else s)

end Sys2Proof.Machine
end

