-- ==== Sys2Proof/Machine/Line.lean ====
section
/-!
DEFINITION. Machine/Line.lean: chapter 09, the line: scrambler and blocks, bundles, and the training parcel and its requests
(R222, R223, R225, R227, R228).
-/
namespace Sys2Proof.Machine
open Sys2Proof

/-! ### Parcel fields -/

/-- A parcel from its fields: lowest bit, width, value (Tables 9.1, 9.5–9.17, 11.5, 11.6). -/
def packFields (fs : List (Nat × Nat × Nat)) : BitVec 128 :=
  BitVec.ofNat 128 (fs.foldl (fun n f => n + f.2.2 % 2 ^ f.2.1 * 2 ^ f.1) 0)

/-- The field of a parcel at bit `lo`, `width` bits wide. -/
def fld (w : BitVec 128) (lo width : Nat) : Nat := w.toNat / 2 ^ lo % 2 ^ width

/-- TYPE, bits [127:124]. -/
def ptype (w : BitVec 128) : Nat := fld w 124 4

/-- The first parcel of a type. -/
def findType (t : Nat) (ps : List (BitVec 128)) : Option (BitVec 128) := ps.find? fun w => decide (ptype w = t)

/-- The data a receiver is given of a codeword: clean or corrected (R22, R225). -/
def bushelGood (w : BitVec 144) : Option (BitVec 128) :=
  match bushelDecode w with
  | .clean => some (bushelData w)
  | .corrected v => some (bushelData v)
  | _ => none

/-! ### Scrambler and blocks (R222) -/

/-- Ceiling division. -/
def cdiv (a b : Nat) : Nat := (a + b - 1) / b

/-- The last 58 bits on the line, newest highest, after 32 more, of which bit 0 is the first. -/
def lineBits (st : BitVec 58) (y : BitVec 32) : BitVec 58 := (st >>> 32) ||| (y.setWidth 58 <<< 26)

/-- The two bits the scrambler adds to each of 32 bits: those sent 39 and 58 earlier, x⁵⁸ + x³⁹ + 1. -/
def scrambleMask (st : BitVec 58) : BitVec 32 := (st >>> 19).setWidth 32 ^^^ st.setWidth 32

/-- 32 bits scrambled, and the bits on the line after them. -/
def scramble32 (st : BitVec 58) (x : BitVec 32) : BitVec 32 × BitVec 58 := (x ^^^ scrambleMask st, lineBits st (x ^^^ scrambleMask st))

/-- 32 bits of the line descrambled: self-synchronising, from the line bits alone. -/
def descramble32 (st : BitVec 58) (y : BitVec 32) : BitVec 32 × BitVec 58 := (y ^^^ scrambleMask st, lineBits st y)

/-- A payload of 64 bits through the scrambler, bit 0 first. -/
def scramble64 (st : BitVec 58) (x : BitVec 64) : BitVec 64 × BitVec 58 :=
  let (a, st) := scramble32 st (x.setWidth 32)
  let (b, st) := scramble32 st ((x >>> 32).setWidth 32)
  (b ++ a, st)

/-- A received payload of 64 bits, descrambled. -/
def descramble64 (st : BitVec 58) (y : BitVec 64) : BitVec 64 × BitVec 58 :=
  let (a, st) := descramble32 st (y.setWidth 32)
  let (b, st) := descramble32 st ((y >>> 32).setWidth 32)
  (b ++ a, st)

/-- Blocks of payloads under one sync header, which is not scrambled. -/
def lineBlocks (sync : BitVec 2) : BitVec 58 → List (BitVec 64) → List LineBlock × BitVec 58
  | st, [] => ([], st)
  | st, x :: xs =>
    let (y, st) := scramble64 st x
    let (ys, st) := lineBlocks sync st xs
    ({ sync := sync, payload := y } :: ys, st)

/-- The payloads of received blocks. -/
def linePayloads : BitVec 58 → List LineBlock → List (BitVec 64)
  | _, [] => []
  | st, b :: bs => (descramble64 st b.payload).1 :: linePayloads (descramble64 st b.payload).2 bs

/-- The payload of an idle control block of clause 49: block type 0x1E, eight idle characters. -/
def idleControl : BitVec 64 := 0x1E

/-! ### Bundles (R223) -/

/-- The 576 bits of a bundle: parcel p in bits [144p+143:144p]. -/
def bundleOf (ws : List (BitVec 144)) : BitVec 576 :=
  (List.range 4).foldl (fun b p => b ||| ((ws.getD p 0).setWidth 576 <<< (144 * p))) 0

/-- Parcel `p` of a bundle. -/
def bundleParcel (b : BitVec 576) (p : Nat) : BitVec 144 := (b >>> (144 * p)).setWidth 144

/-- Block i of a bundle carries its bits [64i+63:64i]. -/
def bundleBlocks (b : BitVec 576) : List (BitVec 64) := (List.range 9).map fun i => (b >>> (64 * i)).setWidth 64

/-- Codewords filled up with idle parcels, whose codewords are all zero, to whole bundles. -/
def fillBundle (ws : List (BitVec 144)) : List (BitVec 144) := ws ++ List.replicate (cdiv ws.length 4 * 4 - ws.length) 0

/-- The blocks of whole bundles. -/
def bundlesOf (ws : List (BitVec 144)) : List (BitVec 64) :=
  ((List.range (ws.length / 4)).map fun i => bundleBlocks (bundleOf (ws.drop (4 * i)))).flatten

/-- The line after `k` idle bundles. -/
def idleBundles : Nat → BitVec 58 → BitVec 58
  | 0, st => st
  | k + 1, st => idleBundles k ((List.range 18).foldl (fun st _ => (scramble32 st 0).2) st)

/-- The next bundle a transmitter can form, by its number: the line carries bundles without a gap. `tb`: T_B in tenths of a tick. -/
def LineTx.next (x : LineTx) (tb now : Nat) : Nat := Nat.max (cdiv (10 * (now - x.start)) tb) x.sent

/-- Ticks from now to the reference point of that bundle (R223, Table 9.5). (Log 101, DEDUCED, unsafe.) -/
def LineTx.wait (x : LineTx) (tb now : Nat) : Nat := (x.next tb now * tb - 10 * (now - x.start)) / 10

/-- Parcels as they are sent (R17, R225): encoded, those at the places `lost` poisoned, and filled up to whole bundles. -/
def codewords (ps : List (BitVec 128)) (lost : List Nat) : List (BitVec 144) :=
  fillBundle ((List.range ps.length).map fun i =>
    let w := bushelEncode (ps.getD i 0)
    if lost.contains i then bushelPoison w else w)

/-- Codewords on the line, behind the idle bundles since the last: their blocks, and the transmitter after them. -/
def LineTx.send (x : LineTx) (tb now : Nat) (ws : List (BitVec 144)) : List LineBlock × LineTx :=
  let n := x.next tb now
  let (bs, st) := lineBlocks 1 (idleBundles (n - x.sent) x.scr) (bundlesOf ws)
  (bs, { x with scr := st, sent := n + ws.length / 4 })

/-- A bundle time of idle control blocks (Table 9.3). -/
def LineTx.idle (x : LineTx) : List LineBlock × LineTx :=
  let (bs, st) := lineBlocks 2 x.scr (List.replicate 9 idleControl)
  (bs, { x with scr := st })

/-- A transmitter that begins at tick `now`, or whose bits before are not known: what the scrambler starts from is free (log 5). -/
def LineTx.fresh (x : LineTx) (tb now k : Nat) : LineTx :=
  { x with scr := BitVec.ofNat 58 (Config.freeNat k), sent := cdiv (10 * (now - x.start)) tb }

/-! ### Taps and requests (R228) -/

/-- Taps as (pre, main, post). -/
def tapPre (t : Nat) : Nat := t / 1024 % 32
/-- The main tap. -/
def tapMain (t : Nat) : Nat := t / 32 % 32
/-- The post tap. -/
def tapPost (t : Nat) : Nat := t % 32

/-- |pre| + main + |post| within 1.00, in thousandths (R228). -/
def tapsLegal (pre main post : Nat) : Bool := decide (5 * pre + (690 + 10 * main) + 10 * post ≤ 1000)

/-- One tap after its request code: hold, increment, decrement, set (Table 9.1). -/
def tapStep (code cur set : Nat) : Nat :=
  if code = 1 then Nat.min (cur + 1) 31 else if code = 2 then cur - 1 else if code = 3 then set else cur

/-- The taps after a training parcel's request: refused, and so unchanged, when their sum would exceed 1.00 (R228). -/
def tapsAfter (t : Nat) (w : BitVec 128) : Nat :=
  let pre := tapStep (fld w 118 2) (tapPre t) (fld w 90 5)
  let main := tapStep (fld w 116 2) (tapMain t) (fld w 85 5)
  let post := tapStep (fld w 114 2) (tapPost t) (fld w 80 5)
  if tapsLegal pre main post then pre * 1024 + main * 32 + post else t

/-- The far sender's own taps, CUR_PRE, CUR_MAIN and CUR_POST. -/
def farTaps (w : BitVec 128) : Nat := fld w 107 5 * 1024 + fld w 102 5 * 32 + fld w 97 5

/-- The taps of a transmitter after a training parcel: its request is applied once (R228). -/
def Trainer.tapsFor (x : Trainer) (taps : Nat) (w : BitVec 128) : Nat := if x.farSeq = some (fld w 112 2) then taps else tapsAfter taps w

/-- A training parcel is heard with FOM `fom` (R228–R230): the far request noted, an acknowledgement of the own one, FOM at `target` timed, in ADAPT the
best taps kept, the far READY seen. -/
def Trainer.hear (x : Trainer) (w : BitVec 128) (fom target now : Nat) (adapt : Bool) : Trainer :=
  let ack := x.waits && decide (fld w 95 2 = x.reqSeq % 4)
  { x with
    farSeq := some (fld w 112 2), stamp := fld w 32 32, stampAt := now
    fomSince := if target ≤ fom then some (x.fomSince.getD now) else none
    bestFom := if adapt then Nat.max x.bestFom fom else x.bestFom
    bestTaps := if adapt && decide (x.bestFom < fom) then farTaps w else x.bestTaps
    waits := x.waits && !ack, ackAt := if ack then now else x.ackAt, acked := x.acked || (ack && x.asked)
    peerReady := x.peerReady || decide (fld w 121 3 = 2) }

/-- A new request may be issued: the last one acknowledged, and FOM measured on the new taps for 20 µs (R228). -/
def Trainer.mayAsk (x : Trainer) (now : Nat) : Bool := !x.waits && decide (x.ackAt + us 20 ≤ now)

/-- A request with a new REQ_SEQ. -/
def Trainer.ask (x : Trainer) (codes set : Nat) : Trainer := { x with reqSeq := (x.reqSeq + 1) % 4, req := codes, set := set, waits := true }

/-- The request of the best taps seen, by code 11 for every tap (R230). -/
def Trainer.askBest (x : Trainer) : Trainer := { (x.ask 63 x.bestTaps) with asked := true, acked := false }

/-- Training starts again in ADAPT; numbers of requests run on. -/
def Trainer.adapt (x : Trainer) (now : Nat) : Trainer :=
  { adaptAt := now, ackAt := now, reqSeq := x.reqSeq, farSeq := x.farSeq, stamp := x.stamp, stampAt := x.stampAt }

/-- TSTATE of a lane state (Table 9.1). -/
def tstateOf (lane : Nat) : Nat := if lane = 2 then 1 else if lane = 3 ∨ lane = 4 then 2 else if lane = 7 then 3 else if lane = 8 then 4 else 0

/-- The training parcel (Table 9.1) of a sender, whose bundle's reference point is at tick `at1`. -/
def Trainer.parcel (x : Trainer) (lane role taps fom rate port id at1 : Nat) : BitVec 128 :=
  packFields [(124, 4, 0xE), (121, 3, tstateOf lane), (120, 1, role), (114, 6, x.req), (112, 2, x.reqSeq), (97, 15, taps),
    (95, 2, x.farSeq.getD 0), (80, 15, x.set), (72, 8, fom), (70, 2, rate), (69, 1, port), (64, 5, id), (32, 32, at1 % 2 ^ 32),
    (12, 20, x.stamp % 2 ^ 20), (0, 12, at1 - x.stampAt)]

/-- A training bundle, `n` times: four copies of one parcel (R227). -/
def trainingWords (w : BitVec 128) (n : Nat) : List (BitVec 144) := List.replicate (4 * n) (bushelEncode w)

/-- The bundle time T_B of a rate in tenths of a tick: 95.04, 57.6 and 47.52 ns (R223). -/
def bundleTenths (rate : Nat) : Nat := if rate = 0 then 594 else if rate = 1 then 360 else 297

end Sys2Proof.Machine
end

