-- ==== Sys2Proof/Machine/Law.lean ====
section
/-!
DEFINITION. Machine/Law.lean: chapter 06 (and the limiter, rotor holding and observer of chapter 07): the numbers of one frame of
the grid-forming law, in the order of Table 6.3, as a function of the committed state of a lane and the frame's samples. Each
formula is evaluated in the order it is printed, one rounding per operation (log 12).
-/
namespace Sys2Proof.Machine
open Sys2Proof

/-! ### Small arithmetic -/

/-- Sum of two vectors. -/
def Ab.add (x y : Ab) : Ab := { a := fadd x.a y.a, b := fadd x.b y.b }
/-- Difference of two vectors. -/
def Ab.sub (x y : Ab) : Ab := { a := fsub x.a y.a, b := fsub x.b y.b }
/-- A vector scaled. -/
def Ab.smul (k : F32) (x : Ab) : Ab := { a := fmul k x.a, b := fmul k x.b }
/-- Its magnitude. -/
def Ab.mag (x : Ab) : F32 := fhyp x.a x.b
/-- Rotation by an angle. -/
def Ab.rot (x : Ab) (ang : F32) : Ab :=
  let c := Config.cos ang
  let s := Config.sin ang
  { a := fsub (fmul c x.a) (fmul s x.b), b := fadd (fmul s x.a) (fmul c x.b) }
/-- Its angle. -/
def Ab.ang (x : Ab) : F32 := Config.atan2 x.b x.a

/-- √3 in binary32. -/
def fsqrt3 : F32 := 0x3FDDB3D7#32
/-- Two. -/
def ftwo : F32 := 0x40000000#32
/-- A half. -/
def fhalf : F32 := 0x3F000000#32

/-- The `i`-th member of a list of numbers, 0 where missing. -/
def at0 (xs : List F32) (i : Nat) : F32 := xs.getD i 0

/-- Clarke transform of three consecutive samples from index `r` (R126). -/
def clarke (xs : List F32) (r : Nat) : Ab :=
  let a := at0 xs r
  let b := at0 xs (r + 1)
  let c := at0 xs (r + 2)
  { a := fdiv (fsub (fsub (fmul ftwo a) b) c) (fofInt 3), b := fdiv (fsub b c) fsqrt3 }

/-- The zero component of three consecutive samples (R126). -/
def clarke0 (xs : List F32) (r : Nat) : F32 := fdiv (fadd (fadd (at0 xs r) (at0 xs (r + 1))) (at0 xs (r + 2))) (fofInt 3)

/-- The three phases of a vector without zero component. -/
def phasesOf (x : Ab) : List F32 :=
  let h := fmul fhalf x.a
  let k := fmul (fdiv fsqrt3 ftwo) x.b
  [x.a, fsub k h, fsub (fneg k) h]

/-- A number of ticks as seconds. -/
def secOfTicks (n : Int) : F32 := fq (n * 8) 5000000000

/-- The frame notes the argument of a piecewise element and the bounds between its branches (R106). -/
def Law.piece (l : Law) (arg : F32) (cuts : List F32) : Law := { l with pieces := { arg := arg, cuts := cuts } :: l.pieces }

/-- Degrees as radians. -/
def radOfDeg (x : F32) : F32 := fdiv (fmul x fpi) (fofInt 180)

/-- The coefficient of an exact first-order step (R126). -/
def lpCoef (t tau : F32) : F32 := fsub fone (Config.exp (fneg (fdiv t tau)))

/-- A first-order low-pass (R126). -/
def lowPass (t tau old new : F32) : F32 := fadd old (fmul (lpCoef t tau) (fsub new old))

/-! ### The configuration the law reads -/

/-- f_nom in Hz (Table 6.1). -/
def State.fnom (s : State) : Nat := if s.nat OD.F_NOM = 1 then 60 else 50
/-- ω_0 = 2π·f_nom. -/
def State.omega0 (s : State) : F32 := fmul ftwoPi (fofInt s.fnom)
/-- V̂_b = √2·V_base/√3. -/
def State.vBase (s : State) : F32 := fdiv (fmul (fsqrt ftwo) (s.f32 OD.V_BASE)) fsqrt3
/-- V_DC_BASE / V̂_b. -/
def State.dcRatio (s : State) : F32 := fdiv (s.f32 OD.V_DC_BASE) s.vBase
/-- The channel that holds a role (R121). -/
def State.roleChan (s : State) (r : Nat) : Option Nat := (List.range 32).find? fun n => decide (s.nat (OD.CH_ROLE n) = r)
/-- A role is assigned. -/
def State.hasRole (s : State) (r : Nat) : Bool := (s.roleChan r).isSome
/-- A law channel (R121). -/
def State.isLaw (s : State) (n : Nat) : Bool := decide (s.nat (OD.CH_ROLE n) ≠ 0)
/-- MMC topology. -/
def State.isMmc (s : State) : Bool := decide (3 ≤ s.nat OD.TOPOLOGY)
/-- NPC or ANPC. -/
def State.isNpc (s : State) : Bool := decide (s.nat OD.TOPOLOGY = 1) || decide (s.nat OD.TOPOLOGY = 2)

/-- The samples by role: index 1–21, from a list by channel (R121). -/
def State.byRole (s : State) (xs : List F32) : List F32 :=
  (List.range 22).map fun r => if r = 0 then 0 else match s.roleChan r with
    | some n => at0 xs n
    | none => 0

/-- A committed loss of any channel holding a role of a range. -/
def State.roleLost (s : State) (lo hi : Nat) : Bool :=
  (List.range 32).any fun n => decide (lo ≤ s.nat (OD.CH_ROLE n)) && decide (s.nat (OD.CH_ROLE n) ≤ hi) && s.bit OD.FB_LOST_MASK n

/-! ### History and sequences (R126) -/

/-- The value a quarter cycle of f_nom before `t0`, interpolated linearly between stored frames; the oldest one where less is
stored. -/
def delayedAt (q3 : Nat) (f : HistEntry → Ab) : List HistEntry → Nat → Ab
  | [], _ => {}
  | [e], _ => f e
  | e1 :: e0 :: es, t0 =>
    if 3 * t0 ≥ 3 * e0.t0 + q3 then
      let num : Int := (3 * t0 : Int) - q3 - 3 * e0.t0
      let den := 3 * (e1.t0 - e0.t0)
      let fr := if den = 0 then 0 else fq num den
      (f e0).add (Ab.smul fr ((f e1).sub (f e0)))
    else delayedAt q3 f (e0 :: es) t0

/-- A quarter cycle of f_nom in thirds of a tick. -/
def State.quarter3 (s : State) : Nat := 3 * 625000000 / (4 * s.fnom)

/-- Positive and negative sequence of a signal from its value now and a quarter cycle ago (R126). -/
def seqOf (x d : Ab) : Ab × Ab :=
  ({ a := fdiv (fsub x.a d.b) ftwo, b := fdiv (fadd x.b d.a) ftwo },
   { a := fdiv (fadd x.a d.b) ftwo, b := fdiv (fsub x.b d.a) ftwo })

/-- √(2·mean(v²)) of phase `i` of the bus over one cycle of f_nom (R127). (Log 79, DEDUCED, unsafe.) -/
def State.phaseRms (s : State) (hist : List HistEntry) (t0 i : Nat) : F32 :=
  let w := (hist.takeWhile fun e => decide (t0 < e.t0 + 625000000 / s.fnom)).map fun e => let v := at0 e.vbPh i; fmul v v
  if w.isEmpty then 0 else fsqrt (fmul ftwo (fdiv (w.foldl fadd 0) (fofInt w.length)))

/-! ### The frame's inputs -/

/-- What a frame of the law is computed from: t0, T(n) and T_θ(n) in ticks, samples by role, and the law state. -/
structure LawIn where
  t0 : Nat
  t : Int
  tTheta : Int
  x : List F32
  st : Nat

/-! ### Step 1: transforms, observer, powers (R126, R182, R183) -/

/-- The observer's angle θ_o(n) (R182). -/
def Law.thetaO (l : Law) (s : State) (i : LawIn) : F32 :=
  fwrap (fadd (fadd l.thHi l.thLo) (fmul (fmul s.omega0 l.omega) (secOfTicks i.tTheta)))

/-- The observer (R182): v_u, the tracked bias (frozen while bridging) and v̂. -/
def Law.observe (l : Law) (s : State) (i : LawIn) (ic vfRaw : Ab) : Law :=
  if s.flag OD.OBS_ENABLE then
    let t := secOfTicks i.t
    let di := Ab.smul (fdiv (s.f32 OD.X_F) (fmul s.omega0 t)) (ic.sub l.ic)
    let vu := (l.uOut.sub (Ab.smul (s.f32 OD.R_F) ic)).sub di
    let th := l.thetaO s i
    let b :=
      if s.sup.bridging then l.obsB
      else l.obsB.add (Ab.smul (fdiv t (s.f32 OD.OBS_TC)) (((vfRaw.sub vu).rot (fneg th)).sub l.obsB))
    let vh := vu.add (b.rot th)
    { l with obsB := b, vHat := vh, obsResid := if s.sup.bridging then l.obsResid else (vfRaw.sub vh).mag }
  else l

/-- v_f as the law uses it: v̂ while bridging, a blend over 64 frames on return, else the samples (R183). -/
def Law.vfUsed (l : Law) (s : State) (vfRaw : Ab) : Ab :=
  if s.sup.bridging then
    (match s.sup.blend with
     | some k => l.vHat.add (Ab.smul (fq k 64) (vfRaw.sub l.vHat))
     | none => l.vHat)
  else vfRaw

/-- The bus phases and vector: V_BUS where assigned and not lost, else V_CAP (R127, Table 7.4). -/
def Law.busUsed (l : Law) (s : State) (x : List F32) (vf : Ab) : List F32 × Ab :=
  if s.hasRole 10 && !s.roleLost 10 12 then ([at0 x 10, at0 x 11, at0 x 12], clarke x 10)
  else if s.sup.bridging then (phasesOf vf, vf)
  else ([at0 x 4, at0 x 5, at0 x 6], l.vfUsed s vf)

/-- The bus signals come from a bridged source (R183, Table 7.6). -/
def State.busBridged (s : State) : Bool := s.sup.bridging && !(s.hasRole 10 && !s.roleLost 10 12)

/-- Step 1 of Table 6.3. -/
def Law.measure (l : Law) (s : State) (i : LawIn) : Law :=
  let t := secOfTicks i.t
  let ic := clarke i.x 1
  let raw := clarke i.x 4
  let old := l
  let l := l.observe s i ic raw
  let vf := l.vfUsed s raw
  let ig0 := clarke i.x 7
  let icap :=
    if s.hasRole 7 then ic.sub ig0
    else Ab.smul (fdiv (s.f32 OD.C_F) (fmul s.omega0 t)) (vf.sub old.vf)
  let ig := if s.hasRole 7 then ig0 else ic.sub icap
  let p := fadd (fmul vf.a ig.a) (fmul vf.b ig.b)
  let q := fsub (fmul vf.b ig.a) (fmul vf.a ig.b)
  let tc := s.f32 OD.P_FILT_TC
  let pf := if fisZero tc then p else lowPass t tc l.pf p
  let qf := if fisZero tc then q else lowPass t tc l.qf q
  let bus := l.busUsed s i.x vf
  let hist := { t0 := i.t0, x := i.x, vf := vf, vb := bus.2, vbPh := bus.1 } :: l.hist.take 65536
  let sq := seqOf vf (delayedAt s.quarter3 HistEntry.vf hist i.t0)
  let bq := seqOf bus.2 (delayedAt s.quarter3 HistEntry.vb hist i.t0)
  { l with hist := hist, pf := pf, qf := qf, vPos := sq.1, vNeg := sq.2, vMag := sq.1.mag, capPos := sq.1, busPos := bq.1,
           busMag := bq.1.mag, ic := ic, icPh := [at0 i.x 1, at0 i.x 2, at0 i.x 3], iGrid := ig, icap := icap, vf := vf, pieces := [],
           vdc := at0 i.x 13, vdcUp := if s.hasRole 14 then at0 i.x 14 else fdiv (at0 i.x 13) ftwo,
           vdcLo := if s.hasRole 15 then at0 i.x 15 else fdiv (at0 i.x 13) ftwo,
           rms := [s.phaseRms hist i.t0 0, s.phaseRms hist i.t0 1, s.phaseRms hist i.t0 2] }

/-! ### Step 2: bus angle and frequency (R127) -/

/-- Step 2 of Table 6.3. -/
def Law.busAngle (l : Law) (s : State) (i : LawIn) : Law :=
  let t := secOfTicks i.t
  let valid := fle (fq 2 100) l.busMag && !s.busBridged
  let l := l.piece l.busMag [fq 2 100]
  if valid then
    let th := l.busPos.ang
    if l.thBPrevValid then
      let d := fwrap (fsub th l.thBPrev)
      let l := l.piece (fsub th l.thBPrev) [fneg fpi, fpi]
      let raw := fdiv d (fmul s.omega0 t)
      let w := if l.thBSeeded then lowPass t (fq 1 100) l.omegaB raw else raw
      let dw := fdiv (fmul (fsub w l.omegaB) (fofInt s.fnom)) t
      { l with thB := th, thBPrev := th, thBValid := true, omegaB := w, thBSeeded := true, jump := d,
               rocof := if l.thBSeeded then lowPass t (fq 1 10) l.rocof dw else 0 }
    else { l with thB := th, thBPrev := th, thBPrevValid := true, thBValid := true, jump := 0 }
  else { l with thBValid := false, thBPrevValid := false, jump := 0 }

/-! ### Steps 3 and 4: ramps and gain tables (R144–R147) -/

/-- The target of a slot: OD 3100 as taken at the frame boundary, R_V and X_V; STOPPING sends P and Q to 0 (R155); breaker-mode
PRESYNC sends V to the bus (R153). -/
def Law.target (l : Law) (s : State) (st k : Nat) : F32 :=
  if k = 10 then s.f32 OD.R_V
  else if k = 11 then s.f32 OD.X_V
  else if st = 7 ∧ k < 2 then 0
  else if st = 5 ∧ s.gatedSync = true ∧ k = 2 then l.busMag
  else vget 0 s.sup.targets k

/-- One ramp step (R145). -/
def rampStep (r target rise fall t : F32) : F32 :=
  if flt r target then (if fisZero rise then target else fmin (fadd r (fmul rise t)) target)
  else if flt target r then (if fisZero fall then target else fmax (fsub r (fmul fall t)) target)
  else r

/-- Step 3 of Table 6.3. Which way a ramp moves and whether it arrives (R147) are noted for the guard. -/
def Law.rampAll (l : Law) (s : State) (i : LawIn) : Law :=
  let t := secOfTicks i.t
  let r := Vector.ofFn fun k : Fin 12 =>
    rampStep (vget 0 l.ramps k.val) (l.target s i.st k.val) (s.f32 (OD.RISE k.val)) (s.f32 (OD.FALL k.val)) t
  let noted := (List.range 12).foldl (init := l) fun x k =>
    let g := l.target s i.st k
    (x.piece (fsub (vget 0 l.ramps k) g) [0]).piece (fsub (vget 0 r k) g) [0]
  { noted with ramps := r }

/-- Ramp slot `k`. -/
def Law.r (l : Law) (k : Nat) : F32 := vget 0 l.ramps k

/-- A table is usable (R144): breakpoints strictly ascending from 0. -/
def State.gtValid (s : State) (t : Nat) : Bool :=
  fisZero (s.f32 (OD.GT_X t 0)) && (List.range 31).all fun k => flt (s.f32 (OD.GT_X t k)) (s.f32 (OD.GT_X t (k + 1)))

/-- The segment of an argument: the last breakpoint at or below it. -/
def State.gtSeg (s : State) (t : Nat) (x : F32) : Nat :=
  ((List.range 32).filter fun k => fle (s.f32 (OD.GT_X t k)) x).length - 1

/-- The gain of table `t` for an error: segment and value (R144). -/
def State.gtGain (s : State) (t : Nat) (err : F32) : Nat × F32 :=
  if s.flag (OD.GT_ENABLE t) && s.gtValid t then
    let x := fdiv (fabs err) (s.f32 (OD.GT_EREF t))
    let k := s.gtSeg t x
    if k ≥ 31 then (31, s.f32 (OD.GT_G t 31))
    else
      let x0 := s.f32 (OD.GT_X t k)
      let g0 := s.f32 (OD.GT_G t k)
      let slope := fdiv (fsub (s.f32 (OD.GT_G t (k + 1))) g0) (fsub (s.f32 (OD.GT_X t (k + 1))) x0)
      (k, fadd g0 (fmul slope (fsub x x0)))
  else (0, fone)

/-- Step 4 of Table 6.3: e_E and e_w are those committed, r_F and ω_b are already of this frame (R125). -/
def Law.gains (l : Law) (s : State) : Law :=
  let g0 := s.gtGain 0 l.eE
  let g1 := s.gtGain 1 l.eW
  let g2 := s.gtGain 2 (fsub (l.r 3) l.omegaB)
  let arg (t : Nat) : F32 := fdiv (fabs (if t = 0 then l.eE else if t = 1 then l.eW else fsub (l.r 3) l.omegaB)) (s.f32 (OD.GT_EREF t))
  let l := (List.range 3).foldl (init := l) fun x t =>
    if s.flag (OD.GT_ENABLE t) && s.gtValid t then x.piece (arg t) ((List.range 32).map fun k => s.f32 (OD.GT_X t k)) else x
  { l with seg := Vector.ofFn fun k : Fin 3 => if k.val = 0 then g0.1 else if k.val = 1 then g1.1 else g2.1,
           gain := Vector.ofFn fun k : Fin 3 => if k.val = 0 then g0.2 else if k.val = 1 then g1.2 else g2.2 }

/-- g_V, g_W, g_F. -/
def Law.g (l : Law) (k : Nat) : F32 := vget fone l.gain k

/-! ### Step 6: restoration (R131) -/

/-- Step 6 of Table 6.3: frozen at a rotor limit, with θ_b invalid, outside RUN, while the limiter or a ride-through timer runs. Bit 2 of
LIMIT_FLAGS shows whether Δp_r stands at a bound. -/
def Law.restore (l : Law) (s : State) (i : LawIn) : Law :=
  if s.flag OD.FR_ENABLE then
    let lim := s.f32 OD.FR_LIMIT
    if l.omegaLim || !l.thBValid || decide (i.st ≠ 6) || l.limActive || decide (s.nat OD.RT_STATE ≠ 0) then
      { l with frLim := fle lim (fabs l.dpr) }
    else
      let step := fdiv (fmul (fdiv (fmul (l.g 2) (secOfTicks i.t)) (s.f32 OD.FR_TC)) (fsub (l.r 3) l.omegaB)) (s.f32 OD.M_P)
      let raw := fadd l.dpr step
      let l := l.piece raw [fneg lim, lim]
      { l with dpr := fclamp raw (fneg lim) lim, frLim := fle lim raw || fle raw (fneg lim) }
  else { l with dpr := 0, frLim := false }

/-! ### Step 7: rotor (R128–R130, R149, R152, R153, R175, R176) -/

/-- θ as one number. -/
def Law.theta (l : Law) : F32 := fadd l.thHi l.thLo

/-- 2π in units of 2⁻⁶⁰. -/
def twoPi60 : Int := 7244019458077122842

/-- θ advanced by ω_0 · ω · T_θ and wrapped into [−π, π) (R124, R129): the sum of both words and the increment, and the wrap, are taken exactly and
split into two words again, so that a frame errs by less than one unit of the low word (log 149, DEDUCED, safe). -/
def Law.advance (l : Law) (s : State) (w : F32) (ticks : Int) : Law :=
  if ffinite l.thHi && ffinite l.thLo && ffinite w then
    let a := fratio l.thHi
    let b := fratio l.thLo
    let t := fratio w
    let turn : Int × Nat := (t.1 * ticks * (8 * s.fnom) * twoPi60, t.2 * (5000000000 * 2 ^ 60))
    let n := (a.1 * b.2 + b.1 * a.2) * turn.2 + turn.1 * (a.2 * b.2)
    let d : Nat := a.2 * b.2 * turn.2
    let whole := (2 * n * 2 ^ 60 + twoPi60 * d) / (2 * twoPi60 * d)
    let m := n * 2 ^ 60 - whole * twoPi60 * d
    let hi := fq m (d * 2 ^ 60)
    let h := fratio hi
    { l with thHi := hi, thLo := fq (m * h.2 - h.1 * (d * 2 ^ 60)) (d * 2 ^ 60 * h.2) }
  else { l with thHi := fNaN, thLo := fNaN }

/-- No rotor limit, clamp or hold stands where the rotor is not run by R129 (R130, R175). -/
def Law.freeRotor (l : Law) : Law := { l with omegaLim := false, pLim := 0, hold := 0, releaseAt := none }

/-- The rotor tracks the bus (R149, R152). -/
def Law.track (l : Law) (s : State) (i : LawIn) : Law :=
  let l := l.freeRotor
  if l.thBValid then { l with thHi := l.thB, thLo := 0, omega := l.omegaB, ei := l.vMag }
  else ({ l with omega := l.r 3 }).advance s (l.r 3) i.tTheta

/-- The power order and the clamp it meets: −1, 0, 1 (R128, R129). -/
def Law.power (l : Law) (s : State) : Law :=
  let hi := l.r 5
  let lo := if flt hi (l.r 6) then hi else l.r 6
  let raw := fadd (fadd (fadd (l.r 0) l.dpr) l.pdc) (fdiv (fsub (l.r 3) l.omega) (s.f32 OD.M_P))
  { l.piece raw [lo, hi] with pOrder := fclamp raw lo hi, pLim := if flt raw lo then -1 else if flt hi raw then 1 else 0 }

/-- The half-width of the rate clamp (R175, R176). -/
def Law.rateHalf (l : Law) (s : State) : F32 :=
  let base := s.f32 OD.ANG_RATE_MAX
  match l.releaseAt with
  | none => base
  | some t =>
    let full := fsub (s.f32 OD.OMEGA_MAX) (s.f32 OD.OMEGA_MIN)
    let rel := s.f32 OD.HOLD_RELEASE
    if fisZero rel then full
    else fmin full (fadd base (fmul (fsub full base) (fdiv (secOfTicks ((s.now : Int) - t)) rel)))

/-- ω clamped while the limiter is active or releases: value and HOLD_STATE (R175, R176). -/
def Law.holdOmega (l : Law) (s : State) (w : F32) : F32 × Nat × F32 :=
  let delta := fwrap (fsub l.theta l.thB)
  let half := l.rateHalf s
  let lo := fsub l.omegaB half
  let hi := fadd l.omegaB half
  let dmax := radOfDeg (s.f32 OD.DELTA_MAX)
  if l.limActive then
    let dh := l.thBValid && fle dmax delta
    let dl := l.thBValid && fle delta (fneg dmax)
    let hi' := if dh then l.omegaB else hi
    let lo' := if dl then l.omegaB else lo
    let w' := fclamp w lo' hi'
    (w', if feq w w' then 0 else if (dh && flt hi' w) || (dl && flt w lo') then 2 else 1, delta)
  else if l.releaseAt.isSome then (fclamp w lo hi, 3, delta)
  else (w, 0, delta)

/-- The rotor by R129, with the holds of R175 and R176 before the OMEGA limits. -/
def Law.rotor (l : Law) (s : State) (i : LawIn) : Law :=
  let l := l.power s
  let t := secOfTicks i.t
  let acc := fsub (fsub l.pOrder l.pf) (fmul (s.f32 OD.LAW_D) (fsub l.omega l.omegaB))
  let w := fadd l.omega (fmul (fdiv t (fmul ftwo (s.f32 OD.LAW_H))) acc)
  let h := l.holdOmega s w
  let lo := s.f32 OD.OMEGA_MIN
  let hi := s.f32 OD.OMEGA_MAX
  let w' := fclamp h.1 lo hi
  let half := l.rateHalf s
  let l := if l.releaseAt.isSome then l.piece (fsub w l.omegaB) [fneg half, half] else l
  let l := l.piece h.1 [lo, hi]
  ({ l with omega := w', omegaLim := flt h.1 lo || flt hi h.1, hold := h.2.1, delta := h.2.2 }).advance s w' i.tTheta

/-- The slaved rotor of breaker-mode PRESYNC (R153). -/
def Law.slaved (l : Law) (s : State) (i : LawIn) : Law :=
  let d := fwrap (fsub l.thB l.capPos.ang)
  let lim := fdiv (s.f32 OD.SYNC_SLIP_MAX) (fofInt s.fnom)
  let raw := fdiv d (fmul s.omega0 fhalf)
  let w := fadd l.omegaB (fclamp raw (fneg lim) lim)
  let l := ((l.power s).piece raw [fneg lim, lim]).piece (fsub l.thB l.capPos.ang) [fneg fpi, fpi]
  ({ l with omega := w, omegaLim := false, hold := 0 }).advance s w i.tTheta

/-- The law runs its loops: gated states, and FAULT while a degraded stop ramps. (Log 80, DEDUCED, unsafe.) -/
def State.lawRuns (s : State) (st : Nat) : Bool := s.gatedState st || (decide (st = 8) && s.sup.degFrom.isSome)

/-- Step 7 of Table 6.3. -/
def Law.step7 (l : Law) (s : State) (i : LawIn) : Law :=
  if i.st = 1 ∨ i.st = 2 ∨ i.st = 3 ∨ (i.st = 5 ∧ s.gatedSync = false) then l.track s i
  else if i.st = 5 then l.slaved s i
  else if s.lawRuns i.st then l.rotor s i
  else l.freeRotor

/-! ### Step 8: reactive path (R132, R151, R174) -/

/-- The black-start ramp of E (R151). -/
def Law.energise (l : Law) (s : State) (i : LawIn) : Law :=
  let target := if s.sup.energiseDead then vget 0 s.sup.targets 2 else l.busMag
  let time := if s.sup.energiseDead then s.f32 OD.T_BS else s.f32 OD.SYNC_RAMP
  if s.sup.holdOn then { l with eTarget := target, ei := l.e }
  else
    let step := fmul (fdiv (fsub target l.eStart) time) (secOfTicks i.t)
    let e := fadd l.e step
    let e := if flt l.eStart target then fmin e target else fmax e target
    { l.piece (fsub e target) [0] with e := e, ei := e, eTarget := target }

/-- Step 8 of Table 6.3. In RUN and breaker-mode PRESYNC, E and E_i hold while the limiter is active (R174). -/
def Law.reactive (l : Law) (s : State) (i : LawIn) : Law :=
  if i.st = 4 then l.energise s i
  else if s.lawRuns i.st then
    if l.limActive && (decide (i.st = 6) || decide (i.st = 5)) then l
    else
      let nq := if i.st = 5 then 0 else s.f32 OD.N_Q
      let qc := fclamp l.qf (l.r 8) (l.r 7)
      let ee := fsub (fsub (fsub (l.r 2) l.vMag) (fmul nq (fsub l.qf (l.r 1)))) (fdiv (fsub l.qf qc) (fq 1 100))
      let lo := s.f32 OD.E_MIN
      let hi := s.f32 OD.E_MAX
      let ei' := fadd l.ei (fmul (fdiv (fmul (l.g 0) (secOfTicks i.t)) (s.f32 OD.TAU_V)) ee)
      let raw := fadd ei' (fmul (fmul (l.g 0) (s.f32 OD.D_Q)) ee)
      let deep := (flt hi raw && flt l.ei ei') || (flt raw lo && flt ei' l.ei)
      let l := ((l.piece l.qf [l.r 8, l.r 7]).piece raw [lo, hi]).piece (fsub ei' l.ei) [0]
      { l with eE := ee, ei := if deep then l.ei else ei', e := fclamp raw lo hi, eLim := flt hi raw || flt raw lo }
  else { l with eLim := false }

/-! ### Steps 9 and 10: voltage reference and controller (R133–R136) -/

/-- v_ref (R133). -/
def Law.vrefNow (l : Law) : Ab :=
  let th := l.theta
  let i := l.iGrid.rot (fneg th)
  let rv := fadd (l.r 10) l.dRf
  let xv := fadd (l.r 11) l.dXf
  let vd := fsub l.e (fsub (fmul rv i.a) (fmul xv i.b))
  let vq := fneg (fadd (fmul rv i.b) (fmul xv i.a))
  Ab.rot { a := vd, b := vq } th

/-- One step of a resonator prewarped at `w` (R135). -/
def Res.step (r : Res) (k0 wc w t e : F32) : Res × F32 :=
  let h := fdiv (fmul w t) ftwo
  let k := fdiv w (fdiv (Config.sin h) (Config.cos h))
  let k2 := fmul k k
  let w2 := fmul w w
  let mid := fmul (fmul ftwo wc) k
  let den := fadd (fadd k2 mid) w2
  let b0 := fdiv (fmul (fmul (fmul ftwo k0) wc) k) den
  let a1 := fdiv (fmul ftwo (fsub k2 w2)) den
  let a2 := fdiv (fadd (fsub k2 mid) w2) den
  let y := fsub (fadd (fmul b0 (fsub e r.e2)) (fmul a1 r.y1)) (fmul a2 r.y2)
  ({ e1 := e, e2 := r.e1, y1 := y, y2 := r.y1 }, y)

/-- Slot `h` is held out: no order, above the frequency bound, or shed (R136). -/
def Law.harmHeld (l : Law) (s : State) (i : LawIn) (h : Nat) : Bool × Bool :=
  let ord := s.nat (OD.HARM_ORDER h)
  let f := fmul (fmul (fofInt ord) (fofInt s.fnom)) l.omega
  let t := secOfTicks i.t
  let was := l.harmOut.testBit h
  let out := decide (ord ≠ 0) && (if was then !flt f (fdiv (fq 28 100) t) else flt (fdiv (fq 30 100) t) f)
  (out, decide (ord = 0) || out || s.frame.shed.contains 2)

/-- Steps 9 and 10 of Table 6.3: i_ref. While the limiter is active the resonators take the anti-windup error (R174). -/
def Law.voltage (l : Law) (s : State) (i : LawIn) : Law :=
  if s.lawRuns i.st then
    let ev := l.vrefNow.sub l.vf
    let t := secOfTicks i.t
    let er := if l.limActive then ev.sub (Ab.smul (s.f32 OD.AW_GAIN) (l.iref.sub l.ilim)) else ev
    let w1 := fmul s.omega0 l.omega
    let l := (List.range 8).foldl (init := l) fun x h =>
      if s.nat (OD.HARM_ORDER h) = 0 then x
      else x.piece (fmul (fmul (fofInt (s.nat (OD.HARM_ORDER h))) (fofInt s.fnom)) l.omega) [fdiv (fq 28 100) t, fdiv (fq 30 100) t]
    let ra := l.resA.step (s.f32 OD.K_RV) (s.f32 OD.WC_V) w1 t er.a
    let rb := l.resB.step (s.f32 OD.K_RV) (s.f32 OD.WC_V) w1 t er.b
    let hs := (List.range 8).map fun h =>
      let held := l.harmHeld s i h
      let w := fmul (fofInt (s.nat (OD.HARM_ORDER h))) w1
      if held.2 then ((({} : Res), 0), (({} : Res), 0), held.1)
      else ((vget {} l.harmA h).step (s.f32 (OD.HARM_KR h)) (s.f32 (OD.HARM_WC h)) w t er.a,
            (vget {} l.harmB h).step (s.f32 (OD.HARM_KR h)) (s.f32 (OD.HARM_WC h)) w t er.b, held.1)
    let base := (Ab.smul (s.f32 OD.K_FFI) l.iGrid).add (Ab.smul (s.f32 OD.K_PV) ev)
    let y1 := base.add { a := ra.2, b := rb.2 }
    let iref := hs.foldl (fun acc p => acc.add { a := p.1.2, b := p.2.1.2 }) y1
    { l with resA := ra.1, resB := rb.1, iref := iref, vref := l.vrefNow
             harmA := Vector.ofFn fun h : Fin 8 => ((hs.getD h.val ((({} : Res), 0), (({} : Res), 0), false)).1).1
             harmB := Vector.ofFn fun h : Fin 8 => ((hs.getD h.val ((({} : Res), 0), (({} : Res), 0), false)).2.1).1
             harmOut := (List.range 8).foldl (fun m h => if (hs.getD h ((({} : Res), 0), (({} : Res), 0), false)).2.2 then m + 2 ^ h else m) 0 }
  else l

/-! ### Step 11: the Fathom limiter (R165–R173) -/

/-- The envelope point `j`, the defaults standing in for an invalid envelope (R165). -/
def State.envPoint (s : State) (j : Nat) : F32 × F32 :=
  if s.nat OD.ENV_STATUS = 2 then
    (([fzero, fq 3 10, ftwo, fofInt 10, fofInt 10, fofInt 10, fofInt 10, fofInt 10] : List F32).getD j 0,
     ([fq 12 10, fq 12 10, fq 105 100, fone, fone, fone, fone, fone] : List F32).getD j 0)
  else (s.f32 (OD.ENV_T j), s.f32 (OD.ENV_I j))

/-- Linear interpolation over points; the last of several points at one time applies at that time; held outside (R162, R165). -/
def interp (pt : Nat → F32 × F32) (t : F32) : F32 :=
  let k := ((List.range 8).filter fun j => fle (pt j).1 t).length
  if k = 0 then (pt 0).2
  else if k ≥ 8 then (pt 7).2
  else
    let p := pt (k - 1)
    let q := pt k
    fadd p.2 (fmul (fdiv (fsub q.2 p.2) (fsub q.1 p.1)) (fsub t p.1))

/-- env(τ) (R165). -/
def State.env (s : State) (tau : F32) : F32 := interp s.envPoint tau

/-- The factor of a degraded stop on every L_k (R184). -/
def State.degFactor (s : State) : F32 :=
  match s.sup.degFrom with
  | none => fone
  | some t =>
    if s.nat OD.DEG_STOP_TIME = 0 then 0
    else fmax 0 (fsub fone (fdiv (secOfTicks ((s.now : Int) - t)) (fq (s.nat OD.DEG_STOP_TIME) 1000)))

/-- i⁻_ref and whether its clamp acts (R173). -/
def Law.negRef (l : Law) (s : State) : Ab × Bool :=
  if s.nat OD.NEG_MODE = 2 then
    let raw := Ab.smul (s.f32 OD.K_NEG) { a := l.vNeg.b, b := fneg l.vNeg.a }
    let lim := fmul (s.f32 OD.NEG_SHARE) (s.env l.tauO)
    if flt lim raw.mag then (Ab.smul (fdiv lim raw.mag) raw, true) else (raw, false)
  else ({}, false)

/-- L_k (R166), scaled in a degraded stop (R184). -/
def Law.limitK (l : Law) (s : State) (neg : F32) (t : F32) (k : Nat) : F32 :=
  fmul (fmax 0 (fsub (s.env (fadd l.tauO (fmul (fofInt k) t))) neg)) s.degFactor

/-- priority(r, L) (R167, Table 7.3), in the dq frame; `dir` is the unit direction of v_f⁺. -/
def priority (mode : Nat) (fix : F32) (dir r : Ab) (lim : F32) : Ab :=
  if fle r.mag lim then r
  else
    let ra := fadd (fmul r.a dir.a) (fmul r.b dir.b)
    let rr := fsub (fmul r.a dir.b) (fmul r.b dir.a)
    let back (ta tr : F32) : Ab :=
      { a := fadd (fmul ta dir.a) (fmul tr dir.b), b := fsub (fmul ta dir.b) (fmul tr dir.a) }
    if mode = 0 then
      let tr := fclamp rr (fneg lim) lim
      let m := fmin (fabs ra) (fsqrt (fsub (fmul lim lim) (fmul tr tr)))
      back (fmul (fsgn ra) m) tr
    else if mode = 1 then { a := fdiv (fmul r.a lim) r.mag, b := fdiv (fmul r.b lim) r.mag }
    else (Ab.smul lim dir).rot (radOfDeg fix)

/-- to_disc (R168). -/
def toDisc (x : Ab) (r : F32) : Ab := if flt r x.mag then Ab.smul (fdiv r x.mag) x else x

/-- The backward pass, from the last step down (R168). -/
def backPass (slew : F32) : List Ab → List F32 → List Ab
  | u :: us, _ :: l1 :: ls => toDisc u (fadd l1 slew) :: backPass slew us (l1 :: ls)
  | us, _ => us

/-- The forward pass about the previous step (R168). -/
def fwdPass (slew : F32) : Ab → List Ab → List Ab
  | _, [] => []
  | p, u :: us =>
    let v := p.add (toDisc (u.sub p) slew)
    v :: fwdPass slew v us

/-- The fixed iterations of R168. -/
def solve (slew : F32) (prev : Ab) (ts : List Ab) (ls : List F32) : Nat → List Ab → List Ab
  | 0, u => u
  | n + 1, u =>
    let u := (u.zip ts).map fun p => { a := fdiv (fadd p.1.a p.2.a) ftwo, b := fdiv (fadd p.1.b p.2.b) ftwo }
    let u := backPass slew u ls
    let u := fwdPass slew prev u
    let u := (u.zip ls).map fun p => toDisc p.1 p.2
    solve slew prev ts ls n u

/-- The horizon in use (R177). -/
def State.horizonNow (s : State) : Nat := if s.frame.shed.contains 4 then 4 else s.nat OD.LIM_H_F

/-- The warm start (R169, R177): the last solution shifted by one with its last step repeated, cut or extended to the horizon. -/
def warmStart (was : Bool) (old ts : List Ab) : List Ab :=
  if was then
    match old with
    | [] => ts
    | _ :: us =>
      let last := old.getLast?.getD {}
      let sh := us ++ [last]
      (sh ++ List.replicate ts.length last).take ts.length
  else ts

/-- dZ of a frame with the limiter active: an immediate rise, an exponential fall; held while L_0 is below 0.001 p.u. (R172). -/
def Law.adaptZ (l : Law) (s : State) (l0 t : F32) : F32 :=
  let ev : Ab := Ab.rot { a := l.e, b := 0 } l.theta
  let tgt := fmax 0 (fsub (fdiv (ev.sub l.vPos).mag l0) (fhyp (l.r 10) (l.r 11)))
  if !s.flag OD.ZF_ENABLE then 0
  else if flt l0 (fq 1 1000) then l.dZ
  else if fle l.dZ tgt then tgt
  else fsub l.dZ (fdiv (fmul (fsub l.dZ tgt) t) (s.f32 OD.ZF_TC))

/-- dZ and its parts dR_f and dX_f (R172). -/
def Law.setZ (l : Law) (s : State) (dz : F32) : Law :=
  let xr := s.f32 OD.ZF_XR
  let den := fsqrt (fadd fone (fmul xr xr))
  { l with dZ := dz, dRf := fdiv dz den, dXf := fdiv (fmul dz xr) den }

/-- The limiter is inactive: no fault impedance, and no warm start left (R169, R171). -/
def Law.limiterOff (l : Law) : Law := { l with limActive := false, limQuiet := 0, limWas := false, dZ := 0, dRf := 0, dXf := 0 }

/-- Limiter exit: the rotor's release begins (R171, R176). -/
def Law.limiterExit (l : Law) (s : State) : Law := { l.limiterOff with ilim := l.iref, releaseAt := some s.now }

/-- τ_o after a frame (R165): it rises while |i_lim| exceeds I_CONT and falls otherwise, in every law state. -/
def Law.overload (l : Law) (s : State) (t : F32) : Law :=
  let tau := if flt (s.f32 OD.I_CONT) l.ilim.mag then fadd l.tauO t else fmax 0 (fsub l.tauO (fmul (s.f32 OD.OL_COOL) t))
  { l.piece l.ilim.mag [s.f32 OD.I_CONT] with tauO := tau }

/-- The limiter of a frame whose loops run: target, solution, entry, exit and adaptive impedance (R166–R173). Bit 1 of LIM_CLIP shows that the first
target lies further from the previous current than one frame's slew. A degraded stop sets the limiter active (R184). (Log 153, DEDUCED, unsafe.) -/
def Law.limiterRuns (l : Law) (s : State) (i : LawIn) : Law :=
  let t := secOfTicks i.t
  let th := l.theta
  let hf := s.horizonNow
  let hist := match l.hist with
    | h :: hs => { h with iref := l.iref } :: hs
    | [] => []
  let pos := if s.nat OD.NEG_MODE = 0 then l.iref else (seqOf l.iref (delayedAt s.quarter3 HistEntry.iref hist i.t0)).1
  let ng := l.negRef s
  let negMag := ng.1.mag
  let dq := pos.rot (fneg th)
  let d := dq.sub l.irefDq
  let ls := (List.range hf).map fun k => l.limitK s negMag t k
  let vdq := l.vPos.rot (fneg th)
  let dir : Ab := if flt vdq.mag (fq 2 100) then { a := fone, b := 0 } else Ab.smul (fdiv fone vdq.mag) vdq
  let rs := (List.range hf).map fun k : Nat => dq.add (Ab.smul (fofInt (k : Int)) d)
  let ts := (rs.zip ls).map fun p => priority (s.nat OD.LIM_PRIORITY) (s.f32 OD.LIM_FIX_ANGLE) dir p.1 p.2
  let slew := fmul (s.f32 OD.I_SLEW) (fmul t (fofInt 1000))
  let prev := (l.ilim.sub l.ineg).rot (fneg th)
  let u := solve slew prev ts ls 6 (warmStart l.limWas l.warm ts)
  let u0 := u.headD {}
  let l0 := ls.headD 0
  let clipped := (rs.zip ts).any fun p => decide (p.1 ≠ p.2)
  let off := (u0.sub (rs.headD {})).mag
  let far := flt slew ((ts.headD {}).sub prev).mag
  let clip := (if flt l0 prev.mag then 8 else 0) + (if ng.2 then 4 else 0) + (if far then 2 else 0) + (if clipped then 1 else 0)
  let noted := ((rs.zip ls).foldl (fun x p => x.piece (fsub p.1.mag p.2) [0]) l).piece off [fq 1 1000]
  let noted := (noted.piece (Ab.smul (s.f32 OD.K_NEG) l.vNeg).mag [fmul (s.f32 OD.NEG_SHARE) (s.env l.tauO)]).piece vdq.mag [fq 2 100]
  let x := { noted with hist := hist, irefDq := dq, ineg := ng.1, warm := u, horizon := hf, l0 := l0, clip := clip }
  if l.limActive || clipped || flt (fq 1 1000) off || ng.2 || s.sup.degFrom.isSome then
    let y := ({ x with limActive := true, limWas := true, ilim := (u0.rot th).add ng.1 }).setZ s (l.adaptZ s l0 t)
    let quiet := !clipped && ((rs.zip ls).all fun p => fle p.1.mag (fmul (fq 95 100) p.2)) && fle y.dZ (fq 1 1000)
    let n := if quiet then l.limQuiet + 1 else 0
    if s.nat OD.LIM_EXIT_FRAMES ≤ n ∧ s.sup.degFrom = none then y.limiterExit s else { y with limQuiet := n }
  else { x.limiterOff with ilim := l.iref }

/-- Step 11, limiter (R165–R172). Where the loops do not run there is no reference and nothing to limit. -/
def Law.limiter (l : Law) (s : State) (i : LawIn) : Law :=
  (if s.lawRuns i.st then l.limiterRuns s i
   else { l.limiterOff with iref := {}, irefDq := {}, ilim := {}, ineg := {}, horizon := s.horizonNow, clip := 0 }).overload s (secOfTicks i.t)

/-! ### Step 11: DC energy, chopper, MMC arm energies (R138–R141) -/

/-- Submodule voltages of arm `k` that R142 sums: those of the available ones (R210), in volts. -/
def State.armVolts (s : State) (k : Nat) : List F32 :=
  ((List.range (s.nat OD.N_SM)).filter fun j => s.smAvailable k j).map fun j => fq (s.smCode k j : Nat) 10

/-- w_k = Σ_j v² / (N_SM · V_C_NOM²) over every submodule of the arm (R141); one that has reported no voltage adds nothing (log 150, DESIGN CHOICE, unsafe). -/
def State.armEnergy (s : State) (k : Nat) : F32 :=
  let n := s.nat OD.N_SM
  if n = 0 then 0
  else
    let v := s.f32 OD.V_C_NOM
    let xs := ((List.range n).filter fun j => decide (s.smCode k j < 0xFFFE)).map fun j => fq (s.smCode k j : Nat) 10
    fdiv ((xs.map fun x => fmul x x).foldl fadd 0) (fmul (fofInt n) (fmul v v))

/-- The mean of the six arm energies. -/
def Law.wSigma (l : Law) : F32 := fdiv (((List.range 6).map fun k => vget 0 l.wk k).foldl fadd 0) (fofInt 6)

/-- Step 11, DC energy (R138): W, e_w, p_w, p_dc, p_ff. -/
def Law.dcEnergy (l : Law) (s : State) (i : LawIn) : Law :=
  let l := if s.isMmc then { l with wk := Vector.ofFn fun k : Fin 6 => s.armEnergy k.val } else l
  let w := if s.isMmc then l.wSigma else fmul l.vdc l.vdc
  let ew := fsub (if s.isMmc then l.r 9 else l.r 4) w
  let l := { l with w := w, eW := ew }
  if s.lawRuns i.st then
    let xw' := fadd l.xw (fmul (fmul (s.f32 OD.K_IW) (secOfTicks i.t)) ew)
    let mode := s.nat OD.DC_MODE
    let deep := decide (mode = 1) && ((decide (l.pLim = 1) && flt xw' l.xw) || (decide (l.pLim = -1) && flt l.xw xw'))
    let xw := if deep then l.xw else xw'
    let l := if mode = 1 then l.piece (fsub xw' l.xw) [0] else l
    let pw := fmul (l.g 1) (fadd (fmul (s.f32 OD.K_PW) ew) xw)
    { l with xw := xw, pdc := if mode = 1 then fneg pw else 0, pff := if mode = 0 then fadd l.pf pw else 0 }
  else l

/-- The chopper's drive channel is usable: named, none of its faults latched, and not reported unavailable (R140, R269). -/
def State.chopperUsable (s : State) : Bool :=
  let c := s.nat OD.CH_LD
  decide (c ≠ 0) && decide (s.nat (OD.LD_STATE c) ≠ 5) && decide (s.nat (OD.LD_STATE c) ≠ 6) && !(s.ldc (c - 1)).unavailable

/-- Step 11, chopper (R140): decision, duty and energy account, in every law state; without a usable drive channel the law runs without a
chopper, and its resistor cools. -/
def Law.chopper (l : Law) (s : State) (i : LawIn) : Law :=
  if s.nat OD.CH_LD = 0 then { l with chOn := false, duty := 0 }
  else
    let l := l.piece l.vdc [s.f32 OD.V_CH_OFF, s.f32 OD.V_CH_ON, s.f32 OD.V_CH_FULL]
    let on := s.chopperUsable && if l.chOn then !flt l.vdc (s.f32 OD.V_CH_OFF) else flt (s.f32 OD.V_CH_ON) l.vdc
    let raw := fclamp (fdiv (fsub l.vdc (s.f32 OD.V_CH_ON)) (fsub (s.f32 OD.V_CH_FULL) (s.f32 OD.V_CH_ON))) 0 fone
    let duty := if on && !l.chExhausted then raw else 0
    let v := fmul l.vdc (s.f32 OD.V_DC_BASE)
    let e := fmax 0 (fadd l.eCh (fmul (secOfTicks i.t) (fsub (fdiv (fmul duty (fmul v v)) (s.f32 OD.CH_R)) (s.f32 OD.CH_P_COOL))))
    let ex := if l.chExhausted then !flt e (fmul fhalf (s.f32 OD.CH_E_MAX)) else fle (s.f32 OD.CH_E_MAX) e
    { l.piece e [fmul fhalf (s.f32 OD.CH_E_MAX), s.f32 OD.CH_E_MAX] with chOn := on, duty := if ex then 0 else duty, eCh := e, chExhausted := ex }

/-! ### Step 12: current controller (R137) -/

/-- τ_c: DELAY_COMP, or F/2 + 2.4 µs (R137). -/
def State.tauC (s : State) : F32 :=
  let d := s.f32 OD.DELAY_COMP
  if fsign d then fq ((s.nat OD.FRAME_PERIOD : Nat) * 8 + 24000) 10000000000 else fdiv d (fofInt 1000000)

/-- Step 12 of Table 6.3. -/
def Law.current (l : Law) (s : State) (i : LawIn) : Law :=
  if s.lawRuns i.st then
    let u := ((Ab.smul (s.f32 OD.K_FFV) l.vf).add (Ab.smul (s.f32 OD.K_PC) (l.ilim.sub l.ic))).sub (Ab.smul (s.f32 OD.K_AD) l.icap)
    let u0 := if s.flag OD.ZERO_SEQ_EN then fmul (s.f32 OD.K_PC) (fneg (clarke0 i.x 1)) else 0
    { l with uOut := u.rot (fmul (fmul s.omega0 l.omega) s.tauC), u0 := u0 }
  else { l with uOut := {}, u0 := 0 }

/-! ### Step 13: stacks, circulating current, arm references (R141–R143) -/

/-- The mean of a list. -/
def fmean (xs : List F32) : F32 := if xs.isEmpty then 0 else fdiv (xs.foldl fadd 0) (fofInt xs.length)

/-- Stack sharing (R143): a stack whose report is missing holds its states for the frame. -/
def Law.sharing (l : Law) (s : State) (i : LawIn) : Law :=
  let n := s.nat OD.N_STACKS
  if n < 2 ∨ s.lawRuns i.st = false then l
  else
    let t := secOfTicks i.t
    let di (k ph : Nat) : F32 :=
      fsub (at0 (vget [] s.sup.stackI k) ph) (fmean ((List.range n).map fun j => at0 (vget [] s.sup.stackI j) ph))
    let xs := Vector.ofFn fun k : Fin 8 => Vector.ofFn fun ph : Fin 3 =>
      let old := vget 0 (vget (Vector.replicate 3 0) l.xs k.val) ph.val
      if vget false s.sup.stackFresh k.val && decide (k.val < n) then fadd old (fmul (fmul (s.f32 OD.K_IS) t) (di k.val ph.val)) else old
    let raw (k ph : Nat) : F32 :=
      if vget false s.sup.stackFresh k then fneg (fadd (fmul (s.f32 OD.K_PS) (di k ph)) (vget 0 (vget (Vector.replicate 3 0) xs k) ph))
      else vget 0 (vget (Vector.replicate 3 0) l.du k) ph
    let lim := s.f32 OD.SHARE_LIMIT
    let du := Vector.ofFn fun k : Fin 8 => Vector.ofFn fun ph : Fin 3 =>
      if k.val < n then
        (if vget false s.sup.stackFresh k.val then
          fclamp (fsub (raw k.val ph.val) (fmean ((List.range n).map fun j => raw j ph.val))) (fneg lim) lim
         else raw k.val ph.val)
      else 0
    let dev := ((List.range n).map fun k => (List.range 3).map fun ph => fabs (di k ph)).flatten.foldl fmax 0
    { l with xs := xs, du := du, shareDev := dev }

/-- φ_x of leg `x` (R141). -/
def phiLeg (x : Nat) : F32 :=
  let third := fdiv ftwoPi (fofInt 3)
  if x = 1 then fneg third else if x = 2 then third else 0

/-- i_z_ref of leg `x` (R141). -/
def Law.izRef (l : Law) (s : State) (x : Nat) : F32 :=
  let wu := vget 0 l.wk (2 * x)
  let wl := vget 0 l.wk (2 * x + 1)
  let dh := fsub (fdiv (fadd wu wl) ftwo) l.wSigma
  let dv := fdiv (fsub wu wl) ftwo
  fsub (fsub (fdiv (fmul (fmul fhalf l.pOrder) (fdiv s.vBase (s.f32 OD.V_DC_BASE))) l.vdc) (fmul (s.f32 OD.K_H) dh))
    (fmul (fmul (s.f32 OD.K_V) dv) (Config.cos (fadd l.theta (phiLeg x))))

/-- MMC circulating current and arm references (R142). -/
def Law.mmc (l : Law) (s : State) (i : LawIn) : Law :=
  if s.isMmc && s.lawRuns i.st then
    let t := secOfTicks i.t
    let ph := phasesOf l.uOut
    let leg (x : Nat) : (F32 × Res) × (F32 × F32) × (Bool × Bool) × (F32 × F32) :=
      let iz := fdiv (fadd (at0 i.x (16 + 2 * x)) (at0 i.x (17 + 2 * x))) ftwo
      let e := fsub (l.izRef s x) iz
      let xz := fadd (vget 0 l.xz x) (fmul (fmul (s.f32 OD.K_IZ) t) e)
      let r := (vget {} l.resZ x).step (s.f32 OD.K_Z2) (s.f32 OD.WC_V) (fmul ftwo (fmul s.omega0 l.omega)) t e
      let vz := fadd (fadd (fmul (s.f32 OD.K_PZ) e) xz) r.2
      let half := fdiv (fmul s.dcRatio l.vdc) ftwo
      let u := fadd (at0 ph x) l.u0
      let vu := fsub (fsub half u) vz
      let vl := fsub (fadd half u) vz
      let top (k : Nat) : F32 := fdiv ((s.armVolts k).foldl fadd 0) s.vBase
      let bot (k : Nat) : F32 := if s.nat OD.TOPOLOGY = 4 then fneg (top k) else 0
      let cu := fclamp vu (bot (2 * x)) (top (2 * x))
      let cl := fclamp vl (bot (2 * x + 1)) (top (2 * x + 1))
      let rising := flt (vget 0 l.xz x) xz
      let low := flt vu (bot (2 * x)) || flt vl (bot (2 * x + 1))
      let high := flt (top (2 * x)) vu || flt (top (2 * x + 1)) vl
      let deep := (low && rising) || (high && flt xz (vget 0 l.xz x))
      ((if deep then vget 0 l.xz x else xz, r.1), (cu, cl), (decide (cu ≠ vu), decide (cl ≠ vl)), (vu, vl))
    let arg (k : Nat) : Piece :=
      let top := fdiv ((s.armVolts k).foldl fadd 0) s.vBase
      { arg := if k % 2 = 0 then (leg (k / 2)).2.2.2.1 else (leg (k / 2)).2.2.2.2, cuts := [if s.nat OD.TOPOLOGY = 4 then fneg top else 0, top] }
    { l with pieces := (List.range 6).map arg ++ l.pieces
             xz := Vector.ofFn fun x : Fin 3 => (leg x.val).1.1
             resZ := Vector.ofFn fun x : Fin 3 => (leg x.val).1.2
             vArm := Vector.ofFn fun k : Fin 6 => if k.val % 2 = 0 then (leg (k.val / 2)).2.1.1 else (leg (k.val / 2)).2.1.2
             armClamp := (List.range 6).foldl (fun m k =>
               if (if k % 2 = 0 then (leg (k / 2)).2.2.1.1 else (leg (k / 2)).2.2.1.2) then m + 2 ^ k else m) 0 }
  else { l with armClamp := 0 }

/-! ### The whole frame -/

/-- The head of the history keeps what the stuck check and R126 need of this frame's outputs. -/
def Law.closeHist (l : Law) : Law :=
  match l.hist with
  | h :: hs => { l with hist := { h with iref := l.iref, u := (phasesOf l.uOut).map fun x => fadd x l.u0, pf := l.pf } :: hs }
  | [] => l

/-- The steps 1–4 and 6–13 of Table 6.3 in their order (step 5 and the mode decisions of step 14 are the supervisor's). -/
def Law.stepAll (l : Law) (s : State) (i : LawIn) : Law :=
  ((((((((((((((l.measure s i).busAngle s i).rampAll s i).gains s).restore s i).step7 s i).reactive s i).voltage s i).limiter s i).dcEnergy s i).chopper
    s i).current s i).sharing s i).mmc s i).closeHist

/-- One frame of the law on a lane (Table 6.3). The frame in which the limiter becomes active is computed with it active: E, E_i and Δp_r keep the
values before entry, e_E is not applied and the rotor is clamped in it already (R171, R174, R175; log 151, DEDUCED, unsafe). -/
def Law.frame (l : Law) (s : State) (i : LawIn) : Law :=
  let r := l.stepAll s i
  if r.limActive && !l.limActive then ({ l with limActive := true, releaseAt := none } : Law).stepAll s i else r

/-- Every number a frame commits or puts out is finite (R106, R110). -/
def Law.finite (l : Law) : Bool :=
  ([l.pf, l.qf, l.vMag, l.omegaB, l.rocof, l.thHi, l.thLo, l.omega, l.pOrder, l.dpr, l.pdc, l.ei, l.e, l.dRf, l.dXf, l.iref.a, l.iref.b,
    l.irefDq.a, l.irefDq.b, l.ilim.a, l.ilim.b, l.ineg.a, l.ineg.b, l.tauO, l.dZ, l.uOut.a, l.uOut.b, l.u0, l.xw, l.pff, l.duty, l.eCh,
    l.obsB.a, l.obsB.b, l.vHat.a, l.vHat.b, l.resA.y1, l.resB.y1] ++ l.ramps.toList ++ l.vArm.toList ++ l.xz.toList ++
    (l.du.toList.map fun v => v.toList).flatten ++ (l.xs.toList.map fun v => v.toList).flatten ++
    l.harmA.toList.map Res.y1 ++ l.harmB.toList.map Res.y1).all ffinite

end Sys2Proof.Machine
end

