-- ==== Sys2Proof/Machine/Ld.lean ====
section
/-!
DEFINITION. Machine/Ld.lean: chapter 10: the six local drive channels: commands and refusals, chopper and pulsed periods, gate
supply monitoring, short circuits, retries, common shorts and bootstrap refresh. Channel index `x` is 0–5; entries use x + 1.
-/
namespace Sys2Proof.Machine
open Sys2Proof

/-! ### Shared -/

/-- LD_STATE of channel `x`. -/
def State.ldSt (s : State) (x : Nat) : Nat := s.nat (OD.LD_STATE (x + 1))
/-- LD_FUNC of channel `x` (Table 10.2). -/
def State.ldFunc (s : State) (x : Nat) : Nat := s.nat (OD.LD_FUNC (x + 1))
/-- LD_CMD of channel `x`. -/
def State.ldCmdNow (s : State) (x : Nat) : Nat := s.nat (OD.LD_CMD (x + 1))
/-- Put LD_STATE. -/
def State.setLdSt (s : State) (x st : Nat) : State := s.putN (OD.LD_STATE (x + 1)) st
/-- Put one bit of LD_FAULT (Table 10.5). -/
def State.ldFault (s : State) (x i : Nat) (b : Bool) : State := s.putBit (OD.LD_FAULT (x + 1)) i b
/-- Put a channel's bit of LD_LATCH_MASK. -/
def State.ldLatchBit (s : State) (x : Nat) (b : Bool) : State := s.putBit OD.LD_LATCH_MASK x b

/-- The channel's output stage is powered: LD1–LD3 in D13, LD4–LD6 in D14 (chapter 10). -/
def State.ldPowered (s : State) (x : Nat) : Bool := s.domainOn (if x < 3 then 13 else 14)

/-- Safe Gate Block holds (R266, R431): on SVZ6416-S, every SAFETY_STATE but 1. -/
def State.sgb (s : State) : Bool := decide (s.variant = .S) && decide (s.nat OD.SAFETY_STATE ≠ 1)

/-- Nothing but its command keeps the channel off: state OFF or ON, no soft turn-off still running (R271), powered, no SGB, timebase valid, not waiting
for a new command or commit (R265–R267). -/
def State.ldFree (s : State) (x : Nat) : Bool :=
  (decide (s.ldSt x = 1) || decide (s.ldSt x = 2)) && (s.ldc x).softAt.isNone && s.ldPowered x && !s.sgb && s.tbValid &&
  !(s.ldc x).holdOff

/-- Microseconds of an F32 entry as ticks, to the nearest tick. -/
def State.usTicks (s : State) (k : Nat) : Nat := (fnearest (fmul (s.f32 k) (fofInt 625))).toNat

/-- The period of a chopper or pulsed channel in ticks. (Log 91, DEDUCED, unsafe.) -/
def State.ldPeriod (s : State) (x : Nat) : Nat :=
  625000000 / Nat.max 1 (if s.ldFunc x = 1 then s.nat OD.CH_FREQ else s.nat (OD.LD_FREQ (x + 1)))

/-- On-time of a period in ticks for the duty in force. -/
def State.ldOnTicks (s : State) (x : Nat) : Nat :=
  (fnearest (fmul (s.f32 (OD.LD_DUTY_NOW (x + 1))) (fofInt (s.ldPeriod x)))).toNat

/-- The channel turns on (R270): a new blanking window opens; the bootstrap interval restarts after an off-time of at least
BOOT_REFRESH; a refresh pulse under way ends first (R275). -/
def State.ldOn (s : State) (x : Nat) : State :=
  let c := s.ldc x
  if c.on || c.refreshAt.isSome then s
  else
    let long := decide (c.offAt + s.usTicks (OD.BOOT_REFRESH (x + 1)) ≤ s.now)
    s.setLd x { c with on := true, onAt := s.now, contOnAt := if long then s.now else c.contOnAt, refreshAt := none }

/-- The channel's pulse ends; its state stays ON, "as commanded" (Table 10.4). -/
def State.ldPulseOff (s : State) (x : Nat) : State :=
  let c := s.ldc x
  s.setLd x { c with on := false, offAt := if c.on then s.now else c.offAt }

/-- A period starts (R262): on for duty × period; a pulse or a gap below 1 µs is dropped and counted (Table 10.1). -/
def State.ldPeriodStart (s : State) (x : Nat) : State :=
  let s := (s.setLd x { s.ldc x with periodAt := s.now }).setLdSt x 2
  let on := s.ldOnTicks x
  if on = 0 then s.ldPulseOff x
  else if on < 625 then (s.ldPulseOff x).bump (OD.LD_DROPPED (x + 1))
  else if s.ldPeriod x ≤ on then s.ldOn x
  else if s.ldPeriod x < on + 625 then (s.ldOn x).bump (OD.LD_DROPPED (x + 1))
  else s.ldOn x

/-- A channel whose retry wait, soft turn-off or supply fault has ended goes to what its command asks (R268, R271): a chopper or
pulsed channel at its next period start. -/
def State.ldResume (s : State) (x : Nat) : State :=
  let s := s.setLdSt x 1
  let s := s.setLd x { s.ldc x with runSince := s.now, periodAt := s.now - s.ldPeriod x }
  if 2 ≤ s.ldFunc x ∧ s.ldCmdNow x = 1 ∧ s.ldFree x = true then (s.setLdSt x 2).ldOn x else s

/-- Any channel of function `f` is on, or (with `soft`) in soft turn-off. -/
def State.ldAnyOn (s : State) (f : Nat) (soft : Bool) : Bool :=
  (List.range 6).any fun x => decide (s.ldFunc x = f) && ((s.ldc x).on || (soft && (s.ldc x).softAt.isSome))

/-! ### LD_CONFIG_STATUS (R261) -/

/-- The value of LD_CONFIG_STATUS for the configuration in force; of two chopper channels it names the second, of a mismatch the chopper channel, or with none
CH_LD (log 147, DESIGN CHOICE, unsafe). -/
def State.ldConfig (s : State) : Nat :=
  let ch := (List.range 6).filter fun x => decide (s.ldFunc x = 1)
  match ch with
  | [] => if s.nat OD.CH_LD = 0 then 0 else 2 * 256 + s.nat OD.CH_LD
  | [x] =>
    if s.nat OD.CH_LD ≠ x + 1 then 2 * 256 + (x + 1)
    else if s.nat (OD.LD_SUPPLY (x + 1)) = 1 ∧ s.flag (OD.BOOT_REFRESH_EN (x + 1)) = false then 3 * 256 + (x + 1)
    else 0
  | _ :: y :: _ => 1 * 256 + (y + 1)

/-- LD_CONFIG_STATUS follows the configuration; LD_CONFIG is recorded when it becomes non-zero or zero (Table 10.9). -/
def State.refreshLdConfig (s : State) : State :=
  let old := s.nat OD.LD_CONFIG_STATUS
  let new := s.ldConfig
  let s := s.putN OD.LD_CONFIG_STATUS new
  if old = 0 ∧ new ≠ 0 then s.note Ev.LD_CONFIG 0 true
  else if old ≠ 0 ∧ new = 0 then s.note Ev.LD_CONFIG 0 false
  else s

/-! ### Host commands -/

/-- Why LD_CMD = `v` is refused on channel `x` (R263, R264; the range of LD_CMD and Table 10.2). -/
def State.ldCmdRefused (s : State) (x v : Nat) : Option Reply :=
  let f := s.ldFunc x
  if v > 2 ∨ (v = 2 ∧ f ≠ 4) then some Reply.outOfRange
  else if v = 1 ∧ f = 3 then
    (if (s.nat OD.LAW_STATE = 0 ∨ s.nat OD.LAW_STATE = 8) ∧ (s.nat OD.OUT_STATE = 0 ∨ s.nat OD.OUT_STATE = 5) ∧
        s.ldAnyOn 2 false = false then none else some Reply.wrongState)
  else if v = 1 ∧ f = 2 then
    (if s.ldAnyOn 3 true then some Reply.wrongState
     else match (s.ldc x).prechOffAt with
       | some t => if s.past t (ms (s.nat (OD.PRECH_TIME_MAX (x + 1)))) then none else some Reply.wrongState
       | none => none)
  else none

/-- LD_CMD = 0: normal turn-off; a retry wait ends without consuming a try (R271); BOOT_EMPTY's off-time starts (R276). -/
def State.ldCmdOff (s : State) (x : Nat) : State :=
  let s := s.ldOff x
  if s.ldSt x = 8 then s.setLd x { s.ldc x with bootOffAt := some s.now } else s

/-- BOOT_EMPTY ends once the command has given an off-time of at least BOOT_REFRESH; a supply still low is then a plain UVLO (R276). -/
def State.bootEmptyEnds (s : State) (x : Nat) : State :=
  match (s.ldc x).bootOffAt with
  | some t =>
    if s.ldSt x = 8 ∧ s.past t (s.usTicks (OD.BOOT_REFRESH (x + 1))) = true then
      let s := (s.ldFault x 4 false).setLd x { s.ldc x with bootOffAt := none }
      if (s.ldc x).uvPos then (s.ldFault x 2 true).setLdSt x 7 else (s.setLdSt x 1).setLd x { s.ldc x with lowSince := none }
    else s
  | none => s

/-- The chopper's channel is unavailable: recorded once (R140, R269). -/
def State.chopperGone (s : State) (x : Nat) : State :=
  if s.ldFunc x = 1 ∧ s.nat OD.CH_LD = x + 1 ∧ (s.ldc x).unavailable = false then
    (s.setLd x { s.ldc x with unavailable := true }).note Ev.CHOPPER_UNAVAILABLE (x + 1)
  else s

/-- CHOPPER_UNAVAILABLE is withdrawn when the channel recovers (R269). -/
def State.chopperBack (s : State) (x : Nat) : State :=
  let st := s.ldSt x
  if (s.ldc x).unavailable = true ∧ st ≠ 5 ∧ st ≠ 6 ∧ st ≠ 7 ∧ st ≠ 8 then
    (s.setLd x { s.ldc x with unavailable := false }).note Ev.CHOPPER_UNAVAILABLE (x + 1) false
  else s

/-- LD_CMD 1 or 2 takes effect: in RETRY_WAIT the channel turns on when the wait ends (Table 10.7). -/
def State.ldCmdOn (s : State) (x v : Nat) : State :=
  let s := (s.ldFault x 7 false).bootEmptyEnds x
  let s := s.setLd x { s.ldc x with holdOff := s.sgb || !s.tbValid, prechOffAt := none }
  if s.ldFree x = true ∧ 2 ≤ s.ldFunc x then
    let s := s.setLd x { s.ldc x with runSince := if s.ldSt x = 2 then (s.ldc x).runSince else s.now }
    if v = 1 then (s.setLdSt x 2).ldOn x
    else (s.putF (OD.LD_DUTY_NOW (x + 1)) (s.f32 (OD.LD_DUTY (x + 1)))).ldPeriodStart x
  else s

/-- LD_CMD (R260, R263); one that repeats the command a channel follows changes nothing else, nor does one to a channel that follows no host command
(Table 10.2). -/
def State.ldCmd (s : State) (x v : Nat) : State × Reply :=
  match s.ldCmdRefused x v with
  | some r => (s, r)
  | none =>
    let same := decide (s.ldFunc x < 2) || (decide (s.ldCmdNow x = v) && decide (s.ldSt x = 2))
    let s := s.putN (OD.LD_CMD (x + 1)) v
    ((if same then s else if v = 0 then s.ldCmdOff x else s.ldCmdOn x v).chopperBack x, Reply.ok)

/-- LD_CMD, a command object of the owner. -/
def execLdCmd (session : Nat) (x : Fin 6) (v : Nat) (s : State) : Host.Outcome State Fault Refusal :=
  .next (s.command session (s.ownerRefusal session) fun s => s.ldCmd x.val v)

/-- One written channel is cleared (R273): OFF with its LD_CMD at 0 where it was latched; RETRY_LEFT is reloaded (R271); a chopper
waits for the next commit. -/
def State.ldClearOne (s : State) (x : Nat) : State :=
  let latched := s.bit OD.LD_LATCH_MASK x
  let s := (((s.ldFault x 0 false).ldFault x 1 false).ldFault x 5 false).ldFault x 6 false
  let s := (s.putN (OD.RETRY_LEFT (x + 1)) (s.nat (OD.RETRY_MAX (x + 1)))).ldLatchBit x false
  if latched then
    let s := s.putN (OD.LD_CMD (x + 1)) 0
    let s := s.setLd x { s.ldc x with pendFault := false, waitAt := none, holdOff := true }
    let s := if s.ldSt x = 5 ∨ s.ldSt x = 6 then s.setLdSt x 1 else s
    s.chopperBack x
  else s

/-- LD_CLEAR (R273): refused whole while the DESAT sense of any written channel reads above its threshold. -/
def State.ldClear (s : State) (session mask : Nat) : State × Reply :=
  let xs := (List.range 6).filter fun x => mask.testBit x
  if xs.any (fun x => (s.ldc x).desatHigh) then
    (s.occur { code := Ev.LD_CLEAR_REFUSED, detail := sessPort session, session := session }, Reply.tripActive)
  else
    let s := xs.foldl (init := s) fun s x => s.ldClearOne x
    (s.occur { code := Ev.LD_CLEARED, detail := sessPort session, session := session }, Reply.ok)

/-- LD_CLEAR, a command object of the owner. -/
def execLdClear (session mask : Nat) (s : State) : Host.Outcome State Fault Refusal :=
  .next (s.command session (s.ownerRefusal session) fun s => s.ldClear session mask)

/-! ### Periods -/

/-- The committed duty that a period starting now takes: the newest one more than 64 ticks after its LOAD_ALL (R262). -/
def State.takeDuty (s : State) (x : Nat) : State :=
  let c := s.ldc x
  let late := c.duties.filter fun p => decide (s.now ≤ p.2 + 64)
  match c.duties.find? fun p => decide (p.2 + 64 < s.now) with
  | some p => (s.setLd x { c with duties := late }).putF (OD.LD_DUTY_NOW (x + 1)) p.1
  | none => s

/-- BOOT_EMPTY of a chopper or pulsed channel ends at a period with an off-time of at least BOOT_REFRESH (R276). -/
def State.bootEmptyPeriod (s : State) (x : Nat) : State :=
  if s.ldSt x = 8 ∧ (s.ldc x).uvPos = false ∧
      s.usTicks (OD.BOOT_REFRESH (x + 1)) + s.ldOnTicks x ≤ s.ldPeriod x then
    ((s.ldFault x 4 false).setLdSt x 1).setLd x { s.ldc x with lowSince := none }
  else s

/-- CHOPPER_PERIOD_START (R262): on an LTC multiple of the period a chopper channel takes the duty and turns on. -/
def State.chopperPeriodStart (s : State) (x : Nat) : State :=
  if s.ldFunc x = 1 ∧ s.ltc % s.ldPeriod x = 0 then
    let s := ((s.takeDuty x).bootEmptyPeriod x).chopperBack x
    if s.ldFree x then s.ldPeriodStart x else s
  else s

/-- CHOPPER_PERIOD_START. -/
def execChopperPeriodStart (x : Fin 6) (s : State) : Host.Outcome State Fault Refusal := .next (s.chopperPeriodStart x.val)

/-- LD_PULSE_EDGE (R262, R275): a refresh pulse ends, and the channel is on again if its own pulse still runs; a pulse ends after duty × period; a pulsed general channel starts its next
period, taking LD_DUTY. -/
def State.ldPulseEdge (s : State) (x : Nat) : State :=
  let c := s.ldc x
  match c.refreshAt with
  | some t =>
    if s.past t (s.usTicks (OD.BOOT_REFRESH (x + 1))) then
      let pulsed := decide (s.ldFunc x = 1) || decide (s.ldCmdNow x = 2)
      let ended := pulsed && s.past c.periodAt (s.ldOnTicks x) && decide (s.ldOnTicks x + 625 ≤ s.ldPeriod x)
      let s := s.setLd x { c with refreshAt := none }
      if s.ldFree x && !ended then s.ldOn x else s
    else s
  | none =>
    if s.ldFunc x = 4 ∧ s.ldCmdNow x = 2 ∧ s.past c.periodAt (s.ldPeriod x) = true then
      let s := (s.putF (OD.LD_DUTY_NOW (x + 1)) (s.f32 (OD.LD_DUTY (x + 1)))).bootEmptyPeriod x
      if s.ldFree x then s.ldPeriodStart x else s
    else if (s.ldFunc x = 1 ∨ (s.ldFunc x = 4 ∧ s.ldCmdNow x = 2)) ∧ c.on = true ∧
        s.past c.periodAt (s.ldOnTicks x) = true ∧ s.ldOnTicks x + 625 ≤ s.ldPeriod x then s.ldPulseOff x
    else s

/-- LD_PULSE_EDGE. -/
def execLdPulseEdge (x : Fin 6) (s : State) : Host.Outcome State Fault Refusal := .next (s.ldPulseEdge x.val)

/-- A committed frame's chopper duty (R140, R262): it waits for a period start, and the chopper resumes (R266, R267, R273). A latched channel is recorded as
unavailable (Table 10.6). -/
def State.ldCommitDuty (s : State) (x : Nat) (duty : F32) : State :=
  let s := if s.ldSt x = 5 ∨ s.ldSt x = 6 then s.chopperGone x else s
  s.setLd x { s.ldc x with duties := (duty, s.now) :: (s.ldc x).duties.take 7, holdOff := s.sgb || !s.tbValid }

/-- LD_HOLD_EXPIRED (R262): no commit for max(CMD_TIMEOUT, 5F) turns the chopper off. -/
def State.ldHoldExpired (s : State) (x : Nat) : State :=
  if s.ldFunc x = 1 ∧ (s.ldc x).holdOff = false ∧ s.ldSt x = 2 ∧
      s.past s.frame.commitAt (Nat.max (us (s.nat OD.CMD_TIMEOUT)) (5 * s.nat OD.FRAME_PERIOD)) = true then
    let s := s.ldOff x
    (s.setLd x { s.ldc x with holdOff := true }).note Ev.LD_HOLD_EXPIRED (x + 1)
  else s

/-- LD_HOLD_EXPIRED. -/
def execLdHoldExpired (x : Fin 6) (s : State) : Host.Outcome State Fault Refusal := .next (s.ldHoldExpired x.val)

/-- LD_PRECHARGE_TIMEOUT (R264). -/
def State.ldPrechargeTimeout (s : State) (x : Nat) : State :=
  if s.ldFunc x = 2 ∧ (s.ldc x).on = true ∧ s.past (s.ldc x).runSince (ms (s.nat (OD.PRECH_TIME_MAX (x + 1)))) = true then
    let s := (s.ldOff x).putN (OD.LD_CMD (x + 1)) 0
    ((s.setLd x { s.ldc x with prechOffAt := some s.now }).ldFault x 7 true).note Ev.LD_PRECHARGE_TIMEOUT (x + 1)
  else s

/-- LD_PRECHARGE_TIMEOUT. -/
def execLdPrechargeTimeout (x : Fin 6) (s : State) : Host.Outcome State Fault Refusal := .next (s.ldPrechargeTimeout x.val)

/-! ### Gate supplies -/

/-- VNEG is monitored: an external bipolar supply (R274). -/
def State.vnegUsed (s : State) (x : Nat) : Bool := decide (s.nat (OD.LD_SUPPLY (x + 1)) = 0)

/-- A report lies past threshold plus the hysteresis of 0.5 V (R268). -/
def State.suppliesBack (s : State) (x : Nat) (vpos vneg : F32) : Bool :=
  fle (fadd (s.f32 (OD.UVLO_POS (x + 1))) (fq 1 2)) vpos &&
  (!s.vnegUsed x || fle (fadd (fabs (s.f32 (OD.UVLO_NEG (x + 1)))) (fq 1 2)) (fabs vneg))

/-- LD_SUPPLY_MEASURE (R268): the isolated side reports both supplies, and whether the DESAT sense reads above its threshold
(R273); recovery past the hysteresis is seen here. A channel of function 0 is not monitored. (Log 92, DEDUCED, unsafe.) -/
def State.ldSupplyMeasure (s : State) (x : Nat) (vpos vneg : F32) (senseHigh : Bool) : State :=
  if s.ldFunc x ≠ 0 ∧ s.ldPowered x = true then
    let s := (s.putF (OD.VPOS_MEAS (x + 1)) vpos).putF (OD.VNEG_MEAS (x + 1)) vneg
    let c := s.ldc x
    let rec' := if (c.uvPos || c.uvNeg) && s.suppliesBack x vpos vneg then some (c.recoverAt.getD s.now) else none
    s.setLd x { c with desatHigh := senseHigh, recoverAt := rec' }
  else s

/-- LD_SUPPLY_MEASURE. -/
def execLdSupplyMeasure (x : Fin 6) (vpos vneg : F32) (senseHigh : Bool) (s : State) : Host.Outcome State Fault Refusal :=
  .next (s.ldSupplyMeasure x.val vpos vneg senseHigh)

/-- The channel has had no off-time of at least BOOT_REFRESH within the BOOT_INTERVAL before now, with refresh off (R276). -/
def State.bootEmpty (s : State) (x : Nat) : Bool :=
  decide (s.nat (OD.LD_SUPPLY (x + 1)) = 1) && !s.flag (OD.BOOT_REFRESH_EN (x + 1)) && (s.ldc x).softAt.isNone &&
  ((s.ldc x).on || !s.past (s.ldc x).offAt (s.usTicks (OD.BOOT_REFRESH (x + 1)))) &&
  s.past (s.ldc x).contOnAt (us (s.nat (OD.BOOT_INTERVAL (x + 1))))

/-- LD_UVLO (R268, R276): a supply has been below its threshold for 5 µs: the output is held off with a normal turn-off; a soft
turn-off that runs completes first (Table 10.7). -/
def State.ldUvlo (s : State) (x : Nat) (vneg : Bool) : State :=
  let c := s.ldc x
  if s.ldFunc x = 0 ∨ s.ldPowered x = false ∨ (vneg = true ∧ s.vnegUsed x = false) ∨ (if vneg then c.uvNeg else c.uvPos) = true then s
  else
    let c' := { c with uvNeg := c.uvNeg || vneg, uvPos := c.uvPos || !vneg, recoverAt := none, lowSince := some (c.lowSince.getD s.now) }
    if !vneg && s.bootEmpty x then
      let s := ((s.setLd x c').ldOff x).setLdSt x 8
      ((s.setLd x { s.ldc x with bootOffAt := none }).ldFault x 4 true).note Ev.LD_BOOT_EMPTY (x + 1)
    else
      let s := (s.setLd x c').ldFault x (if vneg then 3 else 2) true
      let s := if c.softAt.isSome then s
        else
          let wait := c.waitAt
          let s := s.ldOff x
          (s.setLd x { s.ldc x with waitAt := wait }).setLdSt x 7
      s.note Ev.LD_UVLO (x + 1) true

/-- LD_UVLO. -/
def execLdUvlo (x : Fin 6) (vneg : Bool) (s : State) : Host.Outcome State Fault Refusal := .next (s.ldUvlo x.val vneg)

/-- What follows a short fault whose soft turn-off is over (R271): latch when no retry is left, wait when the channel is still
commanded, else stay off. -/
def State.shortFollow (s : State) (x : Nat) : State :=
  let s := s.setLd x { s.ldc x with pendFault := false }
  if s.nat (OD.RETRY_LEFT (x + 1)) = 0 then
    (((s.setLdSt x 5).ldFault x 6 true).ldLatchBit x true).note Ev.LD_LATCHED (x + 1)
  else if s.ldFunc x = 1 ∨ s.ldCmdNow x ≠ 0 then (s.setLdSt x 4).setLd x { s.ldc x with waitAt := some s.now }
  else s.setLdSt x 1

/-- LD_UVLO_RECOVER (R268): 1 ms after both supplies recovered the channel returns to its commanded state, to its retry wait, to
its latch, or to a short fault still to be handled (Table 10.7). BOOT_EMPTY stays until the command gives an off-time (R276). -/
def State.ldUvloRecover (s : State) (x : Nat) : State :=
  match (s.ldc x).recoverAt with
  | none => s
  | some t =>
    if s.past t (ms 1) then
      let c := s.ldc x
      let s := s.setLd x { c with uvPos := false, uvNeg := false, recoverAt := none, lowSince := if s.ldSt x = 8 then c.lowSince else none }
      if s.ldSt x = 8 then s
      else
        let s := ((s.ldFault x 2 false).ldFault x 3 false).note Ev.LD_UVLO (x + 1) false
        let s :=
          if s.ldSt x ≠ 7 then s
          else if s.bit (OD.LD_FAULT (x + 1)) 5 then s.setLdSt x 6
          else if s.bit (OD.LD_FAULT (x + 1)) 6 then s.setLdSt x 5
          else if c.pendFault then s.shortFollow x
          else if c.waitAt.isSome then s.setLdSt x 4
          else s.ldResume x
        s.chopperBack x
    else s

/-- LD_UVLO_RECOVER. -/
def execLdUvloRecover (x : Fin 6) (s : State) : Host.Outcome State Fault Refusal := .next (s.ldUvloRecover x.val)

/-- CHOPPER_UNAVAILABLE (R269): the channel CH_LD names has been in SUPPLY_LOW or BOOT_EMPTY for 1 s. -/
def State.chopperUnavailable (s : State) (x : Nat) : State :=
  match (s.ldc x).lowSince with
  | none => s
  | some t =>
    if (s.ldSt x = 7 ∨ s.ldSt x = 8) ∧ s.past t (sec 1) = true then s.chopperGone x else s

/-- CHOPPER_UNAVAILABLE. -/
def execChopperUnavailable (x : Fin 6) (s : State) : Host.Outcome State Fault Refusal := .next (s.chopperUnavailable x.val)

/-! ### Short circuits -/

/-- The channels whose last detection lies within 2 µs of now, other than `x` (R272). -/
def State.shortGroup (s : State) (x : Nat) : List Nat :=
  (List.range 6).filter fun y => decide (y ≠ x) &&
    (match (s.ldc y).detectAt with
     | some t => decide (s.now ≤ t + 1250)
     | none => false)

/-- A channel enters COMMON_SHORT: latched with no retry, its retry wait cancelled, its soft turn-off going on (R272). -/
def State.commonShort (s : State) (x : Nat) : State :=
  let c := s.ldc x
  let s := s.setLd x { c with on := false, softAt := if c.on then some s.now else c.softAt, offAt := if c.on then s.now else c.offAt, waitAt := none, pendFault := false }
  (((s.setLdSt x 6).ldFault x 5 true).ldFault x 6 false).ldLatchBit x true

/-- The mask of a list of channels. -/
def maskOf (xs : List Nat) : Nat := xs.foldl (fun m x => m + 2 ^ x) 0

/-- A detection can be qualified: its filter of 150 ns, or of 250 ns behind the blanking window, has run since the turn-on (Table 10.3). -/
def State.shortSeen (s : State) (x : Nat) (hard : Bool) : Bool :=
  s.past (s.ldc x).onAt (if hard then 94 else s.usTicks (OD.DESAT_BLANK (x + 1)) + 157)

/-- LD_SHORT (R270, R272): a qualified detection on a channel that is on starts a soft turn-off; detections within 2 µs of each
other make a common short. -/
def State.ldShort (s : State) (x : Nat) (hard : Bool) : State :=
  let c := s.ldc x
  if c.on = true ∧ s.flag (OD.DESAT_EN (x + 1)) = true ∧ s.shortSeen x hard = true then
    let s := s.setLd x { c with on := false, offAt := s.now, softAt := some s.now, pendFault := true, detectAt := some s.now, desatHigh := true, runSince := s.now, refreshAt := none }
    let s := ((s.setLdSt x 3).ldFault x 1 hard).ldFault x 0 (!hard)
    let s := (s.bump (OD.FAULT_COUNT (x + 1))).note Ev.LD_SHORT (x + 1)
    match s.shortGroup x with
    | [] => s
    | ys =>
      let known := ys.any fun y => decide (s.ldSt y = 6)
      let s := (x :: ys).foldl (init := s) fun s y => s.commonShort y
      let s := if known then s else s.bump OD.LD_COMMON_COUNT
      s.note Ev.LD_COMMON_SHORT (maskOf (x :: ys))
  else s

/-- LD_SHORT. -/
def execLdShort (x : Fin 6) (hard : Bool) (s : State) : Host.Outcome State Fault Refusal := .next (s.ldShort x.val hard)

/-- LD_SOFT_OFF_DONE (R259, R271, Table 10.7). -/
def State.ldSoftOffDone (s : State) (x : Nat) : State :=
  match (s.ldc x).softAt with
  | none => s
  | some t =>
    if s.past t (s.usTicks (OD.SOFT_OFF (x + 1))) then
      let s := s.setLd x { s.ldc x with softAt := none, offAt := s.now }
      let st := s.ldSt x
      if (st = 3 ∨ st = 5 ∨ st = 6) ∧ ((s.ldc x).uvPos || (s.ldc x).uvNeg) = true then s.setLdSt x 7
      else if st = 3 then s.shortFollow x
      else if st = 1 then s.ldResume x
      else s
    else s

/-- LD_SOFT_OFF_DONE. -/
def execLdSoftOffDone (x : Fin 6) (s : State) : Host.Outcome State Fault Refusal := .next (s.ldSoftOffDone x.val)

/-- LD_RETRY_WAIT_END (R271): a retry is consumed, the last short's bits clear, the channel returns to its commanded state. -/
def State.ldRetryWaitEnd (s : State) (x : Nat) : State :=
  match (s.ldc x).waitAt with
  | none => s
  | some t =>
    if s.ldSt x = 4 ∧ s.past t (ms (s.nat (OD.RETRY_WAIT (x + 1)))) = true then
      let s := s.putN (OD.RETRY_LEFT (x + 1)) (s.nat (OD.RETRY_LEFT (x + 1)) - 1)
      let s := (s.ldFault x 0 false).ldFault x 1 false
      (s.setLd x { s.ldc x with waitAt := none }).ldResume x
    else s

/-- LD_RETRY_WAIT_END. -/
def execLdRetryWaitEnd (x : Fin 6) (s : State) : Host.Outcome State Fault Refusal := .next (s.ldRetryWaitEnd x.val)

/-- LD_RETRY_RELOAD (R271): 60 s of commanded running without a fault. -/
def State.ldRetryReload (s : State) (x : Nat) : State :=
  if s.ldSt x = 2 ∧ s.past (s.ldc x).runSince (sec 60) = true then s.putN (OD.RETRY_LEFT (x + 1)) (s.nat (OD.RETRY_MAX (x + 1))) else s

/-- LD_RETRY_RELOAD. -/
def execLdRetryReload (x : Fin 6) (s : State) : Host.Outcome State Fault Refusal := .next (s.ldRetryReload x.val)

/-- LD_BOOT_REFRESH (R275): a bootstrap channel on for BOOT_INTERVAL gets a refresh off-pulse. -/
def State.ldBootRefresh (s : State) (x : Nat) : State :=
  let c := s.ldc x
  if s.nat (OD.LD_SUPPLY (x + 1)) = 1 ∧ s.flag (OD.BOOT_REFRESH_EN (x + 1)) = true ∧ c.on = true ∧
      s.past c.contOnAt (us (s.nat (OD.BOOT_INTERVAL (x + 1)))) = true then
    (s.setLd x { c with on := false, offAt := s.now, refreshAt := some s.now }).bumpW (OD.LD_REFRESHES (x + 1))
  else s

/-- LD_BOOT_REFRESH. -/
def execLdBootRefresh (x : Fin 6) (s : State) : Host.Outcome State Fault Refusal := .next (s.ldBootRefresh x.val)

/-! ### Law stops, SGB, timebase, domains -/

/-- SGB turns every channel off normally and sets every LD_CMD to 0 (R266). -/
def State.ldSgb (s : State) : State :=
  (List.range 6).foldl (init := s) fun s x =>
    let s := (s.ldOff x).putN (OD.LD_CMD (x + 1)) 0
    s.setLd x { s.ldc x with holdOff := true }

/-- Timebase lost: the PWM watchdog turns every channel off normally; it stays off for a new command or commit (R267). -/
def State.ldTbLost (s : State) : State :=
  (List.range 6).foldl (init := s) fun s x =>
    let s := s.ldOff x
    s.setLd x { s.ldc x with holdOff := true }

/-- A channel returns to OFF (UNUSED without a function) with LD_CMD at 0, its timers given up. -/
def State.ldIdle (s : State) (x : Nat) : State :=
  let s := (s.ldOff x).putN (OD.LD_CMD (x + 1)) 0
  let s := s.setLd x { s.ldc x with softAt := none, pendFault := false, waitAt := none, uvPos := false, uvNeg := false, recoverAt := none, lowSince := none, holdOff := true }
  s.setLdSt x (if s.ldFunc x = 0 then 0 else 1)

/-- Domain D13 or D14 is switched off: its channels return OFF with LD_CMD at 0 (Table 10.7). -/
def State.ldDomainOff (s : State) (d : Nat) : State :=
  (if d = 13 then [0, 1, 2] else if d = 14 then [3, 4, 5] else []).foldl (init := s) fun s x => s.ldIdle x

/-- A commit changes LD_FUNC of a channel (R260): it is idle in its new function; a latched channel with a function stays so until LD_CLEAR. -/
def State.ldFuncChanged (s : State) (x : Nat) : State :=
  let st := s.ldSt x
  let s := s.ldIdle x
  if s.ldFunc x ≠ 0 ∧ (st = 5 ∨ st = 6) then s.setLdSt x st else s

end Sys2Proof.Machine
end

