-- ==== Sys2Proof/Machine/Supervise.lean ====
section
/-!
DEFINITION. Machine/Supervise.lean: chapters 06 and 07: configuration status, law commands, the supervisor of law states, black start
and pre-synchronisation, protection thresholds, ride-through timers, feedback loss, the observer's bridge and degraded stops.
-/
namespace Sys2Proof.Machine
open Sys2Proof

/-! ### Configuration status (R123, R194, R162, R165, R144) -/

/-- The lowest number of a list, if any. -/
def leastOf : List Nat → Option Nat
  | [] => none
  | x :: xs => match leastOf xs with
    | none => some x
    | some y => some (Nat.min x y)

/-- LAW_CONFIG_STATUS: the first problem by its code, then by its place (R123). (Log 37, DEDUCED, unsafe.) -/
def State.lawConfig (s : State) : Nat :=
  let topo := s.nat OD.TOPOLOGY
  let role (n : Nat) : Nat := s.nat (OD.CH_ROLE n)
  let has (r : Nat) : Bool := (List.range 32).any fun n => decide (role n = r)
  let group (a b : Nat) : List Nat := (List.range (b + 1 - a)).map (· + a)
  let some' (rs : List Nat) : List Nat := if rs.any has then rs else []
  let need := group 1 6 ++ [13] ++ some' (group 7 9) ++ (if s.nat OD.BS_TOPO = 1 then group 10 12 else some' (group 10 12)) ++
    (if topo = 1 ∨ topo = 2 then some' [14, 15] else []) ++ (if 3 ≤ topo then group 16 21 else [])
  let missing := need.filter fun r => !has r
  let dup := (group 1 21).filter fun r => decide (1 < ((List.range 32).filter fun n => decide (role n = r)).length)
  let dis := (List.range 32).filter fun n => decide (role n ≠ 0) &&
    ((s.flag (OD.ADC_PAIR (n - n % 2)) && s.flag (OD.ADC_ENABLE (n - n % 2)) && decide (n % 2 = 1)) || !s.flag (OD.ADC_ENABLE n))
  let order := flt (s.f32 OD.V_CH_OFF) (s.f32 OD.V_CH_ON) && flt (s.f32 OD.V_CH_ON) (s.f32 OD.V_CH_FULL)
  let bad := ((List.range 32).map role).filter fun r => ((decide (r = 14) || decide (r = 15)) && !s.isNpc) || (decide (16 ≤ r) && !s.isMmc)
  match leastOf missing, leastOf dup, leastOf dis, leastOf bad with
  | some r, _, _, _ => 0x100 + r
  | none, some r, _, _ => 0x200 + r
  | none, none, some n, _ => 0x300 + n
  | none, none, none, b =>
    if !order then 0x402
    else if s.isMmc && decide (s.nat OD.N_SM = 0) then 0x500
    else match b with
      | some r => 0x600 + r
      | none => 0

/-- The positions Table 8.1 lists for the topology. -/
def positionsOf (topo : Nat) : List Nat := if topo = 0 then [0] else if topo = 1 then [1, 2] else if topo = 2 then [1, 2, 3] else []

/-- PWM_CONFIG_STATUS: the first problem by its number, then by its place (R194). -/
def State.pwmConfig (s : State) : Nat :=
  let topo := s.nat OD.TOPOLOGY
  let used := (List.range 24).filter fun p => s.pairUsed p
  let p7 := used.filter fun p => (decide (s.nat OD.N_STACKS ≤ s.nat (OD.PAIR_STACK p)) || !(positionsOf topo).contains (s.nat (OD.PAIR_POS p)))
  let counted := used.filter fun p => !p7.contains p
  let place (p : Nat) : Nat := s.nat (OD.PAIR_STACK p) * 16 + s.nat (OD.PAIR_PHASE p) * 4 + s.nat (OD.PAIR_POS p)
  let wanted := if 3 ≤ topo then [] else
    ((List.range (s.nat OD.N_STACKS)).map fun k => ((List.range 3).map fun ph => (positionsOf topo).map fun q => k * 16 + ph * 4 + q).flatten).flatten
  let p1 := used.filter fun p => !s.flag (OD.CAR_EN (s.nat (OD.PAIR_CARRIER p)))
  let p2 := used.filter fun p => decide (s.carPeriod (s.nat (OD.PAIR_CARRIER p)) < 4 * (s.nat (OD.DEAD_TIME p) + s.nat OD.MIN_PULSE))
  let p3 := wanted.filter fun w => !counted.any fun p => decide (place p = w)
  let p4 := counted.filter fun p => counted.any fun q => decide (q < p) && decide (place q = place p)
  let p5 := used.filter fun p => decide (s.nat (OD.PAIR_USE p) = 2) && decide (s.nat (OD.PAIR_ENDPOINT p) = 0xFF)
  let p6 := if 3 ≤ topo then used else []
  let first (k : Nat) (xs : List Nat) (rest : Nat) : Nat := match leastOf xs with
    | some x => k * 256 + x
    | none => rest
  first 1 p1 (first 2 p2 (first 3 p3 (first 4 p4 (first 5 p5 (first 6 p6 (first 7 p7 0))))))

/-- A status entry follows its value; `code` is recorded when it becomes non-zero or zero. -/
def State.follow (s : State) (k v : Nat) (code : Option Nat) : State :=
  let old := s.nat k
  let s := s.putN k v
  match code with
  | none => s
  | some c => if old = 0 ∧ v ≠ 0 then s.note c 0 true else if old ≠ 0 ∧ v = 0 then s.note c 0 false else s

/-- LAW_CONFIG_STATUS, PWM_CONFIG_STATUS and LD_CONFIG_STATUS, evaluated at every commit and every START. -/
def State.refreshConfig (s : State) : State :=
  ((s.follow OD.LAW_CONFIG_STATUS s.lawConfig none).follow OD.PWM_CONFIG_STATUS s.pwmConfig (some Ev.PWM_CONFIG)).refreshLdConfig

/-- Times rise (or stay) over eight points, from zero. -/
def timesOk (t : Nat → F32) : Bool := fisZero (t 0) && (List.range 7).all fun j => fle (t j) (t (j + 1))

/-- The undervoltage curve is valid (R162). -/
def State.uvValid (s : State) : Bool :=
  timesOk (fun j => s.f32 (OD.UV_T j)) && ((List.range 7).all fun j => fle (s.f32 (OD.UV_V j)) (s.f32 (OD.UV_V (j + 1)))) &&
  fle (s.f32 (OD.UV_V 7)) (s.f32 OD.UV_ENTRY) &&
  ((List.range 8).all fun j => !flt (fq 1 4) (s.f32 (OD.UV_T j)) || flt 0 (s.f32 (OD.UV_V j)))

/-- The overvoltage curve is valid (R162). -/
def State.ovValid (s : State) : Bool :=
  timesOk (fun j => s.f32 (OD.OV_T j)) && ((List.range 7).all fun j => fle (s.f32 (OD.OV_V (j + 1))) (s.f32 (OD.OV_V j))) &&
  fle (s.f32 OD.OV_ENTRY) (s.f32 (OD.OV_V 7))

/-- The current envelope is valid (R165). -/
def State.envValid (s : State) : Bool :=
  timesOk (fun j => s.f32 (OD.ENV_T j)) && ((List.range 7).all fun j => fle (s.f32 (OD.ENV_I (j + 1))) (s.f32 (OD.ENV_I j))) &&
  fle (s.f32 OD.I_CONT) (s.f32 (OD.ENV_I 7))

/-- A curve's status entry: 1 valid, 2 invalid with its defaults in use, recorded when it becomes invalid. -/
def State.curveStatus (s : State) (k : Nat) (ok : Bool) : State :=
  let old := s.nat k
  let s := s.putN k (if ok then 1 else 2)
  if !ok && decide (old ≠ 2) then s.note Ev.RT_CURVE_INVALID 0 else s

/-- Curves, envelope and gain tables are judged at a commit (R144, R162, R165). -/
def State.refreshCurves (s : State) : State :=
  let s := ((s.curveStatus OD.UV_STATUS s.uvValid).curveStatus OD.OV_STATUS s.ovValid).curveStatus OD.ENV_STATUS s.envValid
  (List.range 3).foldl (init := s) fun s t =>
    let st := if !s.flag (OD.GT_ENABLE t) then 0 else if s.gtValid t then 1 else 2
    let old := s.nat (OD.GT_STATUS t)
    let s := s.putN (OD.GT_STATUS t) st
    if st = 2 ∧ old ≠ 2 then s.note Ev.GAIN_TABLE_INVALID t else s

/-- A point of the undervoltage curve, its defaults standing in for an invalid one (R162). -/
def State.uvPoint (s : State) (j : Nat) : F32 × F32 :=
  if s.nat OD.UV_STATUS = 2 then
    (if j = 0 then fzero else if j = 1 then fq 1 4 else fq 3 2, if j < 2 then fzero else fq 85 100)
  else (s.f32 (OD.UV_T j), s.f32 (OD.UV_V j))

/-- A point of the overvoltage curve (R162). -/
def State.ovPoint (s : State) (j : Nat) : F32 × F32 :=
  if s.nat OD.OV_STATUS = 2 then
    (if j = 0 then fzero else if j < 3 then fq 1 10 else fone, if j < 2 then fq 13 10 else if j < 4 then fq 12 10 else fq 11 10)
  else (s.f32 (OD.OV_T j), s.f32 (OD.OV_V j))

/-! ### The lanes' law records -/

/-- The committed law of a lane. -/
def State.lawOf (s : State) (l : Lane) : Law := (s.lane l).law
/-- Replace it. -/
def State.setLawOf (s : State) (l : Lane) (x : Law) : State := s.setLaneRec l { s.lane l with law := x }
/-- A mode change acts on both lanes alike, on the committed slot and on a slot that waits for its flip (R104); a speculation under way rests on the
state before it and is abandoned. (Log 154, DEDUCED, unsafe.) -/
def State.mapLaws (s : State) (f : Law → Law) : State :=
  let one (s : State) (l : Lane) : State := let r := s.lane l; s.setLaneRec l { r with law := f r.law, next := r.next.map f, spec := none }
  one (one s .a) .b
/-- The law whose values the module publishes: the serving lane's. -/
def State.law (s : State) : Law := s.lawOf (s.serving.getD .a)

/-! ### Gate releases and stops -/

/-- The states a release of the gates sets to 0 (R157). -/
def Law.clearLoops (l : Law) : Law :=
  { l with resA := {}, resB := {}, harmA := Vector.replicate 8 {}, harmB := Vector.replicate 8 {}, dpr := 0, frLim := false, xw := 0, pdc := 0,
           xz := Vector.replicate 3 0, resZ := Vector.replicate 3 {}, xs := Vector.replicate 8 (Vector.replicate 3 0),
           du := Vector.replicate 8 (Vector.replicate 3 0) }

/-- Ramp states at a release of the gates (R146). -/
def Law.initRamps (l : Law) (s : State) (st : Nat) : Law :=
  { l with ramps := Vector.ofFn fun k : Fin 12 =>
      let t := l.target s st k.val
      if k.val = 0 then l.pf else if k.val = 1 then l.qf else if k.val = 2 then l.vMag
      else if k.val = 3 then (if l.thBValid then l.omegaB else t)
      else if k.val = 4 then l.w else if k.val = 9 then l.wSigma else t }

/-- The rotor set from the bus signals (R151, R157). -/
def Law.rotorFromBus (l : Law) : Law :=
  if l.thBValid then { l with thHi := l.thB, thLo := 0, omega := l.omegaB } else { l with thHi := 0, thLo := 0, omega := l.r 3 }

/-- Sixty-four cold frames (R108). -/
def State.cold (s : State) (cause : Nat) : State :=
  ({ s with frame := { s.frame with streak := 0, coldNew := true } }.putN OD.COLD_LEFT 64).note Ev.COLD_ENTERED cause

/-- The gates are released into a state (R157): loops cleared, ramps initialised, cold frames. -/
def State.releaseGates (s : State) (st cause : Nat) : State :=
  ((s.mapLaws fun l => (l.clearLoops).initRamps s st).setLaw st cause).cold 1

/-- Entry to ENERGISE (R151): E starts at |v|, the rotor from the bus. `dead`: the dead-bus ramp. -/
def State.enterEnergise (s : State) (dead : Bool) (cause : Nat) : State :=
  let s := { s with sup := { s.sup with energiseDead := dead, holdOn := false, holdAcc := 0 } }
  let s := s.mapLaws fun l => { l.rotorFromBus with e := l.vMag, ei := l.vMag, eStart := l.vMag }
  s.releaseGates 4 cause

/-- A protective stop of the law (R148): whatever the supervisor was doing ceases. (Log 81, DEDUCED, unsafe.) -/
def State.lawStop (s : State) (code : Nat) (clamp : Bool) : State :=
  let s := s.protStop code clamp
  { s with sup := { s.sup with stopHeld := false } }

/-- PROT_STOP selects the stop for AC thresholds (Table 7.2). -/
def State.acStop (s : State) : Bool := decide (s.nat OD.PROT_STOP = 1)

/-! ### Law commands (R148, R154, R145) -/

/-- Why START is refused, beside the endpoints' check (R206, R123, R194, R261, R263, R379, R485, R495). -/
def State.startRefused (s : State) (more : Bool) : Bool :=
  decide (s.nat OD.LAW_STATE ≠ 0) || decide (s.nat OD.TRIP_LATCH ≠ 0) || decide (s.nat OD.LAW_CONFIG_STATUS ≠ 0) ||
  decide (s.nat OD.PWM_CONFIG_STATUS ≠ 0) || decide (s.nat OD.LD_CONFIG_STATUS ≠ 0) || s.ldAnyOn 3 true || more

/-- START is accepted: the law is initialised (R157) and enters SENSE; SAFE is left (R198); bench pins are forced low (R217). -/
def State.startAccepted (s : State) : State :=
  let s := s.putN OD.LAW_CMD 1
  let s := s.mapLaws fun l => { (l.rotorFromBus).clearLoops with ei := l.vMag, e := l.vMag }
  let s := if s.nat OD.OUT_STATE = 5 then s.setOut 0 6 else s
  let s := { s.benchLow with
                    sup := { s.sup with settledOnce := false, deadSince := none, liveSince := none, deadNoted := false, stopHeld := false } }
  s.setLaw 1 1

/-- STOP (R148); as every law stop it turns off channels whose LD_ON_TRIP asks for it (R265; log 141, DEDUCED, unsafe). -/
def State.lawStopCmd (s : State) : State :=
  let s := s.putN OD.LAW_CMD 0
  let st := s.nat OD.LAW_STATE
  if st = 8 then
    (if s.sup.degFrom.isSome then { s with sup := { s.sup with stopHeld := true } } else s.setLaw 0 2)
  else if s.gatedState st then
    (if st = 7 then s
     else
      let s := s.withdraw 4
      (({ s with sup := { s.sup with stopFrom := s.now, quietSince := none } }).setLaw 7 2).ldTripOff)
  else if st = 0 then s
  else ((s.withdraw 4).setLaw 0 2).ldTripOff

/-- LAW_STOP, a command object of the owner. -/
def execLawStop (session : Nat) (s : State) : Host.Outcome State Fault Refusal :=
  .next (s.command session (s.ownerRefusal session) fun s => (s.lawStopCmd, Reply.ok))

/-- The set-point entry of slot `k` (R145). -/
def setKey (k : Nat) : Nat := OD.P_SET + k

/-- A value lies in the range of an entry's row. -/
def inRange (r : OdRow) (n : Int) : Bool :=
  r.range.isEmpty || r.range.any fun sp => match sp with
    | .int lo hi => decide (lo ≤ n) && decide (n ≤ hi)
    | .f32 lo hi => fle lo (BitVec.ofInt 32 n) && fle (BitVec.ofInt 32 n) hi
    | .len _ _ => true

/-- The range check of an entry. -/
def keyInRange (k : Nat) (n : Int) : Bool :=
  match OD.findRow (k / 256) (k % 256) with
  | some r => inRange r n
  | none => false

/-- SETPOINT_WRITE (R145): the entry is the target from the next frame boundary. -/
def State.setpoint (s : State) (k : Nat) (v : F32) : State × Reply :=
  if ffinite v && keyInRange (setKey k) (v.toNat : Nat) then (s.putF (setKey k) (fflush v), Reply.ok) else (s, Reply.outOfRange)

/-- SETPOINT_WRITE, a command object of the owner. -/
def execSetpointWrite (session : Nat) (slot : Fin 10) (value : F32) (s : State) : Host.Outcome State Fault Refusal :=
  .next (s.command session (s.ownerRefusal session) fun s => s.setpoint slot.val value)

/-- BRK_CLOSED_WRITE (R154): acted on at the next frame boundary. -/
def State.brkWrite (s : State) (closed : Bool) : State × Reply :=
  ({ s.putB OD.BRK_CLOSED closed with sup := { (s.putB OD.BRK_CLOSED closed).sup with brkPending := some closed } }, Reply.ok)

/-- BRK_CLOSED_WRITE, a command object of the owner. -/
def execBrkClosedWrite (session : Nat) (closed : Bool) (s : State) : Host.Outcome State Fault Refusal :=
  .next (s.command session (s.ownerRefusal session) fun s => s.brkWrite closed)

/-! ### Bus classification and black start (R149–R151, R154) -/

/-- Every phase rms lies below 0.05 p.u. -/
def rmsDead (rms : List F32) : Bool := rms.all fun r => flt r (fq 5 100)

/-- Still dead (R150): every phase below 0.05 p.u. and none more than 0.01 p.u. above its recorded value. -/
def State.stillDead (s : State) : Bool :=
  rmsDead s.law.rms && (List.range 3).all fun k => fle (at0 s.law.rms k) (fadd (at0 s.sup.delayRms k) (fq 1 100))

/-- The live condition of one frame (R149). -/
def liveNow (l : Law) : Bool := fle (fq 2 10) l.busMag && fle (fq 9 10) l.omegaB && fle l.omegaB (fq 11 10)

/-- The bus class: 0 dead, 1 uncertain, 2 live (R149). -/
def State.busClass (s : State) : Nat :=
  match s.sup.deadSince, s.sup.liveSince with
  | some t, _ => if s.past t (ms 100) then 0 else 1
  | none, some t => if s.past t (ms 100) then 2 else 1
  | none, none => 1

/-- The runs below 0.05 p.u. and of the live condition go on, by the bus signals of `l`, once every law channel carries SETTLED (R149). -/
def State.watchBus (s : State) (l : Law) (settled : Bool) : State :=
  let on := s.sup.settledOnce || settled
  let d := on && rmsDead l.rms
  let v := on && liveNow l
  { s with sup := { s.sup with settledOnce := on, deadSince := if d then some (s.sup.deadSince.getD s.now) else none
                               liveSince := if v then some (s.sup.liveSince.getD s.now) else none } }

/-- The start delay is drawn (R150). -/
def State.drawDelay (s : State) : State :=
  let x := (25173 * s.nat OD.BS_SEED + 13849) % 65536
  let d := x % 201 * s.nat OD.BS_DELAY_MAX / 200
  let s := (s.putN OD.BS_SEED x).putN OD.BS_DELAY_LAST d
  { s with sup := { s.sup with delayAt := s.now, delayRms := s.law.rms } }

/-- The live path of R149. -/
def State.livePath (s : State) (cause : Nat) : State :=
  if s.nat OD.BS_TOPO = 1 then s.enterEnergise false cause else s.setLaw 5 cause

/-- SENSE after classification (R149). -/
def State.sense (s : State) : State :=
  let c := s.busClass
  let s := s.putN OD.BUS_STATE c
  if c = 0 then
    let first := !s.sup.deadNoted
    let s := if first then ({ s with sup := { s.sup with deadNoted := true } }).note Ev.BUS_DEAD 0 else s
    if s.flag OD.BS_ENABLE then (s.drawDelay).setLaw 2 3
    else if first then s.note Ev.BS_NOT_PERMITTED 0
    else s
  else
    let s := { s with sup := { s.sup with deadNoted := false } }
    if c = 2 then s.livePath 3 else s

/-- BS_DELAY (R150): the delay has ended and the bus is checked again. -/
def State.bsDelay (s : State) : State :=
  if s.nat OD.LAW_STATE = 2 ∧ s.past s.sup.delayAt (ms (s.nat OD.BS_DELAY_LAST)) = true then
    let dead := s.stillDead
    let s := s.note Ev.BS_DELAY ((if dead then 256 else 0) + s.nat OD.BS_DELAY_LAST)
    if dead then
      (if s.nat OD.BS_TOPO = 1 then
        let s := (s.putN OD.DEAD_CLOSE_OK 1).note Ev.SYNC_OK 2
        ({ s with sup := { s.sup with closeFrom := s.now } }).setLaw 3 4
       else s.enterEnergise true 4)
    else s.livePath 4
  else s

/-- BS_DELAY. -/
def execBsDelay (s : State) : Host.Outcome State Fault Refusal := .next s.bsDelay

/-- DEAD_CLOSE_TIMEOUT (R154): CLOSE_WAIT_MAX passed first; back to SENSE. -/
def State.deadCloseTimeout (s : State) : State :=
  if s.nat OD.LAW_STATE = 3 ∧ s.past s.sup.closeFrom (ms (s.nat OD.CLOSE_WAIT_MAX)) = true then
    let s := s.withdraw 2
    ({ s with sup := { s.sup with deadSince := none, liveSince := none, deadNoted := false } }).setLaw 1 9
  else s

/-- DEAD_CLOSE_TIMEOUT. -/
def execDeadCloseTimeout (s : State) : Host.Outcome State Fault Refusal := .next s.deadCloseTimeout

/-- The accumulated hold of this ENERGISE in ticks (R151). -/
def State.holdTicks (s : State) : Nat := s.sup.holdAcc + (if s.sup.holdOn then s.now - s.sup.holdAt else 0)

/-- Seconds of an F32 entry as ticks. -/
def State.secTicks (s : State) (k : Nat) : Nat := (fnearest (fmul (s.f32 k) (fofInt 625000000))).toNat

/-- BS_FAILED (R151): the holds of one ENERGISE add up to more than BS_HOLD_MAX. -/
def State.bsFailed (s : State) : State :=
  if s.nat OD.LAW_STATE = 4 ∧ s.secTicks OD.BS_HOLD_MAX < s.holdTicks then (s.note Ev.BS_FAILED 0).lawStop Ev.BS_FAILED false else s

/-- BS_FAILED. -/
def execBsFailed (s : State) : Host.Outcome State Fault Refusal := .next s.bsFailed

/-- The inrush hold of ENERGISE and the arrival of its ramp (R151). -/
def State.energiseStep (s : State) : State :=
  let l := s.law
  let i := (l.icPh.map fabs).foldl fmax 0
  let lim := s.f32 OD.I_BS_MAX
  let s :=
    if s.sup.holdOn then
      (if flt i (fmul (fq 9 10) lim) then
        ({ s with sup := { s.sup with holdOn := false, holdAcc := s.holdTicks } }).note Ev.BS_HOLD 0 false else s)
    else if flt lim i then ({ s with sup := { s.sup with holdOn := true, holdAt := s.now } }).note Ev.BS_HOLD 0 true
    else s
  if s.sup.holdOn = false ∧ l.e = l.eTarget then
    if s.sup.energiseDead then (s.mapLaws fun l => { l with ramps := vset l.ramps 2 l.e }).setLaw 6 5
    else s.setLaw 5 5
  else s

/-! ### Pre-synchronisation (R152, R153) -/

/-- Degrees between the bus and the capacitor voltage. -/
def Law.dTheta (l : Law) : F32 := fwrap (fsub l.thB l.capPos.ang)

/-- The windows of PRESYNC hold in this frame. -/
def State.windowsHold (s : State) : Bool :=
  let l := s.law
  let f := fofInt s.fnom
  if s.gatedSync = false then
    fle (fmul (fabs (fsub l.omegaB (l.r 3))) f) (s.f32 OD.SYNC_F_WIN) && fle (fabs (fsub l.vMag (l.r 2))) (s.f32 OD.SYNC_V_WIN)
  else
    l.thBValid && fle (fabs l.dTheta) (radOfDeg (s.f32 OD.SYNC_THETA_WIN)) && fle (fabs (fsub l.capPos.mag l.busMag)) (s.f32 OD.SYNC_V_WIN) &&
    fle (fmul (fabs (fsub l.omega l.omegaB)) f) (s.f32 OD.SYNC_F_WIN)

/-- The run of held windows goes on; a window left clears SYNC_OK (R153). -/
def State.watchWindows (s : State) : State :=
  if s.windowsHold then { s with sup := { s.sup with syncSince := some (s.sup.syncSince.getD s.now) } }
  else
    let s := { s with sup := { s.sup with syncSince := none } }
    if s.flag OD.SYNC_OK then (s.putN OD.SYNC_OK 0).note Ev.SYNC_OK 0x101 false else s

/-- SYNC_OK (R152, R153): the windows have held for T_SYNC; in direct mode the gates are released from the tracked state. -/
def State.syncOk (s : State) : State :=
  match s.sup.syncSince with
  | some t =>
    if s.nat OD.LAW_STATE = 5 ∧ s.flag OD.SYNC_OK = false ∧ s.past t (ms (s.nat OD.T_SYNC)) = true then
      let s := (s.putN OD.SYNC_OK 1).note Ev.SYNC_OK 1
      if s.gatedSync = false then
        let s := s.releaseGates 6 6
        s.withdraw 4
      else { s with sup := { s.sup with closeFrom := s.now } }
    else s
  | none => if s.flag OD.SYNC_OK then (s.putN OD.SYNC_OK 0).note Ev.SYNC_OK 0x101 false else s

/-- SYNC_OK. -/
def execSyncOk (s : State) : Host.Outcome State Fault Refusal := .next s.syncOk

/-- SYNC_OK_WITHDRAWN (R153): BRK_CLOSED has not risen within CLOSE_WAIT_MAX; the window hold restarts. -/
def State.syncOkWithdrawn (s : State) : State :=
  if s.nat OD.LAW_STATE = 5 ∧ s.flag OD.SYNC_OK = true ∧ s.past s.sup.closeFrom (ms (s.nat OD.CLOSE_WAIT_MAX)) = true then s.withdraw 2 else s

/-- SYNC_OK_WITHDRAWN. -/
def execSyncOkWithdrawn (s : State) : Host.Outcome State Fault Refusal := .next s.syncOkWithdrawn

/-- The law turns the gates off without a protective stop: the GATE_OFF sequence, ending in OFF (R198). -/
def State.gatesOff (s : State) : State := s.stopOutputs false false 0 3

/-- BRK_CLOSED acted on at a frame boundary (R154), in breaker mode: every rise re-initialises the P and Q slots (R146). -/
def State.brkAct (s : State) : State :=
  match s.sup.brkPending with
  | none => s
  | some b =>
    let was := s.sup.brkActed
    let s := { s with sup := { s.sup with brkPending := none, brkActed := b } }
    let st := s.nat OD.LAW_STATE
    if s.nat OD.BS_TOPO = 0 ∨ b = was then s
    else if b then
      let s := s.mapLaws fun l => { l with ramps := vset (vset l.ramps 0 l.pf) 1 l.qf }
      let ok := s.flag OD.SYNC_OK
      let dead := s.flag OD.DEAD_CLOSE_OK
      if st = 3 ∧ dead = true then (s.withdraw 4).enterEnergise true 7
      else if st = 5 ∧ ok = true ∧ s.gatedSync = true then (s.setLaw 6 7).withdraw 4
      else
        let s := s.note Ev.SYNC_UNAUTH_CLOSE 0
        if st = 4 ∨ (st = 5 ∧ s.gatedSync = true) then (s.setLaw 6 7).withdraw 4
        else if st = 1 ∨ st = 2 ∨ st = 3 then
          let s := (s.withdraw 4).setLaw 5 7
          { s with sup := { s.sup with freeSync := true } }
        else s
    else if st = 6 then
      (if s.busClass = 2 then (s.mapLaws fun l => { l with ramps := vset (vset l.ramps 0 l.pf) 1 l.qf }).setLaw 5 8
       else
        let s := { s with sup := { s.sup with deadSince := none, liveSince := none, deadNoted := false } }
        (s.setLaw 1 8).gatesOff)
    else s

/-! ### STOPPING (R155) -/

/-- The quiet run of STOPPING goes on. -/
def State.watchQuiet (s : State) : State :=
  let q := flt (fabs s.law.pf) (fq 2 100) && flt (fabs s.law.qf) (fq 2 100)
  { s with sup := { s.sup with quietSince := if q then some (s.sup.quietSince.getD s.now) else none } }

/-- STOP_COMPLETE (R155). -/
def State.stopComplete (s : State) : State :=
  let quiet := match s.sup.quietSince with
    | some t => s.past t (ms 20)
    | none => false
  if s.nat OD.LAW_STATE = 7 ∧ (quiet || s.past s.sup.stopFrom (ms (s.nat OD.STOP_TIME))) = true then (s.setLaw 0 11).gatesOff else s

/-- STOP_COMPLETE. -/
def execStopComplete (s : State) : Host.Outcome State Fault Refusal := .next s.stopComplete

/-! ### Ride-through timers and protection (R163, R164) -/

/-- RT_STATE and the timer entries follow the timers. -/
def State.refreshRt (s : State) : State :=
  let u := s.sup.uv.since
  let o := s.sup.ov.since
  let t (x : Option Nat) : F32 := match x with
    | some a => secOfTicks ((s.now : Int) - a)
    | none => 0
  ((s.putN OD.RT_STATE ((if u.isSome then 1 else 0) + (if o.isSome then 2 else 0))).putF OD.RT_TIME_UV (t u)).putF OD.RT_TIME_OV (t o)

/-- One timer at a commit: it starts beyond the entry level, and its quantity's run on the normal side goes on (R163). -/
def RtTimer.step (r : RtTimer) (now : Nat) (beyond : Bool) : RtTimer :=
  if beyond then { since := some (r.since.getD now), normal := none }
  else { since := r.since, normal := if r.since.isSome then some (r.normal.getD now) else none }

/-- The ride-through timers at a commit and the curve stops, by the bus signals of `l`; held at zero outside RUN and STOPPING (R163). -/
def State.rideThrough (s : State) (l : Law) : State :=
  let st := s.nat OD.LAW_STATE
  if st = 6 ∨ st = 7 then
    let high := l.rms.foldl fmax 0
    let u := s.sup.uv.step s.now (flt l.busMag (s.f32 OD.UV_ENTRY))
    let o := s.sup.ov.step s.now (flt (s.f32 OD.OV_ENTRY) high)
    let s0 := s
    let s := { s with sup := { s.sup with uv := u, ov := o } }
    let s := if s0.sup.uv.since.isNone && u.since.isSome then s.note Ev.RT_ENTERED 0 else s
    let s := if s0.sup.ov.since.isNone && o.since.isSome then s.note Ev.RT_ENTERED 0 else s
    let s := s.refreshRt
    let out (x : Option Nat) (f : F32 → Bool) : Bool := match x with
      | some a => f (secOfTicks ((s.now : Int) - a))
      | none => false
    if out u.since (fun t => flt l.busMag (interp s.uvPoint t)) then (s.note Ev.RT_EXCEEDED 1).lawStop Ev.RT_EXCEEDED s.acStop
    else if out o.since (fun t => flt (interp s.ovPoint t) high) then (s.note Ev.RT_EXCEEDED 2).lawStop Ev.RT_EXCEEDED s.acStop
    else s
  else s.rtHold

/-- RT_TIMER_RESET (R163): its quantity has stayed on the normal side for RT_RESET. -/
def State.rtTimerReset (s : State) (isOver : Bool) : State :=
  let r := if isOver then s.sup.ov else s.sup.uv
  match r.normal with
  | some t =>
    if s.past t (s.secTicks OD.RT_RESET) then
      let s := if isOver then { s with sup := { s.sup with ov := {} } } else { s with sup := { s.sup with uv := {} } }
      s.refreshRt.note Ev.RT_ENTERED 0 false
    else s
  | none => s

/-- RT_TIMER_RESET. -/
def execRtTimerReset (isOver : Bool) (s : State) : Host.Outcome State Fault Refusal := .next (s.rtTimerReset isOver)

/-- The first phase of a list above a limit. -/
def firstAbove (xs : List F32) (lim : F32) : Option Nat := (List.range xs.length).find? fun k => flt lim (fabs (at0 xs k))

/-- A breach of Table 7.2: recorded with its row and place, and stopped. -/
def State.protTrip (s : State) (row place : Nat) (clamp : Bool) : State := (s.note Ev.PROT_TRIP (row * 256 + place)).lawStop Ev.PROT_TRIP clamp

/-- The roles whose channel delivered an actual sample with the frame's block (R105). -/
def State.actualRoles (s : State) (b : FpBlock) : List Nat :=
  (List.range 22).filter fun r => match s.roleChan r with
    | some n => (b.nibbles.getD n 0).testBit 3
    | none => false

/-- The bus signals of the frame rest on actual samples alone (R105, R127): those of V_BUS, of V_CAP, or of the bridge's v̂, which needs i_c. -/
def State.busActual (s : State) (act : List Nat) : Bool :=
  let all (a b c : Nat) : Bool := act.contains a && act.contains b && act.contains c
  if s.hasRole 10 && !s.roleLost 10 12 then all 10 11 12 else if s.sup.bridging then all 1 2 3 else all 4 5 6

/-- The thresholds without delay, on the commit's actual samples, in every state but OFF and FAULT (R164). A channel without an actual sample in the
block shows no breach. -/
def State.protNow (s : State) (x : List F32) (act : List Nat) : State :=
  let st := s.nat OD.LAW_STATE
  let seen (r : Nat) : F32 := if act.contains r then at0 x r else 0
  if st = 0 ∨ st = 8 then s
  else
    match firstAbove [seen 1, seen 2, seen 3] (s.f32 OD.I_TRIP) with
    | some p => s.protTrip 1 p false
    | none =>
      match (if s.isMmc then firstAbove ((List.range 6).map fun k => seen (16 + k)) (s.f32 OD.I_ARM_TRIP) else none) with
      | some k => s.protTrip 2 k false
      | none => if flt (s.f32 OD.VDC_OV) (seen 13) then s.protTrip 3 0 false else s

/-- Since when each delayed threshold is breached (Table 7.2), by the bus signals of `l`; a frame without the actual samples of a threshold leaves its
run as it is (log 152, DEDUCED, unsafe). -/
def State.protWatch (s : State) (l : Law) (x : List F32) (act : List Nat) : State :=
  let st := s.nat OD.LAW_STATE
  let on := decide (st ≠ 0) && decide (st ≠ 8)
  let bus := s.busActual act
  let keep (known : Bool) (old : Option Nat) (b : Bool) : Option Nat :=
    if !on then none else if !known then old else if b then some (old.getD s.now) else none
  { s with sup := { s.sup with
      vdcUvSince := keep (act.contains 13) s.sup.vdcUvSince (s.gatedState st && flt (at0 x 13) (s.f32 OD.VDC_UV))
      freqSince := keep bus s.sup.freqSince (l.thBValid && (flt l.omegaB (s.f32 OD.F_TRIP_LO) || flt (s.f32 OD.F_TRIP_HI) l.omegaB))
      rocofSince := keep bus s.sup.rocofSince (!fisZero (s.f32 OD.ROCOF_TRIP) && flt (s.f32 OD.ROCOF_TRIP) (fabs l.rocof)) } }

/-- PROT_DELAY_EXPIRED (R164): a delayed threshold has been breached for its delay: 0 DC undervoltage, 1 frequency, 2 RoCoF. -/
def State.protDelay (s : State) (row : Nat) : State :=
  let isOver (x : Option Nat) (d : Nat) : Bool := match x with
    | some t => s.past t (ms d)
    | none => false
  if s.nat OD.LAW_STATE = 0 ∨ s.nat OD.LAW_STATE = 8 then s
  else if row = 0 then (if isOver s.sup.vdcUvSince (s.nat OD.VDC_UV_TIME) then s.protTrip 4 0 false else s)
  else if row = 1 then (if isOver s.sup.freqSince (s.nat OD.F_TRIP_TIME) then s.protTrip 7 0 s.acStop else s)
  else if isOver s.sup.rocofSince (s.nat OD.ROCOF_TIME) then s.protTrip 8 0 s.acStop
  else s

/-- PROT_DELAY_EXPIRED. -/
def execProtDelayExpired (row : Fin 3) (s : State) : Host.Outcome State Fault Refusal := .next (s.protDelay row.val)

/-! ### Limiter exit and rotor release (R171, R176) -/

/-- LIM_EXIT (R171): LIM_EXIT_FRAMES quiet frames; dR_f and dX_f are zero and the rotor clamp is released. A commit makes the exit itself; the row
finds it outstanding where the number of frames has been lowered since. -/
def State.limExit (s : State) : State :=
  if s.law.limActive = true ∧ s.nat OD.LIM_EXIT_FRAMES ≤ s.law.limQuiet ∧ s.sup.degFrom = none then
    let s := s.mapLaws fun l => l.limiterExit s
    ((s.putN OD.LIM_ACTIVE 0).putF OD.ZF_MAG 0).note Ev.LIM_ACTIVE 0 false
  else s

/-- LIM_EXIT. -/
def execLimExit (s : State) : Host.Outcome State Fault Refusal := .next s.limExit

/-- ROTOR_RELEASE_END (R176): HOLD_RELEASE has passed and the clamp is fully released. -/
def State.rotorReleaseEnd (s : State) : State :=
  match s.law.releaseAt with
  | some t =>
    if s.past t (s.secTicks OD.HOLD_RELEASE) then
      let s := s.mapLaws fun l => { l with releaseAt := none, hold := if l.limActive then l.hold else 0 }
      if s.nat OD.HOLD_STATE = 3 then (s.putN OD.HOLD_STATE 0).note Ev.ROTOR_HOLD 0 else s
    else s
  | none => s

/-- ROTOR_RELEASE_END. -/
def execRotorReleaseEnd (s : State) : Host.Outcome State Fault Refusal := .next s.rotorReleaseEnd

/-! ### Feedback loss, bridging and degraded stop (R180–R184) -/

/-- The loss class of a role: 0 current, 1 voltage, 2 DC link (R180). -/
def lossClass (r : Nat) : Nat :=
  if (1 ≤ r ∧ r ≤ 3) ∨ (7 ≤ r ∧ r ≤ 9) ∨ 16 ≤ r then 0 else if r ≤ 12 then 1 else 2

/-- A degraded stop (R184): FAULT at once; the limits ramp to zero, or GATE_OFF at once with DEG_STOP_TIME = 0. -/
def State.degradedStop (s : State) : State :=
  let s := (s.withdraw 4).note Ev.DEGRADED_STOP 0
  if s.nat OD.DEG_STOP_TIME = 0 then s.lawStop Ev.DEGRADED_STOP false
  else
    let s := { s with sup := { s.sup with degFrom := some s.now } }
    ((s.putN OD.FAULT_CAUSE Ev.DEGRADED_STOP).setLaw 8 12).ldTripOff

/-- A degraded stop ends in GATE_OFF in the topology's turn-off order, and the bridge with it (R184). -/
def State.degradedOff (s : State) : State :=
  (({ s with sup := { s.sup with degFrom := none } }).endBridge).stopOutputs false false 5 4

/-- DEGRADED_STOP_END (R184): DEG_STOP_TIME has passed, or a frame since the stop began has found the limit at zero. -/
def State.degradedStopEnd (s : State) : State :=
  match s.sup.degFrom with
  | some t =>
    if s.past t (ms (s.nat OD.DEG_STOP_TIME)) || (decide (t < s.frame.commitAt) && fisZero s.law.l0) then s.degradedOff else s
  | none => s

/-- DEGRADED_STOP_END. -/
def execDegradedStopEnd (s : State) : Host.Outcome State Fault Refusal := .next s.degradedStopEnd

/-- The observer starts bridging, continuing an earlier episode that returned less than 1 s ago; a further loss while it bridges begins nothing
(R183, R187). -/
def State.startBridge (s : State) : State :=
  let again := match s.sup.returnedAt with
    | some t => decide (s.now < t + sec 1)
    | none => false
  let used := if s.sup.bridging then s.sup.bridgeUsed else if again then s.sup.bridgeUsed else 0
  let begun := !s.sup.bridging || s.sup.blend.isSome
  let s := { s with sup := { s.sup with bridgeFrom := if s.sup.bridging then s.sup.bridgeFrom else s.now, bridgeUsed := used, bridging := true, blend := none } }
  let s := s.putN OD.OBS_STATE 2
  if begun then s.note Ev.OBS_BRIDGE 1 else s

/-- The response to a lost channel (Table 7.4); V_BUS lost together with V_CAP in a gated state takes the V_CAP response (Table 7.6). -/
def State.lossResponse (s : State) (role : Nat) : State :=
  let st := s.nat OD.LAW_STATE
  let gated := s.gatedState st
  let cls := lossClass role
  if st = 0 then s
  else if st = 8 then
    (if s.sup.degFrom.isSome && decide (cls = 0) then s.degradedOff else s)
  else if cls = 0 ∨ cls = 2 then s.lawStop Ev.FB_LOST false
  else if role < 10 then
    (if gated then
      (if s.flag OD.OBS_ENABLE && decide (s.nat OD.T_BRIDGE ≠ 0) then s.startBridge else s.degradedStop)
     else s.lawStop Ev.FB_LOST false)
  else if s.nat OD.BS_TOPO = 0 ∨ (st = 6 ∧ s.sup.brkActed = true) then s
  else if gated then (if s.roleLost 4 6 then s else s.degradedStop)
  else s.lawStop Ev.FB_LOST false

/-- Which check a channel fails: 1 freshness, 2 stuck, 3 range, 0 none (R180). -/
def State.fbCheck (s : State) (n : Nat) : Nat :=
  let c := lossClass (s.nat (OD.CH_ROLE n))
  let f := vget {} s.sup.fb n
  if s.nat (OD.FRESH_MAX c) < f.notFresh then 1
  else if f.stuck then 2
  else if s.nat (OD.RANGE_FRAMES c) ≤ f.range then 3
  else 0

/-- A law channel that fails a check and is not lost yet, with the check (R180). -/
def State.fbDue (s : State) (n : Nat) : Option (Nat × Nat) :=
  if s.nat (OD.CH_ROLE n) ≠ 0 ∧ s.fbCheck n ≠ 0 ∧ s.bit OD.FB_LOST_MASK n = false ∧ s.nat OD.LAW_STATE ≠ 0 then some (n, s.fbCheck n) else none

/-- Channels are lost by their checks (R180): masked, counted and recorded, and then answered each by its class. -/
def State.fbLoses (s : State) (xs : List (Nat × Nat)) : State :=
  let s := xs.foldl (init := s) fun s x =>
    let s := ((s.putBit OD.FB_LOST_MASK x.1 true).putN OD.FB_LAST_CAUSE (x.2 * 256 + x.1)).bump OD.FB_LOSS_COUNT
    s.note Ev.FB_LOST (x.2 * 4096 + lossClass (s.nat (OD.CH_ROLE x.1)) * 256 + x.1)
  xs.foldl (init := s) fun s x => s.lossResponse (s.nat (OD.CH_ROLE x.1))

/-- FB_LOST (R180): a law channel past a check is lost. -/
def State.fbLost (s : State) (n : Nat) : State := s.fbLoses (s.fbDue n).toList

/-- FB_LOST. -/
def execFbLost (c : Fin 32) (s : State) : Host.Outcome State Fault Refusal := .next (s.fbLost c.val)

/-- FB_RESTORED (R183): 64 frames fresh, not stuck and in range; the return blend starts once no V_CAP channel is lost, except in a degraded stop,
which keeps the bridge (R184). -/
def State.fbRestored (s : State) (n : Nat) : State :=
  let f := vget {} s.sup.fb n
  if s.bit OD.FB_LOST_MASK n = true ∧ 64 ≤ f.good then
    let s := (s.putBit OD.FB_LOST_MASK n false).note Ev.FB_RESTORED n
    if s.sup.bridging && s.sup.blend.isNone && s.sup.degFrom.isNone && !s.roleLost 4 6 then
      (({ s with sup := { s.sup with blend := some 0 } }).putN OD.OBS_STATE 3).note Ev.OBS_BRIDGE 2
    else s
  else s

/-- FB_RESTORED. -/
def execFbRestored (c : Fin 32) (s : State) : Host.Outcome State Fault Refusal := .next (s.fbRestored c.val)

/-- The bridge time used so far, in ticks (R183). -/
def State.bridgeTicks (s : State) : Nat := s.sup.bridgeUsed + (if s.sup.bridging then s.now - s.sup.bridgeFrom else 0)

/-- OBS_RETURN_DONE (R183): the 64-frame blend is over and tracking resumes. -/
def State.obsReturnDone (s : State) : State :=
  match s.sup.blend with
  | some k =>
    if 64 ≤ k ∧ s.sup.degFrom = none then
      let used := s.bridgeTicks
      ((({ s with sup := { s.sup with bridging := false, blend := none, bridgeUsed := used, returnedAt := some s.now } }).putN OD.OBS_STATE 1).putN
        OD.BRIDGE_LEFT 0).note Ev.OBS_BRIDGE 3
    else s
  | none => s

/-- OBS_RETURN_DONE. -/
def execObsReturnDone (s : State) : Host.Outcome State Fault Refusal := .next s.obsReturnDone

/-- OBS_BRIDGE_EXPIRY (R183): T_BRIDGE has passed; degraded stop. -/
def State.obsBridgeExpiry (s : State) : State :=
  if s.sup.bridging = true ∧ s.sup.blend = none ∧ s.sup.degFrom = none ∧ s.gatedState (s.nat OD.LAW_STATE) = true ∧ ms (s.nat OD.T_BRIDGE) ≤ s.bridgeTicks then
    ((s.putN OD.BRIDGE_LEFT 0).note Ev.OBS_BRIDGE 4).degradedStop
  else s

/-- OBS_BRIDGE_EXPIRY. -/
def execObsBridgeExpiry (s : State) : Host.Outcome State Fault Refusal := .next s.obsBridgeExpiry

/-- The variance of a list. -/
def variance (xs : List F32) : F32 :=
  let m := fmean xs
  fmean (xs.map fun x => let d := fsub x m; fmul d d)

/-- The stuck check of a law channel (R180): over STUCK_FRAMES samples and the outputs committed one frame earlier, gates on. -/
def State.stuckNow (s : State) (role : Nat) : Bool :=
  let c := lossClass role
  let k := s.nat (OD.STUCK_FRAMES c)
  let h := s.law.hist
  if s.gatedState (s.nat OD.LAW_STATE) && decide (k < h.length) then
    let xs := (h.take k).map fun e => at0 e.x role
    let us := ((h.drop 1).take k).map fun e =>
      if c = 2 then e.pf else at0 e.u (if 16 ≤ role then (role - 16) / 2 else (role - 1) % 3)
    flt (variance xs) (s.f32 (OD.VAR_FLOOR c)) && fle (s.f32 (OD.MOVE_FLOOR c)) (variance us)
  else false

/-- The counts of one law channel at a commit, from its sample and nibble (Table 4.3, R180). -/
def State.fbCount (s : State) (n : Nat) (x : F32) (nib : Nat) : State :=
  let role := s.nat (OD.CH_ROLE n)
  if role = 0 ∨ s.nat OD.LAW_STATE = 0 then s
  else
    let c := lossClass role
    let f := vget {} s.sup.fb n
    let fresh := nib.testBit 3 && nib.testBit 2
    let bad := nib.testBit 1 || nib.testBit 0 || flt (s.f32 (OD.RANGE_MAX c)) (fabs x)
    let stuck := s.stuckNow role
    let f' : FbChan := { f with notFresh := if fresh then 0 else f.notFresh + 1, range := if bad then f.range + 1 else 0
                                good := if fresh && !bad && !stuck then f.good + 1 else 0, stuck := stuck }
    let s := { s with sup := { s.sup with fb := vset s.sup.fb n f' } }
    s.putBit OD.FB_BRIDGED_MASK n (!fresh && decide (f'.notFresh ≤ s.nat (OD.FRESH_MAX c)))

/-- The feedback checks of a commit (R180): every channel is counted; one that fails a check is lost, and one that slips had carried past FRESH_MAX
is lost in this commit, fresh or not. -/
def State.fbCommit (s : State) (b : FpBlock) : State :=
  let late := (List.range 32).filterMap fun n => if s.fbCheck n = 1 then s.fbDue n else none
  let s := (List.range 32).foldl (init := s) fun s n => s.fbCount n (at0 b.samples n) (b.nibbles.getD n 0)
  let now' := (List.range 32).filterMap fun n => (late.find? fun x => decide (x.1 = n)).orElse fun _ => s.fbDue n
  s.fbLoses now'

/-- A missing block leaves every law channel not fresh (Table 5.4, R180). -/
def State.fbMissing (s : State) : State :=
  (List.range 32).foldl (init := s) fun s n =>
    if s.nat (OD.CH_ROLE n) = 0 ∨ s.nat OD.LAW_STATE = 0 then s
    else
      let f := vget {} s.sup.fb n
      { s with sup := { s.sup with fb := vset s.sup.fb n { f with notFresh := f.notFresh + 1, good := 0 } } }

/-! ### What a commit publishes -/

/-- An event whose condition changed is recorded, set or cleared. -/
def State.edge (s : State) (was is' : Bool) (code detail : Nat) : State := if was = is' then s else s.note code detail is'

/-- Hundredths of a degree of an angle as I16. -/
def centiDeg (x : F32) : Nat := (fnearest (fdiv (fmul x (fofInt 18000)) fpi) % 65536).toNat

/-- The entries and records that follow from the serving lane's commit (Table 6.8, Table 7.7; R130–R132, R136, R140, R142, R171, R175,
R178). -/
def State.publish (s : State) (old l : Law) : State :=
  let s := ((((s.putF OD.OMEGA l.omega).putF OD.THETA l.theta).putF OD.P_E l.pf).putF OD.Q_E l.qf).putF OD.OMEGA_BUS l.omegaB
  let s := ((((s.putF OD.ROCOF l.rocof).putF OD.P_ORDER l.pOrder).putF OD.FR_DP l.dpr).putF OD.E_NOW l.e).putF OD.V_MAG l.vMag
  let s := s.putN OD.LIMIT_FLAGS ((if l.thBValid && l.thBSeeded then 16 else 0) + (if l.eLim then 8 else 0) + (if l.frLim then 4 else 0) +
    (if l.pLim ≠ 0 then 2 else 0) + (if l.omegaLim then 1 else 0))
  let s := (((s.putF OD.P_FF l.pff).putF OD.W_DC l.w).putF OD.CH_ENERGY l.eCh).putF OD.CH_DUTY l.duty
  let s := (List.range 6).foldl (init := s) fun s k => s.putF (OD.ARM_ENERGY k) (vget 0 l.wk k)
  let s := (s.putN OD.ARM_CLAMP l.armClamp).putF OD.SHARE_DEV l.shareDev
  let s := (List.range 12).foldl (init := s) fun s k => s.putF (OD.RAMP_STATE k) (l.r k)
  let s := s.putN OD.RAMP_ARRIVED ((List.range 12).foldl (fun m k => if feq (l.r k) (l.target s (s.nat OD.LAW_STATE) k) then m + 2 ^ k else m) 0)
  let s := (List.range 3).foldl (init := s) fun s t => (s.putN (OD.GT_SEG t) (vget 0 l.seg t)).putF (OD.GT_GAIN t) (l.g t)
  let s := s.putN OD.HARM_ACTIVE ((List.range 8).foldl (fun m h =>
    if s.nat (OD.HARM_ORDER h) ≠ 0 ∧ l.harmOut.testBit h = false ∧ s.frame.shed.contains 2 = false then m + 2 ^ h else m) 0)
  let s := (((s.putB OD.LIM_ACTIVE l.limActive).putF OD.LIM_L0 l.l0).putF OD.OL_TIME l.tauO).putF OD.ZF_MAG l.dZ
  let s := (((s.putN OD.H_F_NOW l.horizon).putN OD.LIM_CLIP l.clip).putF OD.I_LIM_MAG l.ilim.mag).putF OD.I_NEG_NOW l.ineg.mag
  let s := ((s.putF OD.DELTA_NOW (fdiv (fmul l.delta (fofInt 180)) fpi)).putN OD.HOLD_STATE l.hold).putF OD.OBS_RESID l.obsResid
  let s := s.putF OD.NP_DEV (fsub l.vdcUp l.vdcLo)
  let s := s.putN OD.BRIDGE_LEFT (if s.sup.bridging then s.nat OD.T_BRIDGE - s.bridgeTicks / 625000 else 0)
  let s := if s.flag OD.OBS_ENABLE then (if s.nat OD.OBS_STATE = 0 then s.putN OD.OBS_STATE 1 else s) else s.putN OD.OBS_STATE 0
  let s := s.edge old.omegaLim l.omegaLim Ev.ROTOR_LIMIT 0
  let s := s.edge (decide (old.pLim ≠ 0)) (decide (l.pLim ≠ 0)) Ev.POWER_LIMIT 0
  let s := s.edge old.frLim l.frLim Ev.FR_LIMIT 0
  let s := (List.range 8).foldl (init := s) fun s h => s.edge (old.harmOut.testBit h) (l.harmOut.testBit h) Ev.HARMONIC_INACTIVE h
  let s := s.edge old.chExhausted l.chExhausted Ev.CHOPPER_EXHAUSTED 0
  let s := (List.range 6).foldl (init := s) fun s k => s.edge (old.armClamp.testBit k) (l.armClamp.testBit k) Ev.ARM_CLAMP k
  let s := if l.limActive && !old.limActive then s.bump OD.LIM_ENTRIES else s
  let s := s.edge old.limActive l.limActive Ev.LIM_ACTIVE 0
  let s := if old.hold ≠ l.hold then s.note Ev.ROTOR_HOLD 0 else s
  let s := if l.thBValid && flt (radOfDeg (s.f32 OD.JUMP_DET)) (fabs l.jump) then s.note Ev.PHASE_JUMP (centiDeg l.jump) else s
  { s with sig := { s.sig with law := Vector.ofFn fun k : Fin 12 =>
      (([l.uOut.a, l.uOut.b, l.u0, l.iref.a, l.iref.b, l.ilim.a, l.ilim.b, l.vref.a, l.vref.b, l.eE, l.dRf, l.dXf] : List F32).getD k.val 0) } }

/-- The mode decisions of a commit (step 14 of Table 6.3), in the order bus state, breaker windows, ramps, stops (Table 6.7); protection
acts over everything else (Table 7.6). `m`: the measurements of the frame's samples; `act`: the roles with an actual sample. `senseOk`: every lane in
use is in P0, for which SENSE waits (R233). A breach without delay left, or of delay 0, is acted on here (R164). (Log 95, DEDUCED, unsafe.) -/
def State.supervise (s : State) (m : Law) (x : List F32) (act : List Nat) (settled senseOk : Bool) : State :=
  let s := s.watchBus m settled
  let s := match s.nat OD.LAW_STATE with
    | 1 => if senseOk then s.sense else s
    | 2 => s.putN OD.BUS_STATE s.busClass
    | 3 => if s.stillDead then s else (s.withdraw 3).enterEnergise false 10
    | 4 => s.energiseStep
    | 5 => s.watchWindows
    | 7 => s.watchQuiet
    | _ => s
  let s := match s.sup.blend with
    | some k => { s with sup := { s.sup with blend := some (k + 1) } }
    | none => s
  let s := s.protNow x act
  let s := if s.busActual act then s.rideThrough m else s
  (((s.protWatch m x act).protDelay 0).protDelay 1).protDelay 2

end Sys2Proof.Machine
end

