-- ==== Sys2Proof/Machine/Link.lean ====
section
/-!
DEFINITION. Machine/Link.lean: chapter 09, the lanes of the Tabras link: configuration and loads, what a lane sends, parcels and locks, training,
retraining and power states of both its ends. Downlink bursts are in Burst.lean, endpoints in Endpoint.lean, uplinks in Uplink.lean.
-/
namespace Sys2Proof.Machine
open Sys2Proof

/-! ### State of lanes and endpoints -/

/-- A signed field of `width` bits. -/
def signedField (n width : Nat) : Int := if 2 * n < 2 ^ width then (n : Int) else (n : Int) - 2 ^ width

/-- One serial lane. -/
def State.ser (s : State) (l : Nat) : SerLane := vget {} s.link.lanes l
/-- Replace a serial lane. -/
def State.setSer (s : State) (l : Nat) (x : SerLane) : State := { s with link := { s.link with lanes := vset s.link.lanes l x } }
/-- What the module knows of an endpoint. -/
def State.view (s : State) (e : Nat) : EpView := vget {} s.link.views e
/-- Replace it. -/
def State.setView (s : State) (e : Nat) (x : EpView) : State := { s with link := { s.link with views := vset s.link.views e x } }
/-- An endpoint. -/
def State.ep (s : State) (e : Nat) : Endpoint := vget {} s.link.eps e
/-- Replace it. -/
def State.setEp (s : State) (e : Nat) (x : Endpoint) : State := { s with link := { s.link with eps := vset s.link.eps e x } }
/-- A port of an endpoint. -/
def Endpoint.port (x : Endpoint) (k : Nat) : EpPort := vget {} x.ports k
/-- Replace it. -/
def Endpoint.setPort (x : Endpoint) (k : Nat) (p : EpPort) : Endpoint := { x with ports := vset x.ports k p }

/-- The receiver a command names. -/
def State.rx (s : State) : RxPort → Rx
  | .lane l => (s.ser l.val).rx
  | .endpoint e k => ((s.ep e.val).port k.val).rx

/-- Replace it. -/
def State.setRx (s : State) (r : RxPort) (x : Rx) : State :=
  match r with
  | .lane l => s.setSer l.val { s.ser l.val with rx := x }
  | .endpoint e k => s.setEp e.val ((s.ep e.val).setPort k.val { (s.ep e.val).port k.val with rx := x })

/-! ### Configuration, loads and bounds (R252–R254, R116) -/

/-- The remote pairs of an endpoint. -/
def State.remotePairs (s : State) (e : Nat) : List Nat :=
  (List.range 24).filter fun p => decide (s.nat (OD.PAIR_USE p) = 2) && decide (s.nat (OD.PAIR_ENDPOINT p) = e)

/-- The arms of an endpoint. -/
def State.epArms (s : State) (e : Nat) : List Nat := (List.range 6).filter fun k => s.bit (OD.EP_ARMS e) k

/-- The stacks an endpoint reports. -/
def State.epStacks (s : State) (e : Nat) : List Nat := (List.range 8).filter fun k => s.bit (OD.EP_STACKS e) k

/-- An endpoint is in use (R252). -/
def State.epUsed (s : State) (e : Nat) : Bool :=
  !(s.remotePairs e).isEmpty || s.flag (OD.EP_ARMS e) || s.flag (OD.EP_STACKS e)

/-- The endpoints in use. -/
def State.epsUsed (s : State) : List Nat := (List.range 16).filter fun e => s.epUsed e

/-- The endpoint in use on a serial lane. -/
def State.laneEp (s : State) (l : Nat) : Option Nat := s.epsUsed.find? fun e => decide (s.nat (OD.EP_LANE e) = l)

/-- An arm is configured: every one under TOPOLOGY 3 or 4, none otherwise (R115). -/
def State.armConfigured (s : State) : Bool := s.isMmc

/-- LINK_CONFIG_STATUS: the problem of lowest number, then of lowest place (Table 9.21). -/
def State.linkConfig (s : State) : Nat :=
  let served (k : Nat) : Nat := ((List.range 16).filter fun e => s.bit (OD.EP_ARMS e) k).length
  let epStacks (k : Nat) : Nat := ((List.range 16).filter fun e => s.bit (OD.EP_STACKS e) k).length
  let p1 := if s.armConfigured then (List.range 6).filter fun k => decide (served k = 0) else []
  let p2 := ((List.range 6).filter fun k => decide (1 < served k)) ++ ((List.range 8).filter fun k => decide (1 < epStacks k))
  let p3 := s.epsUsed.filter fun e => decide (15 < s.nat (OD.EP_LANE e))
  let p4 := s.epsUsed.filter fun e => s.epsUsed.any fun f => decide (f < e) && decide (s.nat (OD.EP_LANE f) = s.nat (OD.EP_LANE e)) &&
    decide (s.nat (OD.EP_LANE e) ≤ 15)
  match leastOf p1, leastOf p2, leastOf p3, leastOf p4 with
  | some k, _, _, _ => 0x100 + k
  | none, some k, _, _ => 0x200 + k
  | none, none, some e, _ => 0x300 + e
  | none, none, none, some e => 0x400 + e
  | none, none, none, none => 0

/-- T_B of a serial lane. -/
def State.laneTb (s : State) (l : Nat) : Nat := bundleTenths (s.nat (OD.LANE_RATE l))

/-- Bits of one frame at a rate, F × r: a tick carries 10, 16.5 or 20 bits. -/
def frameBits (fTicks rate : Nat) : Nat := fTicks * (if rate = 0 then 100 else if rate = 1 then 165 else 200) / 10

/-- C_p = floor(floor(F × r / 66) × 4 / 9) (R116). -/
def parcelCapacity (fTicks rate : Nat) : Nat := frameBits fTicks rate / 66 * 4 / 9

/-- floor(0.8 × C_p). -/
def parcelLimit (fTicks rate : Nat) : Nat := parcelCapacity fTicks rate * 4 / 5

/-- The downlink load of an endpoint (Table 9.18). -/
def State.loadDl (s : State) (e : Nat) : Nat :=
  3 + (s.epArms e).length * cdiv (s.nat OD.N_SM) 48 +
  ((s.remotePairs e).foldl (fun n p => n + cdiv (4 * s.fTicks) (s.carPeriod (s.nat (OD.PAIR_CARRIER p)))) 0) + s.nat OD.CFG_PER_FRAME

/-- The uplink load of an endpoint (Table 9.18). -/
def State.loadUl (s : State) (e : Nat) : Nat :=
  2 + (s.epArms e).length * cdiv (s.nat OD.N_SM) 7 + (s.epStacks e).length + s.nat (OD.FAULT_RESERVE e)

/-- The arrival bound U_k of the `i`-th arm (from 0) of endpoint `e`, in tenths of a tick (R254). -/
def State.arrival (s : State) (e i : Nat) : Nat :=
  let l := s.nat (OD.EP_LANE e)
  let ow := if (s.ser l).trained = false then 3125 else s.nat (OD.ONEWAY l)
  10 * s.nat (OD.UL_START e) + (cdiv (2 + (i + 1) * cdiv (s.nat OD.N_SM) 7) 4 + 1) * s.laneTb l + 10 * ow + 1250

/-- Loads, limits and arrival bounds follow the configuration (Table 9.21); an endpoint of several arms reports its last arm's. (Log 103, DEDUCED, unsafe.) -/
def State.refreshLoads (s : State) : State :=
  let s := (List.range 18).foldl (init := s) fun s l =>
    let s := s.putN (OD.LOAD_LIMIT l) (parcelLimit s.fTicks (s.nat (OD.LANE_RATE l)))
    if l < 16 then
      match s.laneEp l with
      | some e => (s.putN (OD.LOAD_DL l) (s.loadDl e)).putN (OD.LOAD_UL l) (s.loadUl e)
      | none => (s.putN (OD.LOAD_DL l) 0).putN (OD.LOAD_UL l) 0
    else s
  (List.range 16).foldl (init := s) fun s e =>
    if s.epUsed e && decide (s.nat (OD.EP_LANE e) ≤ 15) then
      s.putN (OD.U_ARRIVAL e) (s.arrival e ((s.epArms e).length - 1) * 4 / 25)
    else s.putN (OD.U_ARRIVAL e) 0

/-- An endpoint meets the conditions of START (R252). -/
def State.epReady (s : State) (e : Nat) : Bool :=
  let l := s.nat (OD.EP_LANE e)
  let st := s.nat (OD.LANE_STATE l)
  decide (l ≤ 15) && (decide (st = 4) || decide (st = 5) || decide (st = 6)) &&
  (decide (s.nat (OD.EP_SERIAL_EXP e) = 0) || decide (s.nat (OD.EP_SERIAL e) = s.nat (OD.EP_SERIAL_EXP e))) &&
  decide (s.nat (OD.EP_CFG_GEN e) = s.nat OD.CFG_GEN)

/-- EP_READY_MASK (Table 9.21). -/
def State.refreshReady (s : State) : State :=
  s.putN OD.EP_READY_MASK (s.epsUsed.foldl (fun m e => if s.epReady e then m + 2 ^ e else m) 0)

/-- Every endpoint in use lets START pass (R252). -/
def State.endpointsReady (s : State) : Bool := s.epsUsed.all (fun e => s.epReady e) && decide (s.nat OD.LINK_CONFIG_STATUS = 0)

/-- Every lane in use is in P0 (R233). -/
def State.lanesInP0 (s : State) : Bool := s.epsUsed.all fun e => decide (s.nat (OD.LANE_STATE (s.nat (OD.EP_LANE e))) = 4)

/-! ### What the ends of a lane send (R222–R227) -/

/-- Codewords of parcels leave on a lane of the module (R225): those of the next burst that H.LINK lost are sent poisoned (Table 17.2). The answer is what
leaves, with its blocks on the line. -/
def State.laneSend (s : State) (l : Nat) (ps : List (BitVec 128)) : (List (BitVec 144) × List LineBlock) × State :=
  let x := s.ser l
  let ws := codewords ps x.lostTx
  let (bs, tx) := x.tx.send (s.laneTb l) s.now ws
  ((ws, bs), s.setSer l { x with tx := tx, lostTx := [] })

/-- The transmitter of a lane begins, or goes on behind bundles the model does not form (log 144, DESIGN CHOICE, unsafe). -/
def State.freshTx (s : State) (l : Nat) : State :=
  let k := s.draw.1
  let s := s.draw.2
  s.setSer l { s.ser l with tx := (s.ser l).tx.fresh (s.laneTb l) s.now k }

/-- The training parcel a lane of the module sends now (Table 9.1). -/
def State.trainingParcel (s : State) (l : Nat) : BitVec 128 :=
  let x := s.ser l
  x.tr.parcel (s.nat (OD.LANE_STATE l)) 0 (s.nat (OD.TAPS_TX l)) (s.nat (OD.FOM_RX l)) (s.nat (OD.LANE_RATE l)) 0 l
    (s.now + x.tx.wait (s.laneTb l) s.now)

/-- `n` training bundles leave on a lane of the module (R226, R227). The line repeats its training bundle without a gap, with STAMP and HOLD running on; the
model sends it when its contents change and in answer to one that arrives (log 144, DESIGN CHOICE, unsafe). -/
def State.sendTraining (s : State) (l n : Nat) : State :=
  let s := s.freshTx l
  let ws := trainingWords (s.trainingParcel l) n
  let (bs, tx) := (s.ser l).tx.send (s.laneTb l) s.now ws
  let s := s.setSer l { s.ser l with tx := tx }
  match (Fin.ofNat 18 l) with
  | k => s.emit (.training (.lane k) ws bs)

/-- T_B of an endpoint's port, which sends at the rate it found (R226). -/
def EpPort.tb (p : EpPort) : Nat := bundleTenths p.rate

/-- `n` training bundles leave on a port of an endpoint (R226, R227). -/
def State.epTraining (s : State) (e k n : Nat) : State :=
  let d := s.draw.1
  let s := s.draw.2
  let p := (s.ep e).port k
  let tx := p.tx.fresh p.tb s.now d
  let ws := trainingWords (p.tr.parcel p.lane 1 p.taps p.fom p.rate k 0 (s.now + tx.wait p.tb s.now)) n
  let (bs, tx) := tx.send p.tb s.now ws
  (s.setEp e ((s.ep e).setPort k { p with tx := tx })).emit (.training (.endpoint (Fin.ofNat 16 e) (Fin.ofNat 2 k)) ws bs)

/-- Idle control blocks of a bundle time, as an end of a lane sends them in P1 (R222, Table 9.3). -/
def State.sendControl (s : State) (l : Nat) : State :=
  let (bs, tx) := (s.ser l).tx.idle
  (s.setSer l { s.ser l with tx := tx }).emit (.control (.lane (Fin.ofNat 18 l)) bs)

/-- One burst on X0 and X1, each where it is in P0 (R297). -/
def State.sendCross (s : State) (ps : List (BitVec 128)) : State :=
  [16, 17].foldl (init := s) fun s l =>
    if s.nat (OD.LANE_STATE l) = 4 then
      let (x, s) := s.laneSend l ps
      s.emit (.crosslink l x.1 x.2)
    else s

/-- Runs of a copy, each a header and what follows it, split between X0 and X1 (R297). -/
def State.sendCopy (s : State) (runs : List (List (BitVec 128))) : State :=
  let up := [16, 17].filter fun l => decide (s.nat (OD.LANE_STATE l) = 4)
  up.foldl (init := s) fun s l =>
    let mine := (List.range runs.length).filter fun i => up.getD (i % up.length) 16 = l
    let ps := (mine.map fun i => runs.getD i []).flatten
    if ps.isEmpty then s
    else
      let (x, s) := s.laneSend l ps
      s.emit (.crosslink l x.1 x.2)

/-! ### Bring-up (R226, R230) -/

/-- The default taps, the preset (4, 27, 2) (R228). -/
def presetTaps : Nat := 0x1362

/-- Transmission starts on every enabled lane once D9 is on and the timebase is valid, with SEEK bundles and the preset taps; a lane disabled or without
its domain is off (R226). -/
def State.linkRefresh (s : State) : State :=
  (List.range 18).foldl (init := s) fun s l =>
    let st := s.nat (OD.LANE_STATE l)
    if s.flag (OD.LANE_EN l) && s.domainOn 9 then
      (if st = 0 ∧ s.tbValid = true then
        (((s.setSer l { s.ser l with rx := {}, tx := { start := s.now } }).putN (OD.LANE_STATE l) 1).putN (OD.TAPS_TX l) presetTaps).sendTraining l 1
       else s)
    else if st = 0 then s
    else (s.setSer l {}).putN (OD.LANE_STATE l) 0

/-- A commit takes effect on the link: CFG_GEN when an endpoint's items may have changed, statuses, loads and lanes (R238, R253). -/
def State.refreshLink (s : State) (itemsChanged : Bool) : State :=
  let s := if itemsChanged then s.putN OD.CFG_GEN ((s.nat OD.CFG_GEN + 1) % 65536) else s
  let s := s.putN OD.LINK_CONFIG_STATUS s.linkConfig
  ((s.refreshLoads).linkRefresh).refreshReady

/-! ### Parcels and locks (R224, R225) -/

/-- The parcel types a receiver may be sent (Table 9.4); a cross-link lane also carries raw parcels, which have no TYPE (R297). -/
def typeValid (r : RxPort) (t : Nat) : Bool :=
  match r with
  | .lane l => decide (16 ≤ l.val) || [0x0, 0x8, 0x9, 0xA, 0xB, 0xC, 0xE].contains t
  | .endpoint _ _ => [0x0, 0x1, 0x2, 0x3, 0x4, 0x5, 0x6, 0x7, 0xE].contains t

/-- A corrected parcel is counted. -/
def State.parcelCorrected (s : State) (r : RxPort) : State :=
  match r with
  | .lane l => s.bump (OD.PAR_CORR l.val)
  | .endpoint e k =>
    let p := (s.ep e.val).port k.val
    s.setEp e.val ((s.ep e.val).setPort k.val { p with corr := (p.corr + 1) % 65536 })

/-- A discarded parcel is counted; at the module it is recorded and counts toward a retrain (R225, R232). -/
def State.parcelBad (s : State) (r : RxPort) : State :=
  match r with
  | .lane l =>
    let x := s.ser l.val
    let s := (s.bump (OD.PAR_UNCORR l.val)).setSer l.val { x with uncorrAt := s.frame.n :: x.uncorrAt }
    s.note Ev.PARCEL_UNCORR l.val
  | .endpoint e k =>
    let p := (s.ep e.val).port k.val
    s.setEp e.val ((s.ep e.val).setPort k.val { p with uncorr := (p.uncorr + 1) % 65536 })

/-- The receiver is that of X0 or X1, whose runs their own commands bring. -/
def crossPort : RxPort → Bool
  | .lane l => decide (16 ≤ l.val)
  | .endpoint _ _ => false

/-- A good parcel of a type for this receiver waits for its burst's command; idle parcels carry nothing, training parcels are taken bundle by bundle
(R227), and those of X0 and X1 run by run (R297); any other type is discarded. -/
def State.parcelGood (s : State) (r : RxPort) (d : BitVec 128) : State :=
  if typeValid r (ptype d) then
    (if ptype d = 0 ∨ ptype d = 0xE ∨ crossPort r = true then s else s.setRx r { s.rx r with buf := (s.rx r).buf ++ [d] })
  else s.parcelBad r

/-- The power state a port of an endpoint has entered: at ENTRY_LTC on the LTC copy `t` (R233). -/
def EpPort.asleep (p : EpPort) (t : Nat) : Nat := match p.power with
  | some (v, at1) => if at1 ≤ t then v else 0
  | none => 0

/-- A port of an endpoint wakes with the first data bundle (Table 9.3). -/
def State.portWakes (s : State) (r : RxPort) : State :=
  match r with
  | .lane _ => s
  | .endpoint e k =>
    let x := s.ep e.val
    let p := x.port k.val
    if p.asleep ((s.now : Int) + x.ltcOfs).toNat = 0 then s else s.setEp e.val (x.setPort k.val { p with power := none })

/-- PARCEL_RECEIVE (R225): decoded by R18; used, corrected and counted, or discarded and counted. (Log 98, DEDUCED, safe.) -/
def State.parcelReceive (s : State) (r : RxPort) (w : BitVec 144) : State :=
  let s := s.portWakes r
  match bushelDecode w with
  | .clean => s.parcelGood r (bushelData w)
  | .corrected v => (s.parcelCorrected r).parcelGood r (bushelData v)
  | .poison => s.parcelBad r
  | .uncorrectable => s.parcelBad r

/-- PARCEL_RECEIVE. -/
def execParcelReceive (rx : RxPort) (w : BitVec 144) (s : State) : Host.Outcome State Fault Refusal := .next (s.parcelReceive rx w)

/-- A lane of the module, or a port of an endpoint, has lost its locks: the port, in P0, begins its own fast retrain (R224, R232). -/
def State.lockLost (s : State) (r : RxPort) : State :=
  match r with
  | .lane _ => s
  | .endpoint e k =>
    let p := (s.ep e.val).port k.val
    if p.lane = 4 ∧ p.power = none then
      (s.setEp e.val ((s.ep e.val).setPort k.val { p with lane := 7, retrainAt := s.now })).epTraining e.val k.val 1
    else s

/-- A window of 64 sync headers, `invalid` of them invalid (R224): 16 lose block lock, and with it bundle lock; 64 valid ones take it, as clause 49
prescribes. (Log 145, DEDUCED, unsafe.) -/
def State.blockWindow (s : State) (r : RxPort) (invalid : Nat) : State :=
  let x := s.rx r
  if 16 ≤ invalid ∧ x.blockLock = true then
    (s.setRx r { x with blockLock := false, bundleLock := false, good := 0, bad := 0 }).lockLost r
  else if invalid = 0 ∧ x.blockLock = false then s.setRx r { x with blockLock := true }
  else s

/-- BLOCK_LOCK_LOST. -/
def execBlockLockLost (rx : RxPort) (invalid : Fin 65) (s : State) : Host.Outcome State Fault Refusal :=
  .next (s.blockWindow rx invalid.val)

/-- What follows from bundle lock: a lane of the module that was seeking adapts (R230); an endpoint's port leaves its scan and adapts, and the endpoint, in
reset, is training (R226). -/
def State.locked (s : State) (r : RxPort) : State :=
  match r with
  | .lane l =>
    if s.nat (OD.LANE_STATE l.val) = 1 then
      (s.setSer l.val { s.ser l.val with tr := (s.ser l.val).tr.adapt s.now, exchanges := [] }).putN (OD.LANE_STATE l.val) 2
    else s
  | .endpoint e k =>
    let x := s.ep e.val
    let p := x.port k.val
    let x := { x with state := if x.state = 0 then 1 else x.state }
    s.setEp e.val (if p.lane = 1 then x.setPort k.val { p with lane := 2, tr := p.tr.adapt s.now } else x)

/-- One bundle at a block offset, with block lock: four clean ones in a row take bundle lock there, eight bad ones lose it (R224). -/
def Rx.bundle (x : Rx) (offset : Nat) (clean : Bool) : Rx :=
  if x.blockLock = false then x
  else if x.bundleLock then
    (let bad := if clean then 0 else x.bad + 1
     if 8 ≤ bad then { x with bundleLock := false, bad := 0, good := 0 } else { x with bad := bad })
  else
    let good := if clean then (if x.offset = offset then x.good + 1 else 1) else 0
    if 4 ≤ good then { x with bundleLock := true, offset := offset, good := 0, bad := 0 }
    else { x with offset := offset, good := good }

/-- BUNDLE_LOCK (R224). -/
def State.bundleLock (s : State) (r : RxPort) (offset : Nat) (clean : Bool) : State :=
  let old := s.rx r
  let new := old.bundle offset clean
  let s := s.setRx r new
  if new.bundleLock && !old.bundleLock then s.locked r else if old.bundleLock && !new.bundleLock then s.lockLost r else s

/-- BUNDLE_LOCK. -/
def execBundleLock (rx : RxPort) (offset : Fin 9) (clean : Bool) (s : State) : Host.Outcome State Fault Refusal :=
  .next (s.bundleLock rx offset.val clean)

/-! ### Training (R227–R231) -/

/-- Own receiver READY (R230). -/
def State.receiverReady (s : State) (l : Nat) : State :=
  let s := s.setSer l { s.ser l with tr := { (s.ser l).tr with ready := true } }
  if s.nat (OD.LANE_STATE l) = 2 then s.putN (OD.LANE_STATE l) 3 else s

/-- A lane is marked weak (R230, R231): it sends ABORT, carries no bursts and tries again after 1 s. -/
def State.markWeak (s : State) (l : Nat) : State :=
  let s := s.setSer l { s.ser l with weakAt := s.now, tr := { (s.ser l).tr with ready := false, peerReady := false } }
  ((s.putN (OD.LANE_STATE l) 8).note Ev.LINK_WEAK l).sendTraining l 1

/-- A lane enters P0 (R230, R232, R233): behind `n` further READY bundles. -/
def State.enterP0 (s : State) (l n : Nat) : State :=
  ((((s.setSer l { s.ser l with uncorrAt := [] }).putN (OD.LANE_STATE l) 4).note Ev.LINK_UP l)).sendTraining l n

/-- Both receivers READY enter P0; 16 more READY bundles are sent. -/
def State.tryP0 (s : State) (l : Nat) : State :=
  if s.nat (OD.LANE_STATE l) = 3 ∧ (s.ser l).tr.ready = true ∧ (s.ser l).tr.peerReady = true then s.enterP0 l 16 else s

/-- In ADAPT a receiver steers the far taps: by what steps the spec leaves to it, so the request is free (log 5); one of no change is none (R228). -/
def State.steer (s : State) (l : Nat) : State :=
  let x := s.ser l
  if s.nat (OD.LANE_STATE l) = 2 ∧ x.tr.asked = false ∧ x.tr.mayAsk s.now = true then
    let k := Config.freeNat s.draw.1
    let s := s.draw.2
    if k % 64 = 0 then s else s.setSer l { x with tr := x.tr.ask (k % 64) (k / 64 % 32768) }
  else s

/-- A training parcel at the module: far taps and READY, the far request applied once, own FOM followed, the delay exchange of the
echo; a training bundle goes back (R228–R231). (Log 99, DESIGN CHOICE, unsafe.) -/
def State.trainLane (s : State) (l : Nat) (w : BitVec 128) (fom : Nat) : State :=
  let x := s.ser l
  let adapt := decide (s.nat (OD.LANE_STATE l) = 2)
  let taps := s.nat (OD.TAPS_TX l)
  let s := ((s.putN (OD.TAPS_TX l) (x.tr.tapsFor taps w)).putN (OD.TAPS_PEER l) (farTaps w)).putN (OD.FOM_RX l) fom
  let rt : Int := (((s.now % 2 ^ 20 : Nat) : Int) - (fld w 12 20 : Int) - (fld w 0 12 : Int)) % (2 ^ 20)
  let s := s.setSer l { x with
      tr := x.tr.hear w fom (s.nat (OD.FOM_TARGET l)) s.now adapt
      exchanges := if adapt && decide (x.exchanges.length < 16) then x.exchanges ++ [rt] else x.exchanges }
  if fld w 121 3 = 4 ∧ (s.nat (OD.LANE_STATE l) = 2 ∨ s.nat (OD.LANE_STATE l) = 3) then s.markWeak l
  else
    let s := if (s.ser l).tr.acked && adapt && !(s.ser l).tr.ready then s.receiverReady l else s
    let s := (s.steer l).tryP0 l
    if s.nat (OD.LANE_STATE l) = 4 ∨ s.nat (OD.LANE_STATE l) = 8 then s else s.sendTraining l 1

/-- A port of an endpoint is READY: its FOM at FOM_TARGET of its lane for 1 ms, or its best taps acknowledged (R230). -/
def Trainer.done (x : Trainer) (now : Nat) : Bool :=
  x.acked || (match x.fomSince with
    | some t => decide (t + ms 1 ≤ now)
    | none => false)

/-- The lane of the module whose limits hold for an endpoint's receiver (R230). (Log 99, DESIGN CHOICE, unsafe.) -/
def State.epLimit (s : State) (e : Nat) (key : Nat → Nat) : Nat := s.nat (key (Nat.min (s.nat (OD.EP_LANE e)) 15))

/-- The state of a port after what it heard (R230, R232): a retrain the module begins is followed; ADAPT ends in READY, in a request of the best taps
after 50 ms, or in ABORT; READY at both ends is P0; a fast retrain ends in P0 within 200 µs, or in full training. -/
def EpPort.turn (p : EpPort) (tstate now fomMin : Nat) : EpPort :=
  match p.lane with
  | 2 =>
    if p.tr.done now then { p with lane := if p.tr.peerReady then 4 else 3, tr := { p.tr with ready := true } }
    else if p.tr.asked = false ∧ p.tr.adaptAt + ms 50 ≤ now then
      (if p.tr.bestFom < fomMin then { p with lane := 8 } else if p.tr.mayAsk now then { p with tr := p.tr.askBest } else p)
    else p
  | 3 => if p.tr.peerReady then { p with lane := 4 } else p
  | 4 =>
    if tstate = 3 then { p with lane := 7, retrainAt := now }
    else if tstate < 2 then { p with lane := 2, tr := p.tr.adapt now } else p
  | 7 =>
    if now ≤ p.retrainAt + us 200 then (if p.rx.bundleLock && decide (fomMin ≤ p.fom) then { p with lane := 4 } else p)
    else { p with lane := if p.rx.bundleLock then 2 else 1, tr := p.tr.adapt now }
  | 8 => if tstate < 2 then { p with lane := 2, tr := p.tr.adapt now } else p
  | _ => p

/-- An endpoint's request to the module in ADAPT, free as the module's own (R228). -/
def EpPort.steer (p : EpPort) (now k : Nat) : EpPort :=
  if p.lane = 2 ∧ p.tr.asked = false ∧ p.tr.mayAsk now = true ∧ k % 64 ≠ 0 then { p with tr := p.tr.ask (k % 64) (k / 64 % 32768) } else p

/-- A training parcel at an endpoint's port: its request is applied once, the port follows, and a training bundle goes back, or 16 READY bundles where the
port enters P0 (R228–R232). -/
def State.trainEp (s : State) (e k : Nat) (w : BitVec 128) (fom : Nat) : State :=
  let d := Config.freeNat s.draw.1
  let s := s.draw.2
  let p := (s.ep e).port k
  let heard := { p with
      fom := fom, power := none, taps := p.tr.tapsFor p.taps w
      tr := p.tr.hear w fom (s.epLimit e OD.FOM_TARGET) s.now (decide (p.lane = 2)) : EpPort }
  let q := (heard.turn (fld w 121 3) s.now (s.epLimit e OD.FOM_MIN)).steer s.now d
  let s := s.setEp e ((s.ep e).setPort k q)
  if q.lane ≠ 4 then s.epTraining e k 1 else if p.lane = 4 then s else s.epTraining e k 16

/-- FOM, 255 times the smaller of normalised inner eye height and width over the last 20 µs, which come in units of 1/255 (R229). -/
def fomOf (height width : Nat) : Nat := Nat.min height width

/-- A training bundle arrives (R225, R227): each of its four copies is decoded and counted, and the first good one is used. -/
def State.trainingBundle (s : State) (r : RxPort) (b : BitVec 576) (fom : Nat) : State :=
  let ws := (List.range 4).map fun p => bundleParcel b p
  let s := ws.foldl (init := s) fun s w =>
    match bushelDecode w with
    | .clean => s
    | .corrected _ => s.parcelCorrected r
    | _ => s.parcelBad r
  match (ws.filterMap bushelGood).find? fun w => decide (ptype w = 0xE) with
  | none => s
  | some w =>
    match r with
    | .lane l => s.trainLane l.val w fom
    | .endpoint e k => s.trainEp e.val k.val w fom

/-- TRAINING_BUNDLE_RECEIVE, with the inner eye of the receiver (R229). -/
def execTrainingBundleReceive (rx : RxPort) (bundle : BitVec 576) (height width : Fin 256) (s : State) : Host.Outcome State Fault Refusal :=
  .next (s.trainingBundle rx bundle (fomOf height.val width.val))

/-- RX_READY (R230): FOM at or above FOM_TARGET for 1 ms. -/
def State.rxReady (s : State) (l : Nat) : State :=
  if s.nat (OD.LANE_STATE l) = 2 then
    match (s.ser l).tr.fomSince with
    | some t => if s.past t (ms 1) then (s.receiverReady l).tryP0 l else s
    | none => s
  else s

/-- RX_READY. -/
def execRxReady (l : Fin 18) (s : State) : Host.Outcome State Fault Refusal := .next (s.rxReady l.val)

/-- ADAPT_TIMEOUT (R230): 50 ms in ADAPT; the best taps are requested, once a request that is out has been answered (R228), or the lane is marked weak. -/
def State.adaptTimeout (s : State) (l : Nat) : State :=
  let x := s.ser l
  if s.nat (OD.LANE_STATE l) = 2 ∧ x.tr.asked = false ∧ s.past x.tr.adaptAt (ms 50) = true then
    (if x.tr.bestFom < s.nat (OD.FOM_MIN l) then s.markWeak l
     else if x.tr.mayAsk s.now then (s.setSer l { x with tr := x.tr.askBest }).sendTraining l 1 else s)
  else s

/-- ADAPT_TIMEOUT. -/
def execAdaptTimeout (l : Fin 18) (s : State) : Host.Outcome State Fault Refusal := .next (s.adaptTimeout l.val)

/-- WEAK_RETRY (R230): a weak lane trains again after 1 s. -/
def State.weakRetry (s : State) (l : Nat) : State :=
  if s.nat (OD.LANE_STATE l) = 8 ∧ s.past (s.ser l).weakAt (sec 1) = true then
    ((s.setSer l { s.ser l with rx := {}, exchanges := [] }).putN (OD.LANE_STATE l) 1).sendTraining l 1
  else s

/-- WEAK_RETRY. -/
def execWeakRetry (l : Fin 18) (s : State) : Host.Outcome State Fault Refusal := .next (s.weakRetry l.val)

/-- ONEWAY of 16 exchanges: round(mean(rt) / 2) + ASYM_TRIM (R231). -/
def oneway (rts : List Int) (trim : Int) : Int := (rts.foldl (· + ·) 0 + rts.length) / (2 * rts.length) + trim

/-- ONEWAY_MEASURED (R231). -/
def State.onewayMeasured (s : State) (l : Nat) : State :=
  let x := s.ser l
  if x.exchanges.length = 16 then
    let o := oneway x.exchanges (s.int (OD.ASYM_TRIM l))
    let s := ((s.putN (OD.ONEWAY l) (o % 65536).toNat).setSer l { x with exchanges := [], trained := true }).refreshLoads
    if 3125 < o then s.markWeak l else s
  else s

/-- ONEWAY_MEASURED. -/
def execOnewayMeasured (l : Fin 18) (s : State) : Host.Outcome State Fault Refusal := .next (s.onewayMeasured l.val)

/-! ### Retraining and power states (R232, R233) -/

/-- Uncorrectable parcels of the last 1,000 frames. -/
def State.recentUncorr (s : State) (l : Nat) : Nat :=
  ((s.ser l).uncorrAt.filter fun f => decide ((s.frame.n + 2 ^ 32 - f) % 2 ^ 32 < 1000)).length

/-- LINK_RETRAIN (R232): a lane in P0 that lost its lock or took too many uncorrectable parcels retrains from its stored taps, with TSTATE FAST. -/
def State.linkRetrain (s : State) (l : Nat) : State :=
  let x := s.ser l
  if s.nat (OD.LANE_STATE l) = 4 ∧ (x.rx.bundleLock = false ∨ s.nat OD.RETRAIN_UNCORR ≤ s.recentUncorr l) then
    ((((s.setSer l { x with retrainAt := s.now, uncorrAt := [] }).putN (OD.LANE_STATE l) 7).bump (OD.RETRAINS l)).note Ev.LINK_DOWN l).sendTraining l 1
  else s

/-- LINK_RETRAIN. -/
def execLinkRetrain (l : Fin 18) (s : State) : Host.Outcome State Fault Refusal := .next (s.linkRetrain l.val)

/-- FAST_RETRAIN_DONE (R232): with bundle lock, within 200 µs and with FOM at FOM_MIN the lane is in P0 again; otherwise it trains in full. -/
def State.fastRetrainDone (s : State) (l fom : Nat) : State :=
  if s.nat (OD.LANE_STATE l) = 7 then
    let s := s.putN (OD.FOM_RX l) fom
    if (s.ser l).rx.bundleLock = true ∧ s.nat (OD.FOM_MIN l) ≤ fom ∧ s.now ≤ (s.ser l).retrainAt + us 200 then s.enterP0 l 0
    else ((s.setSer l { s.ser l with rx := {} }).putN (OD.LANE_STATE l) 1).sendTraining l 1
  else s

/-- FAST_RETRAIN_DONE. -/
def execFastRetrainDone (l : Fin 18) (fom : Fin 256) (s : State) : Host.Outcome State Fault Refusal :=
  .next (s.fastRetrainDone l.val fom.val)

/-- The module's outputs are ARMED or RUNNING: RUN of the sync parcel (Table 9.5). -/
def State.running (s : State) : Bool := decide (s.nat OD.OUT_STATE = 1) || decide (s.nat OD.OUT_STATE = 2)

/-- EP_STATE is a running one: running or bridging (Table 9.13). -/
def epRuns (st : Nat) : Bool := decide (st = 4) || decide (st = 5)

/-- A lane leaves P1 at once, P2 by a fast retrain from its stored taps (Table 9.3). (Log 102, DEDUCED, unsafe.) -/
def State.wakeLane (s : State) (l : Nat) : State :=
  let s := (s.putN (OD.PSTATE_REQ l) 0).setSer l { s.ser l with powerSend := none, powerDue := none }
  if s.nat (OD.LANE_STATE l) = 5 then (s.enterP0 l 0).note Ev.LINK_PSTATE l
  else if s.nat (OD.LANE_STATE l) = 6 then
    (((s.setSer l { s.ser l with retrainAt := s.now }).putN (OD.LANE_STATE l) 7).note Ev.LINK_PSTATE l).sendTraining l 1
  else s

/-- PSTATE_REQ (R233): refused, and read back 0, unless the lane is in P0, carries RUN = 0 and its endpoint runs nothing. A lane
without an endpoint sends the parcel at once, any other in its next burst; ENTRY_LTC lies at least 10 µs later, by how
much more is free (log 5). -/
def State.pstateReq (s : State) (l v : Nat) : State × Reply :=
  if 2 < v then (s, Reply.outOfRange)
  else if v = 0 then (s.wakeLane l, Reply.ok)
  else
    let busy := match s.laneEp l with
      | some e => s.running || epRuns (s.nat (OD.EP_STATE e))
      | none => false
    if s.nat (OD.LANE_STATE l) = v + 4 then (s.putN (OD.PSTATE_REQ l) v, Reply.ok)
    else if s.nat (OD.LANE_STATE l) ≠ 4 ∨ busy = true then ((s.putN (OD.PSTATE_REQ l) 0).note Ev.LINK_PSTATE l, Reply.wrongState)
    else
      let k := s.draw.1
      let s := s.draw.2
      let s := s.putN (OD.PSTATE_REQ l) v
      let extra := Config.freeNat k
      match s.laneEp l with
      | some _ => (s.setSer l { s.ser l with powerSend := some (v, 6250 + extra) }, Reply.ok)
      | none => (s.setSer l { s.ser l with powerDue := some (v, s.ltc + 6250 + extra) }, Reply.ok)

/-- PSTATE_REQ, a command object of the owner. -/
def execPstateReq (session : Nat) (l : Fin 18) (v : Nat) (s : State) : Host.Outcome State Fault Refusal :=
  .next (s.command session (s.unlessBusy 4 (s.ownerRefusal session)) fun s => s.pstateReq l.val v)

/-- PSTATE_ENTRY (R233): at ENTRY_LTC both directions are in the state. -/
def State.pstateEntry (s : State) (l : Nat) : State :=
  match (s.ser l).powerDue with
  | some (v, t) =>
    if t ≤ s.ltc then
      let s := ((s.setSer l { s.ser l with powerDue := none }).putN (OD.LANE_STATE l) (if v = 0 then 4 else v + 4)).note Ev.LINK_PSTATE l
      if v = 1 then s.sendControl l else s
    else s
  | none => s

/-- PSTATE_ENTRY. -/
def execPstateEntry (l : Fin 18) (s : State) : Host.Outcome State Fault Refusal := .next (s.pstateEntry l.val)

end Sys2Proof.Machine
end

