-- ==== Sys2Proof/Machine/Burst.lean ====
section
/-!
DEFINITION. Machine/Burst.lean: chapter 09, the downlink bursts: configuration, safe-state, insertion and edge parcels, edge sets of remote pairs, and when
bursts leave (R234–R238).
-/
namespace Sys2Proof.Machine
open Sys2Proof

/-- Distinct numbers in rising order. -/
def insertOnce (x : Nat) : List Nat → List Nat
  | [] => [x]
  | y :: ys => if x < y then x :: y :: ys else if x = y then y :: ys else y :: insertOnce x ys

/-- The distinct numbers of a list, rising. -/
def sortedNats (xs : List Nat) : List Nat := xs.foldl (fun acc x => insertOnce x acc) []

/-! ### The downlink burst (R234–R238) -/

/-- The contents of a configuration item of endpoint `e` (Table 9.11). -/
def State.itemValue (s : State) (e item : Nat) : Nat :=
  let rp := s.remotePairs e
  if item = 0 then
    (2 + rp.length) * 2 ^ 88 + s.nat OD.TOPOLOGY * 2 ^ 84 + s.nat OD.PAIR_MODE * 2 ^ 80 + e * 2 ^ 72 + s.nat (OD.BRIDGE_N e) * 2 ^ 64 +
    s.nat (OD.EP_SAFE e) * 2 ^ 56 + s.fTicks * 2 ^ 24
  else if item = 1 then
    s.nat OD.T_OI * 2 ^ 80 + s.nat OD.CLAMP_TIME * 1000 * 2 ^ 64 + s.nat (OD.UL_START e) * 2 ^ 48 + s.nat (OD.FAULT_RESERVE e) * 2 ^ 40 +
    s.nat (OD.EP_ARMS e) * 2 ^ 32 + s.nat (OD.EP_STACKS e) * 2 ^ 24 + s.nat OD.N_SM * 2 ^ 8 + (if s.nat OD.TOPOLOGY = 4 then 1 else 0)
  else
    let p := item - 0x10
    let c := s.nat (OD.PAIR_CARRIER p)
    s.carPeriod c * 2 ^ 64 + s.anchor c % 2 ^ 32 * 2 ^ 32 + s.nat (OD.DEAD_TIME p) % 2 ^ 14 * 2 ^ 18 + s.nat (OD.PAIR_POS p) % 4 * 2 ^ 16 +
    s.nat (OD.PAIR_PHASE p) % 4 * 2 ^ 14 + s.nat (OD.PAIR_STACK p) % 8 * 2 ^ 11 + 2 ^ 10 + s.nat (OD.PAIR_POLARITY p) % 4 * 2 ^ 8

/-- The item numbers of an endpoint, in rotation order (R238). -/
def State.items (s : State) (e : Nat) : List Nat := [0, 1] ++ (s.remotePairs e).map (· + 0x10)

/-- The configuration parcels of one burst (Table 9.10). -/
def State.cfgParcels (s : State) (e l : Nat) : List (BitVec 128) :=
  let items := s.items e
  (List.range (s.nat OD.CFG_PER_FRAME)).map fun i =>
    let item := items.getD (((s.ser l).item + i) % items.length) 0
    packFields [(124, 4, 6), (116, 8, item), (96, 16, s.nat OD.CFG_GEN), (0, 96, s.itemValue e item)]

/-- The safe-state parcel of an endpoint (Table 9.7): GATE_OFF or CLAMP at a gate-drive hub, BLOCK or BYPASS at an arm hub. -/
def State.safeParcel (s : State) (e : Nat) (clamp : Bool) : BitVec 128 :=
  let kind := if s.nat (OD.EP_KIND e) = 2 then (if clamp then 4 else 3) else (if clamp then 2 else 1)
  let cause := if s.nat OD.TRIP_LATCH = 0 then 0x80 else s.nat OD.TRIP_FIRST
  packFields [(124, 4, 3), (120, 4, kind), (104, 16, s.nat OD.T_OI), (88, 16, s.nat OD.CLAMP_TIME * 1000), (80, 8, cause), (16, 64, s.pwm.stopLtc)]

/-- The insertion parcels of an arm (Table 9.8): 48 submodules each; inserted ones by polarity, the others bypassed. -/
def State.insParcels (s : State) (k applyOfs : Nat) : List (BitVec 128) :=
  let a := s.arm k
  let n := s.nat OD.N_SM
  let code (j : Nat) : Nat := if a.inserted.contains j && decide (j < n) then (if a.reverse then 2 else 1) else 0
  (List.range (cdiv n 48)).map fun p =>
    packFields [(124, 4, 4), (121, 3, k), (118, 3, p), (96, 16, applyOfs),
      (0, 96, (List.range 48).foldl (fun m i => m + code (48 * p + i) * 4 ^ i) 0)]

/-- An edge parcel (Table 9.9). -/
def edgeParcel (x : EdgeSet) : BitVec 128 :=
  let b (y : Bool) : Nat := if y then 1 else 0
  let e (y : Option SetEdge) : Nat × Nat × Nat := match y with
    | some z => (1, b z.level, z.ofs)
    | none => (0, 0, 0)
  packFields [(124, 4, 5), (119, 5, x.pair), (118, 1, b x.down), (117, 1, b x.forceOff), (80, 32, x.start),
    (63, 1, (e x.h).1), (62, 1, (e x.h).2.1), (42, 20, (e x.h).2.2), (41, 1, (e x.l).1), (40, 1, (e x.l).2.1), (20, 20, (e x.l).2.2)]

/-- The edge set an edge parcel carries. -/
def edgeSetOf (w : BitVec 128) : EdgeSet :=
  { pair := fld w 119 5, down := decide (fld w 118 1 = 1), forceOff := decide (fld w 117 1 = 1), start := fld w 80 32
    h := if fld w 63 1 = 1 then some { level := decide (fld w 62 1 = 1), ofs := fld w 42 20 } else none
    l := if fld w 41 1 = 1 then some { level := decide (fld w 40 1 = 1), ofs := fld w 20 20 } else none }

/-- The half-periods of a carrier with first reload in [a, b) (R189, R50). -/
def State.reloads (s : State) (c a b : Nat) : List Half := s.halves c ((b - a) / (s.carPeriod c / 4 + 1) + 3) a b

/-- A remote channel before the half-period of its pair that starts at `t`: after the latest set planned for an earlier one, or as the last set sent for
good left it (R237). -/
def State.hubBefore (s : State) (i t : Nat) : EpChan :=
  match (s.link.sets.filter fun x => decide (x.set.pair = i / 2) && decide (x.start < t)).getLast? with
  | some x => if i % 2 = 0 then x.h else x.l
  | none => vget {} s.link.hub i

/-- The next edge of a pair is dropped with the one before it (R191). -/
def State.hubSkips (s : State) (p t : Nat) : Bool :=
  match (s.link.sets.filter fun x => decide (x.set.pair = p) && decide (x.start < t)).getLast? with
  | some x => x.skip
  | none => vget false s.link.skip p

/-- Where the compare edge of a half lies; none where CMP holds the compare state through it. -/
def edgeIn (cmp half : Nat) (h : Half) : Option Nat :=
  if cmp = 0 ∨ half ≤ cmp then none else some ((h.start + compareTick h.up cmp half h.len).toNat)

/-- The edge set of pair `p` for one half-period, from the CMP in its shadow word and the channels before it (R189–R191, R237). `leg` gives a channel
of the same leg with the edges of this half-period as known so far: an inner device follows its outer one by t_oi, an outer one its inner one by that
one's DEAD_TIME, and either waits in its level while the other stays as it is (R200). Where minimum pulse carries an edge to the next one or past it, both
are dropped (R191). (Log 100, DEDUCED, unsafe.) -/
def State.edgeSet (s : State) (p : Nat) (h : Half) (leg : Nat → EpChan) : HubSet :=
  let c := s.nat (OD.PAIR_CARRIER p)
  let half := s.carPeriod c / 2
  let w := (s.pair' p).shadow
  let cmp := cmpOf w half
  let start := h.start.toNat
  let was (i : Nat) : EpChan := s.hubBefore i start
  let base : EdgeSet := { pair := p, down := !h.up, start := start % 2 ^ 32 }
  let off0 (x : EpChan) : EpChan := { level := false, edgeAt := if x.level then start else x.edgeAt }
  let keep : HubSet := { set := base, start := start, h := was (2 * p), l := was (2 * p + 1) }
  if forceOff w then { keep with set := { base with forceOff := true }, h := off0 keep.h, l := off0 keep.l }
  else if s.hubSkips p start then { keep with pulses := 1 }
  else
    let wanted := if h.up then decide (cmp < half) else decide (cmp = 0)
    let at' := (edgeIn cmp half h).getD start
    let next := edgeIn cmp half (s.halfAt c (h.start + h.len).toNat)
    let passes (t : Nat) : Bool := next.any fun n => decide (n ≤ t)
    let off := if wanted then 2 * p + 1 else 2 * p
    let on := if wanted then 2 * p else 2 * p + 1
    let minPulse := s.nat OD.MIN_PULSE
    let late (i g : Nat) : Nat := if minPulse = 0 then g else Nat.max g ((was i).edgeAt + minPulse)
    let outer := if outerOf (s.device off) = 0 then none else (s.sibling p (outerOf (s.device off))).map leg
    let inner := if innerOf (s.device on) = 0 then none else (s.sibling p (innerOf (s.device on)))
    if (was on).level then keep
    else if (was off).level && outer.any (fun o => o.level) then { keep with fixes := 1 }
    else
      let g := match outer with
        | some o => if (was off).level then Nat.max at' (o.edgeAt + s.nat OD.T_OI) else at'
        | none => at'
      let t := if (was off).level then late off g else at'
      if g < t ∧ passes t = true then { keep with pulses := 2 }
      else
        let u := t + s.nat (OD.DEAD_TIME p)
        let v := match inner with
          | some i => Nat.max u ((leg i).edgeAt + s.nat (OD.DEAD_TIME (i / 2)))
          | none => u
        let waits := inner.any fun i => !(leg i).level
        let t' := late on v
        let drop := decide (v < t') && passes t'
        let offE := if (was off).level then some { level := false, ofs := t - start : SetEdge } else none
        let onE := if waits || drop then none else some { level := true, ofs := t' - start : SetEdge }
        let offC : EpChan := if (was off).level then { level := false, edgeAt := t } else was off
        let onC : EpChan := if onE.isSome then { level := true, edgeAt := t' } else was on
        { set := if wanted then { base with h := onE, l := offE } else { base with h := offE, l := onE }
          start := start, h := if wanted then onC else offC, l := if wanted then offC else onC
          pulses := (if g < t then 1 else 0) + (if v < t' then 1 else 0)
          fixes := (if at' < g then 1 else 0) + (if u < v ∨ waits = true then 1 else 0), skip := drop }

/-- The sets of pairs whose half-periods start together, each half with its pair: three rounds, in each of which a device sees what the other
devices of its leg do by the round before, reach every edge the order of R200 moves (turn-off of outer and inner, turn-on of inner and outer). -/
def State.edgeRound (s : State) (hs : List (Nat × Half)) (known : List HubSet) : List HubSet :=
  hs.map fun x => s.edgeSet x.1 x.2 fun i =>
    match known.find? fun y => decide (y.set.pair = i / 2) with
    | some y => if i % 2 = 0 then y.h else y.l
    | none => s.hubBefore i (x.2.start.toNat + 1)

/-- The sets of one start tick are planned. -/
def State.planSets (s : State) (hs : List (Nat × Half)) : State :=
  let ys := s.edgeRound hs (s.edgeRound hs (s.edgeRound hs []))
  { s with link := { s.link with sets := s.link.sets ++ ys } }

/-- A set that no burst can replace any more: its channels are the hub's last edges; its delayed, dropped and moved edges are counted (R191, R200). -/
def State.settleSet (s : State) (x : HubSet) : State :=
  let k := s.link
  let p := x.set.pair
  let s := { s with link := { k with hub := vset (vset k.hub (2 * p) x.h) (2 * p + 1) x.l, skip := vset k.skip p x.skip } }
  let s := s.count OD.PULSE_STRETCH x.pulses
  if x.fixes = 0 then s else (s.count OD.NPC_ORDER_FIX x.fixes).note Ev.NPC_ORDER_FIX p

/-- The sets of an endpoint's pairs that start before `t` stand; the later ones are computed afresh (R237). -/
def State.settleSets (s : State) (ps : List Nat) (t : Nat) : State :=
  let (mine, other) := s.link.sets.partition fun x => ps.contains x.set.pair
  let s := { s with link := { s.link with sets := other } }
  (mine.filter fun x => decide (x.start < t)).foldl (init := s) fun s x => s.settleSet x

/-- The edge sets of one burst queued at LTC `q` for the remote pairs of an endpoint, in pair order and then start order; half-periods
that begin less than REMOTE_LEAD after `q` keep their earlier sets, and those of them that the frame sampled at `t0` would govern, the first reloads in
[t0 + F, t0 + 2F) (R197), are counted (R237). (Log 100, DEDUCED, unsafe.) -/
def State.edgeSets (s : State) (e q t0 : Nat) : List EdgeSet × State :=
  let lead := s.nat OD.REMOTE_LEAD
  let ps := s.remotePairs e
  let s := s.settleSets ps (q + lead)
  let s := ps.foldl (init := s) fun s p => s.count OD.REMOTE_LATE (s.reloads (s.nat (OD.PAIR_CARRIER p)) (t0 + s.fTicks) (Nat.min (t0 + 2 * s.fTicks) (q + lead))).length
  let hs := (ps.map fun p => (s.reloads (s.nat (OD.PAIR_CARRIER p)) (q + lead) (q + lead + 2 * s.fTicks)).map fun h => (p, h)).flatten
  let starts := sortedNats (hs.map fun x => x.2.start.toNat)
  let s := starts.foldl (init := s) fun s t => s.planSets (hs.filter fun x => decide (x.2.start.toNat = t))
  ((ps.map fun p => (s.link.sets.filter fun x => decide (x.set.pair = p)).map fun x => x.set).flatten, s)

/-- The sync parcel (Table 9.5) of frame `n`, sampled at `t0`. -/
def State.syncParcel (s : State) (l : Nat) (held : Bool) (n t0 : Nat) : BitVec 128 :=
  packFields [(124, 4, 1), (123, 1, if held then 1 else 0), (122, 1, if s.running then 1 else 0),
    (100, 20, s.ltc - t0 + (s.ser l).tx.wait (s.laneTb l) s.now), (64, 32, n), (0, 64, t0)]

/-- The claim parcel (Table 9.6). -/
def State.claimParcel (s : State) (l len : Nat) : BitVec 128 :=
  let lease := decide (s.nat OD.PAIR_MODE = 2)
  packFields [(124, 4, 2), (122, 2, s.nat OD.PAIR_MODE), (104, 16, s.moduleClaim), (72, 32, if lease then s.nat OD.LEASE_EPOCH_NOW else 0),
    (64, 8, if lease then s.nat OD.LEASE_LEN else 0), (48, 16, s.nat OD.TIME_EPOCH), (32, 16, s.nat (OD.ONEWAY l)), (20, 12, len),
    (0, 16, s.nat OD.SERIAL)]

/-- The command parcels of a fresh burst: insertions in arm order, then edges in pair order (R234). -/
def State.freshCommands (s : State) (e q : Nat) : List (BitVec 128) × State :=
  let ins := ((s.epArms e).filter fun _ => s.armConfigured).map fun k => s.insParcels k ((s.arm k).applyAt - s.frame.t0)
  let (sets, s) := s.edgeSets e q s.frame.t0
  (ins.flatten ++ sets.map edgeParcel, s)

/-- One downlink burst of a lane for its endpoint (R234) in frame `n`, sampled at `t0`: no commands while a stop is in force, while the module does not hold
role 0x3 (R282, R307), or while the outputs do not run; a held burst repeats the last committed commands (R110). -/
def State.sendBurst (s : State) (e l : Nat) (held : Bool) (n t0 : Nat) : State :=
  let q := s.ltc
  let stop := s.pwm.safeParcels
  let quiet := stop.isSome || decide (s.moduleRole ≠ 3)
  let (cmds, s) :=
    if quiet then ([], s)
    else if held then ((s.ser l).cmd, s)
    else if s.running then s.freshCommands e q
    else ([], s)
  let safe := match stop with
    | some clamp => [s.safeParcel e clamp]
    | none => []
  let x := s.ser l
  let tail := match x.powerSend with
    | some (v, d) => [packFields [(124, 4, 7), (122, 2, v), (0, 64, q + d)]]
    | none => s.cfgParcels e l
  let len := 2 + safe.length + cmds.length + tail.length
  let (sent, s) := s.laneSend l ([s.syncParcel l held n t0, s.claimParcel l len] ++ safe ++ cmds ++ tail)
  let s := s.emit (.downlink l q sent.1 sent.2)
  let k := (s.items e).length
  s.setSer l { s.ser l with
    cmd := if quiet then [] else cmds
    item := if x.powerSend.isSome then x.item else (x.item + s.nat OD.CFG_PER_FRAME) % k
    powerSend := none
    powerDue := match x.powerSend with
      | some (v, d) => some (v, q + d)
      | none => x.powerDue }

/-- The downlink bursts of frame `n`, on every lane in P0 that serves an endpoint in use; none while the timebase is lost (R234) or
the link engine is in partial reset (Table 19.4). -/
def State.sendBurstsOf (s : State) (held : Bool) (n t0 : Nat) : State :=
  if s.tbValid && !s.bit OD.PR_BUSY 4 then
    (List.range 16).foldl (init := s) fun s l =>
      match s.laneEp l with
      | some e => if s.nat (OD.LANE_STATE l) = 4 then s.sendBurst e l held n t0 else s
      | none => s
  else s

/-- The downlink bursts of the present frame, once in it (R234). -/
def State.sendBursts (s : State) (held : Bool) : State :=
  if s.frame.burst then s
  else ({ s with frame := { s.frame with burst := true } }).sendBurstsOf held s.frame.n s.frame.t0

/-- While a stop is in force, the bursts of a frame leave at its commit or at t0 + 2.4 µs, whichever comes first (R234). -/
def State.stopBursts (s : State) : State :=
  if s.frame.begun && s.pwm.safeParcels.isSome && decide (s.frame.t0 + 1500 ≤ s.ltc) then s.sendBursts false else s

/-- The held bursts of a frame that slipped leave at its commit deadline (R110, R234); until then they are owed. While a stop is in force its bursts leave
earlier. -/
def State.oweBursts (s : State) : State :=
  if s.frame.burst || s.pwm.safeParcels.isSome then s.stopBursts
  else { s with frame := { s.frame with burst := true, owed := some (s.frame.n, s.frame.t0) } }

/-- Owed bursts whose deadline t0 + F + 1.8 µs has come leave now. -/
def State.owedBursts (s : State) : State :=
  match s.frame.owed with
  | some (n, t0) => if t0 + s.fTicks + 1125 ≤ s.ltc then ({ s with frame := { s.frame with owed := none } }).sendBurstsOf true n t0 else s
  | none => s

end Sys2Proof.Machine
end

