-- ==== Sys2Proof/Machine/Start.lean ====
section
/-!
DEFINITION. Machine/Start.lean: the START of the law with every condition other chapters put on it (R123, R194, R206, R252, R261, R263,
R379, R468, R485, R495), and what it sets going on the link and in the Eft.
-/
namespace Sys2Proof.Machine
open Sys2Proof

/-- The port FF_PORT names has a configuration problem (chapter 14). -/
def State.ffPortBad (s : State) : Bool :=
  let p := s.nat OD.FF_PORT
  decide (p ≠ 0) && decide (s.nat (OD.CAN_CONFIG_STATUS (p - 1)) ≠ 0)

/-- Refusals of START beside those of the law itself: endpoints (R252), READY (R495), life cycle (Table 18.3), a thermal stop in force (R468),
the feed-forward port. (Log 74, DEDUCED, unsafe.) -/
def State.startBlocked (s : State) : Bool :=
  !s.endpointsReady || decide (s.nat OD.BOOT_READY = 0) || decide (2 ≤ s.nat OD.LC_STATE) || decide (s.nat OD.THERMAL_STATE = 2) || s.ffPortBad

/-- The Eft warms for 32 frames after a START (R290); a faulted one only after a retest of the hub. -/
def State.eftStart (s : State) : State :=
  if s.flag OD.EFT_ENABLE = false then s.putN OD.EFT_STATE 0
  else if s.nat OD.EFT_STATE = 3 ∧ s.lanes.eftNeedsRetest = true then s
  else
    let s := { s with lanes := { s.lanes with eftWarm := 0, eftDisagree := 0 } }
    (s.putN OD.EFT_STATE 1).putBit OD.HEALTH_FLAGS 5 false

/-- START (R148): every configuration status is evaluated; refused WRONG_STATE, or the law enters SENSE and sleeping lanes wake. -/
def State.lawStart (s : State) : State × Reply :=
  let s := (s.refreshConfig).putN OD.LINK_CONFIG_STATUS s.linkConfig
  if s.startRefused s.startBlocked then (s, Reply.wrongState)
  else
    let s := s.epsUsed.foldl (init := s) fun s e => s.wakeLane (s.nat (OD.EP_LANE e))
    ((s.startAccepted).eftStart, Reply.ok)

/-- LAW_START, a command object of the owner. -/
def execLawStart (session : Nat) (s : State) : Host.Outcome State Fault Refusal :=
  .next (s.command session (s.ownerRefusal session) fun s => s.lawStart)

end Sys2Proof.Machine
end

