-- ==== Sys2Proof/Machine/Pair.lean ====
section
/-!
DEFINITION. Machine/Pair.lean: chapter 11, module pairs: pair states and roles, the cross-link, forwarded blocks, in-step comparison,
arbitration by claims and leases, takeover, handover and version skew (R295–R310).
-/
namespace Sys2Proof.Machine
open Sys2Proof

/-- What committed law state the raw parcels of a snapshot make: the spec gives no layout of the frame state (R292; free, log 30, DESIGN CHOICE, safe). -/
opaque Config.snapshotLaw : List (BitVec 128) → Law

/-- Whether an image's state import refuses the state of another version: the image's own (R310; free, log 30). -/
opaque Config.importRefuses : Nat → Nat → Bool

/-- What set of configuration values a mirror run carries, if it completes one (R308); the spec gives no layout of mirror runs (free, log 30). -/
opaque Config.mirrorSet : List (BitVec 128) → Option (List (Nat × Val))

/-- What owner's identity a mirror run carries, if it carries one (R308, R331; free, log 30). -/
opaque Config.mirrorOwner : List (BitVec 128) → Option (BitVec 384)

/-- What law a run of copied or mirrored codewords makes of the one before, and what it makes of an entry of the law's state (R286, R292); the spec gives no
layout of either (free, log 30). -/
opaque Config.mirrorLaw : List (BitVec 128) → Law → Law

/-- The value a mirrored run gives a dictionary entry, if it writes it (R286; free, log 30). -/
opaque Config.mirrorEntry : List (BitVec 128) → Nat → Option Nat

/-- What host transactions, with their marks, a mirrored run carries (R286, R287; free, log 30). -/
opaque Config.mirrorQueue : List (BitVec 128) → List Request

/-- Replace the pair record. -/
def State.setPr (s : State) (x : PairRec) : State := { s with pair := x }

/-- Pair mode is on. -/
def State.pairOn (s : State) : Bool := decide (s.nat OD.PAIR_MODE ≠ 0)

/-! ### Roles (R281, R296, R298) -/

/-- Local drive channels run only at role 0x3 (R296): they go off when it is left, and resume when it is taken. -/
def State.ldByRole (s : State) (was : Nat) : State :=
  let now' := s.moduleRole
  if was = 3 ∧ now' ≠ 3 then
    (List.range 6).foldl (init := s) fun s x => let s := s.ldOff x; s.setLd x { s.ldc x with holdOff := true }
  else if was ≠ 3 ∧ now' = 3 then
    (List.range 6).foldl (init := s) fun s x =>
      let s := s.setLd x { s.ldc x with holdOff := false }
      if s.ldSt x = 1 ∨ s.ldSt x = 2 then s.ldResume x else s
  else s

/-- The pair state changes (Table 11.7), recorded. -/
def State.setPairState (s : State) (st : Nat) : State :=
  if s.nat OD.PAIR_STATE = st then s
  else
    let was := s.moduleRole
    ((((s.putN OD.PAIR_STATE st).note Ev.PAIR_STATE 0).refreshClaims).ldByRole was)

/-- PAIR_TIEBREAK: 1 + (serial mod 15); of two equal ones the higher serial takes the next value (R281). (Log 108, DEDUCED, unsafe.) -/
def tiebreak (own other : Nat) : Nat :=
  let t := 1 + own % 15
  if other ≠ 0 ∧ 1 + other % 15 = t ∧ other < own then (if t = 15 then 1 else t + 1) else t

/-- PAIR_TIEBREAK follows both serial numbers. -/
def State.refreshTie (s : State) : State :=
  (s.putN OD.PAIR_TIEBREAK (tiebreak (s.nat OD.SERIAL) (s.nat OD.PARTNER_SERIAL))).refreshClaims

/-- A new lease epoch above every one seen (R304). -/
def State.newEpoch (s : State) : State :=
  let h := Nat.max s.pair.highEpoch (s.nat OD.LEASE_EPOCH_NOW)
  let e := (h / 16 + 1) * 16 + s.nat OD.PAIR_TIEBREAK
  (s.putN OD.LEASE_EPOCH_NOW (e % 2 ^ 32)).setPr { s.pair with highEpoch := e % 2 ^ 32 }

/-- The module becomes ACTIVE; `taking`: by takeover or handover, with HEALTH 0xFF in claim mode (R303, R304, R307), ownership reserved to the
identity mirrored by the former active (R331), its host transactions taken up by their marks (R287), and a mirrored commit kept only if its boundary was named
(Table 12.12). (Log 58, DEDUCED, unsafe.) -/
def State.becomeActive (s : State) (taking : Bool) : State :=
  let s := if s.nat OD.PAIR_MODE = 2 then s.newEpoch else s
  let s := s.setPr { s.pair with takeover := taking && decide (s.nat OD.PAIR_MODE = 1), roleNext := none, handover := none
                                 fadeFrom := if taking && s.pair.ownUsed then some s.now else s.pair.fadeFrom, missRun := s.pair.missRun }
  let s := if taking then
      let leaseEnd := s.now + sec (s.nat OD.OWN_LEASE)
      let s := s.setHosts { s.hosts with
          reserve := s.pair.ownerId.map fun i => (i, leaseEnd), queue := s.hosts.queue ++ s.hosts.mirrored, mirrored := [] }
      let s := s.actOnMarks
      s.setPr { s.pair with mirrorSet := if s.pair.switchNamed then s.pair.mirrorSet else none }
    else s
  s.setPairState 5

/-- The module takes COPY (R298, R299, R301): what it holds no longer qualifies it, and it asks for an epoch copy; the size of the bulk is
free (log 31, DESIGN CHOICE, safe). -/
def State.enterCopy (s : State) : State :=
  let st := s.nat OD.PAIR_STATE
  let s := if st = 2 ∨ st = 3 then (s.bump OD.COPY_ABORTS).note Ev.COPY_ABORTED 0 else s
  let k := s.draw.1
  let s := s.draw.2
  let s := s.setPr { s.pair with copyReq := true, epochFrame := none, snapshot := [], ownUsed := false, missRun := 0, autoStart := false }
  ((s.putN OD.COPY_LEFT (Config.freeNat k % 2 ^ 32)).putN OD.STEP_COUNT 0).setPairState 2

/-- PAIR_MODE changes at a commit: roles are resolved anew (R298), or the module is alone. -/
def State.pairModeChanged (s : State) : State :=
  let s := s.setHosts { s.hosts with mirrored := [] }
  if s.pairOn then ((s.setPr { startAt := s.now }).setPairState 1).refreshTie
  else ((s.setPr {}).setPairState 0).refreshTie

/-! ### Echoes (R303–R306) -/

/-- An echo shows another port obeyed than the one it came on. -/
def EpView.otherObeyed (v : EpView) : Bool := decide (fld v.echo 122 1 = 0) && decide (fld v.echo 123 1 ≠ v.port)

/-- An echo witnesses the partner (R305). -/
def State.witness (s : State) (e : Nat) : Bool :=
  let v := s.view e
  let bound := if s.nat OD.PAIR_MODE = 2 then s.nat OD.LEASE_LEN + 1 else 1
  v.echoed && v.otherObeyed && decide (fld v.echo 0 16 = s.nat OD.PARTNER_SERIAL % 65536) && decide (fld v.echo 16 8 ≤ bound)

/-- Some endpoint in use witnesses the partner. -/
def State.witnessed (s : State) : Bool := s.epsUsed.any fun e => s.witness e

/-- Some endpoint in use has sent an echo this frame. -/
def State.anyEcho (s : State) : Bool := s.epsUsed.any fun e => (s.view e).echoed

/-- The lease of the partner and the guard have run out (R304). -/
def State.leaseOver (s : State) : Bool :=
  let f := s.fTicks
  decide (s.pair.lastHbAt + s.nat OD.LEASE_LEN * f + cdiv (s.nat OD.LEASE_LEN * f * 200) 1000000 + 2 * f ≤ s.now)

/-- CROSSLINK_LOST set or cleared, counted when it begins (R301, R305). -/
def State.crosslinkLost (s : State) (b : Bool) : State :=
  if s.bit OD.HEALTH_FLAGS 3 = b then s
  else
    let s := (s.putBit OD.HEALTH_FLAGS 3 b).note Ev.CROSSLINK_LOST 0 b
    if b then s.bump OD.CROSSLINK_LOSSES else s

/-- Demoted by an echo that obeys a higher claim or epoch (R306). -/
def State.demotedByEcho (s : State) : Bool :=
  s.epsUsed.any fun e =>
    let v := s.view e
    v.echoed && (if s.nat OD.PAIR_MODE = 2 then decide (s.nat OD.LEASE_EPOCH_NOW < fld v.echo 72 32)
      else v.otherObeyed && decide (s.moduleClaim < fld v.echo 56 16))

/-- The active's part: it retires at once (R306), or ends its takeover once every endpoint obeys it alone (R303). -/
def State.activeEchoes (s : State) : State :=
  if s.demotedByEcho then ((s.setPr { s.pair with takeover := false, handover := none }).setPairState 6).note Ev.DEMOTED_BY_ECHO 0
  else if s.pair.takeover && s.epsUsed.all (fun e => (s.view e).echoed && decide (fld (s.view e).echo 122 1 = 0) &&
      !(s.view e).otherObeyed && decide (fld (s.view e).echo 56 16 = 0)) then (s.setPr { s.pair with takeover := false }).refreshClaims
  else s

/-- The standby's part when the partner has been silent for two frames: takeover from the next frame (R303, R304), or ISOLATED while a
witness remains (R305). -/
def State.standbyEchoes (s : State) : State :=
  if s.pair.missRun < 2 ∨ s.anyEcho = false then s
  else if s.witnessed then (s.crosslinkLost true).setPairState 7
  else if s.nat OD.PAIR_MODE = 1 ∨ s.leaseOver = true then s.setPr { s.pair with roleNext := some 5 }
  else s

/-- Once every endpoint in use has reported in this frame or been given up, the echoes are judged. -/
def State.judgeEchoes (s : State) : State :=
  if s.pairOn && s.epsUsed.all (fun e => (s.view e).seen || (s.view e).lost) then
    let st := s.nat OD.PAIR_STATE
    if st = 5 then s.activeEchoes else if st = 4 ∨ st = 7 ∨ st = 8 then s.standbyEchoes else s
  else s

/-! ### Frame boundary -/

/-- Role changes due at a frame boundary: a takeover (R303, R304), the two sides of a handover (R307). -/
def State.pairRoles (s : State) : State :=
  let p := s.pair
  match p.roleNext with
  | some _ =>
    if p.partnerHandover then ((s.becomeActive true).bump OD.HANDOVERS).note Ev.HANDOVER 0
    else ((s.becomeActive true).bump OD.TAKEOVERS).note Ev.TAKEOVER 0
  | none =>
    match p.handover with
    | some m =>
      if s.nat OD.PAIR_STATE = 5 ∧ s.frame.n ≠ m then
        (((s.setPr { p with takeover := false }).setPairState 6).bump OD.HANDOVERS).note Ev.HANDOVER 0
      else s
    | none => s

/-- A module in COPY or STEP whose active has failed, silent for two frames and obeyed by no endpoint, resolves its role anew, and may start the law itself
(R298, R302). (Log 139, DEDUCED, unsafe.) -/
def State.survivor (s : State) : State :=
  if (s.nat OD.PAIR_STATE = 2 ∨ s.nat OD.PAIR_STATE = 3) ∧ 2 ≤ s.pair.missRun ∧ s.witnessed = false then
    (s.setPr { s.pair with startAt := s.now, heard := false, missRun := 0, copyReq := false, autoStart := true }).setPairState 1
  else s

/-- At a frame boundary: role changes, an active's partner that stayed silent (R301), a module whose active failed during its copy (R302), and the new
frame's echoes and heartbeat. -/
def State.pairBoundary (s : State) : State :=
  let s :=
    if s.pairOn then
      let s := s.pairRoles
      let silent := !s.pair.hb && ((decide (s.nat OD.PAIR_STATE = 5) && s.pair.heard) || (decide (s.nat OD.PAIR_STATE = 2) && !s.pair.blockIn))
      let s := if silent then s.setPr { s.pair with missRun := s.pair.missRun + 1 } else s
      if s.nat OD.PAIR_STATE = 5 ∧ 2 ≤ s.pair.missRun then s.crosslinkLost true else s.survivor
    else s
  let s := s.setPr { s.pair with hb := false, blockIn := false, block := none }
  (List.range 16).foldl (init := s) fun s e => s.setView e { s.view e with seen := false, lost := false, echoed := false }

/-! ### What the module sends on the cross-link (R297) -/

/-- The heartbeat (Table 11.5). -/
def State.heartbeat (s : State) : BitVec 128 :=
  let b (y : Bool) : Nat := if y then 1 else 0
  let p := s.pair
  packFields [(124, 4, 0xD), (104, 16, s.moduleClaim), (72, 32, if s.nat OD.PAIR_MODE = 2 then Nat.max p.highEpoch (s.nat OD.LEASE_EPOCH_NOW) else 0),
    (40, 32, s.frame.n), (36, 4, s.nat OD.PAIR_STATE), (35, 1, b (decide (p.handover = some s.frame.n))), (34, 1, b p.copyReq),
    (33, 1, b p.ownUsed), (32, 1, b (decide (p.epochFrame = some s.frame.n))), (16, 16, s.nat OD.FW_VERSION), (8, 8, p.switchDelta),
    (0, 8, s.nat OD.CONFIG_GEN)]

/-- A run header (Table 11.6). -/
def runHeader (kind count frame : Nat) (delta held : Bool) : BitVec 128 :=
  packFields [(124, 4, 0xD), (120, 4, 1), (116, 4, kind), (112, 4, count), (52, 32, frame), (43, 1, if delta then 1 else 0),
    (42, 1, if held then 1 else 0)]

/-- The ten codewords of a frame-path block (Table 4.2). -/
def blockWords (b : FpBlock) : List (BitVec 128) :=
  ((List.range 8).map fun i => packFields ((List.range 4).map fun j => (32 * j, 32, (at0 b.samples (4 * i + j)).toNat))) ++
  [packFields ((List.range 32).map fun n => (4 * n, 4, b.nibbles.getD n 0)), packFields [(96, 32, b.number), (32, 64, b.t0), (0, 16, b.epoch)]]

/-- The block of ten codewords. -/
def blockOf (ws : List (BitVec 128)) : FpBlock :=
  let w (i : Nat) : BitVec 128 := ws.getD i 0
  { samples := (List.range 32).map fun n => BitVec.ofNat 32 (fld (w (n / 4)) (32 * (n % 4)) 32)
    nibbles := (List.range 32).map fun n => fld (w 8) (4 * n) 4
    number := fld (w 9) 96 32, t0 := fld (w 9) 32 64, epoch := fld (w 9) 0 16 }

/-- The module computes on the forwarded block: a standby of a pair (R299, R300). -/
def State.followsPartner (s : State) : Bool :=
  let st := s.nat OD.PAIR_STATE
  s.pairOn && (decide (st = 3) || decide (st = 4) || decide (st = 7) || decide (st = 8))

/-- The block a frame is computed on: the forwarded one on a standby; from a takeover onward the own one plus d, faded over
SWITCH_FADE (R299, R300). -/
def State.blockUsed (s : State) : Option FpBlock :=
  if s.followsPartner then s.pair.block
  else
    match s.frame.block, s.pair.fadeFrom with
    | some b, some t =>
      let left := fsub fone (fdiv (fq (s.now - t : Nat) 625000000) (s.f32 OD.SWITCH_FADE))
      if flt fzero left then
        some { b with samples := (List.range 32).map fun n => ffma left (at0 s.pair.d n) (at0 b.samples n) }
      else some b
    | b, _ => b

/-- At the release of the block the active sends its heartbeat and the block (R297). -/
def State.sendBlock (s : State) : State :=
  match s.blockUsed with
  | some b =>
    if s.pairOn && decide (s.moduleRole = 3) then s.sendCross (s.heartbeat :: runHeader 0 10 s.frame.n false false :: blockWords b) else s
  | none => s

/-- At its commit each module sends its digest run, the standby after its heartbeat (R297). -/
def State.sendDigest (s : State) (c : LaneCommit) (delta : Bool) : State :=
  if s.pairOn then
    let hb := if s.moduleRole = 3 then [] else [s.heartbeat]
    let sum := packFields ((List.range 4).map fun i => (96 - 32 * i, 32, (at0 c.summary i).toNat))
    s.sendCross (hb ++ [runHeader 3 2 c.frame delta c.slip, c.digest, sum])
  else s

/-! ### Comparison in step (R299, R310) -/

/-- Each summary value within SKEW_TOL, ω within SKEW_TOL/100 (R310). -/
def summaryNear (tol : F32) (x y : List F32) : Bool :=
  ((List.range 3).all fun i => fle (fabs (fsub (at0 x i) (at0 y i))) tol) &&
  fle (fabs (fsub (at0 x 3) (at0 y 3))) (fdiv tol (fofInt 100))

/-- The module's own commit and its partner's of one frame are compared: bit-exact (R299), a shadow within tolerance (R310). A slip of
the partner or an old frame compares nothing; a mismatch is the standby's while the module's own lanes agree. -/
def State.pairCompare (s : State) : State :=
  let agree := match (s.lane .a).commit, (s.lane .b).commit with
    | some c, some d => decide (c.frame ≠ d.frame) || c.slip || d.slip || decide (c.digest = d.digest)
    | _, _ => true
  match s.pair.own, s.pair.partner with
  | some a, some b =>
    if a.frame ≠ b.frame ∨ s.pairOn = false then s
    else
      let st := s.nat OD.PAIR_STATE
      let s := s.setPr { s.pair with partner := none }
      if a.slip || b.slip then (if st = 3 ∧ a.slip = true then s.enterCopy else s)
      else if st = 8 ∨ (st = 5 ∧ s.nat OD.PARTNER_STATE = 8) then
        s.setPr { s.pair with skewRun := if summaryNear (s.f32 OD.SKEW_TOL) a.summary b.summary then 0 else s.pair.skewRun + 1 }
      else if a.digest = b.digest then (if st = 3 then s.putN OD.STEP_COUNT (Nat.min (s.nat OD.STEP_COUNT + 1) 256) else s)
      else if st = 3 then s.enterCopy
      else if agree = true ∧ (st = 4 ∨ st = 5) then
        let s := (s.bump OD.PAIR_DIVERGENCES).note Ev.PAIR_DIVERGENCE 0
        if st = 4 then s.enterCopy else s
      else s
  | _, _ => s

/-- The module's own commit is known. -/
def State.ownCommit (s : State) (c : LaneCommit) : State := (s.setPr { s.pair with own := some c }).pairCompare

/-! ### The partner's parcels (R297, R299, R301, R307) -/

/-- PARTNER_NOT_QUALIFIED: the active's partner is neither STANDBY nor SHADOW. -/
def State.partnerFlag (s : State) : State :=
  s.putBit OD.HEALTH_FLAGS 4 (decide (s.nat OD.PAIR_STATE = 5) && !(decide (s.nat OD.PARTNER_STATE = 4) || decide (s.nat OD.PARTNER_STATE = 8)))

/-- HEALTH of a claim (Table 11.1). -/
def claimHealth (c : Nat) : Nat := c / 16 % 256

/-- HEARTBEAT_RECEIVE; a standby whose HEALTH exceeds the active's by HANDOVER_MARGIN or more is ahead (R307; log 108, DEDUCED, unsafe). -/
def State.heartbeatReceive (s : State) (w : BitVec 128) (serial : Nat) : State :=
  if s.pairOn = false ∨ ptype w ≠ 0xD ∨ fld w 120 4 ≠ 0 then s
  else
    let s := ((s.putN OD.PARTNER_CLAIM (fld w 104 16)).putN OD.PARTNER_STATE (fld w 36 4)).putN OD.PARTNER_SERIAL serial
    let epoch := fld w 72 32
    let ahead := decide (s.nat OD.HANDOVER_MARGIN ≠ 0) &&
      decide (claimHealth s.moduleClaim + s.nat OD.HANDOVER_MARGIN ≤ claimHealth (fld w 104 16))
    let s := s.setPr { s.pair with
        heard := true, hb := true, missRun := 0, lastHbAt := s.now, partnerFw := fld w 16 16, partnerGen := fld w 0 8
        partnerHandover := decide (fld w 35 1 = 1), partnerOwn := decide (fld w 33 1 = 1)
        highEpoch := Nat.max s.pair.highEpoch epoch
        epochFrame := if fld w 32 1 = 1 ∧ s.nat OD.PAIR_STATE = 2 then some (fld w 40 32) else s.pair.epochFrame
        switchDelta := if s.nat OD.PAIR_STATE = 5 then s.pair.switchDelta else fld w 8 8
        switchNamed := if s.nat OD.PAIR_STATE = 5 then s.pair.switchNamed else s.pair.switchNamed || decide (fld w 8 8 ≠ 0)
        healthAhead := if ahead then some (s.pair.healthAhead.getD s.now) else none }
    let s := if s.nat OD.PAIR_MODE = 2 ∧ s.nat OD.PAIR_STATE ≠ 5 then s.putN OD.LEASE_EPOCH_NOW s.pair.highEpoch else s
    let s := (s.refreshTie).crosslinkLost false
    let st := s.nat OD.PAIR_STATE
    let s := if s.pair.partnerHandover && (decide (st = 4) || decide (st = 8)) then s.setPr { s.pair with roleNext := some 5 } else s
    let s := if st = 7 ∨ (st = 4 ∧ s.pair.ownUsed = true) ∨ (st = 6 ∧ s.pair.handover = none) then s.enterCopy else s
    let s := if st = 5 ∧ fld w 34 1 = 1 ∧ s.pair.epochFrame = none then s.setPr { s.pair with epochFrame := some ((s.frame.n + 1) % 2 ^ 32) } else s
    s.partnerFlag

/-- A codeword arrives on X0 (lane 16) or X1 (17): decoded, corrected and counted, or discarded and counted (R9, R225). -/
def State.crossWord (s : State) (l : Fin 18) (w : BitVec 144) : State :=
  match bushelDecode w with
  | .clean => s
  | .corrected _ => s.parcelCorrected (.lane l)
  | _ => s.parcelBad (.lane l)

/-- A parcel that both lanes carry, from whichever delivered it cleanly (R297). -/
def crossPick (w0 w1 : Option (BitVec 144)) : Option (BitVec 128) := (w0.bind bushelGood).orElse fun _ => w1.bind bushelGood

/-- HEARTBEAT_RECEIVE: its codewords as X0 and X1 delivered them, where they did. The serial number is that of the partner; by which parcel the module learns
it the spec does not say. -/
def execHeartbeatReceive (x0 x1 : Option (BitVec 144)) (serial : BitVec 32) (s : State) : Host.Outcome State Fault Refusal :=
  .next (
    let t := x0.toList.foldl (fun s w => s.crossWord 16 w) s
    let t := x1.toList.foldl (fun s w => s.crossWord 17 w) t
    match crossPick x0 x1 with
    | some hb => t.heartbeatReceive hb serial.toNat
    | none => t)

/-- The t0 of a forwarded block against the module's own (R296): TIME_SKEW above 1 µs; below 0.5 µs a run begins. -/
def State.skewOf (s : State) (b : FpBlock) : State :=
  if b.number ≠ s.frame.n then s
  else
    let d : Int := (b.t0 : Int) - (s.frame.t0 : Int)
    let s := s.putI OD.PARTNER_TIME_OFS (d * 8 / 5)
    let small := decide (2 * d.natAbs < 625)
    let s := s.setPr { s.pair with skewOkSince := if small then some (s.pair.skewOkSince.getD s.now) else none }
    let was := s.bit OD.HEALTH_FLAGS 9
    if 625 < d.natAbs then (if was then s else (s.putBit OD.HEALTH_FLAGS 9 true).note Ev.TIME_SKEW 0)
    else if was && small then (s.putBit OD.HEALTH_FLAGS 9 false).note Ev.TIME_SKEW 0 false
    else s

/-- The differences d of forwarded and own samples: mean over the last 64 frames (R299). -/
def State.trackDiff (s : State) (f own : FpBlock) : State :=
  let x := (List.range 32).map fun n => if s.isLaw n then fsub (at0 f.samples n) (at0 own.samples n) else fzero
  let xs := (x :: s.pair.diffs).take 64
  let d := (List.range 32).map fun n => fdiv ((xs.map fun r => at0 r n).foldl fadd fzero) (fofInt xs.length)
  let far := (List.range 32).any fun n => s.isLaw n && flt (s.f32 OD.PLAUS_TOL) (fabs (at0 d n))
  let s := s.setPr { s.pair with diffs := xs, d := d, plausSince := if far then some (s.pair.plausSince.getD s.now) else none }
  if !far && s.bit OD.HEALTH_FLAGS 8 then (s.putBit OD.HEALTH_FLAGS 8 false).note Ev.PLAUSIBILITY 0 false else s

/-- A forwarded block (KIND 0): the standby computes on it; a retiring module that handed over becomes STANDBY with it (R307). -/
def State.forwarded (s : State) (b : FpBlock) : State :=
  let s := s.skewOf b
  let s := s.setPr { s.pair with block := some b, blockIn := true, missRun := 0 }
  let s := match s.frame.block with
    | some own => if own.number = b.number then s.trackDiff b own else s
    | none => s
  if s.nat OD.PAIR_STATE = 6 ∧ s.pair.handover.isSome = true then (s.setPr { s.pair with handover := none }).setPairState 4 else s

/-- REDUCED_COVERAGE begins or ends (R310). -/
def State.reducedCoverage (s : State) (b : Bool) : State :=
  if s.bit OD.HEALTH_FLAGS 2 = b then s else (s.putBit OD.HEALTH_FLAGS 2 b).note Ev.REDUCED_COVERAGE 0 b

/-- A unit of another firmware version runs as SHADOW (R310). -/
def State.beginShadow (s : State) : State :=
  ((s.setPr { s.pair with shadowAt := s.now, skewRun := 0 }).putN OD.UPDATE_STAGE 1).reducedCoverage true

/-- Entries of the law's and the outputs' state in the mirrored set, with the number of their values (R286). -/
def mirroredEntries : List (Nat × Nat) := [(OD.LAW_STATE, 9), (OD.OUT_STATE, 6)]

/-- The law's state of a copied or mirrored run is that of this module too (R286, R292; free, log 30). -/
def State.takeState (s : State) (raw : List (BitVec 128)) : State :=
  mirroredEntries.foldl (init := s) fun s x => match Config.mirrorEntry raw x.1 with
    | some v => s.putN x.1 (v % x.2)
    | none => s

/-- Copy runs (KIND 2): the bulk, then the snapshot of the epoch frame, whose state is installed (R292); the count of equal frames
starts. -/
def State.copyRun (s : State) (frame : Nat) (raw : List (BitVec 128)) : State :=
  if s.nat OD.PAIR_STATE ≠ 2 then s
  else if s.nat OD.COPY_LEFT ≠ 0 then s.putN OD.COPY_LEFT (s.nat OD.COPY_LEFT - raw.length)
  else if s.pair.epochFrame = some frame then
    let all := s.pair.snapshot ++ raw
    let s := s.setPr { s.pair with snapshot := all }
    if s.nat OD.FRAME_STATE_CW ≤ all.length then
      let s := (s.mapLaws fun _ => Config.snapshotLaw all).takeState all
      let s := s.setPr { s.pair with copyReq := false, snapshot := [] }
      if s.pair.partnerFw = s.nat OD.FW_VERSION then (s.putN OD.STEP_COUNT 0).setPairState 3
      else if Config.importRefuses s.pair.partnerFw (s.nat OD.FW_VERSION) then s
      else (s.beginShadow).setPairState 8
    else s
  else s

/-- Two marks of one transaction. -/
def sameTx (x y : Request) : Bool := decide (x.session = y.session) && decide (x.tag = y.tag) && decide (x.at1 = y.at1)

/-- The newest mark of each mirrored transaction is kept (R287). -/
def State.takeMarks (s : State) (qs : List Request) : State :=
  s.setHosts { s.hosts with mirrored := s.hosts.mirrored.filter (fun x => !qs.any (sameTx x)) ++ qs }

/-- A clean mirror run on a module that is not ACTIVE: the law's state, marked host transactions, a committed set it completes, and the owner's identity
(R286, R287, R308, R331); the layout of mirror runs is not stated (free values, log 30). -/
def State.mirrorRun (s : State) (raw : List (BitVec 128)) : State :=
  if s.nat OD.PAIR_STATE = 5 then s
  else
    let s := (((s.mapLaws fun l => Config.mirrorLaw raw l).takeState raw).takeMarks (Config.mirrorQueue raw))
    let p := s.pair
    match Config.mirrorSet raw with
    | some set => s.setPr { p with mirrorSet := some set, switchNamed := false, ownerId := (Config.mirrorOwner raw).orElse fun _ => p.ownerId }
    | none => s.setPr { p with ownerId := (Config.mirrorOwner raw).orElse fun _ => p.ownerId }

/-- XL_RUN_RECEIVE (R297, R299): a run whose header arrived cleanly is used by its KIND; a voided block is missing, a voided mirror run
disqualifies a standby, a voided copy run is sent again. -/
def State.xlRun (s : State) (h : BitVec 128) (raw : List (BitVec 128)) (clean : Bool) : State :=
  let kind := fld h 116 4
  if s.pairOn = false ∨ ptype h ≠ 0xD ∨ fld h 120 4 ≠ 1 then s
  else if !clean then
    (if kind = 1 ∧ (s.nat OD.PAIR_STATE = 3 ∨ s.nat OD.PAIR_STATE = 4 ∨ s.nat OD.PAIR_STATE = 8) then s.enterCopy else s)
  else if kind = 1 then s.mirrorRun raw
  else if kind = 0 then (if raw.length = 10 then s.forwarded (blockOf raw) else s)
  else if kind = 2 then s.copyRun (fld h 52 32) raw
  else if kind = 3 then
    let sum := (List.range 4).map fun i => BitVec.ofNat 32 (fld (raw.getD 1 0) (96 - 32 * i) 32)
    (s.setPr { s.pair with path := some (fld h 52 32, decide (fld h 43 1 = 1)), partner := some { frame := fld h 52 32, slip := decide (fld h 42 1 = 1), digest := raw.getD 0 0, summary := sum } }).pairCompare
  else s

/-- A run as X0 and X1 delivered it, header first (R297): each of its codewords is decoded and counted on its lane, and taken from whichever lane delivered it
cleanly. Where neither delivered the header, which run is void follows from the bits that arrived; a run that lacks another of its parcels on both
lanes is void too. (Log 143, DEDUCED, unsafe.) -/
def State.xlRunWords (s : State) (x0 x1 : List (BitVec 144)) : State :=
  let t := x0.foldl (fun s w => s.crossWord 16 w) s
  let t := x1.foldl (fun s w => s.crossWord 17 w) t
  let picked := (List.range (Nat.max x0.length x1.length)).map fun i => crossPick x0[i]? x1[i]?
  let as := (x0.head?.orElse fun _ => x1.head?).getD 0
  let h := (picked.head?.bind id).getD (bushelData as)
  t.xlRun h ((picked.drop 1).filterMap id) (picked.all fun w => w.isSome)

/-- XL_RUN_RECEIVE. Mirror runs (KIND 1) keep the standby's banks equal to the active's; their contents have no layout in the spec. -/
def execXlRunReceive (x0 x1 : List (BitVec 144)) (s : State) : Host.Outcome State Fault Refusal :=
  .next (s.xlRunWords x0 x1)

/-- FORWARDED_BLOCK_MISSING (R300): by t0 + 2.4 µs + ONEWAY no forwarded block; the standby takes its own block plus d, and counts a
silent frame when the heartbeat is missing too (Table 11.10). -/
def State.forwardedMissing (s : State) : State :=
  let st := s.nat OD.PAIR_STATE
  if s.pairOn && (decide (st = 4) || decide (st = 7) || decide (st = 8) || decide (st = 3)) && !s.pair.blockIn && s.frame.begun &&
      decide (s.frame.t0 + 1500 + s.nat (OD.ONEWAY 16) ≤ s.ltc) then
    let s := s.bump OD.OWN_BLOCK_FRAMES
    let s := s.setPr { s.pair with ownUsed := true, blockIn := true, missRun := if s.pair.hb then s.pair.missRun else s.pair.missRun + 1 }
    match s.frame.block with
    | some b =>
      let xs := (List.range 32).map fun n => fadd (at0 b.samples n) (at0 s.pair.d n)
      s.setPr { s.pair with block := some { b with samples := xs } }
    | none => s
  else s

/-- FORWARDED_BLOCK_MISSING. -/
def execForwardedBlockMissing (s : State) : Host.Outcome State Fault Refusal := .next s.forwardedMissing

/-- PLAUSIBILITY (R299): |d| above PLAUS_TOL for 1 s. -/
def State.plausibility (s : State) : State :=
  match s.pair.plausSince with
  | some t => if s.past t (sec 1) ∧ s.bit OD.HEALTH_FLAGS 8 = false then (s.putBit OD.HEALTH_FLAGS 8 true).note Ev.PLAUSIBILITY 0 else s
  | none => s

/-- PLAUSIBILITY. -/
def execPlausibility (s : State) : Host.Outcome State Fault Refusal := .next s.plausibility

/-! ### Start, handover, qualification (R298, R302, R307, R310) -/

/-- Every endpoint in use reports a safe state (R302). -/
def State.endpointsSafe (s : State) : Bool := s.epsUsed.all fun e =>
  let st := s.nat (OD.EP_STATE e)
  decide (st = 2) || decide (st = 3) || decide (6 ≤ st)

/-- With PAIR_AUTO_START the module issues START once it holds role 0x3 and its endpoints are safe (R302). -/
def State.autoStart (s : State) : State :=
  if s.pair.autoStart && s.flag OD.PAIR_AUTO_START && decide (s.moduleRole = 3) && s.endpointsSafe && decide (s.nat OD.LAW_STATE = 0) then
    (s.setPr { s.pair with autoStart := false }).lawStart.1
  else s

/-- The module's claim without the cap, in the role it would take (R298). -/
def State.uncappedClaim (s : State) : Nat := s.moduleHealth * 16 + s.nat OD.PAIR_TIEBREAK

/-- The law of a module that has followed another is OFF, and its outputs with it (R298, R302). (Log 139, DEDUCED, unsafe.) -/
def State.lawOff (s : State) : State :=
  let s := if s.nat OD.OUT_STATE = 1 ∨ s.nat OD.OUT_STATE = 2 then (s.endModulation false).setOut 0 3 else s
  s.setLaw 0 2

/-- ACTIVE by R298: the law is OFF, and the survivor of a failed active may start it itself. -/
def State.resolvedActive (s : State) : State := ((s.lawOff).becomeActive false).autoStart

/-- PAIR_ROLE_RESOLVE (R298), with lanes READY: an echo that witnesses the partner, the partner's claim, or 1 s. -/
def State.pairRoleResolve (s : State) : State :=
  if s.pairOn && decide (s.nat OD.PAIR_STATE = 1) && s.flag OD.BOOT_READY && decide (s.nat OD.UPDATE_STAGE ≠ 3) then
    if s.witnessed then s.enterCopy
    else if s.pair.heard then
      (let p := s.nat OD.PARTNER_CLAIM
       if p / 4096 = 3 then s.enterCopy
       else if p % 4096 < s.uncappedClaim then s.resolvedActive
       else s.enterCopy)
    else if s.past s.pair.startAt (sec 1) then s.resolvedActive
    else s
  else s

/-- PAIR_ROLE_RESOLVE. -/
def execPairRoleResolve (s : State) : Host.Outcome State Fault Refusal := .next s.pairRoleResolve

/-- A shadow has served its time within tolerance (R310). -/
def State.skewTimeOk (s : State) : Bool := s.past s.pair.shadowAt (sec (s.nat OD.SKEW_MIN_TIME)) && decide (s.pair.skewRun = 0)

/-- A handover may begin: the module is ACTIVE, its partner STANDBY, or SHADOW long enough (R307, R310). -/
def State.handoverOk (s : State) : Bool :=
  decide (s.nat OD.PAIR_STATE = 5) &&
  (decide (s.nat OD.PARTNER_STATE = 4) || (decide (s.nat OD.PARTNER_STATE = 8) && s.skewTimeOk))

/-- The handover is announced in the next heartbeat (R307), or once a pending switching boundary has passed (Table 11.10). -/
def State.announceHandover (s : State) : State := s.setPr { s.pair with handover := some ((s.frame.n + 1 + s.pair.switchDelta) % 2 ^ 32) }

/-- PAIR_CMD handover (R307). -/
def State.pairHandover (s : State) : State × Reply :=
  if s.handoverOk then (s.announceHandover, Reply.ok) else (s, Reply.wrongState)

/-- PAIR_HANDOVER, a command object of the owner. -/
def execPairHandover (session : Nat) (s : State) : Host.Outcome State Fault Refusal :=
  .next (s.command session (s.ownerRefusal session) fun s => s.pairHandover)

/-- PAIR_CMD requalify partner: an epoch copy to the partner starts (R307, R292); without a partner on the cross-link it is refused. -/
def State.pairRequalify (s : State) : State × Reply :=
  if s.nat OD.PAIR_STATE = 5 ∧ s.pair.heard = true ∧ s.pair.missRun < 2 then
    (s.setPr { s.pair with epochFrame := some ((s.frame.n + 1) % 2 ^ 32), shadowAt := s.now, skewRun := 0 }, Reply.ok)
  else (s, Reply.wrongState)

/-- PAIR_REQUALIFY, a command object of the owner. -/
def execPairRequalify (session : Nat) (s : State) : Host.Outcome State Fault Refusal :=
  .next (s.command session (s.ownerRefusal session) fun s => s.pairRequalify)

/-- AUTO_HANDOVER (R307): the standby's HEALTH ahead by HANDOVER_MARGIN for 10 s. -/
def State.autoHandover (s : State) : State :=
  match s.pair.healthAhead with
  | some t =>
    if s.past t (sec 10) ∧ s.nat OD.HANDOVER_MARGIN ≠ 0 ∧ s.handoverOk = true ∧ s.pair.handover = none then
      (s.setPr { s.pair with healthAhead := none }).announceHandover
    else s
  | none => s

/-- AUTO_HANDOVER. -/
def execAutoHandover (s : State) : Host.Outcome State Fault Refusal := .next s.autoHandover

end Sys2Proof.Machine
end

