-- ==== Sys2Proof/Machine/Uplink.lean ====
section
/-!
DEFINITION. Machine/Uplink.lean: chapter 09, the module's handling of uplink bursts: status, echo, voltages, currents and faults, and of
an uplink that does not come (R239, R250–R252), with the pair rules that act on echoes (R303–R306).
-/
namespace Sys2Proof.Machine
open Sys2Proof

/-- Recorded when a condition begins, and when it ends. -/
def State.change (s : State) (was is' : Bool) (code detail : Nat) : State := if was = is' then s else s.note code detail is'

/-- The status parcel of endpoint `e` (Table 9.13): entries, and what changed since the last one (Table 9.22). -/
def State.upStatus (s : State) (e : Nat) (w : BitVec 128) : State :=
  let old := s.nat (OD.EP_STATE e)
  let st := fld w 120 4
  let serial := fld w 64 32
  let gen := fld w 96 16
  let late := fld w 16 8
  let v := s.view e
  let bad := decide (s.nat (OD.EP_SERIAL_EXP e) ≠ 0) && decide (serial ≠ s.nat (OD.EP_SERIAL_EXP e))
  let newLate := (late + 256 - v.late) % 256
  let s := s.change (decide (old = 5)) (decide (st = 5)) Ev.EP_BRIDGE e
  let s := if 6 ≤ st ∧ st ≠ old then s.note Ev.EP_SAFE e else s
  let s := if gen ≠ s.nat (OD.EP_CFG_GEN e) then s.note Ev.EP_CFG e else s
  let s := if bad && !v.mismatch then s.note Ev.EP_MISMATCH e else s
  let s := if newLate ≠ 0 then (s.count (OD.EP_LATE e) newLate).note Ev.EP_LATE e else s
  let s := (((s.putN (OD.EP_STATE e) st).putN (OD.EP_SERIAL e) serial).putN (OD.EP_CFG_GEN e) gen).putN (OD.EP_MISSED e) (fld w 24 8)
  s.setView e { v with late := late, mismatch := bad, port := fld w 119 1 }

/-- The echo parcel (Table 9.14). -/
def State.upEcho (s : State) (e : Nat) (w : BitVec 128) : State :=
  let v := { s.view e with echo := w, echoed := true }
  let none' := decide (fld w 122 1 = 1)
  let other := v.otherObeyed
  let s := (s.setView e v).putN (OD.EP_OBEYED e) (if none' then 2 else if other then 1 else 0)
  let s := if s.nat OD.PAIR_MODE = 2 ∧ s.pair.highEpoch < fld w 72 32 then s.setPr { s.pair with highEpoch := fld w 72 32 } else s
  if other && decide (s.moduleRole = 3) then s.note Ev.ECHO_OTHER 0 else s

/-- The frame to which an uplink that arrives now belongs: the present one once its t0 has passed (R236). -/
def State.uplinkFrame (s : State) : Nat := if s.frame.t0 ≤ s.ltc then s.frame.n else (s.frame.n + 2 ^ 32 - 1) % 2 ^ 32

/-- The arm keeps apart what the uplinks before frame `n` brought (R115, R141). -/
def Arm.turn (a : Arm) (n : Nat) : Arm := if a.tag = some n then a else { a with volts1 := a.volts, tag := some n }

/-- One submodule's voltage code (R239): 0xFFFE bypassed and unavailable; 0xFFFF refreshes nothing; any other code is its voltage. -/
def State.upVolt (s : State) (k j code : Nat) : State :=
  if s.nat OD.N_SM ≤ j ∨ code = 0xFFFF then s
  else
    let a := (s.arm k).turn s.uplinkFrame
    let a := { a with volts := sparseSet (fun _ => 0xFFFF) a.volts j code }
    if code = 0xFFFE then (s.setArm k a).putBit (OD.SM_BYPASSED k (j / 32)) (j % 32) true
    else (s.setArm k { a with seenAt := sparseInsert a.seenAt j s.uplinkFrame }).putBit (OD.SM_BYPASSED k (j / 32)) (j % 32) false

/-- A submodule voltage parcel (Table 9.15). -/
def State.upVolts (s : State) (w : BitVec 128) : State :=
  let k := fld w 121 3
  let p := fld w 115 6
  if k < 6 then (List.range 7).foldl (init := s) fun s i => s.upVolt k (7 * p + i) (fld w (16 * i) 16) else s

/-- Î_b = √2 · S_base / (√3 · V_base). -/
def State.iBase (s : State) : F32 := fdiv (fmul (fsqrt ftwo) (s.f32 OD.S_BASE)) (fmul fsqrt3 (s.f32 OD.V_BASE))

/-- A stack current parcel (Table 9.16), scaled to p.u. (R143). -/
def State.upStack (s : State) (w : BitVec 128) : State :=
  let k := fld w 121 3
  let pu (lo : Nat) : F32 := fdiv (BitVec.ofNat 32 (fld w lo 32)) s.iBase
  { s with sup := { s.sup with stackI := vset s.sup.stackI k [pu 64, pu 32, pu 0], stackFresh := vset s.sup.stackFresh k true } }

/-- The module's response to a fault report (R251): DESAT, UVLO and order faults that acted on a pair, one that names endpoint `e`, take GATE_OFF.
(Log 104, DEDUCED, unsafe.) -/
def State.epFaultResponse (s : State) (e kind index action : Nat) : State :=
  if (kind = 1 ∨ kind = 2 ∨ kind = 6) ∧ (action = 1 ∨ action = 3 ∨ action = 4) ∧ (s.remotePairs e).contains index = true then s.lawStop Ev.EP_FAULT false
  else s

/-- A fault report, recorded once per SEQ (R250); an overflow report only counts. -/
def State.upFault (s : State) (e : Nat) (w : BitVec 128) : State :=
  let v := s.view e
  let seq := fld w 96 8
  let s := s.bump (OD.EP_FAULTS e)
  if fld w 120 4 = 0xF ∨ (v.seqs.any fun q => q.contains seq) = true then s
  else ((s.note Ev.EP_FAULT e).epFaultResponse e (fld w 120 4) (fld w 108 9) (fld w 8 8))

/-- The uplink burst of endpoint `e` (R236). -/
def State.uplinkBurst (s : State) (e : Nat) (ps : List (BitVec 128)) : State :=
  let s := match findType 8 ps with
    | some w => s.upStatus e w
    | none => s
  let s := match findType 9 ps with
    | some w => s.upEcho e w
    | none => s
  let s := ps.foldl (init := s) fun s w =>
    if ptype w = 0xA then s.upVolts w else if ptype w = 0xB then s.upStack w else if ptype w = 0xC then s.upFault e w else s
  let seqs := (ps.filter fun w => decide (ptype w = 0xC)).map fun w => fld w 96 8
  let v := s.view e
  (((s.setView e { v with seen := true, silent := 0, seqs := seqs :: v.seqs.take 1 }).refreshReady).judgeEchoes).autoStart

/-- UPLINK_BURST_RECEIVE: the good parcels received on a lane since its last burst. A burst of no parcel at all is none. -/
def State.uplinkReceive (s : State) (l : Nat) : State :=
  let x := s.ser l
  match s.laneEp l with
  | some e =>
    if x.rx.buf.isEmpty then s else (s.setSer l { x with rx := { x.rx with buf := [] } }).uplinkBurst e x.rx.buf
  | none => s.setSer l { x with rx := { x.rx with buf := [] } }

/-- UPLINK_BURST_RECEIVE. -/
def execUplinkBurstReceive (l : Fin 16) (s : State) : Host.Outcome State Fault Refusal := .next (s.uplinkReceive l.val)

/-- UPLINK_LOST (R251): a frame without the uplink of an endpoint in use; BRIDGE_N in a row while ARMED or RUNNING take GATE_OFF. -/
def State.uplinkLost (s : State) (e : Nat) : State :=
  let v := s.view e
  if s.epUsed e = false ∨ v.seen = true ∨ v.lost = true then s
  else
    let n := if s.running then v.silent + 1 else 0
    let l := s.nat (OD.EP_LANE e)
    let s := (s.setView e { v with lost := true, silent := n })
    let s := if l ≤ 15 then s.bump (OD.UL_MISSED l) else s
    let s := if s.running && decide (s.nat (OD.BRIDGE_N e) ≤ n) then (s.note Ev.UPLINK_LOST e).lawStop Ev.UPLINK_LOST false else s
    s.judgeEchoes

/-- UPLINK_LOST. -/
def execUplinkLost (e : Fin 16) (s : State) : Host.Outcome State Fault Refusal := .next (s.uplinkLost e.val)

end Sys2Proof.Machine
end

