-- ==== Sys2Proof/Machine/Lanes.lean ====
section
/-!
DEFINITION. Machine/Lanes.lean: chapter 11, redundancy inside the module: comparison and attribution, the Eft, retest and
qualification, health, planned swaps and rotation, version skew (R280–R294, R310).
-/
namespace Sys2Proof.Machine
open Sys2Proof

/-! ### Digest and comparison (R284, R285, R288–R290) -/

/-- x · y in GF(2¹²⁸) modulo x¹²⁸ + x⁷ + x² + x + 1 (R284), bit by bit from the highest of `y`. -/
def gf128Go (x : Nat) (y : Nat) : Nat → Nat → Nat
  | 0, acc => acc
  | k + 1, acc =>
    let d := if acc < 2 ^ 127 then 2 * acc else Nat.xor (2 * acc - 2 ^ 128) 0x87
    gf128Go x y k (if y.testBit k then Nat.xor d x else d)

/-- Multiplication in GF(2¹²⁸). -/
def gf128Mul (x y : BitVec 128) : BitVec 128 := BitVec.ofNat 128 (gf128Go x.toNat y.toNat 128 0)

/-- The output digest: the polynomial hash over the codewords in order (R284). -/
def laneDigest (key : BitVec 128) (cws : List (BitVec 128)) : BitVec 128 := cws.foldl (fun h c => gf128Mul (h ^^^ c) key) 0

/-- The output summary of a lane: u_out in α, β and 0, and ω (R284). -/
def Law.summary (l : Law) : List F32 := [l.uOut.a, l.uOut.b, l.u0, l.omega]

/-- A summary lies inside the Eft's envelope around an estimate (R290). -/
def State.inEnvelope (s : State) (est sum : List F32) : Bool := summaryNear (s.f32 OD.EFT_TOL) sum est

/-- The Eft's estimate of a frame: its reduced law is not given in numbers (free, log 5). -/
def State.eftEstimate (s : State) : List F32 × State :=
  let k := s.free
  ([Config.freeF32 k, Config.freeF32 (k + 1), Config.freeF32 (k + 2), Config.freeF32 (k + 3)], s.drawn 4)

/-- Undiagnosed divergences of a lane in the last 24 h. -/
def State.undiagRecent (s : State) (l : Lane) : Nat :=
  ((s.lane l).undiagAt.filter fun t => decide (s.now < t + sec 86400)).length

/-- One lane is demoted for a divergence, by step `k` of R289; the third step counts toward UNDIAG_MAX (R291). (Log 105, DEDUCED, unsafe.) -/
def State.divergence (s : State) (k : Nat) (l : Lane) : State :=
  let s := s.bump (if k = 1 then OD.DIVERGE_SELF else if k = 2 then OD.DIVERGE_EFT else OD.DIVERGE_UNDIAG)
  let s := s.note Ev.LANE_DIVERGENCE (k * 256 + l.num)
  let s := if k = 3 then (s.setLaneRec l { s.lane l with undiagAt := s.now :: (s.lane l).undiagAt }).putBit OD.HEALTH_FLAGS 1 true else s
  let s := { s with lanes := { s.lanes with swapTo := none } }
  let s := s.demote l 4
  if k = 3 ∧ s.nat OD.UNDIAG_MAX ≤ s.undiagRecent l then s.setLane l 7 8 else s

/-- Attribution of a mismatch (R289). -/
def State.attribute (s : State) (est : List F32) : State :=
  let fails (l : Lane) : Bool := (s.lane l).diagFail || (s.lane l).frameBad
  let sum (l : Lane) : List F32 := match (s.lane l).commit with
    | some c => c.summary
    | none => []
  let out (l : Lane) : Bool := !s.inEnvelope est (sum l)
  let ready := decide (s.nat OD.EFT_STATE = 2)
  if fails .a ≠ fails .b then s.divergence 1 (if fails .a then .a else .b)
  else if ready && (out .a != out .b) then s.divergence 2 (if out .a then .a else .b)
  else s.divergence 3 (if s.claim .a < s.claim .b then .a else .b)

/-- Both lanes are equal: counted; self-diagnostics start anew; a lane in STEP comes nearer its qualification; the Eft's envelope is
held against both (R285, R288, R290, R292). -/
def State.equalFrame (s : State) (est sum : List F32) : State :=
  let s := s.bumpW OD.CMP_EQUAL
  let s := (s.setLaneRec .a { s.lane .a with diagFail := false }).setLaneRec .b { s.lane .b with diagFail := false }
  let step (s : State) (l : Lane) : State :=
    if s.laneSt l = 3 then
      let n := Nat.min ((s.lane l).stepCount + 1) 256
      (s.setLaneRec l { s.lane l with stepCount := n }).putN OD.STEP_COUNT n
    else s
  let s := step (step s .a) .b
  if s.nat OD.EFT_STATE = 2 then
    { s with lanes := { s.lanes with eftDisagree := if s.inEnvelope est sum then 0 else s.lanes.eftDisagree + 1 } }
  else s

/-- A lane falls out of step and takes the epoch copy again (R285, R292). -/
def State.resync (s : State) (l : Lane) (cause : Nat) : State :=
  let s := if s.laneSt l = 3 then (s.bump OD.COPY_ABORTS).note Ev.COPY_ABORTED 0 else s
  (s.setLaneRec l { s.lane l with stepCount := 0 }).setLane l 2 cause

/-- OUTPUT_COMPARE (R285): the digests of both lanes for the present frame are compared; a standby that slipped, or has not committed
by the deadline, falls out of step. -/
def State.outputCompare (s : State) : State :=
  match s.serving with
  | none => s
  | some l =>
    let o := l.other
    match (s.lane l).commit with
    | none => s
    | some c =>
      let st := s.laneSt o
      if st ≠ 3 ∧ st ≠ 4 ∧ st ≠ 6 then s
      else
        match (s.lane o).commit with
        | none => if s.frame.t0 + s.fTicks + 1125 ≤ s.ltc then s.resync o 12 else s
        | some d =>
          if d.frame ≠ c.frame then s
          else
            let drop (s : State) : State := (s.setLaneRec l { s.lane l with commit := none }).setLaneRec o { s.lane o with commit := none }
            if c.slip then drop s
            else if d.slip then (drop s).resync o 12
            else
              let (est, s) := s.eftEstimate
              if st = 6 then
                let near := summaryNear (s.f32 OD.SKEW_TOL) d.summary c.summary
                (drop s).setLaneRec o { (drop s).lane o with skewRun := if near then 0 else (s.lane o).skewRun + 1 }
              else if c.digest = d.digest then (drop s).equalFrame est c.summary
              else
                let s := (s.bump OD.CMP_MISMATCH).putN OD.LAST_DIVERGE_FRAME c.frame
                if st = 3 then (drop s).resync o 12 else drop (s.attribute est)

/-- OUTPUT_COMPARE. -/
def execOutputCompare (s : State) : Host.Outcome State Fault Refusal := .next s.outputCompare

/-- EFT_FAULT (R290): both lanes agree outside the envelope for EFT_DISAGREE_MAX frames. -/
def State.eftFault (s : State) : State :=
  if s.nat OD.EFT_STATE = 2 ∧ s.nat OD.EFT_DISAGREE_MAX ≤ s.lanes.eftDisagree then
    let s := { s with lanes := { s.lanes with eftNeedsRetest := true } }
    ((s.putN OD.EFT_STATE 3).putBit OD.HEALTH_FLAGS 5 true).note Ev.EFT_FAULT 0
  else s

/-- EFT_FAULT. -/
def execEftFault (s : State) : Host.Outcome State Fault Refusal := .next s.eftFault

/-- EFT_WARMING_END (R290): 32 frames of warming have passed. -/
def State.eftWarmingEnd (s : State) : State :=
  if s.nat OD.EFT_STATE = 1 ∧ 32 ≤ s.lanes.eftWarm then s.putN OD.EFT_STATE 2 else s

/-- EFT_WARMING_END. -/
def execEftWarmingEnd (s : State) : Host.Outcome State Fault Refusal := .next s.eftWarmingEnd

/-! ### Retest and qualification (R291, R292) -/

/-- LANE_RETEST_DONE (R291). -/
def State.retestDone (s : State) (l : Lane) (pass : Bool) : State :=
  if s.laneSt l = 1 then
    (if pass && !(s.lane l).fenced then (s.setLaneRec l { s.lane l with diagFail := false, slipRun := 0, stepCount := 0 }).setLane l 2 6
     else s.setLane l 7 7)
  else s

/-- LANE_RETEST_DONE. (Log 106, DEDUCED, safe.) -/
def execLaneRetestDone (lane : Lane) (pass : Bool) (s : State) : Host.Outcome State Fault Refusal := .next (s.retestDone lane pass)

/-- TIME_SKEW withholds a qualification until the difference has been small for 1 s (R296). -/
def State.skewAllows (s : State) : Bool :=
  !s.bit OD.HEALTH_FLAGS 9 && (match s.pair.skewOkSince with
    | some t => s.past t (sec 1) || decide (s.int OD.PARTNER_TIME_OFS = 0)
    | none => decide (s.int OD.PARTNER_TIME_OFS = 0))

/-- LANE_QUALIFIED (R292): 256 equal frames make a lane STANDBY, or a module of a pair. -/
def State.laneQualified (s : State) : State :=
  let one (s : State) (l : Lane) : State :=
    if s.laneSt l = 3 ∧ 256 ≤ (s.lane l).stepCount then (s.setLane l 4 3).note Ev.LANE_QUALIFIED 0 else s
  let s := one (one s .a) .b
  if s.pairOn && decide (s.nat OD.PAIR_STATE = 3) && decide (256 ≤ s.nat OD.STEP_COUNT) && s.skewAllows then
    (s.setPairState 4).note Ev.LANE_QUALIFIED 0
  else s

/-- LANE_QUALIFIED. -/
def execLaneQualified (s : State) : Host.Outcome State Fault Refusal := .next s.laneQualified

/-! ### Health (R293) -/

/-- The banks of a lane die (Table 17.1): 0–5 for A, 6–11 for B. -/
def laneBanks : Lane → List Nat
  | .a => [0, 1, 2, 3, 4, 5]
  | .b => [6, 7, 8, 9, 10, 11]

/-- SI of a lane against a factor of `n / 100`; SI entries count 1/1,024. -/
def State.siBelow (s : State) (l : Lane) (n : Nat) : Bool := decide (s.nat (siKey l) * 100 < n * 1024)

/-- The conditions of Table 11.3 that need memory: SI low until 1.08 for 10 s, hot until below 110 °C, the known-answer cycle. -/
def State.healthWatch (s : State) (l : Lane) (ka : KaResult) : State :=
  let r := s.lane l
  let low := s.siBelow l 105
  let ok := !s.siBelow l 108
  let since := if ok then some (r.siOkSince.getD s.now) else none
  let siLow := low || (r.siLow && !(ok && s.past (since.getD s.now) (sec 10)))
  let d := match l with
    | .a => 0
    | .b => 2
  let t := fmax (vget 0 s.power.dieTemps d) (vget 0 s.power.dieTemps (d + 1))
  let hot := flt (fofInt 115) t || (r.hot && !flt t (fofInt 110))
  let kaAt := match ka with
    | .completed => s.now
    | _ => r.kaAt
  let st := s.laneSt l
  let standby := decide (st = 4) || decide (st = 6) || (s.pairOn && decide (s.moduleRole = 2))
  let inc := standby && s.past kaAt (ms 500)
  let s := s.setLaneRec l { r with siLow := siLow, siOkSince := since, hot := hot, kaAt := if standby then kaAt else s.now, kaIncomplete := inc }
  match ka with
  | .none => s
  | .completed => s.bumpW OD.KA_CYCLES
  | .failed => ((s.bump OD.KA_FAILS).note Ev.KA_FAIL 0).diagFailed l

/-- A stamp within the last `d` ticks. -/
def State.within (s : State) (t : Option Nat) (d : Nat) : Bool := match t with
  | some t => decide (s.now < t + d)
  | none => false

/-- The health score of a lane: 255 less the deductions in force (Table 11.3). -/
def State.healthScore (s : State) (l : Lane) : Nat :=
  let r := s.lane l
  let b (x : Bool) (n : Nat) : Nat := if x then n else 0
  let bank (k : Nat) : Bank := vget {} s.power.banks k
  let gauges := ((List.range 6).filter fun g => !s.bit (gillOkKey l) g).length
  let spares := (laneBanks l).any fun k => decide (16 < s.nat (OD.SPARES_USED k))
  let bad := s.within r.poisonAt (sec 86400) || (laneBanks l).any fun k => s.within (bank k).uncorrAt (sec 86400)
  let corr := (laneBanks l).any fun k => s.within (bank k).corr100At (sec 3600)
  255 - (b r.siLow 16 + 16 * gauges + b corr 8 + b spares 16 + b bad 32 + b (s.within r.slipAt (sec 3600)) 8 +
    b (decide (0 < s.undiagRecent l)) 64 + b (decide (s.nat OD.REF_DIV_FAIL < (s.int OD.REF_DIVERGENCE).natAbs)) 32 + b r.hot 16 +
    b r.kaIncomplete 16)

/-- HEALTH_RECOMPUTE (R293), every 10 ms: both scores, the claims that carry them, and the flags of the health report. -/
def State.healthRecompute (s : State) (kaA kaB : KaResult) : State :=
  let s := (s.healthWatch .a kaA).healthWatch .b kaB
  let s := (s.putN OD.HEALTH_A (s.healthScore .a)).putN OD.HEALTH_B (s.healthScore .b)
  let s := s.putBit OD.HEALTH_FLAGS 6 (s.lanes.a.kaIncomplete || s.lanes.b.kaIncomplete)
  let s := s.putBit OD.HEALTH_FLAGS 1 (decide (0 < s.undiagRecent .a) || decide (0 < s.undiagRecent .b))
  s.refreshClaims

/-- HEALTH_RECOMPUTE, with what the known-answer slices of each lane have shown. -/
def execHealthRecompute (kaA kaB : KaResult) (s : State) : Host.Outcome State Fault Refusal := .next (s.healthRecompute kaA kaB)

/-- LOOPBACK_TEST (R293): a standby module loops back every enabled serial lane not in use; the outcomes are kept. -/
def State.loopback (s : State) (pass : Vector Bool 18) : State :=
  let idle (l : Nat) : Bool := s.flag (OD.LANE_EN l) && (s.laneEp l).isNone && decide (l < 16)
  let ok := Vector.ofFn fun l : Fin 18 => if idle l.val then vget true pass l.val else vget true s.lanes.loopbackOk l.val
  if s.pairOn && decide (s.moduleRole = 2) then { s with lanes := { s.lanes with loopbackOk := ok } }
  else s

/-- LOOPBACK_TEST. -/
def execLoopbackTest (pass : Vector Bool 18) (s : State) : Host.Outcome State Fault Refusal := .next (s.loopback pass)

/-! ### Planned swap and rotation (R294, R310) -/

/-- The other lane may take service: STANDBY, or SHADOW within tolerance for SKEW_MIN_TIME (R294, R310). -/
def State.swapOk (s : State) : Bool :=
  match s.serving with
  | some l =>
    let o := l.other
    decide (s.laneSt o = 4) || (decide (s.laneSt o = 6) && decide ((s.lane o).skewRun = 0) && s.past (s.lane o).shadowAt (sec (s.nat OD.SKEW_MIN_TIME)))
  | none => false

/-- A swap is announced with the path codeword of this frame. -/
def State.announceSwap (s : State) : State :=
  match s.serving with
  | some l => { s with lanes := { s.lanes with swapTo := some l.other, rotateDue := false } }
  | none => s

/-- LANE_CMD swap (R294). -/
def State.laneSwap (s : State) : State × Reply := if s.swapOk then (s.announceSwap, Reply.ok) else (s, Reply.wrongState)

/-- LANE_SWAP, a command object of the owner. -/
def execLaneSwap (session : Nat) (s : State) : Host.Outcome State Fault Refusal :=
  .next (s.command session (s.ownerRefusal session) fun s => s.laneSwap)

/-- LANE_ROTATE (R294): ROTATE_INTERVAL hours of service; a rotation waits until the other lane is STANDBY. -/
def State.laneRotate (s : State) : State :=
  match s.serving with
  | some l =>
    if s.nat OD.ROTATE_INTERVAL ≠ 0 ∧ s.past (s.lane l).servedSince (sec (3600 * s.nat OD.ROTATE_INTERVAL)) = true then (
      if s.laneSt l.other = 4 then s.announceSwap else { s with lanes := { s.lanes with rotateDue := true } })
    else s
  | none => s

/-- LANE_ROTATE. -/
def execLaneRotate (s : State) : Host.Outcome State Fault Refusal := .next s.laneRotate

/-- The Eft warms again when a lane serves that has been resynchronised since it last served (R290). -/
def State.eftAfterResync (s : State) (l : Lane) : State :=
  if (s.lane l).resynced then (s.setLaneRec l { s.lane l with resynced := false }).eftStart else s

/-- A retired lane becomes STANDBY at the next frame, SHADOW while the versions differ (R294, R310). -/
def State.retireEnds (s : State) (l : Lane) : State :=
  if s.laneSt l = 8 then
    (if (s.lane l).version = (s.lane l.other).version then s.setLane l 4 10
     else ((s.setLaneRec l { s.lane l with shadowAt := s.now, skewRun := 0 }).setLane l 6 10).putN OD.UPDATE_STAGE 2)
  else s

/-- An announced swap is made unless the other lane fell out (R294). -/
def State.takeSwap (s : State) : State :=
  match s.lanes.swapTo with
  | some o =>
    let s := { s with lanes := { s.lanes with swapTo := none } }
    if s.serving = some o.other ∧ (s.laneSt o = 4 ∨ s.laneSt o = 6) then
      ((((s.setLane o.other 8 10).serve o 10).note Ev.LANE_ROTATE 0).putN OD.FW_VERSION (s.lane o).version).eftAfterResync o
    else s
  | none => s

/-- A lane in RESYNC installs the server's frame state: STEP with one version, SHADOW with two, OUT where the import is refused (R292, R310). -/
def State.installCopy (s : State) (l : Lane) : State :=
  if s.laneSt l = 2 ∧ s.serving = some l.other then
    let r := s.lane l
    let s := s.setLaneRec l { r with law := s.lawOf l.other, t0c := (s.lane l.other).t0c, next := none, stepCount := 0, resynced := true,
                                     commit := none, shadowAt := s.now, skewRun := 0 }
    if r.version = (s.lane l.other).version then s.setLane l 3 0
    else if Config.importRefuses (s.lane l.other).version r.version then s.setLane l 7 14
    else ((s.setLane l 6 14).putN OD.UPDATE_STAGE 1).reducedCoverage true
  else s

/-- Coverage is whole again once no lane or module is a shadow (R310). -/
def State.coverageBack (s : State) : State :=
  let equal := decide (s.lanes.a.version = s.lanes.b.version) || (decide (s.laneSt .a ≠ 6) && decide (s.laneSt .b ≠ 6))
  if equal && decide (s.nat OD.PAIR_STATE ≠ 8) && decide (s.nat OD.PARTNER_STATE ≠ 8) && s.bit OD.HEALTH_FLAGS 2 then
    (s.reducedCoverage false).putN OD.UPDATE_STAGE 0 else s

/-- One more frame of the Eft's warming (R290). -/
def State.eftWarms (s : State) : State :=
  if s.nat OD.EFT_STATE = 1 then { s with lanes := { s.lanes with eftWarm := s.lanes.eftWarm + 1 } } else s

/-- What the frame before left of a lane's commit is dropped. -/
def State.dropCommit (s : State) (l : Lane) : State := s.setLaneRec l { s.lane l with commit := none, frameBad := false }

/-- A frame boundary on the lanes: a retired lane becomes STANDBY (SHADOW while versions differ), an announced swap is made unless the
other lane fell out, a waiting rotation is announced, lanes in RESYNC install the server's frame state, and the Eft warms (R290,
R292, R294, R310). -/
def State.laneBoundary (s : State) : State :=
  let s := ((s.retireEnds .a).retireEnds .b).takeSwap
  let s := if s.lanes.rotateDue && s.swapOk then s.announceSwap else s
  (((((s.installCopy .a).installCopy .b).eftWarms).coverageBack).dropCommit .a).dropCommit .b

/-! ### LANE_CMD requalify and take out; boot; skew (R291, R293, R310) -/

/-- LANE_CMD requalify (R291): a lane in OUT is retested. -/
def State.laneRequalify (s : State) (l : Lane) : State × Reply :=
  if s.laneSt l = 7 then ((s.setLaneRec l { s.lane l with skewRun := 0 }).setLane l 1 9, Reply.ok) else (s, Reply.wrongState)

/-- LANE_REQUALIFY, a command object of the owner. -/
def execLaneRequalify (session : Nat) (lane : Lane) (s : State) : Host.Outcome State Fault Refusal :=
  .next (s.command session (s.ownerRefusal session) fun s => s.laneRequalify lane)

/-- LANE_CMD take out: the lane is held OUT; the serving lane only while the other can take service from the next frame. -/
def State.laneTakeOut (s : State) (l : Lane) : State × Reply :=
  if s.laneSt l = 0 then (s, Reply.wrongState)
  else if s.serving = some l then
    (if s.laneSt l.other = 4 then ((s.setLane l 7 9).serve l.other 9, Reply.ok) else (s, Reply.wrongState))
  else (({ s with lanes := { s.lanes with swapTo := none } }).setLane l 7 9, Reply.ok)

/-- LANE_TAKE_OUT, a command object of the owner. -/
def execLaneTakeOut (session : Nat) (lane : Lane) (s : State) : Host.Outcome State Fault Refusal :=
  .next (s.command session (s.ownerRefusal session) fun s => s.laneTakeOut lane)

/-- LANE_BOOT_DONE (R493, R499): a lane in OFF has booted an image; with a server it takes the epoch copy; with none, after READY, it
serves itself. One with a fenced row stays OUT (Table 17.2). BOOT is recorded with the slot (R479). -/
def State.laneBooted (s : State) (l : Lane) (version : Nat) : State :=
  if s.laneSt l = 0 ∧ s.domainOn (3 + l.num) = true ∧ (s.lane l).fenced = true then s.setLane l 7 7
  else if s.laneSt l = 0 ∧ s.domainOn (3 + l.num) = true then
    let s := s.occur { code := Ev.BOOT, detail := vget 0 s.security.laneSlot l.num, count := version }
    let s := s.setLaneRec l { s.lane l with booted := true, version := version, commit := none, diagFail := false, frameBad := false, slipRun := 0 }
    match s.serving with
    | some _ => s.setLane l 2 1
    | none =>
      if s.flag OD.BOOT_READY then
        ((s.setLaneRec l { s.lane l with law := {} }).serve l 2).putN OD.FW_VERSION version
      else s
  else s

/-- LANE_BOOT_DONE. -/
def execLaneBootDone (lane : Lane) (version : Nat) (s : State) : Host.Outcome State Fault Refusal := .next (s.laneBooted lane version)

/-- SKEW_DIVERGED (R310): a shadow outside tolerance for 16 frames goes OUT. -/
def State.skewDiverged (s : State) (module : Bool) (l : Lane) : State :=
  if module then
    (if s.nat OD.PAIR_STATE = 8 ∧ 16 ≤ s.pair.skewRun then
      ((s.setPairState 1).putN OD.UPDATE_STAGE 3).note Ev.REDUCED_COVERAGE 0
     else s)
  else if s.laneSt l = 6 ∧ 16 ≤ (s.lane l).skewRun then ((s.setLane l 7 15).putN OD.UPDATE_STAGE 3).note Ev.REDUCED_COVERAGE 0
  else s

/-- SKEW_DIVERGED, of the module as a shadow or of one of its lanes. -/
def execSkewDiverged (module : Bool) (lane : Lane) (s : State) : Host.Outcome State Fault Refusal := .next (s.skewDiverged module lane)

end Sys2Proof.Machine
end

