-- ==== Sys2Proof/Machine/Admission.lean ====
section
/-!
DEFINITION. Machine/Admission.lean: chapter 5, the frame program, its placement and cost, shedding steps, and the checks of Table 5.6
that this chapter states. Each check reads a state that already holds the set to be admitted.
-/
namespace Sys2Proof.Machine
open Sys2Proof

/-! ### The frame program (R99–R101, Table 5.1) -/

/-- Insert an instance by falling cost, behind those of equal cost (R99). -/
def insertFalling (c : Nat) : List Nat → List Nat
  | [] => [c]
  | d :: ds => if d < c then c :: d :: ds else d :: insertFalling c ds

/-- The tile of least work, the lower number on a tie. -/
def leastTile (w : List Nat) : Nat :=
  (List.range 4).foldl (fun b t => if w.getD t 0 < w.getD b 0 then t else b) 0

/-- R99: instances in table order are placed in descending cost on the least loaded tile; the answer is the work of T0–T3. -/
def place (costs : List Nat) : List Nat :=
  (costs.foldl (fun acc c => insertFalling c acc) []).foldl
    (fun w c => w.set (leastTile w) (w.getD (leastTile w) 0 + c)) [0, 0, 0, 0]

/-- The longest of the four. -/
def longest (w : List Nat) : Nat := w.foldl Nat.max 0

/-- Law channels in use. -/
def State.lawChannels (s : State) : Nat := ((List.range 32).filter fun n => s.isLaw n).length

/-- A signal identifier is derived (R409): the law vector, or an entry of 3000–37FF or 4000–42FF. -/
def derivedSignal (id : Nat) : Bool :=
  (decide (0x300 ≤ id) && decide (id < 0x400)) || (decide (0x3000 ≤ id / 256) && decide (id / 256 ≤ 0x37FF)) ||
  (decide (0x4000 ≤ id / 256) && decide (id / 256 ≤ 0x42FF))

/-- The signal list of a stream: up to its first zero (R408). -/
def State.sigList (s : State) (q : Nat) : List Nat :=
  ((List.range 64).map fun j => s.nat (OD.SIG q j) % 2 ^ 24).takeWhile fun id => decide (id ≠ 0)

/-- The derived signals in use by streams that are not off, each once (R409). (Log 38, DEDUCED, unsafe.) -/
def State.derivedInUse (s : State) : List Nat :=
  (List.range 4).foldl (init := []) fun acc q =>
    if s.nat (OD.STREAM_MODE q) = 0 then acc
    else (s.sigList q).foldl (init := acc) fun acc id => if derivedSignal id && !acc.contains id then acc ++ [id] else acc

/-- Costs of the instances of stage 1–4, 5 commit or 6 post, in the order of Table 5.1, less what is shed (Tables 5.1 and 5.5). -/
def State.instances (s : State) (shed : List Nat) (stage : Nat) : List Nat :=
  let hf := if shed.contains 4 then 4 else s.nat OD.LIM_H_F
  let rep (n c : Nat) : List Nat := List.replicate n c
  match stage with
  | 1 => [24, 14, 10, 6] ++ rep ((List.range 12).filter fun k => !fisZero (s.f32 (OD.RISE k)) || !fisZero (s.f32 (OD.FALL k))).length 1 ++
      rep ((List.range 3).filter fun t => s.flag (OD.GT_ENABLE t)).length 4 ++ [8] ++ (if s.flag OD.OBS_ENABLE then [36] else [])
  | 2 => [16, 8, 8] ++ (if shed.contains 2 then [] else rep (2 * ((List.range 8).filter fun h => s.flag (OD.HARM_ORDER h)).length) 6)
  | 3 => [40 + 26 * hf] ++ (if s.flag OD.NEG_MODE then [14] else []) ++ [10] ++ rep (if s.isMmc then 6 else 0) 8
  | 4 => rep 3 10 ++ rep ((List.range 24).filter fun p => s.pairUsed p).length 2 ++
      rep (if 2 ≤ s.nat OD.N_STACKS then s.nat OD.N_STACKS else 0) 6 ++ (if s.isMmc then rep 3 10 ++ rep 6 4 else [])
  | 5 => [12] ++ rep ((s.lawChannels + 3) / 4) 1
  | _ => if shed.contains 1 then [] else rep s.derivedInUse.length 2

/-- Work on T0–T3 in a stage. -/
def State.stageWork (s : State) (shed : List Nat) (stage : Nat) : List Nat := place (s.instances shed stage)

/-- ceil(1.35 · w). -/
def runAhead (w : Nat) : Nat := (27 * w + 19) / 20

/-- L_s of a stage, with run-ahead (k = 1.35) or without (R101); the commit phase is a fixed 30. -/
def State.stageLength (s : State) (shed : List Nat) (ra : Bool) (stage : Nat) : Nat :=
  if stage = 5 then 30
  else
    let l := longest (s.stageWork shed stage)
    if ra && decide (stage ≤ 4) then runAhead l else l

/-- The frame cost of R101. -/
def State.frameCost (s : State) (shed : List Nat) (ra : Bool) : Nat :=
  26 + s.stageLength shed ra 1 + s.stageLength shed ra 2 + s.stageLength shed ra 3 + s.stageLength shed ra 4 + 24 + 30 +
    s.stageLength shed ra 6

/-- The admission limit floor(0.85 × 75 × F) (R102). -/
def State.admitLimit (s : State) : Nat := s.fTicks * 51 / 500

/-- The entries of Table 5.11 that follow the configuration in force. -/
def State.refreshAdmission (s : State) : State :=
  let s := ((s.putN OD.ADMIT_LIMIT s.admitLimit).putN OD.ADMIT_COST (s.frameCost [] true)).putN OD.ADMIT_COST_FULL (s.frameCost [] false)
  let s := s.putN OD.FRAMES_PER_HALF s.framesPerHalf
  let ra := s.flag OD.RUNAHEAD_EN
  let s := (List.range 6).foldl (init := s) fun s j => s.putN (OD.STAGE_LENGTH j) (s.stageLength [] ra (j + 1))
  let w := s.stageWork [] 5
  (List.range 4).foldl (init := s) fun s t => s.putN (OD.TILE_COMMIT_WORK t) (w.getD t 0)

/-! ### The checks of Table 5.6 (R114) -/

/-- A refusal of a commit: code, quantity, location. -/
def refusal (code qty loc : Nat) : Option Reply := some { code := code, qty := qty, detail := loc }

/-- A sum of fractions 1/N as a numerator and a denominator. -/
def sumInverse (ns : List Nat) : Nat × Nat := ns.foldl (fun q n => (q.1 * n + q.2, q.2 * n)) (0, 1)

/-- The enabled secondary entries' N_e of a core (Table 3.2). -/
def State.everyNs (s : State) (c : Nat) : List Nat :=
  (List.range (s.nat (OD.ADC_SEQ_LEN c) - 1)).filterMap fun j =>
    let w := s.nat (OD.SEQ_E c (j + 1))
    if w.testBit 31 then some (Nat.max 1 (w / 256 % 65536)) else none

/-- The excess of R67's demand D over 0.5 × C in thousandths, rounded up; 0 where it fits. -/
def State.demandExcess (s : State) (c pc m : Nat) : Nat :=
  let f := s.fTicks
  let q := sumInverse (s.everyNs c)
  let cap := if 250 ≤ pc then f / pc - 2 * m else (f / pc - 2 * m - 1) / 8
  let num := q.1 * 100000000 + f * 336 * q.2
  let den := q.2 * 100000000
  if 2 * num ≤ cap * den then 0 else cdiv ((2 * num - cap * den) * 1000) (2 * den)

/-- R61 for one core: the first of its five conditions that fails, with its quantity. -/
def State.coreAlign (s : State) (c : Nat) : Option (Nat × Nat) :=
  if s.coreOn c then
    let paired := s.pairFormed c
    let src := s.chanOf c
    let pc := s.nat (OD.ADC_PERIOD src)
    let m := s.nat (OD.ADC_FRAME_WIN src)
    let own := decide (src = c)
    let stop := (if paired then cdiv (m * pc) 2 else m * pc) + 100
    let excess := s.demandExcess c pc m
    if own ∧ s.fTicks % pc ≠ 0 then some (1, pc)
    else if own ∧ 625 < stop then some (2, stop)
    else if excess ≠ 0 then some (3, excess)
    else if paired ∧ s.flag (OD.ADC_LOWPWR c) = true then some (4, 0)
    else if s.flag (OD.ADC_LOWPWR c) = true ∧ pc < 500 then some (5, pc)
    else none
  else none

/-- F of a partner in ticks as the module knows it at an instant when pair mode is set; none where it knows none (log 107). -/
opaque Config.partnerF : Nat → Option Nat

/-- The partner's F differs: while pair mode is being set; a pair already formed keeps F equal by its mirrored commits (R308). (Log 107, DEDUCED, unsafe.) -/
def State.partnerDiffers (s : State) : Option Nat :=
  if s.nat OD.PAIR_MODE ≠ 0 ∧ s.nat OD.PAIR_STATE = 0 then (Config.partnerF s.now).filter fun f => decide (f ≠ s.fTicks) else none

/-- Check 1, FRAME_ALIGN (0x44): R61 by core, the range of F (R96), the reference carrier (R98), F of the partner in pair mode, the interleave
index (R52). -/
def State.checkAlign (s : State) : Option Reply :=
  let cores := (List.range 32).filterMap fun c => (s.coreAlign c).map fun q => (c, q)
  match cores with
  | (c, q) :: _ => refusal 0x44 (q.1 * 2 ^ 28 + q.2 % 2 ^ 28) c
  | [] =>
    let f := s.fTicks
    let c := s.nat OD.REF_CARRIER
    if f < 6250 ∨ 125000 < f then refusal 0x44 f 0x0200
    else if c ≠ 0xFF ∧ s.framesPerHalf = 0 then refusal 0x44 (s.carPeriod c) (0x0100 + c)
    else
      match s.partnerDiffers with
      | some g => refusal 0x44 g 0x0300
      | none => if s.nat OD.INTERLEAVE_N ≤ s.nat OD.INTERLEAVE_IDX then refusal 0x44 (s.nat OD.INTERLEAVE_IDX) 0x0400 else none

/-- Check 2, DEADLINE_TILE (0x41): the frame cost with the k it will run with, then the actual-sample work of a tile (R102). -/
def State.checkDeadline (s : State) : Option Reply :=
  let cost := s.frameCost [] (s.flag OD.RUNAHEAD_EN)
  if s.admitLimit < cost then refusal 0x41 cost 0
  else
    match (List.range 4).find? fun t => decide (16 < (s.stageWork [] 5).getD t 0) with
    | some t => refusal 0x41 ((s.stageWork [] 5).getD t 0) (0x500 + t)
    | none => none

/-- The arrival bound of arm `k` in tenths of a tick: the latest of the endpoints that serve it (R254). -/
def State.armBound (s : State) (k : Nat) : Nat :=
  (s.epsUsed.map fun e => ((List.range (s.epArms e).length).filter fun i => decide ((s.epArms e).getD i 6 = k)).map (s.arrival e)).flatten.foldl Nat.max 0

/-- The configured arms, each once whatever the endpoint table says, with their arrival bounds (R115). -/
def State.armBounds (s : State) : List (Nat × Nat) := if s.armConfigured then (List.range 6).map fun k => (s.armBound k, k) else []

/-- Insert by rising bound, ties by rising arm. -/
def insertBound (x : Nat × Nat) : List (Nat × Nat) → List (Nat × Nat)
  | [] => [x]
  | y :: ys => if x.1 < y.1 ∨ (x.1 = y.1 ∧ x.2 ≤ y.2) then x :: y :: ys else y :: insertBound x ys

/-- Check 3, DEADLINE_SORTER (0x42): each arm takes 0.18 µs (112.5 ticks), in order of U_a; the last of them, which the refusal names, must end by
F + 1.8 µs (R115). (Log 142, DEDUCED, unsafe.) -/
def State.checkSorter (s : State) : Option Reply :=
  let lim := 10 * (s.fTicks + 1125)
  let arms := s.armBounds.foldl (fun acc x => insertBound x acc) []
  let fin := arms.foldl (fun fin x => Nat.max fin x.1 + 1125) 0
  if lim < fin then refusal 0x42 (cdiv (fin - lim) 10) (arms.foldl (fun _ x => x.2) 0) else none

/-- Check 4, LINK_CAPACITY (0x43): per serial lane in use and direction, load at most floor(0.8 × C_p); X0 and X1 in pair mode carry the
fixed load and the mirror budget (R116, R297). -/
def State.checkLink (s : State) : Option Reply :=
  let f := s.fTicks
  let lane (l : Nat) : Option Reply :=
    let lim := parcelLimit f (s.nat (OD.LANE_RATE l))
    if l < 16 then
      match s.laneEp l with
      | some e =>
        if lim < s.loadDl e then refusal 0x43 (s.loadDl e) l
        else if lim < s.loadUl e then refusal 0x43 (s.loadUl e) (0x8000 + l)
        else none
      | none => none
    else if s.nat OD.PAIR_MODE ≠ 0 ∧ lim < 15 + s.nat OD.MIRROR_BUDGET then refusal 0x43 (15 + s.nat OD.MIRROR_BUDGET) l
    else none
  ((List.range 18).filterMap lane).head?

/-! ### Speed and shedding (R113, Table 5.5) -/

/-- SI of the module: the lower R27 value of the lanes in lockstep, in 1/1,024. -/
def State.siNow (s : State) : Nat :=
  match [Lane.a, Lane.b].filter fun l => decide (s.laneSt l = 4) || decide (s.laneSt l = 5) with
  | [] => 1024
  | ls => ls.foldl (fun m l => Nat.min m (s.nat (siKey l))) 65535

/-- The program left under `shed` fits 0.85 × 75 × SI × F. -/
def State.fitsAt (s : State) (shed : List Nat) (si : Nat) : Bool :=
  decide (s.frameCost shed (s.flag OD.RUNAHEAD_EN && !shed.contains 3) * 500 * 1024 ≤ s.fTicks * 51 * si)

/-- A step sheds something in this configuration. -/
def State.sheds (s : State) (step : Nat) : Bool :=
  if step = 1 then !s.derivedInUse.isEmpty
  else if step = 2 then (List.range 8).any fun h => s.flag (OD.HARM_ORDER h)
  else if step = 3 then s.flag OD.RUNAHEAD_EN
  else decide (4 < s.nat OD.LIM_H_F)

/-- The steps to be in force: those already shed, then further ones in order until the program fits (R113). (Log 93, DEDUCED, unsafe.) -/
def State.shedFor (s : State) (si : Nat) : List Nat :=
  [1, 2, 3, 4].foldl (init := s.frame.shed) fun sh k => if s.fitsAt sh si || sh.contains k || !s.sheds k then sh else sh ++ [k]

/-- The fully shed program fits at a lane's own SI. -/
def State.fitsFullyShed (s : State) (l : Lane) : Bool := s.fitsAt ([1, 2, 3, 4].filter fun k => s.sheds k) (s.nat (siKey l))

/-- The steps in force change: resonator states are cleared at a shed of step 2, and the change is counted and recorded (R113). -/
def State.setShed (s : State) (sh : List Nat) : State :=
  if s.frame.shed = sh then s
  else
    let s := if sh.contains 2 && !s.frame.shed.contains 2 then
        s.mapLaws fun l => { l with harmA := Vector.replicate 8 {}, harmB := Vector.replicate 8 {} } else s
    let taken := sh.length - s.frame.shed.length
    let s := ({ s with frame := { s.frame with shed := sh, shedOkAt := none } }).putN OD.SHED_LEVEL (sh.foldl Nat.max 0)
    (s.count OD.SHED_EVENTS taken).note Ev.SHED_CHANGE (sh.foldl Nat.max 0)

end Sys2Proof.Machine
end

