-- ==== Sys2Proof/Machine/Delta.lean ====
section
/-!
DEFINITION. Machine/Delta.lean: the delta correction of a speculated frame (R106): the sensitivities, the corrected quantities, and the guard on the
branches of piecewise elements.
-/
namespace Sys2Proof.Machine
open Sys2Proof

/-- J of R106: the sensitivity of quantity `j` of a speculated frame to the sample of role `i`, as the tiles compute it during speculation. The spec
gives no number (free value, log 32, DESIGN CHOICE, safe). -/
opaque Config.sensitivity : Law → Nat → Nat → F32

/-- Σ_i J_ji · (x_i − x_p,i) over the predicted channels, by role (R106). -/
def deltaSum (sp : Law) (j : Nat) (dx : List F32) : F32 :=
  (List.range 22).foldl (fun acc i => fadd acc (fmul (Config.sensitivity sp j i) (at0 dx i))) 0

/-- A corrected quantity y_j = y_s,j + Σ_i J_ji · (x_i − x_p,i) (R106). -/
def corrOf (sp : Law) (dx : List F32) (j : Nat) (y : F32) : F32 := fadd y (deltaSum sp j dx)

/-- A corrected vector; its axes are quantities `j` and `j + 1`. -/
def corrAb (sp : Law) (dx : List F32) (j : Nat) (y : Ab) : Ab := { a := corrOf sp dx j y.a, b := corrOf sp dx (j + 1) y.b }

/-- The corrected states of a resonator: those of this frame are quantities `j` and `j + 1`; e(n − 1) and y(n − 1) hold no sample of it. -/
def corrRes (sp : Law) (dx : List F32) (j : Nat) (r : Res) : Res := { r with e1 := corrOf sp dx j r.e1, y1 := corrOf sp dx (j + 1) r.y1 }

/-- The corrected members of a vector, from quantity `j` on. -/
def corrVec {n : Nat} (sp : Law) (dx : List F32) (j : Nat) (v : Vector F32 n) : Vector F32 n :=
  Vector.ofFn fun k => corrOf sp dx (j + k.val) (v.get k)

/-- Every corrected quantity of a speculated frame (R106 step 3). -/
def Law.corrected (sp : Law) (dx : List F32) : Law :=
  let c := corrOf sp dx
  let v := corrAb sp dx
  { sp with
    pf := c 0 sp.pf, qf := c 1 sp.qf, vMag := c 2 sp.vMag, thB := c 3 sp.thB, thBPrev := c 4 sp.thBPrev, omegaB := c 5 sp.omegaB
    rocof := c 6 sp.rocof, jump := c 7 sp.jump, thHi := c 8 sp.thHi, thLo := c 9 sp.thLo, omega := c 10 sp.omega, pOrder := c 11 sp.pOrder
    dpr := c 12 sp.dpr, pdc := c 13 sp.pdc, eE := c 14 sp.eE, ei := c 15 sp.ei, e := c 16 sp.e, dRf := c 17 sp.dRf, dXf := c 18 sp.dXf
    tauO := c 19 sp.tauO, l0 := c 20 sp.l0, dZ := c 21 sp.dZ, delta := c 22 sp.delta, u0 := c 23 sp.u0, eW := c 24 sp.eW, w := c 25 sp.w
    xw := c 26 sp.xw, pff := c 27 sp.pff, duty := c 28 sp.duty, eCh := c 29 sp.eCh, obsResid := c 30 sp.obsResid, eTarget := c 31 sp.eTarget
    vref := v 40 sp.vref, iref := v 42 sp.iref, irefDq := v 44 sp.irefDq, ilim := v 46 sp.ilim, ineg := v 48 sp.ineg, uOut := v 50 sp.uOut
    obsB := v 52 sp.obsB, vHat := v 54 sp.vHat, resA := corrRes sp dx 60 sp.resA, resB := corrRes sp dx 62 sp.resB
    harmA := Vector.ofFn fun h : Fin 8 => corrRes sp dx (70 + 2 * h.val) (vget {} sp.harmA h.val)
    harmB := Vector.ofFn fun h : Fin 8 => corrRes sp dx (90 + 2 * h.val) (vget {} sp.harmB h.val)
    resZ := Vector.ofFn fun x : Fin 3 => corrRes sp dx (110 + 2 * x.val) (vget {} sp.resZ x.val)
    ramps := corrVec sp dx 120 sp.ramps, gain := corrVec sp dx 140 sp.gain, xz := corrVec sp dx 150 sp.xz, vArm := corrVec sp dx 160 sp.vArm
    warm := sp.warm.mapIdx fun k u => corrAb sp dx (200 + 2 * k) u }

/-- The measurements of a frame's samples, without a filter (R126): what the actual-sample functions and the history take them from. -/
def Law.withMeasured (l m : Law) : Law :=
  { l with hist := m.hist, vPos := m.vPos, vNeg := m.vNeg, capPos := m.capPos, busPos := m.busPos, busMag := m.busMag, rms := m.rms, ic := m.ic,
           icPh := m.icPh, iGrid := m.iGrid, icap := m.icap, vf := m.vf, vdc := m.vdc, vdcUp := m.vdcUp, vdcLo := m.vdcLo }

/-- The delta commit's law (R106): the speculation's quantities corrected by the prediction error, its mode decisions, and the measurements `m` of the
actual samples. Without an error the quantities are those speculated. -/
def Law.deltaOf (sp m : Law) (xp x : List F32) : Law :=
  let dx := (List.range 22).map fun i => fsub (at0 x i) (at0 xp i)
  Law.closeHist ((if xp = x then sp else sp.corrected dx).withMeasured m)

/-- The branch of a piecewise element: below, at or above each of its bounds. -/
def Piece.branch (p : Piece) : List Nat := p.cuts.map fun c => if flt p.arg c then 0 else if feq p.arg c then 1 else 2

/-- The guard (R106 step 4): some piecewise element's corrected argument lies in another branch than its speculative one; the arguments are
quantities from 1,000 on. -/
def piecesMove (sp : Law) (dx : List F32) (ps : List Piece) : Bool :=
  (List.range ps.length).any fun k =>
    let p := ps.getD k {}
    decide ({ p with arg := corrOf sp dx (1000 + k) p.arg }.branch ≠ p.branch)

end Sys2Proof.Machine
end

