-- ==== Sys2Proof/Machine/Frame.lean ====
section
/-!
DEFINITION. Machine/Frame.lean: chapter 5, the control frame: grid, boundary, run-ahead, commit phase, full path, slips, and what a
commit sends to the outputs (R96–R113; R195, R211–R215 for the words and insertions).
-/
namespace Sys2Proof.Machine
open Sys2Proof

/-- The codewords of a snapshot of the committed law (R292): their layout is not given (free value, log 30). -/
opaque Config.lawSnapshot : Law → List (BitVec 128)

/-- Replace the frame record. -/
def State.setFrame (s : State) (f : Frame) : State := { s with frame := f }

/-- The frame record with its path decided. -/
def State.setPath (s : State) (delta : Bool) : State := s.setFrame { s.frame with path := some delta }

/-! ### The grid (R96–R98) -/

/-- Lanes that compute frames: serving, and those in STEP, STANDBY or SHADOW. -/
def State.computing (s : State) (l : Lane) : Bool :=
  let st := s.laneSt l
  decide (3 ≤ st) && decide (st ≤ 6)

/-- A lane has committed or slipped the present frame, or does not compute. -/
def State.laneDone (s : State) (l : Lane) : Bool := !s.computing l || (s.lane l).done

/-- The present frame is over on every lane. (Log 84, DEDUCED, safe.) -/
def State.frameOver (s : State) : Bool := !s.frame.begun || (s.laneDone .a && s.laneDone .b)

/-- The commit deadline of the present frame, t0 + F + 1.8 µs (R110). -/
def State.deadline (s : State) : Nat := s.frame.t0 + s.fTicks + 1125

/-! ### Samples, prediction, history (R103, R180) -/

/-- x_p of a channel from its last two actual samples (Table 5.2). -/
def State.predict (s : State) (n : Nat) : Option F32 :=
  let f := vget {} s.sup.fb n
  match s.nat (OD.PRED_CLASS n), f.h1, f.h2 with
  | 1, some a, _ => some a
  | 2, some a, some b => some (fsub (fmul ftwo a) b)
  | 3, some a, some b =>
    let w := fmul (fmul s.omega0 s.law.omega) (secOfTicks s.fTicks)
    some (fsub (fmul (fmul ftwo (Config.cos w)) a) b)
  | _, _, _ => none

/-- A law channel's history lacks a sample this frame's prediction needs (R103). -/
def State.historyShort (s : State) (n : Nat) : Bool :=
  let f := vget {} s.sup.fb n
  s.isLaw n && ((s.predict n).isNone || decide (f.hMiss = 2) || (decide (f.hMiss = 1) && decide (s.nat (OD.PRED_CLASS n) ≠ 1)))

/-- The history takes the frame's block: every sample with VALID = 1; a missing one is missing for two frames (R103). (Log 83, DEDUCED, unsafe.) -/
def State.takeHistory (s : State) : State :=
  let fb := Vector.ofFn fun n : Fin 32 =>
    let f := vget {} s.sup.fb n.val
    match s.blockUsed with
    | some b =>
      if (b.nibbles.getD n.val 0).testBit 3 then { f with h1 := some (at0 b.samples n.val), h2 := f.h1, hMiss := f.hMiss - 1 }
      else { f with hMiss := 2 }
    | none => { f with hMiss := 2 }
  { s with sup := { s.sup with fb := fb } }

/-- VALID = 1 and SETTLED = 1 (R180). -/
def freshNibble (nib : Nat) : Bool := nib.testBit 3 && nib.testBit 2

/-- The samples a frame computes with: a channel that is not fresh is replaced by its prediction (R180). -/
def State.samplesUsed (s : State) (b : FpBlock) : List F32 :=
  (List.range 32).map fun n =>
    if freshNibble (b.nibbles.getD n 0) then at0 b.samples n else (s.predict n).getD (at0 b.samples n)

/-- The law's inputs of this frame on a lane for samples by channel: T(n) from t0 to t0, T_θ(n) from the lane's last committed frame (R110, R124). -/
def State.lawIn (s : State) (l : Lane) (xs : List F32) : LawIn :=
  { t0 := s.frame.t0, t := (s.frame.t0 : Int) - s.frame.t0Prev, tTheta := (s.frame.t0 : Int) - (s.lane l).t0c, x := s.byRole xs
    st := s.nat OD.LAW_STATE }

/-! ### Run-ahead (R104–R108) -/

/-- Run-ahead is not used in this frame (R103, R108, R110). -/
def State.fullOnly (s : State) : Bool :=
  decide (s.nat OD.COLD_LEFT ≠ 0) || !s.flag OD.RUNAHEAD_EN || s.frame.shed.contains 3 || s.law.limActive || s.frame.afterSlip ||
  (List.range 32).any fun n => s.historyShort n

/-- SPECULATION_START (R107): after the boundary, before the block, the lanes compute the frame on the predictions. -/
def State.speculate (s : State) : State :=
  if s.frame.begun && s.blockUsed.isNone && !s.frame.specOn && !s.fullOnly && decide (s.frame.path = none) then
    let xp := (List.range 32).map fun n => (s.predict n).getD fzero
    let one (s : State) (l : Lane) : State :=
      if s.computing l then s.setLaneRec l { s.lane l with spec := some ((s.lawOf l).frame s (s.lawIn l xp)) } else s
    let s := one (one s .a) .b
    s.setFrame { s.frame with specOn := true, xp := xp }
  else s

/-- SPECULATION_START. -/
def execSpeculationStart (s : State) : Host.Outcome State Fault Refusal := .next s.speculate

/-- The mode decisions of the supervisor (R105). -/
def State.modes (s : State) : List Nat :=
  let b (x : Bool) : Nat := if x then 1 else 0
  [s.nat OD.LAW_STATE, s.nat OD.BUS_STATE, b s.sup.uv.since.isSome, b s.sup.uv.normal.isSome, b s.sup.ov.since.isSome,
   b s.sup.ov.normal.isSome, b s.sup.vdcUvSince.isSome, b s.sup.freqSince.isSome, b s.sup.rocofSince.isSome, b s.sup.quietSince.isSome,
   b s.sup.syncSince.isSome, b s.sup.holdOn, s.nat OD.TRIP_LATCH]

/-- A law channel's flags make the frame squash (R106 step 1). -/
def State.flagsBad (s : State) (b : FpBlock) : Bool :=
  (List.range 32).any fun n => s.isLaw n &&
    (let nib := b.nibbles.getD n 0
     !freshNibble nib || nib.testBit 1 || nib.testBit 0)

/-- The ε test fails (R106 step 2). -/
def State.epsBad (s : State) (b : FpBlock) : Bool :=
  (List.range 32).any fun n => s.isLaw n &&
    !fle (fabs (fsub (at0 b.samples n) (at0 s.frame.xp n))) (s.f32 (OD.EPS_CLASS (s.nat (OD.ERR_CLASS n))))

/-- Every lane in use is settled for the supervisor's bus classification: V_BUS or V_CAP samples arrive settled. -/
def State.blockSettled (s : State) (b : FpBlock) : Bool := (List.range 32).all fun n => !s.isLaw n || (b.nibbles.getD n 0).testBit 2

/-- A squash (R106–R108): counted with its cause; eight in a row begin cold frames. -/
def State.squash (s : State) (cause : Nat) : State :=
  let s := ((s.bump OD.SQUASHES).putN OD.LAST_SQUASH_CAUSE cause).setPath false
  let n := s.frame.streak + 1
  if 8 ≤ n then (s.bump OD.COLD_ENTRIES).cold 2 else s.setFrame { s.frame with streak := n }

/-! ### What a commit sends to the outputs (R195, R211–R215) -/

/-- u_zs of R195. -/
def State.uZs (s : State) (us : List F32) : F32 :=
  if s.flag OD.ZS_INJECT then
    fneg (fdiv (fadd (fmax (fmax (at0 us 0) (at0 us 1)) (at0 us 2)) (fmin (fmin (at0 us 0) (at0 us 1)) (at0 us 2))) ftwo)
  else fzero

/-- u_np of R195. -/
def State.uNp (s : State) (l : Law) : F32 :=
  if s.isNpc && s.hasRole 14 && s.hasRole 15 && !flt (fabs l.pf) (fq 1 100) then
    fclamp (fmul (fmul (s.f32 OD.K_NP) (fsub l.vdcUp l.vdcLo)) (fsgn l.pf)) (fneg (s.f32 OD.NP_LIMIT)) (s.f32 OD.NP_LIMIT)
  else fzero

/-- The duty of a pair before its clamp (Table 8.2) for a phase voltage `m` in volts. -/
def dutyRaw (topo pos : Nat) (m vup vlo vdc : F32) : F32 :=
  let neg := flt m fzero
  let up := fdiv m vup
  let lo := fdiv (fabs m) vlo
  match topo, pos, neg with
  | 0, _, _ => fadd fhalf (fdiv m vdc)
  | 1, 1, false => up
  | 1, 1, true => fzero
  | 1, _, false => fone
  | 1, _, true => fsub fone lo
  | _, 1, false => up
  | _, 1, true => fzero
  | _, 2, false => fone
  | _, 2, true => fzero
  | _, _, false => fzero
  | _, _, true => lo

/-- The phase voltage that pair `p` modulates, in p.u. (R195). -/
def State.pairVolts (s : State) (l : Law) (p : Nat) : F32 :=
  let us := phasesOf l.uOut
  let x := s.nat (OD.PAIR_PHASE p)
  let st := s.nat (OD.PAIR_STACK p)
  fadd (fadd (fadd (fadd (at0 us x) (vget 0 (vget (Vector.replicate 3 0) l.du st) x)) l.u0) (s.uZs us)) (s.uNp l)

/-- The duty of pair `p` before its clamp (R195). -/
def State.pairRaw (s : State) (l : Law) (p : Nat) : F32 :=
  let dv := s.f32 OD.V_DC_BASE
  dutyRaw (s.nat OD.TOPOLOGY) (s.nat (OD.PAIR_POS p)) (fmul (s.pairVolts l p) s.vBase) (fmul l.vdcUp dv) (fmul l.vdcLo dv) (fmul l.vdc dv)

/-- The raw duties of the 24 pairs; those of a delta commit are corrected from the speculated ones, as quantities 300–323 (R106). -/
def State.duties (s : State) (l : Law) (from' : Option (Law × List F32)) : List F32 :=
  (List.range 24).map fun p => match from' with
    | some (sp, dx) => corrOf sp dx (300 + p) (s.pairRaw sp p)
    | none => s.pairRaw l p

/-- The piecewise elements of the duties: the sign of each pair's voltage, its clamp, the neutral-point term's, and which phases bound u_zs (R195). -/
def State.dutyPieces (s : State) (l : Law) : List Piece :=
  let us := phasesOf l.uOut
  let pairs := (List.range 24).filter fun p => s.pairUsed p
  (pairs.map fun p => [({ arg := s.pairVolts l p, cuts := [0] } : Piece), { arg := s.pairRaw l p, cuts := [0, fone] }]).flatten ++
    [{ arg := l.pf, cuts := [fneg (fq 1 100), 0, fq 1 100] }, { arg := fsub (at0 us 0) (at0 us 1), cuts := [0] },
     { arg := fsub (at0 us 1) (at0 us 2), cuts := [0] }, { arg := fsub (at0 us 2) (at0 us 0), cuts := [0] },
     { arg := fmul (fmul (s.f32 OD.K_NP) (fsub l.vdcUp l.vdcLo)) (fsgn l.pf), cuts := [fneg (s.f32 OD.NP_LIMIT), s.f32 OD.NP_LIMIT] }]

/-- CMP = floor((1 − d)·T_c/2 + 0.5). -/
def cmpFor (d : F32) (half : Nat) : Nat := (ffloor (fadd (fmul (fsub fone d) (fofInt half)) fhalf)).toNat

/-- The lane writes one shadow word per pair in use (Table 8.3); a clamped duty counts the frame. -/
def State.writeShadows (s : State) (ds : List F32) : State :=
  let ps := (List.range 24).filter fun p => s.pairUsed p
  let s' := ps.foldl (init := s) fun t p =>
    t.setPair p { t.pair' p with shadow := BitVec.ofNat 32 (cmpFor (fclamp (at0 ds p) fzero fone) (s.carPeriod (s.nat (OD.PAIR_CARRIER p)) / 2)) }
  if ps.any fun p => flt (at0 ds p) fzero || flt fone (at0 ds p) then s'.bump OD.OVERMOD else s'

/-- The inserted set is brought to `want` members: the most preferred added, the least preferred removed (R213); `pref` lists the
available submodules, most preferred first. -/
def fitKeep (pref keep : List Nat) (want : Nat) : List Nat :=
  if keep.length < want then keep ++ ((pref.filter fun j => !keep.contains j).take (want - keep.length))
  else (pref.filter fun j => keep.contains j).take want

/-- The swaps of R213, at most `fuel`; the answer is the set and how many were made. -/
def swapKeep (code : Nat → Nat) (band : F32) (pref : List Nat) : Nat → List Nat → Nat → List Nat × Nat
  | 0, keep, k => (keep, k)
  | fuel + 1, keep, k =>
    match (pref.filter fun j => keep.contains j).reverse.head?, (pref.filter fun j => !keep.contains j).head? with
    | some x, some y =>
      if pref.idxOf y < pref.idxOf x ∧ flt band (fabs (fsub (fq (code x : Nat) 10) (fq (code y : Nat) 10))) = true then
        swapKeep code band pref fuel (y :: keep.filter fun j => decide (j ≠ x)) (k + 1)
      else (keep, k)
    | _, _ => (keep, k)

/-- The insertion of an arm at a commit (R211–R214): count, direction, set, counters and the values shown. (Log 88, DESIGN CHOICE, unsafe.) -/
def State.insertArm (s : State) (l : Law) (x : List F32) (k : Nat) : State :=
  let a := s.arm k
  let order := a.order
  let nav : Int := order.length
  let sum := (order.map fun j => fq (s.smCode k j : Nat) 10).foldl fadd 0
  let vmean := if order.isEmpty then fzero else fdiv sum (fofInt nav)
  let v := vget 0 l.vArm k
  let raw := if fisZero vmean then 0 else ffloor (fadd (fdiv (fmul v s.vBase) vmean) fhalf)
  let nPrev := if a.fresh then 0 else a.nPrev
  let step : Int := s.nat OD.INS_STEP_MAX
  let n := iclamp (iclamp raw (if s.nat OD.TOPOLOGY = 4 then -nav else 0) nav) (nPrev - step) (nPrev + step)
  let i := at0 x (16 + k)
  let was := if a.fresh then false else a.discharging
  let discharging := if fle (fabs i) (s.f32 OD.I_DIR_BAND) then was else !flt fzero (fmul (fofInt n.sign) i)
  let pref := if discharging then order.reverse else order
  let old := if a.fresh then [] else a.inserted
  let keep0 := if a.reverse = decide (n < 0) then old.filter fun j => order.contains j else []
  let keep := fitKeep pref keep0 n.natAbs
  let (keep, swaps) := swapKeep (s.smCode k) (fmul (s.f32 OD.SWAP_BAND) (s.f32 OD.V_C_NOM)) pref (s.nat OD.SWAP_MAX) keep 0
  let changes := (keep.filter fun j => !(old.contains j && (a.reverse == decide (n < 0)))).length + (old.filter fun j => !keep.contains j).length
  let at' := Nat.max (s.frame.t0 + s.nat OD.INS_DELAY) (s.ltc + s.nat OD.INS_DELAY - 1500)
  let s := s.setArm k { a with inserted := keep, reverse := decide (n < 0), nPrev := n, discharging := discharging, fresh := false, applyAt := at' }
  let s := if s.frame.t0 + s.nat OD.INS_DELAY < at' then s.bump OD.INS_LATE else s
  let s := ((s.putI (OD.N_INS k) n).putN (OD.SORT_DIR k) (if discharging then 1 else 0)).putF (OD.LEVEL_RESID k)
    (fsub v (fdiv (fmul (fofInt n) vmean) s.vBase))
  let wrap (s : State) (key d : Nat) : State := s.putN key ((s.nat key + d) % 4294967296)
  wrap (wrap s (OD.SM_SWITCHES k) changes) (OD.SM_SWAPS k) swaps

/-- The insertions of a commit: on an MMC whose gates are on; an arm is fresh again once the outputs are OFF or SAFE (R214). -/
def State.insertArms (s : State) (l : Law) (x : List F32) (ran : Bool) : State :=
  let off := decide (s.nat OD.OUT_STATE = 0) || decide (s.nat OD.OUT_STATE = 5)
  (List.range 6).foldl (init := s) fun s k =>
    let s := if off then s.setArm k { s.arm k with fresh := true } else s
    if s.isMmc && ran then s.insertArm l x k else s

/-- The feed-forward payload of R139. -/
def State.ffPayload (s : State) (l : Law) : List Byte :=
  let le (n w : Nat) : List Byte := (List.range w).map fun i => BitVec.ofNat 8 (n / 256 ^ i)
  let b (x : Bool) (k : Nat) : Nat := if x then k else 0
  le l.pff.toNat 4 ++ le l.w.toNat 4 ++ le s.frame.n 4 ++
    le (s.nat OD.LAW_STATE + 256 * (b (s.flag OD.SYNC_OK) 1 + b (decide (l.pLim ≠ 0)) 2 + b (l.chOn && !l.chExhausted && s.chopperUsable) 4)) 2 ++ [0, 0]

/-- Pairs, arms, chopper, LOAD_ALL and feed-forward of a commit of the serving lane (R109, R139, R140, R196, R197, R262). `ran`: the gates were on in
the frame's computation; a frame that releases them commits no duty yet, so that the first output is that of the next (R157, R198). Without feed-forward
in DC_MODE 1 and 2 (R138). An output whose carriers are all started, as where none is in use, is RUNNING (R198). -/
def State.sendOutputs (s : State) (l : Law) (ds x : List F32) (ran : Bool) : State :=
  let on := ran && s.lawRuns (s.nat OD.LAW_STATE)
  let s := if on then s.writeShadows ds else s
  let s := s.insertArms l x on
  let s := if on then s.loadAll else s
  let s := if s.nat OD.OUT_STATE = 1 ∧ on = true ∧ ((List.range 8).all fun c => !s.carrierUsed c) = true then s.setOut 2 2 else s
  let ch := s.nat OD.CH_LD
  let s := if 1 ≤ ch ∧ ch ≤ 6 then s.ldCommitDuty (ch - 1) l.duty else s
  s.setFrame { s.frame with commitAt := s.now, ff := if s.nat OD.DC_MODE = 0 then ((s.now, s.ffPayload l) :: s.frame.ff).take 2 else s.frame.ff }

/-! ### Commits -/

/-- The mirror engine takes the writes that follow a commit's flip; past 4,096 codewords the other lane goes to RESYNC (R286), a module in
STEP back to COPY (Table 11.10). -/
def State.mirror (s : State) (l : Lane) (writes : Nat) : State :=
  let n := s.lanes.mirrorQueue + writes
  let isOver := decide (4096 < n)
  let n := if isOver then 0 else n
  let s := ({ s with lanes := { s.lanes with mirrorQueue := n } }).putN OD.MIRROR_LAG n
  let fixed := if s.moduleRole = 3 then 15 else 4
  let s := s.putN OD.XL_LOAD (if s.pairOn then fixed + Nat.min (s.nat OD.MIRROR_BUDGET) (cdiv (n * 16) 15) else 0)
  if isOver then
    let s := (s.bump OD.MIRROR_OVERFLOWS).note Ev.MIRROR_OVERFLOW 0
    let s := if s.pairOn && decide (s.nat OD.PAIR_STATE = 3) then s.enterCopy else s
    if s.laneSt l.other = 4 ∨ s.laneSt l.other = 3 ∨ s.laneSt l.other = 6 then s.resync l.other 11 else s
  else s

/-- Codewords in runs of at most fifteen (Table 11.6), each with its header. -/
def copyRuns (frame : Nat) : Nat → List (BitVec 128) → List (List (BitVec 128))
  | 0, _ => []
  | _ + 1, [] => []
  | fuel + 1, ws => (runHeader 2 (ws.take 15).length frame false false :: ws.take 15) :: copyRuns frame fuel (ws.drop 15)

/-- The epoch snapshot (R292): taken at the commit of the epoch frame E, sent in frame E + 1. -/
def State.epochSnapshot (s : State) (l : Law) : State :=
  let p := s.pair
  let s := if p.snapOut.isEmpty then s else (s.sendCopy (copyRuns s.frame.n p.snapOut.length p.snapOut)).setPr { p with snapOut := [], epochFrame := none }
  if s.pairOn && decide (s.moduleRole = 3) && decide (s.pair.epochFrame = some s.frame.n) then
    s.setPr { s.pair with snapOut := Config.lawSnapshot l }
  else s

/-- The flip of a lane's commit index (R104): its law, its digest and summary (R284), and the slip counts cleared. -/
def State.flip (s : State) (l : Lane) (new : Law) (words : List (BitVec 128)) : State :=
  let r := s.lane l
  let c : LaneCommit := { frame := s.frame.n, slip := false, digest := laneDigest s.lanes.digestKey words, summary := new.summary }
  s.setLaneRec l { r with law := { new with pieces := [] }, commit := some c, done := true, next := none, spec := none, slipRun := 0, slipCounted := 0
                          t0c := s.frame.t0, commitRun := r.commitRun + 1 }

/-- The actual measurements of the present frame on a lane. -/
def State.measured (s : State) (l : Lane) (x : List F32) : Law := (s.lawOf l).measure s (s.lawIn l x)

/-- The law a lane commits in the present frame: its speculation corrected (R106), or the full recompute. -/
def State.frameLaw (s : State) (l : Lane) (x : List F32) (delta : Bool) : Law :=
  match delta, (s.lane l).spec with
  | true, some sp => sp.deltaOf (s.measured l x) (s.byRole s.frame.xp) (s.byRole x)
  | _, _ => (s.lawOf l).frame s (s.lawIn l x)

/-- A lane writes the present frame to its other slot, if it has not yet (R104): nothing of it is visible before the lane's own flip. The other lane's slot
is formed with the serving lane's, from the state before the mode decisions of that commit, which then act on both (log 85, DEDUCED, unsafe). -/
def State.fillSlot (s : State) (o : Lane) (x : List F32) (delta : Bool) : State :=
  let r := s.lane o
  if s.computing o && !r.done && !r.frameBad && r.next.isNone then s.setLaneRec o { r with next := some (s.frameLaw o x delta) } else s

/-- FRAME_STATE after a commit (Table 5.11). -/
def State.frameStateOf (s : State) (delta : Bool) : Nat :=
  if s.lawRuns (s.nat OD.LAW_STATE) then (if s.flag OD.COLD_LEFT then 2 else if delta then 3 else 4) else 1

/-- A frame that began with cold frames left counts one of them, unless they were begun anew in it (R108). (Log 89, DEDUCED, unsafe.) -/
def State.coldCount (s : State) : State := if s.frame.coldNew then s else s.putN OD.COLD_LEFT (s.nat OD.COLD_LEFT - 1)

/-- The outputs of a commit and its downlink; where a codeword of theirs reached the hub poisoned, they are withheld and the last commands repeated
(R22). -/
def State.release (s : State) (ds x : List F32) (ran : Bool) : State :=
  if s.frame.outBad then
    ((s.setFrame { s.frame with outBad := false, commitAt := s.now }).owedBursts).sendBursts true
  else ((s.sendOutputs s.law ds x ran).owedBursts).sendBursts false

/-- What the serving lane's commit does beside its flip: counts and checks on actual samples, publication, mode decisions, outputs, the
downlink, the cross-link and the mirror (R104–R109). `from'`: the speculation and the prediction error of a delta commit. -/
def State.afterFlip (s : State) (l : Lane) (old new : Law) (b : FpBlock) (from' : Option (Law × List F32)) (m : Law) (ran : Bool) (writes : Nat) :
    State :=
  let delta := from'.isSome
  let s := s.bump (if delta then OD.DELTA_COMMITS else OD.FULL_COMMITS)
  let s := s.fbCommit b
  let s := s.putN OD.FRAME_NUMBER s.frame.n
  let s := { s with sig := { s.sig with sample := Vector.ofFn fun n : Fin 32 => at0 b.samples n.val } }
  let s := s.publish old new
  let x := s.byRole b.samples
  let s := s.supervise m x (s.actualRoles b) (s.blockSettled b) s.lanesInP0
  let s := s.setFrame { s.frame with afterSlip := false, streak := if delta then 0 else s.frame.streak }
  let s := (s.coldCount).putN OD.FRAME_STATE (s.frameStateOf delta)
  let s := s.release (s.duties new from') x ran
  let s := { s with sup := { s.sup with stackFresh := Vector.replicate 8 false } }
  let s := match (s.lane l).commit with
    | some c => (s.sendDigest c delta).ownCommit c
    | none => s
  (s.epochSnapshot new).mirror l writes

/-- The serving lane commits the law `new` on the samples `x`. -/
def State.commitServing (s : State) (l : Lane) (new : Law) (b : FpBlock) (x : List F32) (delta : Bool) (words : List (BitVec 128))
    (writes : Nat) : State :=
  let old := s.lawOf l
  let dx := (List.range 22).map fun i => fsub (at0 (s.byRole x) i) (at0 (s.byRole s.frame.xp) i)
  let from' := match delta, (s.lane l).spec with
    | true, some sp => some (sp, dx)
    | _, _ => none
  let ran := s.lawRuns (s.nat OD.LAW_STATE)
  let m := (s.measured l b.samples).busAngle s (s.lawIn l b.samples)
  ((s.fillSlot l.other x delta).flip l new words).afterFlip l old new b from' m ran writes

/-- The cause of a squash of the serving lane's speculation, in the order of R106 and R107; `none` lets the delta commit. -/
def State.squashCause (s : State) (l : Lane) (b : FpBlock) (done : Bool) : Option Nat :=
  match (if done then (s.lane l).spec else none) with
  | none => some 5
  | some sp =>
    if s.flagsBad b then some 1
    else if s.epsBad b then some 2
    else
      let x := s.byRole b.samples
      let xp := s.byRole s.frame.xp
      let dx := (List.range 22).map fun i => fsub (at0 x i) (at0 xp i)
      let new := s.frameLaw l b.samples true
      let m := (s.measured l b.samples).busAngle s (s.lawIn l b.samples)
      let sup (law m : Law) (y : List F32) : List Nat :=
        ((s.setLawOf l law).supervise m y (s.actualRoles b) (s.blockSettled b) s.lanesInP0).modes
      if piecesMove sp dx (sp.pieces ++ s.dutyPieces sp) ∨ sup sp sp xp ≠ sup new m x then some 3
      else if new.finite && (s.duties new (some (sp, dx))).all ffinite then none
      else some 4

/-- The path a standby module must take: the one its active named for this frame (R299). -/
def State.namedPath (s : State) : Option Bool :=
  match s.pair.path with
  | some (n, d) => if n = s.frame.n then some d else none
  | none => none

/-- A standby module waits for the path its active names: until its commit deadline, and not while it computes on its own block (R299, R300). -/
def State.awaitsPath (s : State) : Bool :=
  s.followsPartner && s.namedPath.isNone && !s.pair.ownUsed && decide (s.nat OD.PAIR_STATE ≠ 7) && decide (s.ltc < s.deadline)

/-- The delta path of the serving lane: its speculation, corrected for the block, commits (R106). -/
def State.deltaCommit (s : State) (l : Lane) (b : FpBlock) (words : List (BitVec 128)) (writes : Nat) : State :=
  if (s.lane l).spec.isSome then (s.setPath true).commitServing l (s.frameLaw l b.samples true) b b.samples true words writes else s.setPath false

/-- COMMIT_PHASE (R106): on the serving lane, once the block is there; a lane that a poisoned operand reached does not commit (R21, R110). `specDone`: the speculation had finished. A standby module waits for
the path its active names, and takes it. -/
def State.commitPhase (s : State) (specDone : Bool) (words : List (BitVec 128)) (writes : Nat) : State :=
  match s.serving, s.blockUsed with
  | some l, some b =>
    if s.frame.begun = false ∨ s.frame.path ≠ none ∨ s.laneDone l = true ∨ (s.lane l).frameBad = true ∨ s.deadline < s.ltc then s
    else if s.fullOnly then s.setPath false
    else if s.awaitsPath then s
    else
      match (if s.followsPartner then s.namedPath else none), s.squashCause l b specDone with
      | some true, _ => s.deltaCommit l b words writes
      | some false, c => s.squash (c.getD 5)
      | none, some c => s.squash c
      | none, none => s.deltaCommit l b words writes
  | _, _ => s

/-- COMMIT_PHASE, with whether speculation finished in time, the codewords its digest covers, and how many its mirror takes. -/
def execCommitPhase (specDone : Bool) (words : List (BitVec 128)) (writes : Nat) (s : State) : Host.Outcome State Fault Refusal :=
  .next (s.commitPhase specDone words writes)

/-- The other lane's own commit (R104). -/
def State.commitOther (s : State) (o : Lane) (x : List F32) (delta : Bool) (words : List (BitVec 128)) : State :=
  let s := s.fillSlot o x delta
  match (s.lane o).next with
  | some new => if new.finite then s.flip o new words else s.setLaneRec o { s.lane o with frameBad := true, next := none }
  | none => s

/-- PATH_CODEWORD (R283): the standby lane takes the serving lane's path: after a delta commit it applies the same correction and commits;
after a squash it squashes too and runs the full path. -/
def State.pathCodeword (s : State) (words : List (BitVec 128)) : State :=
  match s.serving, s.blockUsed with
  | some l, some b =>
    let o := l.other
    if s.computing o && !(s.lane o).done && !(s.lane o).frameBad && decide (s.ltc ≤ s.deadline) then
      match s.frame.path with
      | some true => s.commitOther o b.samples true words
      | some false => s.setLaneRec o { s.lane o with spec := none }
      | none => s
    else s
  | _, _ => s

/-- PATH_CODEWORD, with the codewords the standby's digest covers. -/
def execPathCodeword (words : List (BitVec 128)) (s : State) : Host.Outcome State Fault Refusal := .next (s.pathCodeword words)

/-- FULL_PATH_COMMIT (R106, R109): the full recompute of a lane finishes. A result that is not finite makes its frame invalid (R110). -/
def State.fullPathCommit (s : State) (lane : Lane) (words : List (BitVec 128)) (writes : Nat) : State :=
  match s.blockUsed with
  | some b =>
    let r := s.lane lane
    if s.frame.begun && s.computing lane && !r.done && !r.frameBad && decide (s.ltc ≤ s.deadline) &&
        (decide (s.frame.path = some false) || s.fullOnly) && !s.awaitsPath then
      let x := s.samplesUsed b
      if s.serving = some lane then
        let new := s.frameLaw lane x false
        if new.finite && (s.duties new none).all (fun d => ffinite d || !s.lawRuns (s.nat OD.LAW_STATE)) then (s.setPath false).commitServing lane new b x false words writes
        else (s.setPath false).setLaneRec lane { r with frameBad := true }
      else s.commitOther lane x false words
    else s
  | none => s

/-- FULL_PATH_COMMIT, of one lane, with the codewords its digest covers and how many its mirror takes. (Log 116, DEDUCED, unsafe.) -/
def execFullPathCommit (lane : Lane) (words : List (BitVec 128)) (writes : Nat) (s : State) : Host.Outcome State Fault Refusal :=
  .next (s.fullPathCommit lane words writes)

/-- COLD_FRAMES_END (R108): the 64 frames have run out. -/
def State.coldEnd (s : State) : State :=
  if s.nat OD.COLD_LEFT = 0 ∧ s.nat OD.FRAME_STATE = 2 then s.putN OD.FRAME_STATE (if s.lawRuns (s.nat OD.LAW_STATE) then 4 else 1) else s

/-- COLD_FRAMES_END. -/
def execColdFramesEnd (s : State) : Host.Outcome State Fault Refusal := .next s.coldEnd

/-! ### Slips (R110–R112) -/

/-- A lane's frame slips: counted, marked for the comparator, its run of slips longer (R110, R284). -/
def State.slipLane (s : State) (l : Lane) (counts : Bool) : State :=
  let r := s.lane l
  let c : LaneCommit := { frame := s.frame.n, slip := true }
  let s := s.setLaneRec l { r with done := true, spec := none, next := none, commitRun := 0, commit := some c, slipRun := r.slipRun + 1
                                   slipCounted := if counts then r.slipCounted + 1 else 0
                                   slipAt := if counts then some s.now else r.slipAt }
  s.bump (match l with | .a => OD.SLIPS_A | .b => OD.SLIPS_B)

/-- The protective stop of R112; in pair mode with a STANDBY partner the module hands over instead (R309). (Log 90, DEDUCED, unsafe.) -/
def State.slipStop (s : State) : State :=
  let zero (s : State) (l : Lane) : State := s.setLaneRec l { s.lane l with slipRun := 0, slipCounted := 0 }
  let s := zero (zero s .a) .b
  if s.pairOn && decide (s.moduleRole = 3) && decide (s.nat OD.PARTNER_STATE = 4) then s.announceHandover
  else (s.note Ev.SLIP_STOP 0).lawStop Ev.SLIP_STOP (decide (s.nat OD.SLIP_STOP = 1))

/-- Two consecutive slips (R112): the serving lane is demoted where the other is qualified and has committed both frames, and so serves from the
next; otherwise, or when
both lanes have two of any cause, the protective stop. -/
def State.judgeSlips (s : State) (l : Lane) : State :=
  let o := l.other
  let can := decide (s.laneSt o = 4) && (s.lane o).done && decide (2 ≤ (s.lane o).commitRun)
  let all := (decide (2 ≤ (s.lane l).slipRun)) && (!s.computing o || decide (2 ≤ (s.lane o).slipRun))
  if 2 ≤ (s.lane l).slipCounted ∧ can = true then (s.note Ev.SLIP_DEMOTE l.num).demote l 5
  else if 2 ≤ (s.lane l).slipCounted ∨ all = true then s.slipStop
  else s

/-- The serving lane's slip holds the outputs: no LOAD_ALL, the downlink repeats the last commands marked held, and the next frame runs on
the full path (R110). -/
def State.slipHeld (s : State) (l : Lane) : State :=
  let s := (s.setFrame { s.frame with afterSlip := true }).coldCount
  let s := (s.oweBursts).owedBursts
  let s := match (s.lane l).commit with
    | some c => (s.sendDigest c false).ownCommit c
    | none => s
  s.judgeSlips l

/-- A slip by its row of Table 5.4, on the lanes it affects. -/
def State.slip (s : State) (row : Nat) (ls : List Lane) : State :=
  let counts := decide (row = 1) || decide (row = 2) || decide (row = 4)
  let who := if ls.length = 2 then 2 else ls.foldl (fun _ l => l.num) 0
  let s := s.note Ev.FRAME_SLIP (row * 256 + who)
  let s := if row = 2 ∨ row = 3 then (s.bump OD.INVALID_FRAMES).note Ev.FRAME_INVALID 0 else s
  let s := if row = 2 then ls.foldl (fun s l => s.diagFailed l) s else s
  let s := if row = 5 then s.fbMissing else s
  let s := ls.foldl (fun s l => s.slipLane l counts) s
  let s := match s.serving with
    | some l => if ls.contains l then s.slipHeld l else s
    | none => s
  if row = 3 then s.lawStop Ev.FRAME_INVALID false else s

/-- FRAME_SLIP (R110, R111), behind held bursts that have fallen due: the block of the frame is missing; or a lane's frame is invalid, which is attributed once the other lane's outcome is
known; or its deadline has passed. -/
def State.frameSlip (s : State) : State :=
  let s := s.owedBursts
  if s.frame.begun = false ∨ s.frameOver = true then s
  else
    let late := decide (s.deadline ≤ s.ltc)
    let left := [Lane.a, Lane.b].filter fun l => !s.laneDone l
    let all := [Lane.a, Lane.b].filter fun l => s.computing l
    let bad := left.filter fun l => (s.lane l).frameBad
    if s.blockUsed.isNone && (late || (s.frame.missed && !s.followsPartner)) then s.slip 5 left
    else if 2 ≤ bad.length then s.slip 3 bad
    else if bad.length = 1 ∧ (left.length = 1 ∨ late) then s.slip 2 bad
    else if late then s.slip (if 2 ≤ left.length ∧ 2 ≤ all.length then 4 else 1) left
    else s

/-- FRAME_SLIP. -/
def execFrameSlip (s : State) : Host.Outcome State Fault Refusal := .next s.frameSlip

/-! ### The frame boundary (R97, R113) -/

/-- SPEED_MARGIN set or cleared, shown in the health flags too (R113). -/
def State.setSpeedMargin (s : State) (b : Bool) : State :=
  if s.flag OD.SPEED_MARGIN = b then s
  else ((s.putB OD.SPEED_MARGIN b).putBit OD.HEALTH_FLAGS 7 b).note Ev.SPEED_MARGIN 0 b

/-- SI at a boundary: the speed margin, a restoration that has fallen due, and shedding below 1.000; a lane that cannot fit even fully shed, while the
other can, is demoted first (R113). -/
def State.speedBoundary (s : State) : State :=
  let weak (l : Lane) : Bool := s.computing l && !s.fitsFullyShed l && s.computing l.other && s.fitsFullyShed l.other
  let s := if weak .a then s.demote .a 5 else if weak .b then s.demote .b 5 else s
  let si := s.siNow
  let s := if si * 100 < 105 * 1024 then s.setSpeedMargin true else s
  let ok108 := decide (108 * 1024 ≤ si * 100)
  let ok102 := decide (102 * 1024 ≤ si * 100)
  let s := if s.frame.restore && ok102 then s.setShed s.frame.shed.dropLast else s
  let s := s.setFrame { s.frame with
    marginOkAt := if ok108 then some (s.frame.marginOkAt.getD s.now) else none
    shedOkAt := if ok102 then some (s.frame.shedOkAt.getD s.now) else none
    restore := false }
  if si < 1024 then s.setShed (s.shedFor si) else s

/-- SPEED_MARGIN_CLEAR (R113): SI ≥ 1.08 for 10 ms. -/
def State.speedMarginClear (s : State) : State :=
  match s.frame.marginOkAt with
  | some t => if s.past t (ms 10) ∧ 108 * 1024 ≤ s.siNow * 100 then s.setSpeedMargin false else s
  | none => s

/-- SPEED_MARGIN_CLEAR. -/
def execSpeedMarginClear (s : State) : Host.Outcome State Fault Refusal := .next s.speedMarginClear

/-- SHED_RESTORE (R113): SI ≥ 1.02 for 100 ms restores the last shed step, each further one after a further 100 ms, from the next frame boundary. (Log 155, DEDUCED, unsafe.) -/
def State.shedRestore (s : State) : State :=
  match s.frame.shedOkAt with
  | some t =>
    if s.past t (ms 100) ∧ 102 * 1024 ≤ s.siNow * 100 ∧ s.frame.shed ≠ [] ∧ s.frame.restore = false then
      s.setFrame { s.frame with shedOkAt := some s.now, restore := true }
    else s
  | none => s

/-- SHED_RESTORE. -/
def execShedRestore (s : State) : Host.Outcome State Fault Refusal := .next s.shedRestore

/-- The frame record of the next frame: its t0 on the grid; the first one after a start of the grid takes its number from the LTC (R96). -/
def State.nextFrame (s : State) : State :=
  let f := s.frame
  let fresh : Frame := { f with begun := true, grid := true, burst := false, block := none, specOn := false, missed := false, path := none, xp := [] }
  if f.grid then
    let t := s.gridAfter (f.t0 + s.fTicks / 2)
    let t0 := if t + s.fTicks + 1125 < s.ltc then s.gridAfter s.ltc else t
    s.setFrame { fresh with n := (f.n + 1) % 2 ^ 32, t0Prev := f.t0, t0 := t0 }
  else
    let t0 := s.gridAfter s.ltc
    let n := (((t0 : Int) - s.frameAnchor) / (s.fTicks : Int) % 2 ^ 32).toNat
    let one (s : State) (l : Lane) : State := s.setLaneRec l { s.lane l with t0c := t0 - s.fTicks }
    (one (one (s.setFrame { fresh with n := n, t0Prev := t0 - s.fTicks, t0 := t0 }) .a) .b).putN OD.FRAME_STATE 1

/-- The set-points a frame works with, exclusion masks and the resamplers take effect at the boundary (R145, R210, R87). -/
def State.takeInputs (s : State) : State :=
  let s := { s with sup := { s.sup with targets := Vector.ofFn fun k : Fin 10 => s.f32 (OD.P_SET + k.val) } }
  let s := (List.range 6).foldl (init := s) fun s k =>
    s.setArm k { s.arm k with excluded := (List.range 256).filter fun j => s.bit (OD.SM_EXCLUDE k (j / 32)) (j % 32) }
  let l := s.law
  let f := fmul l.omegaB (fofInt s.fnom)
  (List.range 32).foldl (init := s) fun s n =>
    if s.nat (OD.RS_MODE n) = 2 then
      s.rsUpdate n f (fofInt s.fnom) (s.lane (s.serving.getD .a)).t0c
        (if s.nat (OD.RS_ANGLE_SRC n) = 1 then some l.theta else if l.thBValid then some l.thB else none)
    else s

/-- A STOP held through a degraded stop is taken at the frame boundary (R148). -/
def State.heldStop (s : State) : State :=
  if s.sup.stopHeld && s.sup.degFrom.isNone && decide (s.nat OD.LAW_STATE = 8) then
    ({ s with sup := { s.sup with stopHeld := false } }).setLaw 0 14
  else s

/-- The mirror queue drains between frames: to the other lane within 2 µs, to a partner by its budget (R286, R297). -/
def State.drainMirror (s : State) : State :=
  let n := if s.pairOn && decide (s.moduleRole = 3) then s.lanes.mirrorQueue - s.nat OD.MIRROR_BUDGET * 15 / 16 else 0
  ({ s with lanes := { s.lanes with mirrorQueue := n } }).putN OD.MIRROR_LAG n

/-- Both lanes start a frame. -/
def State.armLanes (s : State) : State :=
  let one (s : State) (l : Lane) : State := s.setLaneRec l { s.lane l with done := false, next := none, spec := none }
  (one (one s .a) .b).setFrame { s.frame with coldNew := false }

/-- The next frame's boundary has come: the frame before is over and B(n) = t0(n − 1) + 2.4 µs has passed (R97, R107). -/
def State.boundaryCame (s : State) : Bool := s.frame.grid && s.frameOver && decide (s.frame.t0 + 1500 ≤ s.ltc)

/-- A program loaded at `t` switches now: at the first frame boundary B(n) at least 200 µs later, before the frame that begins there; in pair mode at
the one named; at once while the grid is stopped (R97, R308, R335). -/
def State.switchDue (s : State) (t : Nat) (named : Bool) : Bool :=
  if s.frame.grid then
    s.boundaryCame &&
      (if s.pairOn then named && decide (s.pair.switchDelta = 1) else decide (t + us 200 + (s.ltc - (s.frame.t0 + 1500)) ≤ s.now))
  else s.past t 0

/-- The mirrored set of a standby module switches now, at the boundary its active named (R308). -/
def State.mirrorDue (s : State) : Bool := s.pairOn && s.boundaryCame && s.pair.switchNamed && decide (s.pair.switchDelta = 1)

/-- CONFIG_SWITCH comes first at this boundary: the frame that begins here is governed wholly by the new set (R97, R117). -/
def State.switchFirst (s : State) : Bool :=
  match s.hosts.commit with
  | some c => !s.standbyModule && s.switchDue c.loadedAt c.named
  | none => s.pair.mirrorSet.isSome && s.mirrorDue

/-- FRAME_BOUNDARY (R97): with the timebase valid, once the frame before is over and its B(n) = t0(n − 1) + 2.4 µs has come, and a configuration that
switches at this boundary has switched. The bursts of a stop in force and held bursts leave when their instants have come (R234). (Log 94, DEDUCED,
unsafe.) -/
def State.frameBoundary (s : State) : State :=
  let s := (s.stopBursts).owedBursts
  if s.tbValid && (if s.frame.grid then s.boundaryCame && !s.switchFirst else s.frameOver) then
    let s := if s.frame.begun then s.takeHistory else s
    let s := (s.nextFrame).takeInputs
    let s := (s.brkAct).heldStop
    let s := ((s.pairBoundary).laneBoundary).drainMirror
    let s := ((s.armLanes).anchorCores).skipSlots
    let s := s.seqDue s.frame.n
    s.speedBoundary
  else s

/-- FP_BLOCK_RELEASE (R82), with what the active of a pair sends then (R297). -/
def execFpBlockRelease (s : State) : Host.Outcome State Fault Refusal :=
  .next (let t := s.fpBlockRelease
         if t.frame.block = s.frame.block then t else t.sendBlock)

end Sys2Proof.Machine
end

