-- ==== Sys2Proof/Machine/Timebase.lean ====
section
/-!
DEFINITION. Machine/Timebase.lean: chapter 2, timebase synthesis: reference sources, acquisition and ALIGN, holdover and loss, divider
changes, LTC steps, carrier pulls and the interleave estimate (R33–R57).
-/
namespace Sys2Proof.Machine
open Sys2Proof

/-- Replace the timebase record. -/
def State.setTb (s : State) (t : Timebase) : State := { s with tb := t }
/-- Replace the servo record. -/
def State.setServo (s : State) (v : Servo) : State := { s with servo := v }

/-! ### Time quality and the vault clock (R54, R362, R466, R467; Table 13.2) -/

/-- TIME_QUALITY from servo and timebase: 0 free-running, 1 holdover, 2 traceable (Tables 2.5 and 13.2, R44). -/
def State.timeQuality (s : State) : Nat :=
  let st := s.nat OD.SERVO_STATE
  let q := if st = 3 then 2 else if st = 4 ∨ st = 5 then 1 else if st = 0 then 0 else if s.servo.stepDone then 1 else 0
  if !s.tbValid || s.tb.holdExpired then 0
  else if s.nat OD.TB_STATE = 4 then Nat.min q 1
  else q

/-- TIME_QUALITY follows. -/
def State.refreshQuality (s : State) : State := s.putN OD.TIME_QUALITY s.timeQuality

/-- The servo changes state, recorded (0x0D02); leaving LOCKED starts t_h of R54; SUSPECT sets STEP_NEEDED, and entering and leaving it
is recorded (R363, Table 13.2). -/
def State.setServoState (s : State) (st : Nat) : State :=
  let old := s.nat OD.SERVO_STATE
  if old = st then s.refreshQuality
  else
    let v := s.servo
    let s := s.setServo { v with everLocked := v.everLocked || decide (st = 3), leftAt := if old = 3 then some s.now else if st = 3 then none else v.leftAt
                                 lockRun := 0, looseRun := 0, backRun := 0, okRun := 0 }
    let s := ((s.putN OD.SERVO_STATE st).refreshQuality).note Ev.SERVO_STATE 0
    if st = 5 then (s.putB OD.STEP_NEEDED true).note Ev.STEP_NEEDED 0
    else if old = 5 then (s.putB OD.STEP_NEEDED false).note Ev.STEP_NEEDED 0 false
    else s

/-- The vault clock in TAI ns: running since the last copy, or the last TAI stored where it stood still (R466, R467). -/
def State.vaultNs (s : State) : Nat := s.power.vaultTai + (if s.bit OD.VAULT_FLAGS 2 then nsOf (s.now - s.power.vaultAt) else 0)

/-- Round an LTC value up to an alignment point (R38). -/
def alignUp (t : Nat) : Nat := cdiv t 2500 * 2500

/-! ### PTP ports (R357) -/

/-- The port is up: its mode, link and clock are there, its MAC not in partial reset. The Ethernet clock comes from the TB-PLL; at the loss of
the timebase the ports stop (Tables 2.1 and 13.5). -/
def State.ethUp (s : State) (k : Nat) : Bool :=
  decide (s.nat (OD.ETH_MODE k) ≠ 0) && s.flag (OD.LINK_UP k) && s.tbValid && !s.bit OD.PR_BUSY (8 + k)

/-- PTP runs on port `k`: enabled, and the timebase valid (Table 13.5: at its loss the ports stop). -/
def State.ptpOn (s : State) (k : Nat) : Bool := s.flag (OD.PTP_EN k) && decide (s.nat (OD.ETH_MODE k) ≠ 0) && s.tbValid

/-- PTP_PORT_STATE of both ports: slave once its path delay is known, the other port passive; faulty without link (log 33). -/
def State.refreshPtpPorts (s : State) : State :=
  (List.range 2).foldl (init := s) fun s k =>
    let sl := s.nat OD.SLAVE_PORT
    let st := if !s.ptpOn k then 0 else if !s.flag (OD.LINK_UP k) then 5
      else if sl = k then (if vget false s.servo.pathKnown k then 3 else 2) else if sl < 2 then 4 else 1
    s.putN (OD.PTP_PORT_STATE k) st

/-! ### LTC steps (R40, R362) -/

/-- A backward step: the time epoch counts one, kept in the vault (R362). -/
def State.nextEpoch (s : State) : State :=
  let e := (s.nat OD.TIME_EPOCH + 1) % 65536
  s.putN OD.TIME_EPOCH e

/-- A stamp on the LTC moved with it. -/
def shiftBy (d : Int) (t : Nat) : Nat := ((t : Int) + d).toNat

/-- The LTC stamps of a core. -/
def AdcCore.shifted (d : Int) (x : AdcCore) : AdcCore :=
  let two (t : Nat) : Nat := if t = 0 then 0 else shiftBy (2 * d) t
  { x with heldAt := shiftBy d x.heldAt, taken := x.taken.map two, due := x.due.map fun e => (e.1, shiftBy d e.2), switchAt := x.switchAt.map (shiftBy d)
           gridFrom := shiftBy d x.gridFrom, lastHold := two x.lastHold, skip := x.skip.map two, placedAt := two x.placedAt }

/-- A planned edge set moved by `d` ticks. -/
def HubSet.shifted (d : Int) (x : HubSet) : HubSet :=
  let c (y : EpChan) : EpChan := { y with edgeAt := shiftBy d y.edgeAt }
  { x with start := shiftBy d x.start, set := { x.set with start := shiftBy d x.start % 2 ^ 32 }, h := c x.h, l := c x.l }

/-- The instants a law keeps in its history moved by `d` ticks. -/
def Law.shifted (d : Int) (l : Law) : Law := { l with hist := l.hist.map fun h => { h with t0 := shiftBy d h.t0 } }

/-- A lane's frame state moved by `d` ticks: its law, both slots of it, and the t0 it last committed. -/
def LaneRec.shifted (d : Int) (r : LaneRec) : LaneRec :=
  { r with law := r.law.shifted d, next := r.next.map (Law.shifted d), spec := r.spec.map (Law.shifted d), t0c := shiftBy d r.t0c }

/-- A capture stream of the frame grid moves with the frames. -/
def State.streamShifted (s : State) (d : Int) (q : Nat) : Stream :=
  let x := vget {} s.streams q
  if s.nat (OD.STREAM_GRID q) = 0 then { x with lastAt := shiftBy d x.lastAt } else x

/-- What the module keeps in LTC ticks moves with a step: frames, carriers, histories, planned edges (Table 13.5). -/
def State.shiftLtc (s : State) (d : Int) : State :=
  let f := s.frame
  let s := { s with ltc := shiftBy d s.ltc, frame := { f with t0 := shiftBy d f.t0, t0Prev := shiftBy d f.t0Prev, owed := f.owed.map (fun x : Nat × Nat => (x.1, shiftBy d x.2)) } }
  let s := (s.setLaneRec .a ((s.lane .a).shifted d)).setLaneRec .b ((s.lane .b).shifted d)
  let cs := s.pwm.carriers.map (fun c : Carrier => { c with at1 := c.at1 + d })
  let hub := s.link.hub.map (fun c => { c with edgeAt := shiftBy d c.edgeAt })
  let pwm := { s.pwm with carriers := cs, stopLtc := shiftBy d s.pwm.stopLtc }
  let s := { s with pwm := pwm, link := { s.link with hub := hub, sets := s.link.sets.map (HubSet.shifted d) } }
  let s := { s with adc := s.adc.map (AdcCore.shifted d) }
  let s := { s with streams := Vector.ofFn fun q : Fin 4 => s.streamShifted d q.val }
  (List.range 6).foldl (init := s) fun s k => s.setArm k { s.arm k with applyAt := shiftBy d (s.arm k).applyAt }

/-! ### The port guard of armed launches (R368) -/

/-- The next launch of a slot, TAI ns. -/
def State.launchNext (s : State) (k i : Nat) : Nat := vget 0 s.launchAt (16 * k + i)

/-- From 12.5 µs before each armed launch the MAC starts no other frame on the port (R368). -/
def State.launchGuard (s : State) (k : Nat) : Bool :=
  (List.range 16).any fun i => decide (s.nat (OD.LAUNCH_STATE k i) = 1) && decide (s.launchNext k i ≤ s.taiNs + 12500)

/-- A frame of the port starts: an answer of R355. -/
def State.ethStart (s : State) (k : Nat) (kind : EthKind) : State := (s.bumpW (OD.TX_FRAMES k)).emit (.netAnswer k kind)

/-- What waited for the guard to end starts, oldest first; with the port stopped it is lost. -/
def State.ethRelease (s : State) (k : Nat) : State :=
  if s.launchGuard k then s
  else
    let q := vget [] s.ethWait k
    let s := { s with ethWait := vset s.ethWait k [] }
    if s.ethUp k then q.foldl (fun s e => s.ethStart k e) s else s

/-- Slots armed in the old epoch disarm with a backward step (Table 13.5). -/
def State.disarmEpoch (s : State) : State :=
  let armed := (List.range 32).filter fun i => decide (s.nat (OD.LAUNCH_STATE (i / 16) (i % 16)) = 1)
  if armed.isEmpty then s
  else (((armed.foldl (fun s i => s.putN (OD.LAUNCH_STATE (i / 16) (i % 16)) 4) s).note Ev.LAUNCH_EPOCH 0).ethRelease 0).ethRelease 1

/-- A step of `ns` in whole alignment periods of 4 µs, rounded to nearest (R40); one exactly between two goes towards plus infinity
(log 123, DESIGN CHOICE, unsafe). -/
def stepPeriods (ns : Int) : Int := (ns + 2000) / 4000

/-- A step of the LTC by `ns`, rounded to whole alignment periods (R40, R362); a backward step begins a new epoch first. (Log 25, DEDUCED, unsafe.) -/
def State.ltcStep (s : State) (ns : Int) : State :=
  let k := stepPeriods ns
  if k = 0 then s
  else
    let s := if k < 0 then (s.nextEpoch).disarmEpoch else s
    let s := s.shiftLtc (k * 2500)
    let s := (s.bump OD.TIME_STEP_COUNT).putI OD.LAST_STEP (k * 4000)
    (s.refreshPulls).note Ev.TIME_STEP 0

/-! ### Source and acquisition (R34, R39, R42) -/

/-- What has been measured of the TCXO stays when REFCLK_IN is no longer in use (R43, OD 2001.09). -/
def State.keepTcxo (s : State) : State := if s.refInUse then s.putI OD.TCXO_VS_REF s.tcxoVsRef else s

/-- The source in use becomes REFCLK_IN (`true`) or the TCXO. -/
def State.useRef (s : State) (ref : Bool) : State := s.keepTcxo.putB OD.REF_ACTIVE ref

/-- An acquisition begins (R42): on REFCLK_IN where it is selected and qualified; on the TCXO otherwise, except that after a loss without
fallback it waits for REFCLK_IN (Table 2.6). REF_ACTIVE then shows the source waited for (log 124, DESIGN CHOICE, unsafe). -/
def State.acquire (s : State) (afterLoss : Bool) : State :=
  let sel := decide (s.nat OD.TB_REF_SEL = 1)
  let ref := sel && (s.tb.refQualified || (afterLoss && !s.flag OD.REF_FALLBACK))
  ((s.setTb { s.tb with freqAcquired := false, rephasing := false, movePending := false }).putN OD.TB_STATE 1).useRef ref

/-- REFCLK_QUALIFIED (R34): within ±100 ppm for 10 ms, measured against a good TCXO. An acquisition that has not yet found its frequency
takes it where it is selected. -/
def State.refQualify (s : State) : State :=
  if s.tb.tcxoFailed || s.tb.refQualified then s
  else
    let s := s.setTb { s.tb with refQualified := true, refQualAt := s.now }
    if s.nat OD.TB_STATE = 1 ∧ s.tb.freqAcquired = false ∧ s.nat OD.TB_REF_SEL = 1 then s.useRef true else s

/-- REFCLK_QUALIFIED. -/
def execRefclkQualified (s : State) : Host.Outcome State Fault Refusal := .next s.refQualify

/-- The source in use is good: REFCLK_IN qualified, or still in use until a move to its new frequency (R34). -/
def State.sourceGood (s : State) : Bool := !s.tb.tcxoFailed && (!s.flag OD.REF_ACTIVE || s.tb.refQualified || s.tb.movePending)

/-- FREQ_ACQUISITION_DONE (Table 2.4). -/
def State.freqDone (s : State) : State :=
  if s.nat OD.TB_STATE = 1 ∧ s.sourceGood = true then s.setTb { s.tb with freqAcquired := true } else s

/-- FREQ_ACQUISITION_DONE. -/
def execFreqAcquisitionDone (s : State) : Host.Outcome State Fault Refusal := .next s.freqDone

/-- LOCK_DETECT_STABLE (R42): the TB-PLL enters ALIGN. -/
def State.lockStable (s : State) : State :=
  if s.nat OD.TB_STATE = 1 ∧ s.tb.freqAcquired = true then s.putN OD.TB_STATE 2 else s

/-- LOCK_DETECT_STABLE. -/
def execLockDetectStable (s : State) : Host.Outcome State Fault Refusal := .next s.lockStable

/-- HOLDOVER is left: its length is kept (OD 2001.06). -/
def State.leaveHoldover (s : State) : State :=
  if s.nat OD.TB_STATE = 4 then
    (s.putN OD.HOLDOVER_TIME (Nat.min (s.msSince s.tb.holdAt) 0xFFFFFFFF)).setTb { s.tb with holdCause := 0, holdExpired := false, rephasing := false }
  else s

/-- LOCKED is entered, with the DETAIL of Table 15.11: 1 after ALIGN, 2 relock, 3 after a move of the DCR. RELOCK_COUNT counts every return
without ALIGN: those of R43 and R45, and a move of R34 out of HOLDOVER (log 125, DEDUCED, unsafe). -/
def State.enterLocked (s : State) (detail : Nat) : State :=
  let s := s.leaveHoldover
  let s := (s.setTb { s.tb with lockedAt := s.now }).putN OD.TB_STATE 3
  let s := if detail = 1 then s else s.bump OD.RELOCK_COUNT
  (s.note Ev.TB_LOCKED detail).refreshQuality

/-- The servo listens once the timebase is valid and a mode is active (Table 13.2). -/
def State.servoListen (s : State) : State :=
  let s := s.refreshPtpPorts
  if s.nat OD.SERVO_MODE ≠ 0 ∧ s.nat OD.SERVO_STATE = 0 then s.setServoState 1 else s

/-- TB_ALIGN (R39, R40): dividers are released on the next alignment point; at the first ALIGN the LTC is loaded from the vault clock, at
a later one from its estimate. `refOffset`: ticks from the reference edge. -/
def State.tbAlign (s : State) (refOffset : Nat) : State :=
  if s.nat OD.TB_STATE = 2 then
    let t := if s.tb.alignedOnce then alignUp s.ltc else alignUp (ticksOfNs s.vaultNs)
    let s := { s with ltc := t, tb := { s.tb with alignedOnce := true } }
    let s := (s.bump OD.ALIGN_COUNT).putN OD.ALIGN_REF_OFFSET (refOffset % 2500)
    ((s.enterLocked 1).servoListen).linkRefresh
  else s

/-- TB_ALIGN. -/
def execTbAlign (refOffset : Nat) (s : State) : Host.Outcome State Fault Refusal := .next (s.tbAlign refOffset)

/-- A commit changes the reference selection or its frequency (R34): in LOCKED and HOLDOVER a move follows, also one from the TCXO to itself
when only the frequency of REFCLK_IN changes (log 126, DESIGN CHOICE, unsafe); earlier the acquisition under way uses it. A new frequency must
be qualified anew. -/
def State.refCommitted (s : State) (freq : Bool) : State :=
  let s := if freq then (s.keepTcxo).setTb { s.tb with refQualified := false } else s
  let st := s.nat OD.TB_STATE
  if st = 3 ∨ st = 4 then s.setTb { s.tb with movePending := true }
  else if st = 1 ∨ st = 2 then s.useRef (decide (s.nat OD.TB_REF_SEL = 1) && s.tb.refQualified)
  else s

/-- DCR_SOURCE_MOVE (R34): the DCR moves to the committed source, REFCLK_IN once qualified, without a phase step; the state is LOCKED. -/
def State.dcrMove (s : State) : State :=
  let ref := decide (s.nat OD.TB_REF_SEL = 1)
  let st := s.nat OD.TB_STATE
  if s.tb.movePending = true ∧ (st = 3 ∨ st = 4) ∧ (ref = false ∨ s.tb.refQualified = true) then
    let s := ((s.setTb { s.tb with movePending := false }).useRef ref).note Ev.TB_REF_FALLBACK 3
    if st = 4 then s.enterLocked 3 else s
  else s

/-- DCR_SOURCE_MOVE. -/
def execDcrSourceMove (s : State) : Host.Outcome State Fault Refusal := .next s.dcrMove

/-- DCR_TUNE_WRITE (R35, Table 13.2): the word comes from the servo while it acquires or is locked, from TB_TUNE_MAN while it is
OFF; it is frozen otherwise, and in HOLDOVER (R43). -/
def State.dcrTune (s : State) : State :=
  let st := s.nat OD.SERVO_STATE
  let w := if st = 0 then some (s.int OD.TB_TUNE_MAN) else if st = 2 ∨ st = 3 then some s.servo.rate else none
  match w with
  | some w => if s.nat OD.TB_STATE = 4 then s else s.putI OD.TB_TUNE (iclamp w (-500000) 500000)
  | none => s

/-- DCR_TUNE_WRITE. -/
def execDcrTuneWrite (s : State) : Host.Outcome State Fault Refusal := .next s.dcrTune

/-! ### Divider changes and spread spectrum (R41, R49) -/

/-- The committed values of R41. -/
def State.divSet (s : State) : DivSet :=
  { pd := s.nat OD.TB_PD_FREQ, n := s.nat OD.INTERLEAVE_N, idx := s.nat OD.INTERLEAVE_IDX, trim := s.int OD.INTERLEAVE_TRIM
    tol := s.nat OD.INTERLEAVE_TOL, pull := s.nat OD.CARRIER_PULL }

/-- A commit changes them: they wait for their alignment point, replacing what waited (R41). -/
def State.divCommitted (s : State) : State :=
  (s.setTb { s.tb with pending := some s.divSet, pendingFrom := s.now }).putB OD.DIV_PENDING true

/-- TB_DIV_APPLIED (R41): in LOCKED, at an alignment point at least 4 µs after the boundary and after LOCKED was entered. -/
def State.divApplied (s : State) : State :=
  match s.tb.pending with
  | some d =>
    if s.nat OD.TB_STATE = 3 ∧ s.past s.tb.pendingFrom (us 4) = true ∧ s.past s.tb.lockedAt (us 4) = true ∧ s.ltc % 2500 = 0 then
      (((s.setTb { s.tb with inForce := d, pending := none }).putB OD.DIV_PENDING false).note Ev.TB_DIV_APPLIED 0).refreshPulls
    else s
  | none => s

/-- TB_DIV_APPLIED. -/
def execTbDivApplied (s : State) : Host.Outcome State Fault Refusal := .next s.divApplied

/-- SS_CHANGE_APPLY (R49): the committed spread takes effect in the converter clock divider. -/
def State.ssApply (s : State) : State :=
  if s.tb.ssPending then
    s.setTb { s.tb with ssPending := false, ssMode := s.nat OD.SS_MODE, ssDepth := s.nat OD.SS_DEPTH, ssRate := s.nat OD.SS_RATE }
  else s

/-- SS_CHANGE_APPLY. -/
def execSsChangeApply (s : State) : Host.Outcome State Fault Refusal := .next s.ssApply

/-! ### Loss (R46) -/

/-- The timebase is lost (R46, Table 13.5): LOST, then ACQUIRE at once; outputs safe on the watchdog oscillator and latched; law in FAULT;
frames and bursts stop; servo OFF with one further first step. In ACQUIRE and ALIGN it was lost already: no further TB_LOST is recorded and no
trip latched (log 127, DESIGN CHOICE, unsafe). -/
def State.tbLost (s : State) : State :=
  let s := s.leaveHoldover
  let was := s.tbValid
  let s := s.putN OD.TB_STATE 5
  let s := if was then s.note Ev.TB_LOST 0 else s
  let s := if was then s.latchTrip 5 else s
  let s := if s.nat OD.LAW_STATE = 0 ∨ s.nat OD.LAW_STATE = 8 then s
    else ((s.withdraw 4).putN OD.FAULT_CAUSE Ev.TB_LOST).setLaw 8 13
  let s := if was then (((s.ldTripOff).ldTbLost).stopOutputs false true 5 4) else s
  let s := (s.blockMissed).setFrame { s.frame with grid := false, begun := false, block := none, specOn := false, path := none }
  let s := if s.nat OD.FRAME_STATE = 0 then s else s.putN OD.FRAME_STATE 5
  let s := if was then (s.stepAll).adcTbLost else s
  let v := s.servo
  let s := s.setServo { v with stepDone := false, count := 0, offs := [], lastAt := 0, lockRun := 0, looseRun := 0, backRun := 0, okRun := 0, threshRun := 0 }
  let s := (s.setServoState 0).refreshPtpPorts
  s.acquire false

/-- TB_LOST: the watchdog sees no or wrong timebase edges; not while the TB-PLL is off. -/
def execTbLost (s : State) : Host.Outcome State Fault Refusal := .next (if s.nat OD.TB_STATE = 0 then s else s.tbLost)

/-- HOLDOVER is entered for its cause: 1 reference loss, 2 loss of lock (R43, R45). -/
def State.enterHoldover (s : State) (cause : Nat) : State :=
  let s := (s.setTb { s.tb with holdCause := cause, holdAt := s.now, holdExpired := false }).putN OD.TB_STATE 4
  (s.refreshQuality).note Ev.TB_HOLDOVER cause

/-- REF_LOSS (R43, Table 2.6): in LOCKED on REFCLK_IN the state becomes HOLDOVER; during ACQUIRE or ALIGN the acquisition starts again; with
a loss of lock it is handled as reference loss. The last measurement of the TCXO against REFCLK_IN stands. -/
def State.refLoss (s : State) : State :=
  let s := (s.keepTcxo).setTb { s.tb with refQualified := false, refLostAt := s.now }
  if s.flag OD.REF_ACTIVE = false then s
  else
    let st := s.nat OD.TB_STATE
    if st = 3 then s.enterHoldover 1
    else if st = 4 then s.setTb { s.tb with holdCause := 1, rephasing := false }
    else if st = 1 ∨ st = 2 then s.acquire true
    else s

/-- REF_LOSS. -/
def execRefLoss (s : State) : Host.Outcome State Fault Refusal := .next s.refLoss

/-- REF_FALLBACK (R43): REFCLK_IN still lost after REF_LOSS_QUAL: the DCR moves to the TCXO. -/
def State.refFallback (s : State) : State :=
  if s.nat OD.TB_STATE = 4 ∧ s.tb.holdCause = 1 ∧ s.flag OD.REF_FALLBACK = true ∧ s.tb.refQualified = false ∧ s.tb.tcxoFailed = false ∧
      s.past s.tb.refLostAt (ms (s.nat OD.REF_LOSS_QUAL)) = true then
    ((s.useRef false).note Ev.TB_REF_FALLBACK 1).enterLocked 3
  else s

/-- REF_FALLBACK. (Log 14, DESIGN CHOICE, safe.) -/
def execRefFallback (s : State) : Host.Outcome State Fault Refusal := .next s.refFallback

/-- REF_RETURN (R43): a selected REFCLK_IN qualified for 10 s is used again. -/
def State.refReturn (s : State) : State :=
  if s.nat OD.TB_STATE = 3 ∧ s.nat OD.TB_REF_SEL = 1 ∧ s.flag OD.REF_ACTIVE = false ∧ s.tb.refQualified = true ∧
      s.past s.tb.refQualAt (sec 10) = true then
    (s.useRef true).note Ev.TB_REF_FALLBACK 2
  else s

/-- REF_RETURN. -/
def execRefReturn (s : State) : Host.Outcome State Fault Refusal := .next s.refReturn

/-- HOLDOVER_RELOCK (R43): REFCLK_IN is qualified again in HOLDOVER by reference loss; the loop closes without ALIGN when the VCO lies within
±100 ppm, else the timebase is lost (R45). -/
def State.holdoverRelock (s : State) (vcoInRange : Bool) : State :=
  if s.nat OD.TB_STATE = 4 ∧ s.tb.holdCause = 1 ∧ s.tb.refQualified = true then
    (if vcoInRange then (s.useRef true).enterLocked 2 else s.tbLost)
  else s

/-- HOLDOVER_RELOCK. -/
def execHoldoverRelock (vcoInRange : Bool) (s : State) : Host.Outcome State Fault Refusal := .next (s.holdoverRelock vcoInRange)

/-- TB_HOLDOVER_EXPIRED (R44). -/
def State.holdoverExpired (s : State) : State :=
  if s.nat OD.TB_STATE = 4 ∧ s.tb.holdExpired = false ∧ s.past s.tb.holdAt (sec (s.nat OD.HOLDOVER_LIMIT)) = true then
    ((s.setTb { s.tb with holdExpired := true }).refreshQuality).note Ev.TB_HOLDOVER_EXPIRED 0
  else s

/-- TB_HOLDOVER_EXPIRED. -/
def execTbHoldoverExpired (s : State) : Host.Outcome State Fault Refusal := .next s.holdoverExpired

/-- LOSS_OF_LOCK (R45): with a good source the state becomes HOLDOVER and a re-phase begins, or the timebase is lost. -/
def State.lossOfLock (s : State) (vcoInRange : Bool) : State :=
  if s.nat OD.TB_STATE = 3 ∧ s.sourceGood = true then
    let s := s.enterHoldover 2
    if vcoInRange then s.setTb { s.tb with rephasing := true } else s.tbLost
  else s

/-- LOSS_OF_LOCK. -/
def execLossOfLock (vcoInRange : Bool) (s : State) : Host.Outcome State Fault Refusal := .next (s.lossOfLock vcoInRange)

/-- RELOCK_DONE (R45). -/
def State.relockDone (s : State) : State :=
  if s.nat OD.TB_STATE = 4 ∧ s.tb.holdCause = 2 ∧ s.tb.rephasing = true then s.enterLocked 2 else s

/-- RELOCK_DONE. -/
def execRelockDone (s : State) : Host.Outcome State Fault Refusal := .next s.relockDone

/-- The TCXO fails (R47): SYS-PLL lock is lost, the fault is raised on E1 and E2, REFCLK_IN cannot be qualified, the timebase is lost. -/
def State.tcxoLost (s : State) : State :=
  let s := (s.keepTcxo).setTb { s.tb with tcxoFailed := true, refQualified := false }
  let s := (s.putB OD.SYS_LOCKED false).note Ev.SYS_PLL_FAULT 0
  let s := (List.range 2).foldl (fun s k => if s.ethUp k then s.emit (.netFault k) else s) s
  if s.nat OD.TB_STATE = 0 then s else s.tbLost

/-- TCXO_RECOVER (R47): acquisition proceeds. -/
def State.tcxoRecover (s : State) : State :=
  if s.tb.tcxoFailed then
    let s := (s.setTb { s.tb with tcxoFailed := false }).putB OD.SYS_LOCKED (s.domainOn 1)
    if s.nat OD.TB_STATE = 1 then s.acquire false else s
  else s

/-- The configuration loaded at a start puts its divider values in force: no commit made them pending (R41; log 128, DEDUCED, safe). -/
def State.divLoaded (s : State) : State :=
  (s.setTb { s.tb with inForce := s.divSet, pending := none }).putB OD.DIV_PENDING false

/-- Domain D12 is switched on: acquisition starts with the divider values that were in force (R41, R42, Table 2.4). -/
def State.tbPowerOn (s : State) : State := (s.setTb { s.tb with refQualified := false, refQualAt := s.now }).acquire false

/-- Domain D12 is switched off, or the module enters reset: OFF from any state (R42). -/
def State.tbPowerOff (s : State) : State :=
  let s := (s.leaveHoldover).blockMissed
  let s := s.setFrame { s.frame with grid := false, begun := false, block := none, specOn := false, path := none }
  let s := if s.nat OD.FRAME_STATE = 0 then s else s.putN OD.FRAME_STATE 5
  ((s.putN OD.TB_STATE 0).refreshPtpPorts).refreshQuality

/-! ### The interleave estimate (R54) -/

/-- The T_c the threshold of R54 refers to: the shortest enabled carrier's, F with none. (Log 26, DESIGN CHOICE, unsafe.) -/
def State.shortestPeriod (s : State) : Nat :=
  match (List.range 8).filter fun c => s.flag (OD.CAR_EN c) with
  | [] => s.fTicks
  | c :: cs => cs.foldl (fun m k => Nat.min m (s.carPeriod k)) (s.carPeriod c)

/-- INTERLEAVE_DEGRADED as R54 sets and clears it. -/
def State.interleaveBad (s : State) : Bool :=
  let n := s.tb.inForce.n
  if 1 < n ∧ s.servo.everLocked = false then true
  else
    match s.interleaveErr with
    | none => decide (1 < n)
    | some e =>
      let lim := s.tb.inForce.tol * s.shortestPeriod * 8
      if lim < e * 50000 then true else if 2 * (e * 50000) < lim then false else s.flag OD.INTERLEAVE_DEGRADED

/-- INTERLEAVE_DEGRADED (R54): the estimate is shown, and the flag set or cleared with it is recorded. -/
def State.interleaveWatch (s : State) : State :=
  let s := s.putN OD.INTERLEAVE_ERR (match s.interleaveErr with | some e => Nat.min e 0xFFFFFFFE | none => 0xFFFFFFFF)
  let b := s.interleaveBad
  if s.flag OD.INTERLEAVE_DEGRADED = b then s else (s.putB OD.INTERLEAVE_DEGRADED b).note Ev.INTERLEAVE_DEGRADED 0 b

/-- INTERLEAVE_DEGRADED. -/
def execInterleaveDegraded (s : State) : Host.Outcome State Fault Refusal := .next s.interleaveWatch

end Sys2Proof.Machine
end

