-- ==== Sys2Proof/Machine/Time.lean ====
section
/-!
DEFINITION. Machine/Time.lean: chapter 13, Ethernet ports and network time: frames received, links, PTP, the servos, calendar time and
launch slots (R354–R371).
-/
namespace Sys2Proof.Machine
open Sys2Proof

/-! ### Ports (R354–R356) -/

/-- A number as `w` octets, most significant first. -/
def beBytes : Nat → Nat → List Byte
  | 0, _ => []
  | w + 1, n => beBytes w (n / 256) ++ [BitVec.ofNat 8 n]

/-- A frame the port does not take (R355). -/
def State.ethDrop (s : State) (k : Nat) : State := s.bump (OD.RX_DROPPED k)

/-- An answer of the port (R355); it waits while an armed launch is less than 12.5 µs away (R368). -/
def State.ethAnswer (s : State) (k : Nat) (kind : EthKind) : State :=
  if s.launchGuard k then { s with ethWait := vset s.ethWait k (vget [] s.ethWait k ++ [kind]) } else s.ethStart k kind

/-- The streams that send on port `k`. -/
def State.streamsOn (s : State) (k : Nat) : List Nat := (List.range 4).filter fun q => decide (s.nat (OD.STREAM_ETH q) = k + 1)

/-- What a good frame of an accepted VLAN does: `own` its dictionary VLAN, `ptp` its PTP VLAN (R355, R356). -/
def State.ethFrame (s : State) (k : Nat) (own ptp : Bool) (kind : EthKind) : State :=
  match kind with
  | .arp => if own = true ∧ s.flag (OD.IPV4_ADDR k) = true then s.ethAnswer k kind else s.ethDrop k
  | .echo4 => if own = true ∧ s.flag (OD.IPV4_ADDR k) = true then s.ethAnswer k kind else s.ethDrop k
  | .neighbour => if own then s.ethAnswer k kind else s.ethDrop k
  | .echo6 => if own then s.ethAnswer k kind else s.ethDrop k
  | .ptp => if ptp = true ∧ s.flag (OD.PTP_EN k) = true ∧ s.nat OD.PTP_PROFILE ≠ 0 then s else s.ethDrop k
  | .udp dest =>
    if own = true ∧ dest = s.nat OD.DICT_UDP_PORT then s
    else if ptp = true ∧ s.flag (OD.PTP_EN k) = true ∧ s.nat OD.PTP_PROFILE = 0 ∧ (dest = 319 ∨ dest = 320) then s
    else if own && (s.streamsOn k).any fun q => decide (s.nat (OD.STREAM_SRC_PORT q) = dest) then s
    else s.ethDrop k
  | .other => s.ethDrop k

/-- ETH_FRAME_RECEIVE (R354–R356): `len` bytes with the tag and FCS, FCS good, its VLAN (0 untagged), what it carries. What PTP, the
dictionary and the capture streams take from it are commands of their own. -/
def State.ethReceive (s : State) (k len : Nat) (fcsOk : Bool) (vlan : Nat) (kind : EthKind) : State :=
  if s.ethUp k then
    (if 1522 < len ∨ fcsOk = false then s.bump (OD.RX_ERRORS k)
     else
      let s := s.bumpW (OD.RX_FRAMES k)
      let own := decide (vlan = s.nat (OD.VLAN_ID k))
      let ptp := decide (vlan = s.nat (OD.PTP_VLAN_ID k))
      if own || ptp then s.ethFrame k own ptp kind else s.ethDrop k)
  else s

/-- ETH_FRAME_RECEIVE. -/
def execEthFrameReceive (k : Fin 2) (len : Nat) (fcsOk : Bool) (vlan : Nat) (kind : EthKind) (s : State) : Host.Outcome State Fault Refusal :=
  .next (s.ethReceive k.val len fcsOk vlan kind)

/-! ### The best master clock (R357, R358, R366) -/

/-- What the best master clock algorithm compares, most significant first (IEEE 1588, log 33, PRESUMED, unsafe). -/
def masterRank (m : Announce) : List Nat := [m.prio1, m.cls, m.accuracy, m.variance, m.prio2, m.identity, m.steps, m.sender]

/-- Lexicographic order. -/
def lexLt : List Nat → List Nat → Bool
  | a :: as, b :: bs => if a = b then lexLt as bs else decide (a < b)
  | _, _ => false

/-- The master last announced on port `k`. -/
def State.masterOn (s : State) (k : Nat) : Option (Announce × Nat) :=
  if s.ptpOn k && s.flag (OD.LINK_UP k) then vget none s.servo.masters k else none

/-- The port with the best master, if any. -/
def State.bestPort (s : State) : Option (Nat × Announce) :=
  match s.masterOn 0, s.masterOn 1 with
  | some (m, _), some (n, _) => if lexLt (masterRank n) (masterRank m) then some (1, n) else some (0, m)
  | some (m, _), none => some (0, m)
  | none, some (n, _) => some (1, n)
  | none, none => none

/-- UTC day and second of TAI ns `t` with offset `utc`. -/
def utcSecond (t : Nat) (utc : Int) : Int := (t / 1000000000 : Nat) - utc

/-- Calendar time from the SLAVE port's Announce (R367): the offset, a valid one kept in the vault, LEAP, and the day a leap flag was first seen. -/
def State.takeCalendar (s : State) (m : Announce) : State :=
  let s := if m.utcValid then { s with power := { s.power with vaultUtc := m.utc, vaultUtcValid := true } } else s
  let utc : Int := if m.utcValid then m.utc else if s.power.vaultUtcValid then s.power.vaultUtc else s.int OD.UTC_OFFSET_DEF
  let s := s.putI OD.UTC_OFFSET utc
  let s := s.putN OD.LEAP ((if m.utcValid then 4 else 0) + (if m.leap59 then 2 else 0) + (if m.leap61 then 1 else 0))
  let ch : Int := if m.leap61 then 1 else if m.leap59 then -1 else 0
  let v := s.servo
  if ch = 0 then s.setServo { v with leap := none }
  else
    match v.leap with
    | some (_, c, _) => if c = ch then s else s.setServo { v with leap := some ((utcSecond s.taiNs utc / 86400).toNat, ch, false) }
    | none => s.setServo { v with leap := some ((utcSecond s.taiNs utc / 86400).toNat, ch, false) }

/-- The port becomes SLAVE with this master; a change of either is recorded (0x0D05). -/
def State.adopt (s : State) (k : Nat) (m : Announce) : State :=
  let changed := decide (s.nat OD.SLAVE_PORT ≠ k) || decide (s.octets OD.GM_IDENTITY ≠ beBytes 8 m.identity)
  let s := ((s.put OD.GM_IDENTITY (.bytes (beBytes 8 m.identity))).putN OD.GM_CLASS m.cls).putN OD.SLAVE_PORT k
  let s := s.setServo { s.servo with gmEpoch := m.epoch }
  let s := (s.takeCalendar m).refreshPtpPorts
  if changed then s.note Ev.PTP_MASTER k else s

/-- The best master clock algorithm runs. -/
def State.elect (s : State) : State :=
  match s.bestPort with
  | some (k, m) => s.adopt k m
  | none => s

/-- The message is one of Table 13.1 for the selected profile. -/
def State.inProfile (s : State) (m : Announce) : Bool :=
  let p := s.nat OD.PTP_PROFILE
  if p = 2 then !m.udp && decide (m.interval = 1)
  else (m.udp == decide (p = 0)) && decide (1 ≤ m.interval) && decide (m.interval ≤ 16)

/-- A master is ignored (R358): recorded; one that was in use on the port is in use no longer. -/
def State.ignoreMaster (s : State) (k : Nat) (m : Announce) : State :=
  let s := s.note Ev.PTP_MASTER k
  match vget none s.servo.masters k with
  | some (old, _) =>
    if old.sender = m.sender then (s.setServo { s.servo with masters := vset s.servo.masters k none }).elect else s
  | none => s

/-- PTP_ANNOUNCE_RECEIVE (R357, R358). -/
def State.announce (s : State) (k : Nat) (m : Announce) : State :=
  if s.ptpOn k && s.flag (OD.LINK_UP k) then
    (if !s.inProfile m then s.bump (OD.RX_DROPPED k)
     else if m.domain ≠ s.nat OD.PTP_DOMAIN ∨ 255 < m.steps ∨ m.cls = 255 ∨ m.ptpTimescale = false then s.ignoreMaster k m
     else (s.setServo { s.servo with masters := vset s.servo.masters k (some (m, s.now)) }).elect)
  else s

/-- PTP_ANNOUNCE_RECEIVE. -/
def execPtpAnnounceReceive (k : Fin 2) (msg : Announce) (s : State) : Host.Outcome State Fault Refusal := .next (s.announce k.val msg)

/-- ANNOUNCE_TIMEOUT (R366): three intervals without Announce on the SLAVE port; another master, or COASTING. -/
def State.announceTimeout (s : State) : State :=
  let k := s.nat OD.SLAVE_PORT
  let due := match vget none s.servo.masters k with
    | some (m, t) => s.past t (sec (3 * m.interval))
    | none => true
  if k < 2 ∧ due = true then
    let s := s.setServo { s.servo with masters := vset s.servo.masters k none }
    match s.bestPort with
    | some (j, m) => s.adopt j m
    | none =>
      let s := ((s.putN OD.SLAVE_PORT 0xFF).putN OD.GM_CLASS 255).refreshPtpPorts
      let s := s.note Ev.PTP_MASTER k
      let st := s.nat OD.SERVO_STATE
      if st = 2 ∨ st = 3 ∨ st = 5 then (s.setServo { s.servo with gmBefore := some (bytesNat (s.octets OD.GM_IDENTITY), s.servo.gmEpoch) }).setServoState 4 else s
  else s
where
  /-- Octets, most significant first, as a number. -/
  bytesNat (b : List Byte) : Nat := b.foldl (fun n x => n * 256 + x.toNat) 0

/-- ANNOUNCE_TIMEOUT. -/
def execAnnounceTimeout (s : State) : Host.Outcome State Fault Refusal := .next s.announceTimeout

/-- ETH_LINK (R354): the link of a port goes up or down. With it a path delay is lost, and its master is heard no more until its announce receipt
timeout; another port with a master takes over without a step (Table 13.5). -/
def State.ethLink (s : State) (k : Nat) (up : Bool) : State :=
  if s.flag (OD.LINK_UP k) = up ∨ (up = true ∧ s.nat (OD.ETH_MODE k) = 0) then s
  else
    let s := (s.putB (OD.LINK_UP k) up).note Ev.ETH_LINK k up
    let v := s.servo
    let s := if up then (if s.nat OD.SLAVE_PORT = k then s else s.setServo { v with masters := vset v.masters k none })
      else (s.setServo { v with pathKnown := vset v.pathKnown k false }).elect
    s.refreshPtpPorts

/-- ETH_LINK. -/
def execEthLink (k : Fin 2) (up : Bool) (s : State) : Host.Outcome State Fault Refusal := .next (s.ethLink k.val up)

/-! ### Time stamps and path delay (R357, R359) -/

/-- A stamp of the module in 0.1 ns at the reference plane, on receive. -/
def State.rxRef (s : State) (k : Nat) (ticks : Int) : Int := ticks * 16 - s.nat (OD.INGRESS_LAT k)
/-- A stamp of the module in 0.1 ns at the reference plane, on transmit. -/
def State.txRef (s : State) (k : Nat) (ticks : Int) : Int := ticks * 16 + s.nat (OD.EGRESS_LAT k)

/-- PTP_DELAY_EXCHANGE: the four stamps of a Delay_Req exchange or, in profile 2, of a Pdelay exchange; the module's in ticks, the far
end's in 0.1 ns. The mean path delay is known from then on. -/
def State.delayExchange (s : State) (k : Nat) (t1 t2 t3 t4 : Int) : State :=
  if s.ptpOn k && s.flag (OD.LINK_UP k) then
    let d := if s.nat OD.PTP_PROFILE = 2 then ((s.rxRef k t4 - s.txRef k t1) - (t3 - t2)) / 2
      else ((s.rxRef k t2 - t1) + (t4 - s.txRef k t3)) / 2
    ((s.putI (OD.MEAN_PATH_DELAY k) d).setServo { s.servo with pathKnown := vset s.servo.pathKnown k true }).refreshPtpPorts
  else s

/-- PTP_DELAY_EXCHANGE. -/
def execPtpDelayExchange (k : Fin 2) (t1 t2 t3 t4 : Int) (s : State) : Host.Outcome State Fault Refusal :=
  .next (s.delayExchange k.val t1 t2 t3 t4)

/-! ### The servos (R361–R365) -/

/-- The offset o in ns: module time minus master time (R361), rounded down. -/
def State.offsetOf (s : State) (k : Nat) (sent received : Int) : Int :=
  (s.rxRef k received - sent - s.int (OD.MEAN_PATH_DELAY k) - s.int (OD.CABLE_ASYM k)) / 10

/-- e0 (R361): |mean| + 2 standard deviations of the last 16 offsets + 10 ns, rounded down. -/
def offsetUnc (offs : List Int) : Nat :=
  let n := offs.length
  let sum := offs.foldl (· + ·) 0
  let sq := offs.foldl (fun a o => a + (o * o).toNat) 0
  if n = 0 then 0 else (sum.natAbs + isqrt (4 * (n * sq - sum.natAbs * sum.natAbs))) / n + 10

/-- A rate correction within ±200,000 ppb (R362). (Log 110, DESIGN CHOICE, unsafe.) -/
def rateOf (x : F32) : Int := iclamp (fnearest x) (-200000) 200000

/-- LOCKED after 16 small offsets in a row, ACQUIRING after 4 large ones (R363 item 3); every measurement in those states counts, one that steps too. -/
def State.judgeLock (s : State) (o : Int) : State :=
  let thr := s.nat OD.LOCK_THRESH
  let v := s.servo
  let st := s.nat OD.SERVO_STATE
  let lock := if o.natAbs < thr then v.lockRun + 1 else 0
  let loose := if 4 * thr < o.natAbs then v.looseRun + 1 else 0
  let s := s.setServo { v with lockRun := lock, looseRun := loose }
  if st = 2 ∧ 16 ≤ lock then s.setServoState 3 else if st = 3 ∧ 4 ≤ loose then s.setServoState 2 else s

/-- The native servo's rate control (R363 item 2); `dt` in ticks. -/
def State.nativeRate (s : State) (o : Int) (dt : Nat) : State :=
  let v := s.servo
  let tau := s.f32 OD.NATIVE_TC
  let x := fofInt o
  let integ := fadd v.integ (fmul x (fq dt 625000000))
  let r := fneg (fadd (fdiv (fmul ftwo x) tau) (fdiv integ (fmul tau tau)))
  s.setServo { v with integ := integ, rate := rateOf (fclamp r (fofInt (-200000)) (fofInt 200000)) }

/-- The SVZ2408-compatible servo's rate for an offset and its integrator (R365). -/
def State.svzRate (s : State) (o : Int) (integ : F32) : Int :=
  let lim := fofInt 200000
  rateOf (fclamp (fneg (fadd (fmul (s.f32 OD.SVZ_KP) (fofInt o)) integ)) (fneg lim) lim)

/-- A step by `ns` (R40, R362): its remainder is handed to the servo as a rate correction, that of its own rate control for the offset left,
with the integrator kept (log 129, DESIGN CHOICE, unsafe). -/
def State.servoStep (s : State) (ns : Int) : State :=
  let s := s.ltcStep ns
  let rest := 4000 * stepPeriods ns - ns
  if s.nat OD.SERVO_MODE = 1 then s.nativeRate rest 0 else s.setServo { s.servo with rate := s.svzRate rest s.servo.integ }

/-- One measurement of the native servo after its first step: SUSPECT (item 4), rate and lock (R363). -/
def State.nativeRun (s : State) (o : Int) (dt : Nat) : State :=
  let v := s.servo
  if s.nat OD.SERVO_STATE = 5 then
    let ok := if o ≤ 1000000 then v.okRun + 1 else 0
    let s := s.setServo { v with okRun := ok }
    if 4 ≤ ok then s.setServoState 2 else s
  else
    let back := if 1000000 < o then v.backRun + 1 else 0
    let s := s.setServo { v with backRun := back }
    if 4 ≤ back then (s.putI OD.STEP_OFFSET o).setServoState 5 else (s.nativeRate o dt).judgeLock o

/-- The native servo (R363): the first step once two successive offsets agree within 10 µs, its control after it. -/
def State.nativeServo (s : State) (o : Int) (before : Option Int) (dt : Nat) : State :=
  if s.servo.stepDone then s.nativeRun o dt
  else
    match before with
    | some p =>
      if (o - p).natAbs ≤ 10000 then (((s.setServo { s.servo with stepDone := true }).servoStep (-o)).refreshQuality).judgeLock o else s.judgeLock o
    | none => s.judgeLock o

/-- The SVZ2408-compatible servo (R365). -/
def State.svzServo (s : State) (o : Int) : State :=
  let v := s.servo
  if v.stepDone = false then (((s.setServo { v with stepDone := true, threshRun := 0 }).servoStep (-o)).refreshQuality).judgeLock o
  else
    let run := if s.nat OD.SVZ_STEP_THRESH * 1000 < o.natAbs then v.threshRun + 1 else 0
    if 4 ≤ run then ((s.setServo { v with threshRun := 0 }).servoStep (-o)).judgeLock o
    else
      let lim := fofInt 200000
      let x := fofInt o
      let integ := fclamp (fadd v.integ (fmul (s.f32 OD.SVZ_KI) x)) (fneg lim) lim
      (s.setServo { v with threshRun := run, integ := integ, rate := s.svzRate o integ }).judgeLock o

/-- The servo hears a Sync of its master: from LISTENING, and from COASTING, it goes to ACQUIRING; after COASTING a grandmaster of
another identity or time epoch clears the integrator (R366). -/
def State.servoHears (s : State) (m : Announce) (measured : Bool) : State :=
  let st := s.nat OD.SERVO_STATE
  if st = 1 then s.setServoState 2
  else if st = 4 ∧ measured = true then
    let v := s.servo
    (s.setServo { v with integ := if v.gmBefore = some (m.identity, m.epoch) then v.integ else fzero, gmBefore := none }).setServoState 2
  else s

/-- A valid measurement is kept: OFFSET, OFFSET_UNC and the last 16 (R361). -/
def State.keepOffset (s : State) (o : Int) : State :=
  let v := s.servo
  let offs := (o :: v.offs).take 16
  let s := s.setServo { v with offs := offs, count := v.count + 1, firstAt := if v.count = 0 then s.now else v.firstAt, lastAt := s.now }
  (s.putI OD.OFFSET (iclamp o (-2147483648) 2147483647)).putN OD.OFFSET_UNC (Nat.min (offsetUnc offs) 0xFFFFFFFF)

/-- The Sync is one of Table 13.1 for the selected profile, by its logarithmic message interval: 2⁻⁴ to 2 s, in profile 2 only 1 s. -/
def State.syncInProfile (s : State) (logInterval : Int) : Bool :=
  if s.nat OD.PTP_PROFILE = 2 then decide (logInterval = 0) else decide (-4 ≤ logInterval) && decide (logInterval ≤ 1)

/-- SERVO_MEASUREMENT: a Sync on the SLAVE port, sent by the master's clock at `sent` (0.1 ns, corrections applied) and stamped by the
module at `received` (ticks). -/
def State.measure (s : State) (k : Nat) (sent received : Int) : State :=
  match s.masterOn k with
  | some (m, _) =>
    if s.nat OD.SLAVE_PORT = k ∧ s.nat OD.SERVO_MODE ≠ 0 ∧ s.nat OD.SERVO_STATE ≠ 0 then
      let known := vget false s.servo.pathKnown k
      let s := s.servoHears m known
      if known then
        let o := s.offsetOf k sent received
        let before := s.servo.offs.head?
        let dt := if s.servo.count = 0 then 0 else s.now - s.servo.lastAt
        let s := s.keepOffset o
        if s.nat OD.SERVO_MODE = 1 then s.nativeServo o before dt else s.svzServo o
      else s
    else s
  | none => s

/-- SERVO_MEASUREMENT; a Sync outside the profile is counted in RX_DROPPED (R358). -/
def execServoMeasurement (k : Fin 2) (logInterval sent received : Int) (s : State) : Host.Outcome State Fault Refusal :=
  .next (if s.syncInProfile logInterval then s.measure k.val sent received
         else if s.ptpOn k.val && s.flag (OD.LINK_UP k.val) then s.ethDrop k.val else s)

/-- FORCE_STEP (R364): steps by the mean of the last 4 measurements, in ACQUIRING, LOCKED and SUSPECT; an announce timeout that has come is
decided first (Table 13.5). -/
def State.forceStep (s : State) : State × Reply :=
  let s := s.announceTimeout
  let st := s.nat OD.SERVO_STATE
  if st = 2 ∨ st = 3 ∨ st = 5 then
    let os := s.servo.offs.take 4
    let mean : Int := if os.isEmpty then 0 else os.foldl (· + ·) 0 / (os.length : Int)
    let s := s.setServo { s.servo with lockRun := 0, looseRun := 0, backRun := 0, okRun := 0, threshRun := 0 }
    let s := s.servoStep (-mean)
    (if st = 5 then s.setServoState 2 else s, Reply.ok)
  else (s, Reply.wrongState)

/-- FORCE_STEP. -/
def execForceStep (session : Nat) (s : State) : Host.Outcome State Fault Refusal :=
  .next (s.command session (s.roleRefusal session) State.forceStep)

/-! ### Calendar time (R367) -/

/-- LEAP_SECOND: at the end of the UTC day in which the flag was first seen, the day's length including the leap second. -/
def State.leapSecond (s : State) : State :=
  match s.servo.leap with
  | some (day, ch, false) =>
    if ((day : Int) + 1) * 86400 + ch ≤ utcSecond s.taiNs (s.int OD.UTC_OFFSET) then
      let s := s.setServo { s.servo with leap := some (day, ch, true) }
      (s.putI OD.UTC_OFFSET (s.int OD.UTC_OFFSET + ch)).note Ev.LEAP_SECOND 0
    else s
  | _ => s

/-- LEAP_SECOND. -/
def execLeapSecond (s : State) : Host.Outcome State Fault Refusal := .next s.leapSecond

/-- VAULT_TIME_COPY: once per second while synchronised. -/
def State.vaultCopy (s : State) : State :=
  if s.nat OD.SERVO_STATE = 3 ∧ s.past s.power.vaultAt (sec 1) = true then
    { s with power := { s.power with vaultTai := s.taiNs, vaultAt := s.now, vaultUtc := s.int OD.UTC_OFFSET
                                     vaultUtcValid := s.power.vaultUtcValid || s.bit OD.LEAP 2 } }
  else s

/-- VAULT_TIME_COPY. -/
def execVaultTimeCopy (s : State) : Host.Outcome State Fault Refusal := .next s.vaultCopy

/-! ### Launch slots (R368, R369) -/

/-- Set it. -/
def State.setLaunch (s : State) (k i t : Nat) : State := { s with launchAt := vset s.launchAt (16 * k + i) t }

/-- How long a slot's launch occupies the port, ns: its frame, the FCS, and 96 ns. -/
def State.launchSpan (s : State) (k i : Nat) : Nat := ((s.octets (OD.LAUNCH_FRAME k i)).length + 4) * 8 + 96

/-- A launch of slot `i` at `t` overlaps that of another armed slot of the port. -/
def State.launchOverlap (s : State) (k i t : Nat) : Bool :=
  (List.range 16).any fun j => decide (j ≠ i) && decide (s.nat (OD.LAUNCH_STATE k j) = 1) &&
    decide (t < s.launchNext k j + s.launchSpan k j) && decide (s.launchNext k j < t + s.launchSpan k i)

/-- The slot's frame is sent now; a periodic slot awaits its next occurrence. -/
def State.launchSend (s : State) (k i : Nat) : State :=
  let p := s.nat (OD.LAUNCH_PERIOD k i)
  let s := ((s.putI (OD.LAUNCH_ACTUAL k i) s.tai80).bumpW (OD.LAUNCH_COUNT k i)).bumpW (OD.TX_FRAMES k)
  let s := s.emit (.launch k i (s.octets (OD.LAUNCH_FRAME k i)))
  let s := { s with launchBusy := vset s.launchBusy k (s.now + ticksOfNs (s.launchSpan k i)) }
  if p = 0 then s.putN (OD.LAUNCH_STATE k i) 2 else s.setLaunch k i (s.launchNext k i + p)

/-- An occurrence is late: LATE_POLICY of the port (R369). -/
def State.launchLate (s : State) (k i : Nat) : State :=
  let s := s.note Ev.LAUNCH_LATE 0
  if s.nat (OD.LATE_POLICY k) = 0 then s.putN (OD.LAUNCH_STATE k i) 3 else s.launchSend k i

/-- The slot waits: a lower slot is due as well, or a launch frame is still on the port (R369: those that collide are sent in slot order). -/
def State.launchBehind (s : State) (k i : Nat) : Bool :=
  ((List.range (Nat.min i 16)).any fun j => decide (s.nat (OD.LAUNCH_STATE k j) = 1) && decide (s.launchNext k j ≤ s.taiNs)) ||
    decide (s.now < vget 0 s.launchBusy k)

/-- LAUNCH: an armed occurrence falls due; on time it leaves within 16 ns of it, in its turn. What the port held back starts after it. -/
def State.launch (s : State) (k i : Nat) : State :=
  let t := s.launchNext k i
  if s.nat (OD.LAUNCH_STATE k i) = 1 ∧ t ≤ s.taiNs then
    (if !s.ethUp k then (s.putN (OD.LAUNCH_STATE k i) 5).ethRelease k
     else if s.launchBehind k i then s
     else if s.taiNs ≤ t + 16 then (s.launchSend k i).ethRelease k
     else (s.launchLate k i).ethRelease k)
  else s

/-- LAUNCH. -/
def execLaunch (k : Fin 2) (slot : Fin 16) (s : State) : Host.Outcome State Fault Refusal := .next (s.launch k.val slot.val)

/-- LAUNCH_ARM (R369). -/
def State.launchArm (s : State) (k i v : Nat) : State × Reply :=
  if v = 0 then (if s.nat (OD.LAUNCH_STATE k i) = 1 then (s.putN (OD.LAUNCH_STATE k i) 0).ethRelease k else s, Reply.ok)
  else if v = 1 then
    let at80 := s.nat (OD.LAUNCH_TIME k i)
    let t := at80 % 2 ^ 64
    if at80 / 2 ^ 64 ≠ s.nat OD.TIME_EPOCH ∨ s.ethUp k = false ∨ s.octets (OD.LAUNCH_FRAME k i) = [] ∨ s.launchOverlap k i t = true then
      (s, Reply.wrongState)
    else
      let s := (s.setLaunch k i t).putN (OD.LAUNCH_STATE k i) 1
      (if t + 16 < s.taiNs ∧ s.launchBehind k i = false then (s.launchLate k i).ethRelease k else s, Reply.ok)
  else (s, Reply.outOfRange)

/-- LAUNCH_ARM. -/
def execLaunchArm (session : Nat) (k : Fin 2) (slot : Fin 16) (value : Nat) (s : State) : Host.Outcome State Fault Refusal :=
  .next (s.command session (s.unlessBusy (8 + k.val) (s.roleRefusal session)) fun s => s.launchArm k.val slot.val value)

/-! ### A commit that changes time (Table 13.5) -/

/-- A commit changes profile, domain or CABLE_ASYM: the servo listens again, its integrator kept. -/
def State.servoReconfigured (s : State) : State :=
  let v := s.servo
  let s := s.setServo { v with masters := Vector.replicate 2 none, pathKnown := Vector.replicate 2 false }
  let s := if s.nat OD.SERVO_STATE = 0 then s else s.setServoState 1
  s.refreshPtpPorts

/-- A commit changes SERVO_MODE: to 0 the servo is off; from 0 it listens; between 1 and 2 nothing changes. -/
def State.servoModeChanged (s : State) : State :=
  if s.nat OD.SERVO_MODE = 0 then s.setServoState 0 else if s.tbValid then s.servoListen else s

end Sys2Proof.Machine
end

