-- ==== Sys2Proof/Machine/Fieldbus.lean ====
section
/-!
DEFINITION. Machine/Fieldbus.lean: chapter 14, the CAN FD ports: configuration, objects, errors, the time-triggered schedule and its
admission, CANopen FD (R374–R391).
-/
namespace Sys2Proof.Machine
open Sys2Proof

/-- Port `k`, 0 C1 and 1 C2. -/
def State.canP (s : State) (k : Nat) : CanPort := vget {} s.can k
/-- Replace it. -/
def State.setCan (s : State) (k : Nat) (c : CanPort) : State := { s with can := vset s.can k c }
/-- Transmit object `t` of port `k`. -/
def State.canTx (s : State) (k t : Nat) : CanTx := vget {} (s.canP k).tx t
/-- Replace it. -/
def State.setTx (s : State) (k t : Nat) (x : CanTx) : State := s.setCan k { s.canP k with tx := vset (s.canP k).tx t x }

/-! ### Bit timing and configuration (R375–R377) -/

/-- A nominal bit, the NTU of R385, in counts of 12.5 ns. -/
def State.ntu (s : State) (k : Nat) : Nat := s.nat (OD.NBRP k) * (1 + s.nat (OD.NTSEG1 k) + s.nat (OD.NTSEG2 k))
/-- A data bit in counts of 12.5 ns. -/
def State.dataBit (s : State) (k : Nat) : Nat := s.nat (OD.DBRP k) * (1 + s.nat (OD.DTSEG1 k) + s.nat (OD.DTSEG2 k))
/-- `n` NTU in timebase ticks, rounded up. -/
def State.ntuTicks (s : State) (k n : Nat) : Nat := cdiv (n * s.ntu k * 125) 16

/-- Trigger words of a port as committed (Table 14.3). -/
def State.trigWords (s : State) (k : Nat) : List Nat := (List.range 128).map fun j => s.nat (OD.TRIGGER k j)
/-- Column words as committed (Table 14.2). -/
def State.colWords (s : State) (k : Nat) : List Nat := (List.range 32).map fun w => s.nat (OD.COLUMN k w)

/-- A trigger is in use. -/
def trigEn (w : Nat) : Bool := w.testBit 31
/-- COLUMN of a trigger. -/
def trigCol (w : Nat) : Nat := w / 2 ^ 26 % 32
/-- OBJECT of a trigger. -/
def trigObj (w : Nat) : Nat := w / 2 ^ 21 % 32
/-- REPEAT of a trigger. -/
def trigRep (w : Nat) : Nat := w / 2 ^ 18 % 8
/-- OFFSET of a trigger. -/
def trigOfs (w : Nat) : Nat := w / 2 ^ 12 % 64
/-- A trigger is due in basic cycle `c` (R386). -/
def trigDue (w c : Nat) : Bool := trigEn w && decide (c % 2 ^ trigRep w = trigOfs w)
/-- START of a column. -/
def colStart (w : Nat) : Nat := w / 2 ^ 48 % 65536
/-- LEN of a column. -/
def colLen (w : Nat) : Nat := w / 2 ^ 32 % 65536
/-- TYPE of a column. -/
def colType (w : Nat) : Nat := w / 2 ^ 28 % 16
/-- TX_ENABLE of a column. -/
def colTx (w : Nat) : Nat := w / 2 ^ 16 % 4096

/-- The first object reserved by R390 that FF_TX_OBJECT (on its port) or a trigger in use names. -/
def State.reservedObject (s : State) (k : Nat) : Option Nat :=
  let ff := if s.nat OD.FF_PORT = k + 1 then [s.nat OD.FF_TX_OBJECT] else []
  (ff ++ ((s.trigWords k).filter trigEn).map trigObj).find? fun o => decide (28 ≤ o)

/-- CAN_CONFIG_STATUS (R377): the lowest code that applies, with its object; 0 for a port that is neither enabled nor of FF_PORT. -/
def State.canStatus (s : State) (k : Nat) : Nat :=
  let ff := decide (s.nat OD.FF_PORT = k + 1)
  let n := s.ntu k
  let d := s.dataBit k
  if s.flag (OD.CAN_EN k) = false ∧ ff = false then 0
  else if n < 80 ∨ 640 < n then 0x100
  else if d < 10 ∨ n < d then 0x200
  else if s.nat (OD.NTSEG2 k) < s.nat (OD.NSJW k) ∨ s.nat (OD.DTSEG2 k) < s.nat (OD.DSJW k) then 0x300
  else if s.nat (OD.TDC_MODE k) = 0 ∧ d * 125 < 4200 then 0x400
  else
    match s.reservedObject k with
    | some o => 0x500 + o
    | none =>
      if s.nat (OD.NODE_ID k) = 0 ∧ s.flag (OD.CANOPEN_EN k) = true then 0x600
      else if ff = true ∧ s.flag (OD.CAN_EN k) = false then 0x700
      else 0

/-- PORT_STATE changes, recorded. -/
def State.setPort (s : State) (k st : Nat) : State :=
  if s.nat (OD.PORT_STATE k) = st then s else (s.putN (OD.PORT_STATE k) st).note Ev.CAN_PORT_STATE k

/-- TT_STATE changes, recorded; SYNC_LOST follows it (R385). -/
def State.setTt (s : State) (k st : Nat) : State :=
  if s.nat (OD.TT_STATE k) = st then s
  else (((s.putN (OD.TT_STATE k) st).putBit (OD.CAN_FLAGS k) 1 (decide (st = 4)))).note Ev.TT_STATE k

/-- The port is on the bus: error active or passive. -/
def State.canOnBus (s : State) (k : Nat) : Bool := decide (s.nat (OD.PORT_STATE k) = 2) || decide (s.nat (OD.PORT_STATE k) = 3)

/-- A CANopen FD message of the port: heartbeat with a state (R390). -/
def State.sendHeartbeat (s : State) (k st : Nat) : State :=
  s.emit (.can k (0x700 + s.nat (OD.NODE_ID k)) false 0 [BitVec.ofNat 8 st])

/-- The port is a CANopen FD device. -/
def State.canOpen (s : State) (k : Nat) : Bool := s.flag (OD.CANOPEN_EN k) && decide (s.nat (OD.NODE_ID k) ≠ 0)

/-- The device boots: boot-up message, then pre-operational (CiA 1301, log 34). -/
def State.nmtBoot (s : State) (k : Nat) : State :=
  let s := (s.sendHeartbeat k 0).putN (OD.NMT_STATE k) 127
  s.setCan k { s.canP k with hbAt := s.now }

/-- FF_DEGRADED while the port of FF_PORT is bus-off, recorded (R382). -/
def State.refreshFfDegraded (s : State) (k : Nat) : State :=
  let b := decide (s.nat OD.FF_PORT = k + 1) && decide (s.nat (OD.PORT_STATE k) = 4)
  if s.bit (OD.CAN_FLAGS k) 2 = b then s else (s.putBit (OD.CAN_FLAGS k) 2 b).note Ev.FF_DEGRADED k b

/-- The port leaves the bus: nothing is under way. -/
def State.canLeaves (s : State) (k : Nat) : State :=
  let c := s.canP k
  (s.setCan k { c with tx := c.tx.map (fun x : CanTx => { x with trig := false }), arb := false, refSeen := false }).setTt k 0

/-- PORT_STATE, TT_STATE and NMT_STATE follow configuration, domain D11 and the CAN clock (R377, R390, R460). -/
def State.refreshPort (s : State) (k : Nat) : State :=
  let on := s.flag (OD.CAN_EN k) && s.domainOn 11 && !s.tb.tcxoFailed
  let old := s.nat (OD.PORT_STATE k)
  if on = false then ((s.setPort k 0).canLeaves k).putN (OD.NMT_STATE k) 0
  else if s.nat (OD.CAN_CONFIG_STATUS k) ≠ 0 then ((s.setPort k 1).canLeaves k).putN (OD.NMT_STATE k) 0
  else
    let s := if old < 2 then
        let s := (s.putN (OD.TEC_REC k) 0).setPort k 2
        if s.canOpen k then s.nmtBoot k else s
      else s
    if s.nat (OD.TT_MODE k) = 0 then s.setTt k 0
    else if s.nat (OD.TT_STATE k) = 0 then (s.setCan k { s.canP k with refAt := s.now, refLtc := s.ltc, refSeen := false }).setTt k 1
    else s

/-- Both ports are evaluated (R377), with CAN_CONFIG recorded where it became non-zero or zero. -/
def State.refreshCan (s : State) : State :=
  (List.range 2).foldl (init := s) fun s k =>
    let v := s.canStatus k
    let was := s.flag (OD.CAN_CONFIG_STATUS k)
    let s := s.putN (OD.CAN_CONFIG_STATUS k) v
    let s := if was = decide (v ≠ 0) then s else s.note Ev.CAN_CONFIG k (decide (v ≠ 0))
    (s.refreshPort k).refreshFfDegraded k

/-! ### Errors (R382–R384) -/

/-- TEC and REC of a port. -/
def State.tec (s : State) (k : Nat) : Nat := s.nat (OD.TEC_REC k) / 256
/-- REC of a port. -/
def State.rec' (s : State) (k : Nat) : Nat := s.nat (OD.TEC_REC k) % 256

/-- The error counters change, and with them the state (R382, ISO 11898-1): passive above 127, bus-off above 255. (Log 34, PRESUMED, unsafe.) -/
def State.setErrors (s : State) (k tec rc : Nat) : State :=
  let s := s.putN (OD.TEC_REC k) (Nat.min tec 255 * 256 + Nat.min rc 255)
  if 255 < tec then
    let s := (s.setPort k 4).bump (OD.BUSOFF_COUNT k)
    let c := s.canP k
    let s := s.setCan k { c with busoffAt := s.now, recoverAsked := false, refSeen := false, tx := c.tx.map (fun x : CanTx => { x with trig := false }) }
    s.refreshFfDegraded k
  else s.setPort k (if 127 < tec ∨ 127 < rc then 3 else 2)

/-- The first acknowledged or received frame ends UNACKED and ALONE (R384). -/
def State.notAlone (s : State) (k : Nat) : State :=
  if s.bit (OD.CAN_FLAGS k) 0 then
    let ts := (List.range 32).filter fun t => s.bit (OD.TX_STATE k t) 3
    let s := ts.foldl (init := s) fun s t => s.putBit (OD.TX_STATE k t) 3 false
    (s.putBit (OD.CAN_FLAGS k) 0 false).note Ev.CAN_ALONE (ts.headD 0) false
  else s

/-! ### Receiving (R378, R379) -/

/-- A frame becomes the primary buffer of object `r`: NEW is set. -/
def State.rxPrimary (s : State) (k r : Nat) (f : CanFrame) : State :=
  let info := f.dlc * 256 + 8 + (if f.esi then 4 else 0) + (if f.brs then 2 else 0) + (if f.fd then 1 else 0)
  ((s.put (OD.RX_DATA k r) (.bytes f.data)).putN (OD.RX_INFO k r) info).putN (OD.RX_STAMP k r) f.stamp

/-- One overrun; the first since the last read is recorded. -/
def State.rxOverrun (s : State) (k r : Nat) : State :=
  let s := s.bump (OD.RX_OVERRUNS k r)
  if (s.canP k).overrun.contains r then s else (s.setCan k { s.canP k with overrun := r :: (s.canP k).overrun }).note Ev.CAN_RX_OVERRUN r

/-- A hold has ended: the shadow becomes the primary. -/
def State.rxPromote (s : State) (k r : Nat) : State :=
  match vget none (s.canP k).shadow r with
  | some f => (s.setCan k { s.canP k with shadow := vset (s.canP k).shadow r none }).rxPrimary k r f
  | none => s

/-- A read of RX_DATA or RX_INFO (R379): RX_DATA clears NEW, and overruns are recorded anew. -/
def State.rxRead (s : State) (k r : Nat) (data : Bool) : State :=
  let s := s.rxPromote k r
  if data then (s.putBit (OD.RX_INFO k r) 3 false).setCan k { s.canP k with overrun := (s.canP k).overrun.filter (· ≠ r) } else s

/-- A frame reaches object `r`; `held`: a reader holds the primary (R379). -/
def State.rxStore (s : State) (k r : Nat) (f : CanFrame) (held : Bool) : State :=
  if held then
    let s := if (vget none (s.canP k).shadow r).isSome then s.rxOverrun k r else s
    s.setCan k { s.canP k with shadow := vset (s.canP k).shadow r (some f) }
  else
    let s := s.rxPromote k r
    let s := if s.bit (OD.RX_INFO k r) 3 then s.rxOverrun k r else s
    s.rxPrimary k r f

/-- Object `r` takes the frame (R378). -/
def State.rxMatches (s : State) (k r : Nat) (f : CanFrame) : Bool :=
  let id := s.nat (OD.RX_ID k r)
  let fl := s.nat (OD.RX_FLAGS k r)
  fl.testBit 0 && (if f.fd then fl.testBit 2 else fl.testBit 1) && (f.ide == id.testBit 31) &&
    decide ((f.id ^^^ id % 2 ^ 29) &&& (s.nat (OD.RX_MASK k r) % 2 ^ 29) = 0)

/-- The frame is for the CANopen FD services, in the receive objects reserved for them (R390). -/
def State.canOpenTakes (s : State) (k : Nat) (f : CanFrame) : Bool :=
  s.canOpen k && !f.ide && (decide (f.id = 0) || decide (f.id = 0x600 + s.nat (OD.NODE_ID k)))

/-- CAN_RX_FRAME (R374, R378, R379): an FD frame is a form error with FD_EN = 0; a remote frame is discarded. -/
def State.canRx (s : State) (k : Nat) (f : CanFrame) (held : Bool) : State :=
  if s.canOnBus k then
    (if f.fd = true ∧ s.flag (OD.FD_EN k) = false then s.setErrors k (s.tec k) (s.rec' k + 1)
     else
      let rc := s.rec' k
      let s := (s.setErrors k (s.tec k) (if 127 < rc then 127 else rc - 1)).notAlone k
      if f.rtr then s
      else
        match (List.range 60).find? fun r => s.rxMatches k r f with
        | some r => s.rxStore k r f held
        | none => if s.canOpenTakes k f then s else s.bump (OD.RX_UNMATCHED k))
  else s

/-- CAN_RX_FRAME. -/
def execCanRxFrame (k : Fin 2) (f : CanFrame) (held : Bool) (s : State) : Host.Outcome State Fault Refusal := .next (s.canRx k.val f held)

/-! ### Transmitting (R380, R383, R384) -/

/-- Object `t` is named by a trigger in use. -/
def State.triggered (s : State) (k t : Nat) : Bool := (s.trigWords k).any fun w => trigEn w && decide (trigObj w = t)

/-- TX_REQ (R380). A triggered object is sent in its columns whatever is requested; requests of a retired object are dropped (R384). (Log 112, DEDUCED, unsafe.) -/
def State.txReq (s : State) (k t v : Nat) : State × Reply :=
  if v ≠ 1 then (s, Reply.outOfRange)
  else if 28 ≤ t then (s, Reply.wrongState)
  else if s.bit (OD.TX_STATE k t) 3 ∨ (s.nat (OD.TT_MODE k) ≠ 0 ∧ s.triggered k t = true) then (s, Reply.ok)
  else (s.putBit (OD.TX_STATE k t) 1 true, Reply.ok)

/-- CAN_TX_REQ. -/
def execCanTxReq (session : Nat) (k : Fin 2) (t : Fin 32) (value : Nat) (s : State) : Host.Outcome State Fault Refusal :=
  .next (s.command session (s.unlessBusy (6 + k.val) (s.roleRefusal session)) fun s => s.txReq k.val t.val value)

/-- ceil(L) of a frame of `n` data bytes (Table 14.4). -/
def State.frameNtu (s : State) (k n fmt : Nat) (ide : Bool) : Nat :=
  let h := if ide then (if fmt = 0 then 67 else 57) else (if fmt = 0 then 47 else 34)
  if fmt = 0 then h + 8 * n + ((if ide then 53 else 33) + 8 * n) / 4
  else
    let x := (if n ≤ 16 then 32 else 37) + 8 * n + (4 + 8 * n) / 4
    h + (if fmt = 2 then cdiv (x * s.dataBit k) (s.ntu k) else x)

/-- ceil(L) of transmit object `t`: the feed-forward object carries 16 bytes (R139). -/
def State.objectNtu (s : State) (k t : Nat) : Nat :=
  let n := if s.nat OD.FF_PORT = k + 1 ∧ s.nat OD.FF_TX_OBJECT = t then 16 else (s.octets (OD.TX_DATA k t)).length
  s.frameNtu k n (s.nat (OD.TX_FORMAT k t)) ((s.nat (OD.TX_ID k t)).testBit 31)

/-- A frame of object `t` that started by tick `by'` may end now. -/
def State.mayEnd (s : State) (k t by' : Nat) : Bool := decide (s.now ≤ by' + s.ntuTicks k (s.objectNtu k t))

/-- Object `t` is on its way: started by its trigger within its window, or queued, not withheld, and free to contend: with a schedule only in
arbitrating columns, and not where a trigger names it (R380, R383, R386). -/
def State.txActive (s : State) (k t : Nat) : Bool :=
  let x := s.canTx k t
  let c := s.canP k
  s.canOnBus k && !s.bit (OD.TX_STATE k t) 2 &&
    ((x.trig && s.mayEnd k t x.trigBy) || (s.bit (OD.TX_STATE k t) 1 && !s.bit (OD.TX_STATE k t) 3 &&
      (decide (s.nat (OD.TT_MODE k) = 0) || (c.arb && s.mayEnd k t c.arbBy && !s.triggered k t))))

/-- An attempt failed: a triggered or single-shot object is not repeated. -/
def State.txFailed (s : State) (k t : Nat) : State :=
  let once := (s.canTx k t).trig || s.flag (OD.TX_SINGLE k t)
  let s := s.setTx k t { s.canTx k t with trig := false }
  if once then s.putBit (OD.TX_STATE k t) 1 false else s

/-- Three bit errors without a success: the object is withheld for ID_BACKOFF (R383). -/
def State.idClash (s : State) (k t : Nat) : State :=
  let s := s.setTx k t { s.canTx k t with bitErrs := 0, backAt := some s.now, trig := false }
  (s.putBit (OD.TX_STATE k t) 2 true).note Ev.CAN_ID_CLASH (s.nat (OD.TX_ID k t) % 65536)

/-- 256 ACK errors in a row: the object is retired, its requests dropped (R384). -/
def State.txRetire (s : State) (k t : Nat) : State :=
  let s := s.setTx k t { s.canTx k t with ackErrs := 0, trig := false }
  let s := (s.putBit (OD.TX_STATE k t) 3 true).putBit (OD.TX_STATE k t) 1 false
  if s.bit (OD.CAN_FLAGS k) 0 then s else (s.putBit (OD.CAN_FLAGS k) 0 true).note Ev.CAN_ALONE t

/-- A transmission was acknowledged. -/
def State.txSent (s : State) (k t stamp : Nat) : State :=
  let id := s.nat (OD.TX_ID k t)
  let s := s.emit (.can k (id % 2 ^ 29) (id.testBit 31) (s.nat (OD.TX_FORMAT k t)) (s.octets (OD.TX_DATA k t)))
  let s := (s.setTx k t { s.canTx k t with trig := false, bitErrs := 0, ackErrs := 0 }).putN (OD.TX_STAMP k t) stamp
  let s := (s.putBit (OD.TX_STATE k t) 1 false).putBit (OD.TX_STATE k t) 0 true
  (s.setErrors k (s.tec k - 1) (s.rec' k)).notAlone k

/-- A bit error after winning arbitration. -/
def State.txBitError (s : State) (k t : Nat) : State :=
  let n := (s.canTx k t).bitErrs + 1
  let s := (s.setTx k t { s.canTx k t with bitErrs := n, ackErrs := 0 }).txFailed k t
  let s := if 3 ≤ n then s.idClash k t else s
  s.setErrors k (s.tec k + 8) (s.rec' k)

/-- CAN_TX_DONE (R376, R380, R382–R384). -/
def State.txDone (s : State) (k t : Nat) (res : CanOutcome) : State :=
  if s.txActive k t then
    match res with
    | .sent stamp loop =>
      let measured := s.nat (OD.TDC_MODE k) = 1 ∧ s.nat (OD.TX_FORMAT k t) ≠ 0
      let s := if measured then s.putN (OD.TDC_MEAS k) (Nat.min loop 255) else s
      if measured ∧ 127 < loop + s.nat (OD.TDCO k) then s.txBitError k t else s.txSent k t (stamp % 2 ^ 32)
    | .lost => s.txFailed k t
    | .bitError => s.txBitError k t
    | .ackError =>
      let n := (s.canTx k t).ackErrs + 1
      let passive := decide (s.nat (OD.PORT_STATE k) = 3)
      let s := (s.setTx k t { s.canTx k t with ackErrs := n }).txFailed k t
      let s := if 256 ≤ n then s.txRetire k t else s
      if passive then s else s.setErrors k (s.tec k + 8) (s.rec' k)
    | .otherError =>
      let s := (s.setTx k t { s.canTx k t with ackErrs := 0 }).txFailed k t
      s.setErrors k (s.tec k + 8) (s.rec' k)
  else s

/-- CAN_TX_DONE. -/
def execCanTxDone (k : Fin 2) (t : Fin 32) (res : CanOutcome) (s : State) : Host.Outcome State Fault Refusal := .next (s.txDone k.val t.val res)

/-- CAN_ID_BACKOFF_END (R383): requests kept are free to go. -/
def State.backoffEnd (s : State) (k t : Nat) : State :=
  match (s.canTx k t).backAt with
  | some a =>
    if s.past a (ms (s.nat (OD.ID_BACKOFF k))) then
      (s.setTx k t { s.canTx k t with backAt := none }).putBit (OD.TX_STATE k t) 2 false
    else s
  | none => s

/-- CAN_ID_BACKOFF_END. -/
def execCanIdBackoffEnd (k : Fin 2) (t : Fin 32) (s : State) : Host.Outcome State Fault Refusal := .next (s.backoffEnd k.val t.val)

/-- CAN_BUSOFF_RECOVER (R382): the standard's 128 occurrences, counted once BUSOFF_DELAY has passed, or once BUS_RECOVER was written. -/
def State.busoffRecover (s : State) (k : Nat) : State :=
  let ok := if s.flag (OD.BUSOFF_AUTO k) then s.past (s.canP k).busoffAt (ms (s.nat (OD.BUSOFF_DELAY k))) else (s.canP k).recoverAsked
  if s.nat (OD.PORT_STATE k) = 4 ∧ ok = true then
    ((s.setCan k { s.canP k with recoverAsked := false }).setErrors k 0 0).refreshFfDegraded k
  else s

/-- CAN_BUSOFF_RECOVER. -/
def execCanBusoffRecover (k : Fin 2) (s : State) : Host.Outcome State Fault Refusal := .next (s.busoffRecover k.val)

/-- BUS_RECOVER (R382). -/
def State.busRecover (s : State) (k : Nat) : State × Reply :=
  if s.nat (OD.PORT_STATE k) = 4 then (s.setCan k { s.canP k with recoverAsked := true }, Reply.ok) else (s, Reply.wrongState)

/-- BUS_RECOVER. -/
def execBusRecover (session : Nat) (k : Fin 2) (s : State) : Host.Outcome State Fault Refusal :=
  .next (s.command session (s.unlessBusy (6 + k.val) (s.roleRefusal session)) fun s => s.busRecover k.val)

/-! ### The time-triggered schedule (R385, R386, R389) -/

/-- The committed schedule. -/
def State.committedSched (s : State) (k : Nat) : Sched :=
  { cols := s.colWords k, trigs := s.trigWords k, len := s.nat (OD.TT_CYCLE_LEN k), cycles := s.nat (OD.TT_CYCLES k), anchor := s.flag (OD.TT_ANCHOR k) }

/-- A reference starts a basic cycle: a committed schedule takes effect with it, its count from 0 (Table 14.7). -/
def State.cycleStart (s : State) (k cycle : Nat) : State :=
  let c := s.canP k
  let new := c.schedDue || decide (c.sched.len = 0)
  let sch := if new then s.committedSched k else c.sched
  let s := s.setCan k { c with sched := sch, schedDue := false, refAt := s.now, refLtc := s.ltc, refSeen := true, arb := false
                               tx := c.tx.map (fun x : CanTx => { x with trig := false }) }
  s.putN (OD.CYCLE_COUNT k) (if c.schedDue then 0 else cycle)

/-- TT_REFERENCE: a reference of another master, of priority `prio`. -/
def State.ttReference (s : State) (k prio cycle : Nat) : State :=
  if s.nat (OD.TT_MODE k) ≠ 0 ∧ s.canOnBus k = true then
    let other := decide ((s.canP k).prio ≠ some prio) && decide (s.nat (OD.TT_STATE k) = 3)
    let s := s.cycleStart k cycle
    let s := (s.setCan k { s.canP k with prio := some prio }).setTt k 3
    if other then s.note Ev.TT_STATE k else s
  else s

/-- TT_REFERENCE. -/
def execTtReference (k : Fin 2) (prio : Fin 8) (cycle : Fin 64) (s : State) : Host.Outcome State Fault Refusal :=
  .next (s.ttReference k.val prio.val cycle.val)

/-- The end of the last column in use, NTU. -/
def lastColumn (cols : List Nat) : Nat := cols.foldl (fun m w => if colType w = 0 then m else Nat.max m (colStart w + colLen w)) 0

/-- The reference is due (R385): at an anchored instant of the LTC, never within the columns of the cycle in progress; or a cycle after its
own last reference; or 128 NTU beyond a cycle without one. -/
def State.refDue (s : State) (k : Nat) : Bool :=
  let c := s.canP k
  let sch := if c.sched.len = 0 then s.committedSched k else c.sched
  let len := s.ntuTicks k sch.len
  if s.nat (OD.TT_STATE k) = 2 then
    (if sch.anchor && s.tbValid && decide (len ≠ 0) then
      decide (s.ltc / len ≠ c.refLtc / len) && s.past c.refAt (s.ntuTicks k (lastColumn sch.cols))
     else s.past c.refAt len)
  else s.past c.refAt (s.ntuTicks k (sch.len + 128))

/-- TT_REF_DUE: a potential master sends its reference; `won`: it wins arbitration. A module of a pair without role 0x3 is a slave. -/
def State.ttRefDue (s : State) (k : Nat) (won : Bool) : State :=
  if s.nat (OD.TT_MODE k) = 1 ∧ s.canOnBus k = true ∧ s.standbyModule = false ∧ s.refDue k = true ∧ won = true then
    let c := s.canP k
    let n := if s.nat (OD.TT_STATE k) = 2 ∧ c.schedDue = false then (s.nat (OD.CYCLE_COUNT k) + 1) % Nat.max c.sched.cycles 1 else 0
    let s := (s.cycleStart k n).setTt k 2
    s.emit (.can k (s.nat (OD.TT_REF_ID k)) false 0 [BitVec.ofNat 8 n])
  else s

/-- TT_REF_DUE. -/
def execTtRefDue (k : Fin 2) (won : Bool) (s : State) : Host.Outcome State Fault Refusal := .next (s.ttRefDue k.val won)

/-- TT_SYNC_LOST: two cycle lengths without a reference. -/
def State.ttSyncLost (s : State) (k : Nat) : State :=
  let c := s.canP k
  let len := if c.sched.len = 0 then s.nat (OD.TT_CYCLE_LEN k) else c.sched.len
  let st := s.nat (OD.TT_STATE k)
  if 1 ≤ st ∧ st ≤ 3 ∧ s.past c.refAt (s.ntuTicks k (2 * len)) = true then
    (s.setCan k { c with arb := false, tx := c.tx.map (fun x : CanTx => { x with trig := false }) }).setTt k 4
  else s

/-- TT_SYNC_LOST. -/
def execTtSyncLost (k : Fin 2) (s : State) : Host.Outcome State Fault Refusal := .next (s.ttSyncLost k.val)

/-- The feed-forward payload of the latest frame that committed at least 1 µs ago (R389). -/
def State.ffLatest (s : State) : Option (List Byte) := (s.frame.ff.find? fun x => s.past x.1 (us 1)).map (·.2)

/-- A triggered object starts, by tick `by'` at the latest; the feed-forward object takes its payload at an exclusive column (R389). One withheld
stays silent. -/
def State.trigStart (s : State) (k t : Nat) (excl : Bool) (by' : Nat) : State :=
  if s.bit (OD.TX_STATE k t) 2 then s
  else
    let ff := excl && decide (s.nat OD.FF_PORT = k + 1) && decide (s.nat OD.FF_TX_OBJECT = t)
    if ff && decide (s.nat OD.DC_MODE ≠ 0) then s
    else
    let s := if ff then (match s.ffLatest with | some b => s.put (OD.TX_DATA k t) (.bytes b) | none => s) else s
    s.setTx k t { s.canTx k t with trig := true, trigBy := by' }

/-- TT_COLUMN_OPEN (R386): what remained of the column before is over; the due triggers of this column start. A merged column extends the
arbitrating one. Past the first TX_ENABLE NTU no triggered object starts. A module of a pair without role 0x3 sends none (R385). -/
def State.columnOpen (s : State) (k w : Nat) : State :=
  let c := s.canP k
  let col := c.sched.cols.getD w 0
  let ty := colType col
  let st := s.nat (OD.TT_STATE k)
  if (st = 2 ∨ st = 3) ∧ c.refSeen = true ∧ ty ≠ 0 ∧ s.past c.refAt (s.ntuTicks k (colStart col)) = true then
    let fin := c.refAt + s.ntuTicks k (colStart col + colLen col)
    let by' := c.refAt + s.ntuTicks k (colStart col + colTx col)
    let s := if ty = 4 then s.setCan k { c with arbBy := fin }
      else s.setCan k { c with arb := decide (ty = 3), arbBy := fin, tx := c.tx.map (fun x : CanTx => { x with trig := false }) }
    let due := (c.sched.trigs.filter fun t => decide (trigCol t = w) && trigDue t (s.nat (OD.CYCLE_COUNT k))).map trigObj
    if s.standbyModule = true ∨ by' < s.now then s
    else if ty = 2 then (match due with | t :: _ => s.trigStart k t true by' | [] => s)
    else if ty = 3 ∨ ty = 4 then due.foldl (init := s) fun s t => s.trigStart k t false by'
    else s
  else s

/-- TT_COLUMN_OPEN. -/
def execTtColumnOpen (k : Fin 2) (w : Fin 32) (s : State) : Host.Outcome State Fault Refusal := .next (s.columnOpen k.val w.val)

/-- CAN_TS_PAIR (R381): counter and LTC latched together, least significant octet first. -/
def State.tsPair (s : State) (k : Nat) (counter : BitVec 32) : State :=
  if s.canOnBus k then s.put (OD.CAN_TS_PAIR k) (.bytes (leBytes 4 counter.toNat ++ leBytes 8 s.ltc)) else s

/-- CAN_TS_PAIR. -/
def execCanTsPair (k : Fin 2) (counter : BitVec 32) (s : State) : Host.Outcome State Fault Refusal := .next (s.tsPair k.val counter)

/-! ### CANopen FD (R390) -/

/-- CANOPEN_NMT: an NMT command to this node or to all (CiA 1301, log 34). -/
def State.nmt (s : State) (k cmd node : Nat) : State :=
  if s.canOnBus k = true ∧ s.canOpen k = true ∧ (node = 0 ∨ node = s.nat (OD.NODE_ID k)) then
    (if cmd = 1 then s.putN (OD.NMT_STATE k) 5
     else if cmd = 2 then s.putN (OD.NMT_STATE k) 4
     else if cmd = 128 then s.putN (OD.NMT_STATE k) 127
     else if cmd = 129 ∨ cmd = 130 then s.nmtBoot k
     else s)
  else s

/-- CANOPEN_NMT. -/
def execCanopenNmt (k : Fin 2) (cmd node : Nat) (s : State) : Host.Outcome State Fault Refusal := .next (s.nmt k.val cmd node)

/-- CANOPEN_HEARTBEAT: one every HB_PERIOD. -/
def State.canHeartbeat (s : State) (k : Nat) : State :=
  let p := s.nat (OD.HB_PERIOD k)
  if s.canOnBus k = true ∧ s.canOpen k = true ∧ p ≠ 0 ∧ s.past (s.canP k).hbAt (ms p) = true then
    (s.setCan k { s.canP k with hbAt := s.now }).sendHeartbeat k (s.nat (OD.NMT_STATE k))
  else s

/-- CANOPEN_HEARTBEAT. -/
def execCanopenHeartbeat (k : Fin 2) (s : State) : Host.Outcome State Fault Refusal := .next (s.canHeartbeat k.val)

/-! ### Admission of the schedule (R387, R388) -/

/-- QTY of R388: check, cycle, column, excess or object. -/
def schedQty (check cycle col x : Nat) : Nat := check * 2 ^ 28 + cycle % 64 * 2 ^ 22 + col % 32 * 2 ^ 17 + Nat.min x 0x1FFFF

/-- Columns in use, with their numbers. -/
def usedCols (cols : List Nat) : List (Nat × Nat) := ((List.range 32).map fun w => (w, cols.getD w 0)).filter fun x => decide (colType x.2 ≠ 0)

/-- Check 1. -/
def State.sched1 (s : State) (k : Nat) : Option Nat :=
  let n := s.nat (OD.TT_CYCLES k)
  if [1, 2, 4, 8, 16, 32, 64].contains n = false then some (schedQty 1 0 0 0)
  else (((s.trigWords k).filter trigEn).find? fun t => decide (n < 2 ^ trigRep t) || decide (2 ^ trigRep t ≤ trigOfs t)).map
    fun t => schedQty 1 0 (trigCol t) (trigObj t)

/-- Check 2. -/
def State.sched2 (s : State) (k : Nat) : Option Nat :=
  let cols := s.colWords k
  let c0 := cols.getD 0 0
  if colType c0 ≠ 1 ∨ colStart c0 ≠ 0 then some (schedQty 2 0 0 0)
  else ((usedCols cols).find? fun x => decide (x.1 ≠ 0) && decide (colType x.2 = 1)).map fun x => schedQty 2 0 x.1 0

/-- Check 3: ascending, without overlap, ending in time. -/
def sched3 (lim : Nat) : List (Nat × Nat) → Option Nat
  | [] => none
  | [(w, c)] => if lim < colStart c + colLen c then some (schedQty 3 0 w (colStart c + colLen c - lim)) else none
  | (_, c) :: (w', c') :: xs =>
    if colStart c' ≤ colStart c ∨ colStart c' < colStart c + colLen c then some (schedQty 3 0 w' (colStart c + colLen c - colStart c'))
    else sched3 lim ((w', c') :: xs)

/-- Check 4: triggers in columns of TYPE 2–4; merged columns behind arbitrating or merged ones. -/
def State.sched4 (s : State) (k : Nat) : Option Nat :=
  let cols := s.colWords k
  let ty (w : Nat) := colType (cols.getD w 0)
  match ((s.trigWords k).filter trigEn).find? fun t => decide (ty (trigCol t) < 2) || decide (4 < ty (trigCol t)) with
  | some t => some (schedQty 4 0 (trigCol t) (trigObj t))
  | none =>
    let used := usedCols cols
    ((used.zip (used.drop 1)).find? fun x => decide (colType x.2.2 = 4) && !(decide (colType x.1.2 = 3) || decide (colType x.1.2 = 4))).map
      fun x => schedQty 4 0 x.2.1 0

/-- Check 5: at most one trigger due in an exclusive column of any cycle; the object of the second one is named. -/
def State.sched5 (s : State) (k : Nat) : Option Nat :=
  let cols := s.colWords k
  let trigs := s.trigWords k
  ((List.range (s.nat (OD.TT_CYCLES k))).filterMap fun c =>
    ((List.range 32).filterMap fun w =>
      if colType (cols.getD w 0) = 2 then
        match trigs.filter fun t => decide (trigCol t = w) && trigDue t c with
        | _ :: t :: _ => some (schedQty 5 c w (trigObj t))
        | _ => none
      else none).head?).head?

/-- The members of the merged run that column `w` begins: itself and the merged columns behind it. -/
def mergedRun (used : List (Nat × Nat)) (w : Nat) : List (Nat × Nat) :=
  match used.dropWhile fun x => decide (x.1 ≠ w) with
  | [] => []
  | x :: xs => x :: xs.takeWhile fun y => decide (colType y.2 = 4)

/-- Check 6: TX_ENABLE + ceil(L) ≤ LEN; a merged run counts as one column. -/
def State.sched6 (s : State) (k : Nat) : Option Nat :=
  let used := usedCols (s.colWords k)
  let trigs := (s.trigWords k).filter trigEn
  (used.filterMap fun x =>
    let ws := mergedRun used x.1
    let fin := ws.foldl (fun m y => Nat.max m (colStart y.2 + colLen y.2)) 0
    let ls := if x.1 = 0 then [s.frameNtu k 1 0 false]
      else (trigs.filter fun t => ws.any fun y => decide (y.1 = trigCol t)).map fun t => s.objectNtu k (trigObj t)
    let need := colTx x.2 + ls.foldl Nat.max 0
    if colType x.2 = 4 ∨ ls.isEmpty = true then none
    else if fin - colStart x.2 < need then some (schedQty 6 0 x.1 (need - (fin - colStart x.2))) else none).head?

/-- Check 7: the feed-forward object has a trigger, and all its triggers lie in exclusive columns. -/
def State.sched7 (s : State) (k : Nat) : Option Nat :=
  let o := s.nat OD.FF_TX_OBJECT
  let cols := s.colWords k
  if s.nat OD.FF_PORT ≠ k + 1 then none
  else if s.nat (OD.TT_MODE k) = 0 then some (schedQty 7 0 0 o)
  else
    match ((s.trigWords k).filter fun t => trigEn t && decide (trigObj t = o)) with
    | [] => some (schedQty 7 0 0 o)
    | ts => (ts.find? fun t => decide (colType (cols.getD (trigCol t) 0) ≠ 2)).map fun t => schedQty 7 0 (trigCol t) o

/-- Check 8: an anchored cycle is a whole number of alignment periods of 4 µs (320 counts). -/
def State.sched8 (s : State) (k : Nat) : Option Nat :=
  let c := s.nat (OD.TT_CYCLE_LEN k) * s.ntu k
  if s.flag (OD.TT_ANCHOR k) = true ∧ s.nat (OD.TT_MODE k) = 1 ∧ c % 320 ≠ 0 then some (schedQty 8 0 0 0) else none

/-- The first check of Table 14.5 that fails on port `k`. -/
def State.schedPort (s : State) (k : Nat) : Option Nat :=
  if s.nat (OD.TT_MODE k) = 0 then s.sched7 k
  else (s.sched1 k).orElse fun _ => (s.sched2 k).orElse fun _ =>
    (sched3 (s.nat (OD.TT_CYCLE_LEN k) - 4) (usedCols (s.colWords k))).orElse fun _ => (s.sched4 k).orElse fun _ =>
    (s.sched5 k).orElse fun _ => (s.sched6 k).orElse fun _ => (s.sched7 k).orElse fun _ => s.sched8 k

/-- Admission check 5, SCHEDULE_MATRIX (0x45): C1, then C2 (R388). -/
def State.checkSchedule (s : State) : Option Reply :=
  match s.schedPort 0 with
  | some q => refusal 0x45 q 0
  | none =>
    match s.schedPort 1 with
    | some q => refusal 0x45 q 1
    | none => none

end Sys2Proof.Machine
end

