-- ==== Sys2Proof/Machine/Recorder.lean ====
section
/-!
DEFINITION. Machine/Recorder.lean: chapter 15, the event recorder: from occurrence to record, reading, clearing and freezing (R394–R407).
-/
namespace Sys2Proof.Machine
open Sys2Proof

/-! ### Records as stored (R394, R395) -/

/-- Codewords a record occupies: ceil((32 + 7 × N_SNAP) / 16) (R394). -/
def recWords (r : Rec) : Nat := (32 + 7 * r.snap.length + 15) / 16

/-- The 256-bit header of Table 15.1. -/
def recHeader (r : Rec) : Nat :=
  r.seq % 2 ^ 32 * 2 ^ 224 + r.seqWrap % 2 ^ 16 * 2 ^ 208 + r.epoch % 2 ^ 16 * 2 ^ 192 + r.tai % 2 ^ 64 * 2 ^ 128 + r.code % 2 ^ 16 * 2 ^ 112 +
  r.snap.length % 32 * 2 ^ 107 + r.severity % 4 * 2 ^ 105 + r.timeQ % 4 * 2 ^ 103 + (if r.set then 2 ^ 102 else 0) +
  (if r.summary then 2 ^ 101 else 0) + r.origin % 4 * 2 ^ 99 + r.detail % 2 ^ 16 * 2 ^ 80 + r.session % 256 * 2 ^ 72 +
  r.frame % 2 ^ 32 * 2 ^ 32 + r.count % 2 ^ 32

/-- A record as sent: header and snapshot slots, least significant octet first (R395, R396). -/
def recBytes (r : Rec) : List Byte :=
  leBytes 32 (recHeader r) ++ (r.snap.map fun x => leBytes 7 (x.1 % 2 ^ 24 * 2 ^ 32 + x.2 % 2 ^ 32)).flatten

/-- Remove the oldest records until the ring's `limit` codewords hold the rest (R394, Table 17.2). -/
def trimRing (limit fuel : Nat) (rs : List Rec) : List Rec :=
  match fuel, rs with
  | n + 1, _ :: t => if (rs.map recWords).foldl (· + ·) 0 ≤ limit then rs else trimRing limit n t
  | _, _ => rs

/-- REC_COUNT, OLDEST_SEQ, NEWEST_SEQ and SEQ_WRAP_NOW follow the ring. -/
def State.refreshRing (s : State) : State :=
  let ring := s.recorder.ring
  let s := s.putN OD.REC_COUNT ring.length
  let s := s.putN OD.OLDEST_SEQ (match ring with | r :: _ => r.seq | [] => 0)
  match ring.getLast? with
  | some r => (s.putN OD.NEWEST_SEQ r.seq).putN OD.SEQ_WRAP_NOW r.seqWrap
  | none => s

/-- A record is stored with the next sequence number (R398). -/
def State.storeRec (s : State) (r : Rec) : State :=
  let q := s.recorder
  let r := { r with seq := q.nextSeq, seqWrap := q.nextWrap }
  let ring := trimRing (520192 - 32 * (vget {} s.power.banks 13).fenced.length) (q.ring.length + 1) (q.ring ++ [r])
  let wrapped := decide (q.nextSeq = 0xFFFFFFFF)
  (s.setRec { q with ring := ring, nextSeq := if wrapped then 0 else q.nextSeq + 1, nextWrap := if wrapped then (q.nextWrap + 1) % 65536 else q.nextWrap }).refreshRing

/-! ### From occurrence to record (R401–R404) -/

/-- REC_OCCURRENCE: an occurrence of a source. -/
def execRecOccurrence (code : Nat) (detail : BitVec 16) (set : Bool) (origin : Fin 4) (s : State) : Host.Outcome State Fault Refusal :=
  .next (s.occur { code := code, detail := detail.toNat, set := set, origin := origin.val })

/-- REFILL of a code in ticks. -/
def State.refill (s : State) (code : Nat) : Nat := ms (s.nat (OD.REC_CFG code) / 256 % 65536)

/-- REC_TOKEN_REFILL (R401, R402): a bucket regains a token; pending occurrences go out as a summary that takes none. (Log 113, DEDUCED, unsafe.) -/
def State.tokenRefill (s : State) (code : Nat) : State :=
  let b := s.bucket code
  if 0 < b.used ∧ s.past b.since (s.refill code) = true then
    let s := s.putBucket code { b with used := b.used - 1, since := b.since + s.refill code, pend := 0 }
    if b.pend = 0 then s
    else s.bypass (s.recordOf { code := code, detail := b.lastDetail, count := b.pend } true)
  else s

/-- REC_TOKEN_REFILL. -/
def execRecTokenRefill (code : Nat) (s : State) : Host.Outcome State Fault Refusal := .next (s.tokenRefill code)

/-- Codes that lost occurrences are reported once the FIFO has room (R403). -/
def State.reportLost (s : State) : State :=
  let lost := s.recorder.lost
  if s.recorder.fifo.length < 128 then
    lost.foldl (init := s.setRec { s.recorder with lost := [] }) fun s x =>
      s.occur { code := Ev.REC_OVERFLOW, detail := x.1, count := x.2 }
  else s

/-- REC_WRITE: the writer stores the reserved AUX_SUPPLY entry, else the head of the FIFO (R398, R404); a recorder
in partial reset keeps its FIFO (Table 19.4). -/
def State.recWrite (s : State) : State :=
  let q := s.recorder
  if s.bit OD.PR_BUSY 2 then s
  else match q.aux, q.fifo with
  | some r, _ => (s.setRec { q with aux := none }).storeRec r
  | none, r :: t => ((s.setRec { q with fifo := t }).storeRec r).reportLost
  | none, [] => s

/-- REC_WRITE. -/
def execRecWrite (s : State) : Host.Outcome State Fault Refusal := .next s.recWrite

/-- A record that waited enters now and is stamped now (R402). -/
def State.restamp (s : State) (r : Rec) : Rec := { r with epoch := s.nat OD.TIME_EPOCH, tai := s.taiNs, timeQ := s.nat OD.TIME_QUALITY }

/-- REC_SUMMARY_RETRY: bypassing records that found the FIFO full try again, in order. -/
def State.summaryRetry (s : State) : State :=
  s.recorder.waiting.foldl (init := s.setRec { s.recorder with waiting := [] }) fun s r => s.bypass (s.restamp r)

/-- REC_SUMMARY_RETRY. -/
def execRecSummaryRetry (s : State) : Host.Outcome State Fault Refusal := .next s.summaryRetry

/-! ### Reading, clearing, freezing (R405–R407) -/

/-- The cursor of a session. -/
def State.cursor (s : State) (session : Nat) : Cursor := vget {} s.recorder.cursors (sessIdx session)
/-- Replace it. -/
def State.setCursor (s : State) (session : Nat) (c : Cursor) : State :=
  s.setRec { s.recorder with cursors := vset s.recorder.cursors (sessIdx session) c }

/-- A record passes the session's cursor, filter and severity floor. -/
def recPasses (c : Cursor) (r : Rec) : Bool :=
  decide (c.wrap * 2 ^ 32 + c.seq ≤ r.seqWrap * 2 ^ 32 + r.seq) &&
    decide (r.code &&& (c.filter % 65536) = c.filter / 65536 % 65536) && decide (c.minSev ≤ r.severity)

/-- As many whole records as fit in `room` bytes. -/
def fitRecords (room : Nat) : List Rec → List Byte
  | [] => []
  | r :: rs => let b := recBytes r; if b.length ≤ room then b ++ fitRecords (room - b.length) rs else []

/-- The answer to a read of REC_DATA (R405). -/
def State.recData (s : State) (session offset : Nat) : Reply :=
  if offset ≠ 0 then { code := 0x15 }
  else
    let data := fitRecords 1024 (s.recorder.ring.filter (recPasses (s.cursor session)))
    { qty := data.length, data := data }

/-- REC_DATA_READ, open to every session. -/
def execRecDataRead (session offset : Nat) (s : State) : Host.Outcome State Fault Refusal :=
  .next (s.bulkCommand session offset (s.unlessBusy 2 none) fun s => (s, s.recData session offset))

/-- REC_CLEAR (R406): the ring is emptied and the tombstone written into it, ahead of what waits in the FIFO. -/
def State.recClear (s : State) (session : Nat) : State × Reply :=
  let q := s.recorder
  if q.frozen then (s, Reply.wrongState)
  else
    let s := (s.eventTriggers Ev.REC_CLEARED).bump OD.CLEAR_COUNT
    let r := s.recordOf { code := Ev.REC_CLEARED, session := session, count := q.ring.length } false
    let r := match q.aux.orElse fun _ => q.fifo.head? with
      | some w => { r with epoch := w.epoch, tai := w.tai }
      | none => r
    ((s.setRec { s.recorder with ring := [] }).storeRec r, Reply.ok)

/-- REC_CLEAR, open to every session. -/
def execRecClear (session : Nat) (s : State) : Host.Outcome State Fault Refusal :=
  .next (s.command session (s.unlessBusy 2 none) fun s => s.recClear session)

/-- REC_FREEZE 1 (R407): REC_FROZEN is the last to enter. -/
def State.recFreeze (s : State) (session : Nat) : State × Reply :=
  if s.recorder.frozen then (s, Reply.ok)
  else
    let s := (s.putN OD.FROZEN_LOST 0).occur { code := Ev.REC_FROZEN, session := session }
    ((s.setRec { s.recorder with frozen := true }).putN OD.REC_FREEZE 1, Reply.ok)

/-- REC_FREEZE. -/
def execRecFreeze (session : Nat) (s : State) : Host.Outcome State Fault Refusal :=
  .next (s.command session (s.unlessBusy 2 (s.roleRefusal session)) fun s => s.recFreeze session)

/-- REC_FREEZE 0 (R407): refused in life cycle RETURN. -/
def State.recUnfreeze (s : State) (session : Nat) : State × Reply :=
  if s.nat OD.LC_STATE = 2 ∨ s.nat OD.LC_STATE = 3 then (s, Reply.wrongState)
  else if s.recorder.frozen = false then (s, Reply.ok)
  else
    let s := (s.setRec { s.recorder with frozen := false }).putN OD.REC_FREEZE 0
    (s.occur { code := Ev.REC_FROZEN, set := false, session := session, count := s.nat OD.FROZEN_LOST }, Reply.ok)

/-- REC_UNFREEZE. -/
def execRecUnfreeze (session : Nat) (s : State) : Host.Outcome State Fault Refusal :=
  .next (s.command session (s.unlessBusy 2 (s.roleRefusal session)) fun s => s.recUnfreeze session)

end Sys2Proof.Machine
end

