-- ==== Sys2Proof/Machine/Capture.lean ====
section
/-!
DEFINITION. Machine/Capture.lean: chapter 15, the capture engine: blocks, triggers, masks, hold-off, windows, packets and the share of the
ports (R408–R420).
-/
namespace Sys2Proof.Machine
open Sys2Proof

/-- Capture stream `q`. -/
def State.strm (s : State) (q : Nat) : Stream := vget {} s.streams q
/-- Replace it. -/
def State.setStrm (s : State) (q : Nat) (x : Stream) : State := { s with streams := vset s.streams q x }

/-- STREAM_STATE changes, recorded (0x1207). -/
def State.setStream (s : State) (q st : Nat) : State :=
  if s.nat (OD.STREAM_STATE q) = st then s else (s.putN (OD.STREAM_STATE q) st).note Ev.STREAM_STATE q

/-- N_SIG of a stream. -/
def State.nSig (s : State) (q : Nat) : Nat := (s.sigList q).length

/-- Blocks its 16 MiB buffer holds (R408). -/
def State.capBlocks (s : State) (q : Nat) : Nat := if s.nSig q = 0 then 0 else 16777216 / (4 * s.nSig q)

/-- PRE and POST in force: their sum is cut to the buffer (R410). -/
def State.preBlocks (s : State) (q : Nat) : Nat := Nat.min (s.nat (OD.PRE q)) (s.capBlocks q)
/-- POST in force. -/
def State.postBlocks (s : State) (q : Nat) : Nat := Nat.min (s.nat (OD.POST q)) (s.capBlocks q - s.preBlocks q)

/-- BACKLOG and DEC_EXP_NOW follow the stream. -/
def State.refreshBacklog (s : State) (q : Nat) : State :=
  let x := s.strm q
  (s.putN (OD.BACKLOG q) ((x.blocks.length - x.sent) * 4 * s.nSig q)).putN (OD.DEC_EXP_NOW q) x.dec

/-! ### Arming, stopping, hold-off (R410, R412) -/

/-- The latest instant of the stream's grid, in LTC ticks (R408): the t0 of a frame, or the output instant of its channel's measurement path. -/
def State.gridInstant (s : State) (q : Nat) : Option Nat :=
  let g := s.nat (OD.STREAM_GRID q)
  if g = 0 then (if s.frame.grid then some (if s.frame.t0 ≤ s.ltc then s.frame.t0 else s.frame.t0Prev) else none)
  else ((vget {} s.chains (g - 0x100)).ring.head?).map fun o => o.instant.toNat

/-- The stream starts with an empty buffer, at the next instant of its grid: armed in modes 1 and 2, streaming in mode 3. -/
def State.streamStart (s : State) (q : Nat) : State :=
  let x := s.strm q
  let s := s.setStrm q { dec := s.nat (OD.DEC_EXP_MIN q), paused := x.paused, lastAt := (s.gridInstant q).getD s.ltc, sendAt := x.sendAt }
  (s.refreshBacklog q).setStream q (if s.nat (OD.STREAM_MODE q) = 3 then (if x.paused then 6 else 5) else 1)

/-- A fenced row lies in the stream's quarter of H.CAPT (Table 17.2). -/
def State.captFenced (s : State) (q : Nat) : Bool := (vget {} s.power.banks 12).fenced.any fun r => decide (r / 32768 = q)

/-- ARM = 1. It needs a mode, signals, the capture engine's domain, and a quarter of H.CAPT without fenced rows. -/
def State.captArm (s : State) (q : Nat) : State × Reply :=
  if s.nat (OD.STREAM_MODE q) = 0 ∨ s.nSig q = 0 ∨ s.domainOn 15 = false ∨ s.captFenced q = true then (s, Reply.wrongState) else (s.streamStart q, Reply.ok)

/-- CAPT_ARM. -/
def execCaptArm (session : Nat) (q : Fin 4) (s : State) : Host.Outcome State Fault Refusal :=
  .next (s.command session (s.unlessBusy 3 (s.roleRefusal session)) fun s => s.captArm q.val)

/-- The stream stops and its buffer is given up. -/
def State.streamStop (s : State) (q : Nat) : State :=
  let s := s.setStrm q { dec := s.nat (OD.DEC_EXP_MIN q), paused := (s.strm q).paused, sendAt := (s.strm q).sendAt }
  (s.refreshBacklog q).setStream q 0

/-- CAPT_STOP: ARM = 0. -/
def execCaptStop (session : Nat) (q : Fin 4) (s : State) : Host.Outcome State Fault Refusal :=
  .next (s.command session (s.unlessBusy 3 (s.roleRefusal session)) fun s => (s.streamStop q.val, Reply.ok))

/-- CAPT_HOLDOFF_END (R412): the time has passed, or enough conditions were ignored. -/
def State.holdoffEnd (s : State) (q : Nat) : State :=
  let x := s.strm q
  match x.hold with
  | some (t, n) =>
    let ended := if s.nat (OD.HOLD_MODE q) = 0 then s.past t (us (s.nat (OD.HOLD_TIME q))) else decide (s.nat (OD.HOLD_EVENTS q) ≤ n)
    if ended then s.setStrm q { x with hold := none } else s
  | none => s

/-- CAPT_HOLDOFF_END. -/
def execCaptHoldoffEnd (q : Fin 4) (s : State) : Host.Outcome State Fault Refusal := .next (s.holdoffEnd q.val)

/-! ### Triggers (R411, R412, R414) -/

/-- The numeric value of a raw value: binary32 as it is, an integer entry converted, signed types by sign (R396). -/
def rawNumber (id raw : Nat) : F32 :=
  if id < 0x100000 then BitVec.ofNat 32 raw
  else
    match OD.findRow (id / 256) (id % 256) with
    | some r =>
      (match r.ty with
       | .f32 => BitVec.ofNat 32 raw
       | .i16 => fofInt (BitVec.ofNat 32 raw).toInt
       | .i32 => fofInt (BitVec.ofNat 32 raw).toInt
       | _ => fofInt raw)
    | none => fofInt raw

/-- The condition of Table 15.5 for types 1–4, between the values before and now. -/
def State.trigCond (s : State) (q : Nat) (before now : List Nat) : Bool :=
  let i := s.nat (OD.TRIG_SIG q)
  let id := (s.sigList q).getD i 0
  let p := rawNumber id (before.getD i 0)
  let x := rawNumber id (now.getD i 0)
  let a := s.f32 (OD.TRIG_A q)
  let b := s.f32 (OD.TRIG_B q)
  let dir := s.nat (OD.TRIG_DIR q)
  let pick (up down : Bool) : Bool := if dir = 0 then up else if dir = 1 then down else up || down
  let inside (v : F32) : Bool := fle a v && fle v b
  let pat (v : List Nat) : Bool := decide (v.getD i 0 &&& s.nat (OD.TRIG_MASK q) = s.nat (OD.TRIG_VALUE q))
  match s.nat (OD.TRIG_TYPE q) with
  | 1 => decide (i < now.length) && pick (flt p a && fle a x) (flt a p && fle x a)
  | 2 => decide (i < now.length) && pick (fle a (fsub x p)) (fle a (fsub p x))
  | 3 => decide (i < now.length) && pick (inside x && !inside p) (inside p && !inside x)
  | 4 => decide (i < now.length) && (pat now && !pat before)
  | _ => false

/-- A trigger at instant `at80` acts: counted, recorded, marked; in modes 1 and 2 POST blocks follow; a mask violation freezes in every mode. (Log 114, DEDUCED, unsafe.) -/
def State.fireTrigger (s : State) (q : Nat) (m : Mark) (at80 : Int) : State :=
  let byMask := decide (m.kind = 3)
  let x := s.strm q
  let st := s.nat (OD.STREAM_STATE q)
  let s := ((s.bump (OD.TRIG_COUNT q)).putI (OD.CAPT_T_TRIG q) at80).note Ev.CAPT_TRIGGER q
  let post := byMask || decide (st = 1)
  let s := s.setStrm q { s.strm q with hold := if byMask then x.hold else some (s.now, 0), marks := x.marks ++ [m]
                                       byMask := x.byMask || byMask, postLeft := if post then some (s.postBlocks q) else x.postLeft }
  if post then s.setStream q 2 else s

/-- A trigger that no longer counts: ignored in hold-off, or while a window is being made or is frozen (R410, R412). -/
def State.missTrigger (s : State) (q : Nat) : State :=
  let x := s.strm q
  let s := s.bump (OD.TRIG_MISSED q)
  s.setStrm q { s.strm q with hold := x.hold.map fun h => (h.1, h.2 + 1) }

/-- A condition of Table 15.5 is met at instant `at80`. -/
def State.meetTrigger (s : State) (q : Nat) (m : Mark) (at80 : Int) : State :=
  let s := s.holdoffEnd q
  let st := s.nat (OD.STREAM_STATE q)
  if (s.strm q).hold.isSome then s.missTrigger q
  else if st = 1 ∨ st = 5 ∨ st = 6 then s.fireTrigger q m at80
  else s.missTrigger q

/-- TRIG_NOW (R411): acts in every type and in hold-off. -/
def State.trigNow (s : State) (q : Nat) : State × Reply :=
  let st := s.nat (OD.STREAM_STATE q)
  let m : Mark := { kind := 1, arg := s.nat (OD.TRIG_TYPE q), pos := (s.strm q).idx }
  if st = 1 ∨ st = 5 ∨ st = 6 then (s.fireTrigger q m s.tai80, Reply.ok)
  else if st = 2 ∨ st = 3 then (s.missTrigger q, Reply.ok)
  else (s, Reply.wrongState)

/-- TRIG_NOW. -/
def execTrigNow (session : Nat) (q : Fin 4) (s : State) : Host.Outcome State Fault Refusal :=
  .next (s.command session (s.unlessBusy 3 (s.roleRefusal session)) fun s => s.trigNow q.val)

/-! ### Masks (R413, R414) -/

/-- Envelope point `p` of a mask entry. (Log 97, DEDUCED, unsafe.) -/
def maskPoint (b : List Byte) (p : Nat) : F32 :=
  (b.getD (4 * p + 3) 0) ++ (b.getD (4 * p + 2) 0) ++ (b.getD (4 * p + 1) 0) ++ (b.getD (4 * p) 0)

/-- The channel whose output mask `m` tests, if the mask applies: its signal is that channel's output, grid-locked, and the stream's grid. -/
def State.maskChannel (s : State) (m : Nat) : Option Nat :=
  let q := s.nat (OD.MASK_STREAM m)
  let id := (s.sigList q).getD (s.nat (OD.MASK_SIG m)) 0
  let n := id - 0x200
  if 0x200 ≤ id ∧ id < 0x220 ∧ s.nat (OD.RS_MODE n) = 2 ∧ s.nat (OD.STREAM_GRID q) = 0x100 + n then some n else none

/-- MASK_STATUS of a mask (R413). -/
def State.maskStatus (s : State) (m : Nat) : Nat :=
  if s.flag (OD.MASK_EN m) = false then 0
  else
    match s.maskChannel m with
    | none => 2
    | some n => if s.bit OD.GRIDSYNC_MASK n then 1 else 3

/-- MASK_STATUS of all masks. -/
def State.refreshMasks (s : State) : State := (List.range 8).foldl (init := s) fun s m => s.putN (OD.MASK_STATUS m) (s.maskStatus m)

/-- A mask is violated: counted, recorded with the point and the sample, and a trigger, unless the stream already freezes for a mask (R414;
log 114, DEDUCED, unsafe). -/
def State.maskViolation (s : State) (q m p id raw : Nat) (at80 : Int) : State :=
  let s := { s with maskRun := vset s.maskRun m 0 }
  let s := (s.bump (OD.MASK_VIOL m)).occur { code := Ev.MASK_VIOLATION, detail := m, extra := [(OD.MASK_UPPER m, p), (id, raw)] }
  if (s.strm q).byMask then s else s.fireTrigger q { kind := 3, arg := m, pos := (s.strm q).idx } at80

/-- Mask `m` tests a sample of stream `q`: at p = floor(256 b / K); without GRIDSYNC the count starts anew. -/
def State.maskTest (s : State) (q : Nat) (vals : List Nat) (m : Nat) (at80 : Int) : State :=
  match s.maskChannel m with
  | some n =>
    if s.flag (OD.MASK_EN m) = true ∧ s.nat (OD.MASK_STREAM m) = q then
      let o := (vget {} s.chains n).ring.headD {}
      let s := s.putN (OD.MASK_STATUS m) (if o.gridsync then 1 else 3)
      let p := 256 * o.bin / Nat.max (s.nat (OD.RS_K n)) 1
      let up := maskPoint (s.octets (OD.MASK_UPPER m)) p
      let lo := maskPoint (s.octets (OD.MASK_LOWER m)) p
      let raw := vals.getD (s.nat (OD.MASK_SIG m)) 0
      let x : F32 := BitVec.ofNat 32 raw
      if o.gridsync = false then { s with maskRun := vset s.maskRun m 0 }
      else if flt up lo then s
      else if flt up x || flt x lo then
        let run := vget 0 s.maskRun m + 1
        if s.nat (OD.MASK_PERSIST m) ≤ run then s.maskViolation q m p (0x200 + n) raw at80
        else { s with maskRun := vset s.maskRun m run }
      else { s with maskRun := vset s.maskRun m 0 }
    else s
  | none => s

/-! ### The grid sample (R408, R409) -/

/-- Shedding step 1 is in force and touches the stream (R409). -/
def State.derivedShed (s : State) (q : Nat) : Bool := s.frame.shed.contains 1 && (s.sigList q).any derivedSignal

/-- The values of a block: a derived one is the quiet NaN while shed. -/
def State.blockValues (s : State) (q : Nat) : List Nat :=
  (s.sigList q).map fun id => if derivedSignal id && s.frame.shed.contains 1 then 0x7FC00000 else s.signal id

/-- A due exponent applies at an index that both decimations share (R417). -/
def State.decApply (s : State) (q : Nat) : State :=
  let x := s.strm q
  match x.decPending with
  | some d =>
    if x.idx % 2 ^ Nat.max d x.dec = 0 then
      let s := s.setStrm q { x with dec := d, decPending := none, marks := x.marks ++ [{ kind := 2, arg := d, pos := x.idx }] }
      s.occur { code := Ev.STREAM_RATE, detail := q, count := d }
    else s
  | none => s

/-- The block of grid instant `g` is kept where its index and the stream's state ask for it; a full buffer gives up its oldest block, which counts where it was
still to be sent (R418). -/
def State.keepBlock (s : State) (q : Nat) (vals : List Nat) (g : Nat) : State :=
  let x := s.strm q
  let st := s.nat (OD.STREAM_STATE q)
  let room := match x.postLeft with | some 0 => false | _ => true
  if x.idx % 2 ^ x.dec = 0 ∧ room = true ∧ (st = 1 ∨ st = 2 ∨ st = 5 ∨ st = 6) then
    let b : CapBlock := { idx := x.idx, at1 := g, tai := nsOf g % 2 ^ 64, epoch := s.nat OD.TIME_EPOCH, dec := x.dec, invalid := s.derivedShed q, vals := vals }
    let all := x.blocks ++ [b]
    let lim := if st = 1 then s.preBlocks q else s.capBlocks q
    let cut := all.length - lim
    let lost := decide (3 ≤ s.nat (OD.STREAM_MODE q))
    let s := if lost then s.count (OD.BLOCKS_DROPPED q) cut else s
    s.setStrm q { s.strm q with blocks := all.drop cut, postLeft := x.postLeft.map (· - 1), gap := if lost then x.gap + cut else x.gap }
  else s

/-- The sample of grid instant `g`: conditions, masks, then the block. -/
def State.sampleAt (s : State) (q g : Nat) : State :=
    let st := s.nat (OD.STREAM_STATE q)
    let at80 : Int := ((s.nat OD.TIME_EPOCH * 2 ^ 64 + nsOf g % 2 ^ 64 : Nat) : Int)
    let vals := s.blockValues q
    let s := s.decApply q
    let x := s.strm q
    let sh := s.derivedShed q
    let s := if sh = x.shedding then s
      else s.setStrm q { x with shedding := sh, marks := x.marks ++ [{ kind := 5, arg := if sh then 1 else 0, pos := x.idx }] }
    let due := x.evTrig.filter fun e => decide (e.2 ≤ g)
    let s := s.setStrm q { s.strm q with evTrig := x.evTrig.filter fun e => decide (g < e.2) }
    let s := due.foldl (init := s) fun s e => s.meetTrigger q { kind := 1, arg := 5, code := e.1, pos := x.idx } at80
    let s := match x.prev with
      | some p => if s.trigCond q p vals then s.meetTrigger q { kind := 1, arg := s.nat (OD.TRIG_TYPE q), pos := x.idx } at80 else s
      | none => s
    let s := if st = 3 then s else (List.range 8).foldl (init := s) fun s m => s.maskTest q vals m at80
    let s := s.keepBlock q vals g
    let y := s.strm q
    (s.setStrm q { y with idx := y.idx + 1, prev := some vals, per := g - y.lastAt, lastAt := g }).refreshBacklog q

/-- CAPT_GRID_SAMPLE: a running stream samples each instant of its grid once. (Log 114, DEDUCED, unsafe.) -/
def State.gridSample (s : State) (q : Nat) : State :=
  match s.gridInstant q with
  | some g => if s.streamHears q && s.domainOn 15 && decide (g ≠ (s.strm q).lastAt) then s.sampleAt q g else s
  | none => s

/-- CAPT_GRID_SAMPLE. -/
def execCaptGridSample (q : Fin 4) (s : State) : Host.Outcome State Fault Refusal := .next (s.gridSample q.val)

/-- CAPT_FREEZE (R410, R414): POST blocks after the trigger the buffer freezes. -/
def State.captFreeze (s : State) (q : Nat) : State :=
  let x := s.strm q
  match x.postLeft with
  | some 0 =>
    let s := s.setStrm q { x with postLeft := none, readEnd := false, sent := 0, last := x.byMask && decide (s.nat (OD.STREAM_MODE q) = 3) }
    s.setStream q (if x.byMask then 4 else 3)
  | _ => s

/-- CAPT_FREEZE. -/
def execCaptFreeze (q : Fin 4) (s : State) : Host.Outcome State Fault Refusal := .next (s.captFreeze q.val)

/-- CAPT_REARM (R410): the window of a repeat stream was read or sent, and hold-off has passed. -/
def State.captRearm (s : State) (q : Nat) : State :=
  let s := s.holdoffEnd q
  let x := s.strm q
  if s.nat (OD.STREAM_MODE q) = 2 ∧ s.nat (OD.STREAM_STATE q) = 3 ∧ x.hold.isNone = true ∧ (x.readEnd = true ∨ x.blocks.length ≤ x.sent) then
    s.streamStart q
  else s

/-- CAPT_REARM. -/
def execCaptRearm (q : Fin 4) (s : State) : Host.Outcome State Fault Refusal := .next (s.captRearm q.val)

/-! ### Reading the window (R410, R344) -/

/-- The frozen window as octets. -/
def State.windowBytes (s : State) (q : Nat) : List Byte :=
  if s.nat (OD.STREAM_STATE q) = 3 ∨ s.nat (OD.STREAM_STATE q) = 4 then
    ((s.strm q).blocks.map fun b => (b.vals.map fun v => leBytes 4 v).flatten).flatten
  else []

/-- A read of CAPT_DATA from `offset`: up to 1,024 bytes; the end of the window is noted. -/
def State.captData (s : State) (q offset : Nat) : State × Reply :=
  let all := s.windowBytes q
  if all.length < offset then (s, { code := 0x15, qty := all.length })
  else
    let data := (all.drop offset).take 1024
    let s := if all.length ≤ offset + data.length ∧ all ≠ [] then s.setStrm q { s.strm q with readEnd := true } else s
    (s, { qty := all.length, data := data })

/-- CAPT_DATA_READ, open to every session. -/
def execCaptDataRead (session : Nat) (q : Fin 4) (offset : Nat) (s : State) : Host.Outcome State Fault Refusal :=
  .next (s.bulkCommand session offset (s.unlessBusy 3 none) fun s => s.captData q.val offset)

/-! ### Streaming (R415–R418) -/

/-- STREAM_RATE (R417): the backlog of an endless stream against its 16 MiB buffer. -/
def State.streamRate (s : State) (q : Nat) : State :=
  let x := s.strm q
  let st := s.nat (OD.STREAM_STATE q)
  let n := x.blocks.length * 4 * s.nSig q
  let free := match x.changedAt with | some t => s.past t (ms 10) | none => true
  let cur := x.decPending.getD x.dec
  if (st = 5 ∨ st = 6) ∧ free = true then
    (if 12582912 < n ∧ cur < 15 then s.setStrm q { x with decPending := some (cur + 1), changedAt := some s.now }
     else if n < 4194304 ∧ s.nat (OD.DEC_EXP_MIN q) < cur then s.setStrm q { x with decPending := some (cur - 1), changedAt := some s.now }
     else s)
  else s

/-- STREAM_RATE. -/
def execStreamRate (q : Fin 4) (s : State) : Host.Outcome State Fault Refusal := .next (s.streamRate q.val)

/-- One mark as 8 octets, least significant first (Table 15.7). -/
def markBytes (first : Nat) (m : Mark) : List Byte :=
  let ofs := if m.kind = 4 then m.pos else ((m.pos : Int) - first).emod (2 ^ 32) |>.toNat
  leBytes 8 (m.kind % 16 * 2 ^ 60 + m.arg % 256 * 2 ^ 48 + m.code % 65536 * 2 ^ 32 + ofs % 2 ^ 32)

/-- Mean grid period over a packet, ticks × 64. -/
def packetPeriod (per : Nat) (bs : List CapBlock) : Nat :=
  match bs.head?, bs.getLast? with
  | some a, some b => if a.idx < b.idx then (b.at1 - a.at1) * 64 / (b.idx - a.idx) else per * 64
  | _, _ => per * 64

/-- The blocks of the next packet: of one exponent, as many as fit behind `marks` marks in 1,440 bytes. -/
def packetBlocks (nSig marks : Nat) (bs : List CapBlock) : List CapBlock :=
  match bs with
  | [] => []
  | b :: _ => (bs.takeWhile fun c => decide (c.dec = b.dec)).take ((1440 - 32 - 8 * marks) / (4 * Nat.max nSig 1))

/-- A datagram leaves (R415): header, marks up to its last block, blocks; the port's rate limit runs on (R416). (Log 111, DEDUCED, unsafe.) -/
def State.sendPacket (s : State) (q : Nat) (final : Bool) : State :=
  let x := s.strm q
  let k := s.nat (OD.STREAM_ETH q) - 1
  let gapMark : List Mark := if x.gap = 0 then [] else [{ kind := 4, pos := x.gap }]
  let todo := x.blocks.drop x.sent
  let guess := packetBlocks (s.nSig q) 8 todo
  let lastIdx := (guess.getLast?.map (·.idx)).getD x.idx
  let marks := (gapMark ++ x.marks.filter fun m => decide (m.pos ≤ lastIdx)).take 8
  let bs := packetBlocks (s.nSig q) marks.length todo
  let first := (bs.head?.map (·.idx)).getD x.idx
  let b0 := bs.headD { idx := first, tai := s.taiNs, epoch := s.nat OD.TIME_EPOCH, dec := x.dec }
  let isLast := final || (x.last && decide (todo.length ≤ bs.length))
  let flags := (if s.nat (OD.DEC_EXP_MIN q) < b0.dec then 1 else 0) + (if x.gap = 0 then 0 else 2) + (if isLast then 4 else 0) +
    (if bs.any (·.invalid) then 8 else 0)
  let h := 2 ^ 248 + q * 2 ^ 244 + b0.dec % 16 * 2 ^ 240 + s.nSig q % 256 * 2 ^ 232 + marks.length * 2 ^ 224 + bs.length % 65536 * 2 ^ 208 +
    b0.epoch % 65536 * 2 ^ 192 + s.nat (OD.PKT_SENT q) * 2 ^ 160 + first % 2 ^ 64 * 2 ^ 96 + b0.tai % 2 ^ 64 * 2 ^ 32 + flags * 2 ^ 24 +
    packetPeriod x.per bs % 2 ^ 24
  let payload := leBytes 32 h ++ (marks.map (markBytes first)).flatten ++ (bs.map fun b => (b.vals.map fun v => leBytes 4 v).flatten).flatten
  let v4 := decide ((s.octets (OD.STREAM_DEST q)).take 12 = List.replicate 10 0 ++ [0xFF, 0xFF])
  let bits := (14 + (if s.nat (OD.VLAN_ID k) = 0 then 0 else 4) + (if v4 then 20 else 40) + 8 + payload.length + 4 + 20) * 8
  let s := if x.gap = 0 then s else s.occur { code := Ev.STREAM_GAP, detail := q, count := x.gap }
  let rest := x.marks.filter fun m => decide (lastIdx < m.pos)
  let left := (x.marks.filter fun m => decide (m.pos ≤ lastIdx)).drop (8 - gapMark.length) ++ rest
  let window := decide (s.nat (OD.STREAM_STATE q) = 3) || decide (s.nat (OD.STREAM_STATE q) = 4)
  let s := s.setStrm q { s.strm q with
    marks := left, gap := 0, last := x.last && !isLast, sendAt := s.now + cdiv (bits * 625) (Nat.max (s.nat (OD.STREAM_MAX q)) 1)
    blocks := if window then x.blocks else x.blocks.drop bs.length, sent := if window then x.sent + bs.length else 0 }
  (((s.bumpW (OD.PKT_SENT q)).bumpW (OD.TX_FRAMES k)).emit (.stream q payload)).refreshBacklog q

/-- STREAM_PACKET_SEND: an endless stream, or a frozen window, has something to send and a place to send it; port up and no launch near (R368),
not paused, within STREAM_MAX. -/
def State.packetSend (s : State) (q : Nat) : State :=
  let x := s.strm q
  let st := s.nat (OD.STREAM_STATE q)
  let e := s.nat (OD.STREAM_ETH q)
  if e ≠ 0 ∧ s.ethUp (e - 1) = true ∧ x.paused = false ∧ (s.octets (OD.STREAM_DEST q)).any (· ≠ 0) = true ∧
      (st = 5 ∨ st = 3 ∨ st = 4 ∨ (st = 2 ∧ s.nat (OD.STREAM_MODE q) = 3)) ∧ x.sent < x.blocks.length ∧ x.sendAt ≤ s.now ∧
      s.launchGuard (e - 1) = false then
    s.sendPacket q false
  else s

/-- STREAM_PACKET_SEND. -/
def execStreamPacketSend (q : Fin 4) (s : State) : Host.Outcome State Fault Refusal := .next (s.packetSend q.val)

/-- A stream is paused or resumed by its destination (R418). -/
def State.pauseStream (s : State) (q src srcPort : Nat) (p : Bool) : State :=
  if s.nat (OD.STREAM_ETH q) ≠ 0 ∧ s.octets (OD.STREAM_DEST q) = beBytes 16 src ++ beBytes 2 srcPort then
    let st := s.nat (OD.STREAM_STATE q)
    let s := s.setStrm q { s.strm q with paused := p }
    if p = true ∧ st = 5 then s.setStream q 6 else if p = false ∧ st = 6 then s.setStream q 5 else s
  else s

/-- STREAM_PAUSE: a datagram with the byte 0x01 from an address and a port. -/
def execStreamPause (q : Fin 4) (src : BitVec 128) (srcPort : BitVec 16) (s : State) : Host.Outcome State Fault Refusal :=
  .next (s.pauseStream q.val src.toNat srcPort.toNat true)

/-- STREAM_RESUME: with the byte 0x02. -/
def execStreamResume (q : Fin 4) (src : BitVec 128) (srcPort : BitVec 16) (s : State) : Host.Outcome State Fault Refusal :=
  .next (s.pauseStream q.val src.toNat srcPort.toNat false)

/-! ### Configuration (R419, R420) -/

/-- A streaming or paused stream that ends sends a final packet with LAST, where its destination can be reached (R415). -/
def State.lastPacket (s : State) (q : Nat) : State :=
  let st := s.nat (OD.STREAM_STATE q)
  let e := s.nat (OD.STREAM_ETH q)
  if (st = 5 ∨ st = 6) ∧ e ≠ 0 ∧ s.ethUp (e - 1) = true ∧ (s.octets (OD.STREAM_DEST q)).any (· ≠ 0) = true then s.sendPacket q true else s

/-- A commit changes the stream's signals or grid: a final packet with LAST, then it starts anew (Table 15.9). -/
def State.streamChanged (s : State) (q : Nat) : State :=
  if s.nat (OD.STREAM_STATE q) = 0 then s
  else
    let s := s.lastPacket q
    if s.nat (OD.STREAM_MODE q) = 0 ∨ s.nSig q = 0 then s.streamStop q else s.streamStart q

/-- The capture engine stops, by a partial reset or with domain D15: streams end with LAST and read off (Tables 17.7, 19.4). -/
def State.captureOff (s : State) : State :=
  (List.range 4).foldl (init := s) fun s q => if s.nat (OD.STREAM_STATE q) = 0 then s else (s.lastPacket q).streamStop q

/-- Admission check 6, STREAM_SHARE (0x46): R419, and the signal lists of R408. -/
def State.checkStreams (s : State) : Option Reply :=
  let qs := List.range 4
  let tooLow := qs.filter fun q => decide (s.nat (OD.STREAM_MAX q) < s.nat (OD.STREAM_GUAR q))
  let onPort (k : Nat) := qs.filter fun q => decide (s.nat (OD.STREAM_ETH q) = k) && decide (s.nat (OD.STREAM_GUAR q) ≠ 0)
  let sum (k : Nat) := (onPort k).foldl (fun n q => n + s.nat (OD.STREAM_GUAR q)) 0
  let total := qs.foldl (fun n q => n + s.nSig q) 0
  let listed := qs.filter fun q => decide (s.nSig q ≠ 0)
  match tooLow.getLast? with
  | some q => refusal 0x46 (s.nat (OD.STREAM_GUAR q)) q
  | none =>
    if 800 < sum 1 then refusal 0x46 (sum 1) ((onPort 1).getLastD 0)
    else if 800 < sum 2 then refusal 0x46 (sum 2) ((onPort 2).getLastD 0)
    else if 64 < total then refusal 0x46 total (listed.getLastD 0)
    else none

end Sys2Proof.Machine
end

