-- ==== Sys2Proof/Machine/Island.lean ====
section
/-!
DEFINITION. Machine/Island.lean: chapter 16, the safety island of SVZ6416-S: inputs, Safe Gate Block, Safe Overvoltage Stop, diagnostics, and
the security of its configuration (R422–R446). On SVZ6416-A none of it exists.
-/
namespace Sys2Proof.Machine
open Sys2Proof

/-! ### Safe Gate Block (R431, R432) -/

/-- The decision for SGB (R432): inhibit line, TRIP_LATCH bit 8 with GATE_OFF, gate delay running. -/
def State.sgbDecide (s : State) : State :=
  let s := (s.bump OD.SGB_COUNT).putI OD.SGB_TIME s.tai80
  let s := (s.islandNote Ev.SGB (s.nat OD.SGB_CAUSE)).ldSgb
  (s.trip 8 false).setSafety { s.safety with gateAt := some s.now }

/-- Causes are set whose condition holds, or has already ended. SGB begins with the first; a further one repeats no step. -/
def State.sgbCause (s : State) (bit : Nat) (ended : Bool) : State :=
  let was := s.nat OD.SGB_CAUSE
  let s := (s.putBit OD.SGB_CAUSE bit true).setSafety { s.safety with ended := withBit s.safety.ended bit ended }
  let s := if was = 0 then s.sgbDecide else s
  s.refreshSafety

/-- The condition of a cause has ended. -/
def State.sgbEnded (s : State) (bit : Nat) : State :=
  if s.bit OD.SGB_CAUSE bit then (s.setSafety { s.safety with ended := withBit s.safety.ended bit true }).refreshSafety else s

/-- The island exists and runs: not on SVZ6416-A, not in its diagnostic fault state. -/
def State.islandRuns (s : State) : Bool := decide (s.variant = .S) && decide (s.nat OD.SAFETY_STATE ≠ 4)

/-- The outputs are de-energised. -/
def State.gateEnOff (s : State) : State := (s.putN OD.OUT_LEVEL 0).setSafety { s.safety with gateAt := none }

/-- SGB_GATE_DELAY_EXPIRED (R432 step 3): GATE_EN_A, GATE_EN_B and SSO off; the reaction measured, µs. (Log 66, DEDUCED, unsafe.) -/
def State.gateDelayExpired (s : State) (reaction : Nat) : State :=
  match s.safety.gateAt with
  | some t => if s.past t (us (s.nat OD.SGB_GATE_DELAY)) then (s.gateEnOff).putN OD.LAST_REACTION reaction else s
  | none => s

/-- SGB_GATE_DELAY_EXPIRED. -/
def execSgbGateDelayExpired (reaction : BitVec 16) (s : State) : Host.Outcome State Fault Refusal := .next (s.gateDelayExpired reaction.toNat)

/-! ### Inputs (R425–R427) -/

/-- SINx_MODE of input `i`. -/
def State.sinMode (s : State) (i : Nat) : Nat := s.nat (if i = 0 then OD.SIN1_MODE else OD.SIN2_MODE)

/-- SIN_DEMAND (R426): a channel has read low for SINx_FILT samples. -/
def State.sinDemand (s : State) (i : Nat) (chB : Bool) : State :=
  if s.islandRuns = true ∧ s.sinMode i ≠ 0 then
    let s := s.putBit OD.SIN_LEVEL (2 * i + (if chB then 1 else 0)) false
    let low := !s.bit OD.SIN_LEVEL (2 * i) && !s.bit OD.SIN_LEVEL (2 * i + 1)
    let x := s.safety
    let s := s.setSafety { x with highSince := vset x.highSince i none, bothLow := vset x.bothLow i (low || vget false x.bothLow i) }
    s.sgbCause (1 + i) false
  else s

/-- SIN_DEMAND. -/
def execSinDemand (i : Fin 2) (chB : Bool) (s : State) : Host.Outcome State Fault Refusal := .next (s.sinDemand i.val chB)

/-- Both channels read high. -/
def State.sinHigh (s : State) (i : Nat) : State :=
  let s := (s.putBit OD.SIN_LEVEL (2 * i) true).putBit OD.SIN_LEVEL (2 * i + 1) true
  s.setSafety { s.safety with highSince := vset s.safety.highSince i (some ((vget none s.safety.highSince i).getD s.now)) }

/-- SIN_CHANNELS_HIGH (Table 16.3): the demand of the input has ended, also of one switched off since. -/
def State.sinChannelsHigh (s : State) (i : Nat) : State :=
  if s.islandRuns = true ∧ (s.sinMode i ≠ 0 ∨ s.bit OD.SGB_CAUSE (1 + i) = true) then (s.sinHigh i).sgbEnded (1 + i) else s

/-- SIN_CHANNELS_HIGH. -/
def execSinChannelsHigh (i : Fin 2) (s : State) : Host.Outcome State Fault Refusal := .next (s.sinChannelsHigh i.val)

/-- An input fault (R427): DETAIL[0] the input, DETAIL[8] a test-pulse fault. Both channels must read low anew before it ends. -/
def State.sinFault (s : State) (i : Nat) (pulse : Bool) : State :=
  let s := s.setSafety { s.safety with bothLow := vset s.safety.bothLow i false }
  (s.islandNote Ev.SIN_DISCREPANCY (i + (if pulse then 256 else 0))).sgbCause (5 + i) false

/-- The input fault of input `i` stands. -/
def State.sinFaulty (s : State) (i : Nat) : Bool := s.bit OD.SGB_CAUSE (5 + i) && !s.safety.ended.testBit (5 + i)

/-- SIN_TEST_PULSE (R426): contact mode; two pulses in a row without the channel reading low are a test-pulse fault, recorded once while the fault
stands. -/
def State.sinPulse (s : State) (i : Nat) (chB fell : Bool) : State :=
  if s.islandRuns = true ∧ s.sinMode i = 1 then
    let c := 2 * i + (if chB then 1 else 0)
    let before := vget false s.safety.pulseFail c
    let s := s.setSafety { s.safety with pulseFail := vset s.safety.pulseFail c (!fell) }
    if before = true ∧ fell = false then
      (if s.sinFaulty i then s.setSafety { s.safety with bothLow := vset s.safety.bothLow i false } else s.sinFault i true)
    else s
  else s

/-- SIN_TEST_PULSE. -/
def execSinTestPulse (i : Fin 2) (chB fell : Bool) (s : State) : Host.Outcome State Fault Refusal := .next (s.sinPulse i.val chB fell)

/-- SIN_DISCREPANCY (R427): the channels have differed for more than 20 ms. -/
def execSinDiscrepancy (i : Fin 2) (s : State) : Host.Outcome State Fault Refusal :=
  .next (if s.islandRuns = true ∧ s.sinMode i.val ≠ 0 then s.sinFault i.val false else s)

/-- SIN_FAULT_END (R427): both channels were low together, then high together for 100 ms. -/
def State.sinFaultEnd (s : State) (i : Nat) : State :=
  let high := match vget none s.safety.highSince i with | some t => s.past t (ms 100) | none => false
  if s.islandRuns = true ∧ vget false s.safety.bothLow i = true ∧ high = true then s.sgbEnded (5 + i) else s

/-- SIN_FAULT_END. -/
def execSinFaultEnd (i : Fin 2) (s : State) : Host.Outcome State Fault Refusal := .next (s.sinFaultEnd i.val)

/-- SGB_AUTO_RELEASE (R433): SGB_RESET_MODE 1, only START, SIN1 or SIN2, all ended, every enabled input high for 100 ms. -/
def State.autoRelease (s : State) : State :=
  let high := (List.range 2).all fun i => decide (s.sinMode i = 0) ||
    (match vget none s.safety.highSince i with | some t => s.past t (ms 100) | none => false)
  if s.nat OD.SGB_RESET_MODE = 1 ∧ s.nat OD.SGB_CAUSE / 8 = 0 ∧ high = true then s.sgbRelease else s

/-- SGB_AUTO_RELEASE. -/
def execSgbAutoRelease (s : State) : Host.Outcome State Fault Refusal := .next s.autoRelease

/-! ### Diagnostics and outputs (R424, R429) -/

/-- The diagnostic fault state: latched, outputs off; DIAG_CODE keeps the first (R424). -/
def State.islandFault (s : State) (cause row detail : Nat) : State :=
  let code := row * 256 + detail
  let s := if s.nat OD.DIAG_CODE = 0 then s.putN OD.DIAG_CODE code else s
  let s := s.islandNote (if cause = 9 then Ev.GATE_EN_FAULT else Ev.SAFETY_DIAG) (if cause = 9 then 0 else code)
  (s.sgbCause cause false).gateEnOff

/-- SAFETY_DIAG: a diagnostic of rows 1–7 of Table 16.2 failed. -/
def execSafetyDiag (row : Nat) (detail : BitVec 8) (s : State) : Host.Outcome State Fault Refusal :=
  .next (if s.variant = .S ∧ 1 ≤ row ∧ row ≤ 7 then s.islandFault 10 row detail.toNat else s)

/-- GATE_EN_FAULT (R429): the readback of an output has differed for 2 ms. -/
def execGateEnFault (output : Fin 3) (s : State) : Host.Outcome State Fault Refusal :=
  .next (if s.variant = .S then s.islandFault 9 8 output.val else s)

/-- OUTPUT_OFF_TEST (R429): an energised output is tested; one that does not fall within 100 µs is a GATE_EN_FAULT. -/
def execOutputOffTest (output : Fin 3) (fell : Bool) (s : State) : Host.Outcome State Fault Refusal :=
  .next (if s.variant = .S ∧ s.bit OD.OUT_LEVEL output.val = true ∧ fell = false then s.islandFault 9 8 output.val else s)

/-! ### Safe Overvoltage Stop (R435, R436) -/

/-- SOS: SOS_FILT samples above SOS_THRESH. -/
def State.sos (s : State) (v : F32) : State :=
  if s.islandRuns then
    let s := s.putF OD.SOS_INPUT v
    if s.flag OD.SOS_EN = true ∧ flt (s.f32 OD.SOS_THRESH) v = true then (s.islandNote Ev.SOS 0).sgbCause 4 false else s
  else s

/-- SOS. -/
def execSos (v : F32) (s : State) : Host.Outcome State Fault Refusal := .next (s.sos v)

/-- The input is outside SOS_WIRE_MIN to +10.5 V. -/
def State.sosWireBad (s : State) (v : F32) : Bool := flt v (s.f32 OD.SOS_WIRE_MIN) || flt 0x41280000#32 v

/-- SOS_WIRE_FAULT: out of range for 10 ms; recorded with DETAIL 1. -/
def State.sosWireFault (s : State) (v : F32) : State :=
  if s.islandRuns then
    let s := s.putF OD.SOS_INPUT v
    if s.flag OD.SOS_EN = true ∧ s.sosWireBad v = true then (s.islandNote Ev.SOS 1).sgbCause 4 false else s
  else s

/-- SOS_WIRE_FAULT. -/
def execSosWireFault (v : F32) (s : State) : Host.Outcome State Fault Refusal := .next (s.sosWireFault v)

/-- SOS_BELOW_HYSTERESIS (Table 16.3): the cause ends below SOS_THRESH − SOS_HYST, with the wire in range. -/
def State.sosBelow (s : State) (v : F32) : State :=
  if s.islandRuns then
    let s := s.putF OD.SOS_INPUT v
    if flt v (fsub (s.f32 OD.SOS_THRESH) (s.f32 OD.SOS_HYST)) = true ∧ s.sosWireBad v = false then s.sgbEnded 4 else s
  else s

/-- SOS_BELOW_HYSTERESIS. -/
def execSosBelowHysteresis (v : F32) (s : State) : Host.Outcome State Fault Refusal := .next (s.sosBelow v)

/-- SOS_TEST_INJECTION: a comparator that does not report the injected offset is a diagnostic failure, row 7. -/
def execSosTestInjection (reported : Bool) (s : State) : Host.Outcome State Fault Refusal :=
  .next (if s.islandRuns = true ∧ s.flag OD.SOS_EN = true ∧ reported = false then s.islandFault 10 7 0 else s)

/-! ### Configuration (R437, R442–R445) -/

/-- The applied values of OD 7010.01–0C at their sizes: 26 octets (R444). -/
def State.safetyBytes (s : State) : List Byte :=
  [(1, 1), (2, 1), (3, 2), (4, 2), (5, 1), (6, 1), (7, 1), (8, 4), (9, 4), (10, 1), (11, 4), (12, 4)].flatMap
    fun (x : Nat × Nat) => leBytes x.2 (s.nat (OD.key 0x7010 x.1))

/-- SCS of the applied values. -/
def State.scs (s : State) : Nat := (crc32 s.safetyBytes).toNat

/-- SCS and the reaction bounds to GATE_EN (Table 16.5) follow the applied values. -/
def State.refreshScs (s : State) : State :=
  let d := s.nat OD.SGB_GATE_DELAY + 43
  let s := s.putN OD.SCS s.scs
  (s.putN OD.REACTION_SIN (Nat.max (s.nat OD.SIN1_FILT) (s.nat OD.SIN2_FILT) + d)).putN OD.REACTION_SOS (s.nat OD.SOS_FILT + d)

/-- A change-log entry is written (R443), with its SAFETY_CHANGE record. -/
def State.safetyLog (s : State) (kind session changed old : Nat) : State :=
  let n := s.nat OD.LOG_NEXT
  let e : SafetyLog := { seq := n, tai := s.taiNs, epoch := s.nat OD.TIME_EPOCH, session := session, kind := kind, changed := changed
                         oldScs := old, newScs := s.nat OD.SCS }
  let log := (s.safety.log ++ [e]).drop (s.safety.log.length + 1 - 512)
  let s := s.setSafety { s.safety with log := log }
  let s := ((s.putN OD.LOG_NEXT ((n + 1) % 2 ^ 32)).putN OD.LOG_COUNT log.length).putN OD.LOG_FIRST ((log.head?.map (·.seq)).getD 0)
  s.occur { code := Ev.SAFETY_CHANGE, session := session, count := s.nat OD.SCS, origin := 3 }

/-- LOG_DATA: 32 octets per entry, each least significant first (R443). -/
def State.logData (s : State) : List Byte :=
  (s.safety.log.map fun e => leBytes 32 (e.seq % 2 ^ 32 * 2 ^ 224 + e.tai % 2 ^ 64 * 2 ^ 160 + e.epoch % 65536 * 2 ^ 144 + e.session % 256 * 2 ^ 136 +
    e.kind % 16 * 2 ^ 132 + e.changed % 2 ^ 64 * 2 ^ 64 + e.oldScs % 2 ^ 32 * 2 ^ 32 + e.newScs % 2 ^ 32)).flatten

/-- The causes NO_PASSWORD and UNVALIDATED where they hold (R444, R445). -/
def State.safetyChecks (s : State) : State :=
  let s := if s.flag OD.PW_SET then s else s.sgbCause 8 false
  if s.nat OD.SCS_ACK = s.nat OD.SCS then s else s.sgbCause 7 false

/-- ISLAND_SELF_TEST_DONE (Table 16.3): the condition of START has ended; what the secure store lacks is a cause at once. -/
def State.selfTestDone (s : State) : State :=
  if s.variant = .S ∧ s.nat OD.SAFETY_STATE = 0 then (((s.refreshScs).safetyChecks).sgbEnded 0).refreshSafety else s

/-- ISLAND_SELF_TEST_DONE. -/
def execIslandSelfTestDone (s : State) : Host.Outcome State Fault Refusal := .next s.selfTestDone

/-- A wipe of H.SEC (R445): defaults installed, password, counts and lockouts erased, causes set, logged as KIND 6. -/
def State.safetyDefaults (s : State) : State :=
  if s.variant = .S then
    let old := s.nat OD.SCS
    let s := (List.range 12).foldl (init := s) fun s n => s.put (OD.key 0x7010 (n + 1)) (odDefault (OD.key 0x7010 (n + 1)))
    let s := ((s.putN OD.SCS_ACK 0).putB OD.PW_SET false).refreshScs
    let s := s.setSafety { s.safety with hash := none, logins := [], verifying := [], staged := [], fails := Vector.replicate 5 0,
                                         lockUntil := Vector.replicate 5 none, lockMin := Vector.replicate 5 0 }
    let s := (s.sgbCause 8 false).sgbCause 7 false
    (s.safetyLog 6 0xFF 0 old).islandNote Ev.SAFETY_DEFAULTS 0
  else s

/-! ### Logins (R440, R441) -/

/-- The characters of valid UTF-8, or none. -/
def utf8Chars : List Byte → Option Nat
  | [] => some 0
  | a :: bs =>
    if a.toNat < 0x80 then (utf8Chars bs).map (· + 1)
    else if 0xC2 ≤ a.toNat ∧ a.toNat < 0xE0 then
      (match bs with | b :: r => if utf8Cont b then (utf8Chars r).map (· + 1) else none | _ => none)
    else if 0xE0 ≤ a.toNat ∧ a.toNat < 0xF0 then
      (match bs with
       | b :: c :: r =>
         if utf8Cont b && utf8Cont c && !(decide (a.toNat = 0xE0) && decide (b.toNat < 0xA0)) && !(decide (a.toNat = 0xED) && decide (0xA0 ≤ b.toNat))
         then (utf8Chars r).map (· + 1) else none
       | _ => none)
    else if 0xF0 ≤ a.toNat ∧ a.toNat < 0xF5 then
      (match bs with
       | b :: c :: d :: r =>
         if utf8Cont b && utf8Cont c && utf8Cont d && !(decide (a.toNat = 0xF0) && decide (b.toNat < 0x90)) &&
             !(decide (a.toNat = 0xF4) && decide (0x90 ≤ b.toNat))
         then (utf8Chars r).map (· + 1) else none
       | _ => none)
    else none
where
  /-- A continuation octet. -/
  utf8Cont (b : Byte) : Bool := decide (0x80 ≤ b.toNat) && decide (b.toNat < 0xC0)

/-- An entry of the island on SVZ6416-A (R447); else an OBSERVER is denied. -/
def State.safetyRefusal (s : State) (session : Nat) : Option Reply :=
  if s.variant = .A then some { code := 0x12 } else s.roleRefusal session

/-- An RWS write (Table 12.6): role, then a safety login; none is accepted until a password is set (R445). -/
def State.rwsRefusal (s : State) (session : Nat) : Option Reply :=
  match s.safetyRefusal session with
  | some r => some r
  | none => if s.loggedIn session && s.flag OD.PW_SET then none else some { code := 0x60 }

/-- An RWS access renews the login. -/
def State.rwsAccess (s : State) (session : Nat) : State :=
  s.setSafety { s.safety with logins := s.safety.logins.map fun x => if x.1 = session then (x.1, s.now) else x }

/-- The login ends, and with it the session's safety staging set (R440, R442). -/
def State.safetyLogoff (s : State) (session : Nat) : State :=
  s.setSafety { s.safety with logins := s.safety.logins.filter (fun x => decide (x.1 ≠ session))
                              staged := s.safety.staged.filter (fun x => decide (x.1 ≠ session)) }

/-- SAFETY_LOGIN (R440, R441): during a lockout refused; otherwise verification begins, and its end answers the transaction. (Log 65, DESIGN CHOICE, unsafe.) -/
def State.safetyLogin (s : State) (session : Nat) (q : Option Request) (pw : List Byte) : State × Option Reply :=
  let left := s.lockoutTicks (sessPort session)
  match (if s.writesBarred then some Reply.wrongState else s.safetyRefusal session) with
  | some r => (s, some r)
  | none =>
    match utf8Chars pw with
    | none => (s, some { code := 0x13 })
    | some n =>
      if n < 12 ∨ 64 < n then (s, some Reply.outOfRange)
      else if left ≠ 0 then (s.islandNote Ev.SAFETY_LOGIN session true session, some { code := 0x62, time := timeField ((left + 624999) / 625000) })
      else (s.setSafety { s.safety with verifying := s.safety.verifying ++ [(session, q, pw)] }, none)

/-- SAFETY_LOGIN. -/
def execSafetyLogin (session : Nat) (password : List Byte) (s : State) : Host.Outcome State Fault Refusal :=
  .next (
    if s.bit OD.PR_BUSY 1 then (s.heard session).answer session 0 Reply.busyReset
    else
      let (t, r) := ((s.heard session).served session 1).safetyLogin session none password
      match r with
      | some r => t.answer session 0 r
      | none => t)

/-- The answer of a transaction, or of a command row without one. -/
def State.answerTo (s : State) (session : Nat) (q : Option Request) (r : Reply) : State :=
  match q with
  | some q => s.finish q r
  | none => s.answer session 0 r

/-- The hash of the password a login gave equals the one held. -/
def State.passwordOk (s : State) (pw : List Byte) : Bool :=
  match s.safety.hash with
  | some (salt, h) => decide (Config.passwordHash salt pw = h)
  | none => false

/-- A failed login: counted on its port; the fifth and each later one locks the port out, twice as long each time, up to 1,440 minutes. -/
def State.loginFailed (s : State) (session : Nat) (q : Option Request) : State :=
  let p := sessPort session
  let n := vget 0 s.safety.fails p + 1
  let s := s.setSafety { s.safety with fails := vset s.safety.fails p n }
  let s := s.islandNote Ev.SAFETY_LOGIN session true session
  let s := if n < 5 then s
    else
      let old := vget 0 s.safety.lockMin p
      let m := if old = 0 then 10 else Nat.min (2 * old) 1440
      (s.setSafety { s.safety with lockMin := vset s.safety.lockMin p m, lockUntil := vset s.safety.lockUntil p (some (s.now + sec (60 * m))) }).safetyLog 5
        session 0 (s.nat OD.SCS)
  s.answerTo session q { code := 0x61, detail := n }

/-- SAFETY_LOGIN_VERIFIED: the session's oldest verification completes. -/
def State.loginVerified (s : State) (session : Nat) : State :=
  match s.safety.verifying.find? fun x => decide (x.1 = session) with
  | some (_, q, pw) =>
    let s := s.setSafety { s.safety with verifying := s.safety.verifying.erase (session, q, pw) }
    if s.passwordOk pw then
      let p := sessPort session
      let x := s.safety
      let s := s.setSafety { x with fails := vset x.fails p 0, lockMin := vset x.lockMin p 0
                                    logins := (session, s.now) :: x.logins.filter (fun y => decide (y.1 ≠ session)) }
      (s.islandNote Ev.SAFETY_LOGIN session true session).answerTo session q Reply.ok
    else s.loginFailed session q
  | none => s

/-- SAFETY_LOGIN_VERIFIED. -/
def execSafetyLoginVerified (session : Nat) (s : State) : Host.Outcome State Fault Refusal := .next (s.loginVerified session)

/-- PORT_LOCKOUT_END (R441). -/
def State.lockoutEnd (s : State) (p : Nat) : State :=
  match vget none s.safety.lockUntil p with
  | some t => if t ≤ s.now then s.setSafety { s.safety with lockUntil := vset s.safety.lockUntil p none } else s
  | none => s

/-- PORT_LOCKOUT_END. -/
def execPortLockoutEnd (port : Fin 5) (s : State) : Host.Outcome State Fault Refusal := .next (s.lockoutEnd port.val)

/-- SAFETY_LOGIN_TIMEOUT (R440): 15 minutes without an RWS access. -/
def State.loginTimeout (s : State) (session : Nat) : State :=
  if s.safety.logins.any (fun x => decide (x.1 = session) && s.past x.2 (sec 900)) then s.safetyLogoff session else s

/-- SAFETY_LOGIN_TIMEOUT. -/
def execSafetyLoginTimeout (session : Nat) (s : State) : Host.Outcome State Fault Refusal := .next (s.loginTimeout session)

/-- SAFETY_LOGOUT (R440). -/
def execSafetyLogout (session : Nat) (s : State) : Host.Outcome State Fault Refusal :=
  .next (s.command session (s.safetyRefusal session) fun s => (s.safetyLogoff session, Reply.ok))

/-- A latched tamper source is still present: H.SEC takes no new secrets (R483). -/
def State.secretsBarred (s : State) : Bool := decide (s.nat OD.TAMPER_LATCH &&& s.security.tamperPresent ≠ 0)

/-- SAFETY_PW_NEW (R440, R445, R483): the first password from M without a login. -/
def State.passwordNew (s : State) (session : Nat) (pw : List Byte) : State × Reply :=
  let free := !s.flag OD.PW_SET && decide (session = 0x40)
  match utf8Chars pw with
  | none => (s, { code := 0x13 })
  | some n =>
    if free = false ∧ (s.loggedIn session && s.flag OD.PW_SET) = false then (s, { code := 0x60 })
    else if n < 12 ∨ 64 < n then (s, { code := 0x63 })
    else if s.secretsBarred then (s, Reply.wrongState)
    else
      let (k, s) := s.draw
      let kind := if s.flag OD.PW_SET then 4 else 3
      let salt := Config.freeNat k
      let s := (s.setSafety { s.safety with hash := some (salt, Config.passwordHash salt pw) }).putB OD.PW_SET true
      ((s.safetyLog kind session 0 (s.nat OD.SCS)).sgbEnded 8, Reply.ok)

/-- SAFETY_PW_NEW. -/
def execSafetyPwNew (session : Nat) (password : List Byte) (s : State) : Host.Outcome State Fault Refusal :=
  .next (s.command session (s.safetyRefusal session) fun s => s.passwordNew session password)

/-! ### RWS entries (R442, R444) -/

/-- The session's safety staging set. -/
def State.safetyStaged (s : State) (session : Nat) : List (Nat × Val) :=
  ((s.safety.staged.find? fun x => decide (x.1 = session)).map (·.2)).getD []

/-- A checked RWS write of OD 7010.`sub` goes into the session's safety staging set. -/
def State.safetyStage (s : State) (session sub : Nat) (v : Val) : State :=
  let set := (sub, v) :: (s.safetyStaged session).filter fun x => decide (x.1 ≠ sub)
  (s.setSafety { s.safety with staged := (session, set) :: s.safety.staged.filter (fun x => decide (x.1 ≠ session)) }).rwsAccess session

/-- The set is emptied. -/
def State.safetyUnstage (s : State) (session : Nat) : State :=
  s.setSafety { s.safety with staged := s.safety.staged.filter (fun x => decide (x.1 ≠ session)) }

/-- SAFETY_APPLY (R442, R483). -/
def State.safetyApply (s : State) (session : Nat) : State × Reply :=
  let s := s.rwsAccess session
  let set := s.safetyStaged session
  if s.secretsBarred ∨ s.nat OD.SGB_CAUSE = 0 ∨ s.nat OD.SAFETY_STATE = 4 then (s, { code := 0x18, detail := 0x7011, qty := 1 })
  else
    let changed := set.filter fun x => decide (s.od (OD.key 0x7010 x.1) ≠ x.2)
    let s := s.safetyUnstage session
    if changed.isEmpty then (s, Reply.ok)
    else
      let old := s.nat OD.SCS
      let s := (changed.foldl (fun s x => s.put (OD.key 0x7010 x.1) x.2) s).refreshScs
      let bits := changed.foldl (fun n x => n + 2 ^ (x.1 - 1)) 0
      ((s.safetyLog 1 session bits old).sgbCause 7 false, Reply.ok)

/-- SAFETY_APPLY. -/
def execSafetyApply (session : Nat) (s : State) : Host.Outcome State Fault Refusal :=
  .next (s.safetyCommand session (s.rwsRefusal session) fun s => s.safetyApply session)

/-- SAFETY_DISCARD (R442). -/
def execSafetyDiscard (session : Nat) (s : State) : Host.Outcome State Fault Refusal :=
  .next (s.command session (s.safetyRefusal session) fun s => (s.safetyUnstage session, Reply.ok))

/-- SCS_ACK (R444). -/
def State.scsAck (s : State) (session v : Nat) : State × Reply :=
  let s := s.rwsAccess session
  if v ≠ s.nat OD.SCS then (s, Reply.outOfRange)
  else (((s.putN OD.SCS_ACK v).sgbEnded 7).safetyLog 2 session 0 (s.nat OD.SCS), Reply.ok)

/-- SCS_ACK. -/
def execScsAck (session : Nat) (value : BitVec 32) (s : State) : Host.Outcome State Fault Refusal :=
  .next (s.safetyCommand session (s.rwsRefusal session) fun s => s.scsAck session value.toNat)

/-- SGB_TEST (Table 16.3): cause TEST, ended at once, logged as KIND 7. -/
def State.sgbTest (s : State) (session : Nat) : State × Reply :=
  (((s.rwsAccess session).sgbCause 3 true).safetyLog 7 session 0 (s.nat OD.SCS), Reply.ok)

/-- SGB_TEST. -/
def execSgbTest (session : Nat) (s : State) : Host.Outcome State Fault Refusal :=
  .next (s.safetyCommand session (s.rwsRefusal session) fun s => s.sgbTest session)

end Sys2Proof.Machine
end

