-- ==== Sys2Proof/Machine/Session.lean ====
section
/-!
DEFINITION. Machine/Session.lean: chapter 12, sessions and ownership as shared operations: closing a session, losing ownership, notices
(R322–R331).
-/
namespace Sys2Proof.Machine
open Sys2Proof

/-- A session is open. -/
def State.isOpen (s : State) (session : Nat) : Bool := decide (s.nat (OD.SESSION_STATE (sessIdx session)) = 1)

/-- A NOTICE to a session, if it is open. -/
def State.notice (s : State) (session code detail : Nat) : State :=
  if s.isOpen session then s.emit (.notice session code detail) else s

/-- The sessions that are open. -/
def State.openSessions (s : State) : List Nat := allSessions.filter s.isOpen

/-- OWNER_SESSION changes: counted, recorded with its kind (Table 15.11), told to every open session (R329); `told` has its own notice. -/
def State.setOwner (s : State) (owner kind who told : Nat) : State :=
  let s := (s.putN OD.OWNER_SESSION owner).bump OD.OWN_CHANGES
  let s := s.occur { code := Ev.OWNERSHIP, detail := kind * 256 + who, session := who }
  s.openSessions.foldl (init := s) fun s x => if x = told then s else s.notice x 0 owner

/-- Ownership is granted to a session (R327, R330): 1 granted, 5 preempted. -/
def State.grant (s : State) (session kind told : Nat) : State :=
  let s := (s.setOwner session kind session told).putI OD.OWNER_SINCE s.tai80
  s.setHosts { s.hosts with leaseAt := s.now, reserve := none }

/-- Ownership is lost (R328): recorded with its kind, the former session told, OWNER_LOSS_ACTION taken. -/
def State.ownerGone (s : State) (kind : Nat) : State :=
  let old := s.nat OD.OWNER_SESSION
  if old = 0xFF then s
  else
    let s := s.setOwner 0xFF kind old old
    let s := s.notice old 0x73 0xFF
    if s.nat OD.OWNER_LOSS_ACTION = 1 then s.lawStopCmd.note Ev.OWNER_LOSS_ACTION 0 else s

/-- A session closes (R325): its staging set, queue and logins go; a commit of it in service continues without an answer; an owner loses
ownership. (Log 49, DEDUCED, unsafe.) -/
def State.closeSession (s : State) (session : Nat) : State :=
  if s.isOpen session then
    let i := sessIdx session
    let s := ((s.putN (OD.SESSION_STATE i) 0).putN (OD.SESSION_ROLE i) 0).put (OD.PEER i) (.bytes [])
    let h := s.hosts
    let s := s.setHosts { h with sessions := vset h.sessions i {}, queue := h.queue.filter (fun q => decide (q.session ≠ session))
                                 commit := h.commit.map fun c => if c.session = session then { c with answer := false } else c }
    let s := (s.safetyLogoff session).setCursor session {}
    let s := s.setSafety { s.safety with verifying := s.safety.verifying.filter fun x => decide (x.1 ≠ session) }
    let x := s.security
    let s := { s with security := { x with
      attest := x.attest.filter (fun a => decide (a.1 ≠ session)), response := x.response.filter (fun a => decide (a.1 ≠ session))
      load := x.load.filter (fun a => decide (a.1 ≠ session))
      lcReq := x.lcReq.filter (fun a => decide (a.1 ≠ session)), vendorOpen := x.vendorOpen && decide (session ≠ 0x40) } }
    let s := if x.load.any fun a => decide (a.1 = session) then s.putN OD.FW_IMAGE_STATE 4 else s
    let s := s.occur { code := Ev.SESSION, detail := sessPort session, set := false, session := session }
    if s.nat OD.OWNER_SESSION = session then s.ownerGone 4 else s
  else s

/-- Every open session of some, in order. -/
def State.closeSessions (s : State) (p : Nat → Bool) : State :=
  allSessions.foldl (init := s) fun s x => if p x then s.closeSession x else s

/-- Sessions close with a NOTICE carrying a result. -/
def State.expel (s : State) (p : Nat → Bool) (code : Nat) : State :=
  allSessions.foldl (init := s) fun s x => if p x then (s.notice x code 0).closeSession x else s

end Sys2Proof.Machine
end

