-- ==== Sys2Proof/Machine/SecOps.lean ====
section
/-!
DEFINITION. Machine/SecOps.lean: the wipe of H.SEC, which banks, tamper and the life cycle share (R474, R475).
-/
namespace Sys2Proof.Machine
open Sys2Proof

/-- Replace the security controller's record. -/
def State.setSecurity (s : State) (x : Security) : State := { s with security := x }

/-- Replace it. -/
def State.setBank (s : State) (b : Nat) (x : Bank) : State := { s with power := { s.power with banks := vset s.power.banks b x } }

/-- What a wipe takes: anchors, revocation list, reservation, every codeword of H.SEC, the island's secrets (R474, R445). -/
def State.secErase (s : State) : State :=
  let s := (List.range 4).foldl (init := s) fun s i => s.put (OD.ANCHOR i) (.bytes [])
  let s := (s.put OD.REVOKED (.bytes [])).putN OD.REVOKED_COUNT 0
  let s := s.setHosts { s.hosts with reserve := none }
  (s.setBank 15 { s.bank 15 with cells := [] }).safetyDefaults

/-- The rows that fail the read-back of a wipe, which the spec leaves to the cells: a free list (log 148). -/
def State.wipeFailed (s : State) : List Nat :=
  ((Config.wipeBadRows s.free).filter fun r => decide (r < 512) && !(s.bank 15).fenced.contains r).eraseDups

/-- Rows of H.SEC are fenced (R453), each recorded. -/
def State.fenceSec (s : State) (rows : List Nat) : State :=
  let s := s.setBank 15 { s.bank 15 with fenced := rows ++ (s.bank 15).fenced }
  rows.foldl (fun s _ => s.note Ev.BANK_UNCORR 15) (s.putN (OD.FENCED_ROWS 15) (s.nat (OD.FENCED_ROWS 15) + rows.length))

/-- A new vault key is generated; none is readable (R474, R475). -/
def State.newVaultKey (s : State) : State :=
  let (k, s) := s.draw
  s.setSecurity { s.security with vaultKey := some (BitVec.ofNat 256 (Config.freeNat k)) }

/-- A wipe (R475), cause 1 tamper, 2 life cycle, 3 bank failure, 4 vault key lost: the vault key is zeroised at once; with D1 on every codeword is
overwritten and read back, a row that fails is fenced and counted in the record, and a new key is drawn. Without D1 the rest follows at the next
power-up. -/
def State.secWipe (s : State) (cause : Nat) : State :=
  if s.domainOn 1 then
    let s := (s.bump OD.WIPE_COUNT).putN OD.LAST_WIPE_CAUSE cause
    let bad := s.wipeFailed
    let s := ((s.drawn 1).secErase).fenceSec bad
    let s := (s.setSecurity { s.security with wipeDue := none }).newVaultKey
    s.occur { code := Ev.SEC_WIPE, detail := cause, count := Nat.max bad.length 1 }
  else s.setSecurity { s.security with wipeDue := some (s.security.wipeDue.getD cause), vaultKey := none }

/-- A tamper source is detected with its bit in TAMPER_EN set (R482): latched, logged with TAI and epoch (the last 16), recorded now or at the next
power-up, and a wipe begins; lost supply of D0 takes the vault key with it (cause 4). -/
def State.tamperDetect (s : State) (i : Nat) : State :=
  let s := s.putBit OD.TAMPER_LATCH i true
  let x := s.security
  let ns := if s.domainOn 1 then s.taiNs else s.vaultNs
  let l := x.tamperLog ++ [(ns / 1000000000, s.nat OD.TIME_EPOCH, i)]
  let on := s.domainOn 1
  let s := s.setSecurity { x with tamperLog := l.drop (l.length - 16), tamperDue := if on then x.tamperDue else x.tamperDue ++ [i] }
  (if on then s.note Ev.TAMPER i else s).secWipe (if i = 4 then 4 else 1)

/-- Sources that are present when their bit in TAMPER_EN becomes 1 are detected then (R482). -/
def State.tamperEnabled (o s : State) : State :=
  (List.range 5).foldl (init := s) fun s i =>
    if s.bit OD.TAMPER_EN i && !o.bit OD.TAMPER_EN i && s.security.tamperPresent.testBit i then s.tamperDetect i else s

end Sys2Proof.Machine
end

