-- ==== Sys2Proof/Machine/Memory.lean ====
section
/-!
DEFINITION. Machine/Memory.lean: the memory banks of chapter 17 and BANK_READ of chapter 01: decoding, error counts, remapping and fencing,
the march engines (R21, R449–R459).
-/
namespace Sys2Proof.Machine
open Sys2Proof

/-- The lane a bank belongs to (Table 17.1); hub banks have none. -/
def bankLane (b : Nat) : Option Lane := if b < 6 then some .a else if b < 12 then some .b else none

/-- Rows of a bank, spares excluded. (Log 15, DEDUCED, safe.) -/
def State.bankRows (s : State) (b : Nat) : Nat := s.nat (OD.BANK_ROWS b)

/-- Where a row lies: itself, or behind the listed rows its spare (R452). -/
def State.physRow (s : State) (b row : Nat) : Nat :=
  match (s.bank b).remap.find? fun x => decide (x.1 = row) with
  | some (_, k) => s.bankRows b + k
  | none => row

/-- A codeword as stored. (Log 9, DESIGN CHOICE, unsafe.) -/
def State.cell (s : State) (b row col : Nat) : BitVec 144 := sparseGet (fun _ => 0) (s.bank b).cells (s.physRow b row * 32 + col)

/-- Store a codeword. -/
def State.setCell (s : State) (b row col : Nat) (w : BitVec 144) : State :=
  s.setBank b { s.bank b with cells := sparseSet (fun _ => 0) (s.bank b).cells (s.physRow b row * 32 + col) w }

/-- A bank's state changes, recorded (R450). -/
def State.setBankState (s : State) (b st : Nat) : State :=
  if s.nat (OD.BANK_STATE b) = st then s else (s.putN (OD.BANK_STATE b) st).note Ev.BANK_STATE b

/-! ### Error counts (R451) -/

/-- BANK_CORR_HIGH: the hourly count against CORR_WARN, recorded at each change; Table 11.3 keeps its own figure of 100. (Log 19, DESIGN CHOICE, unsafe.) -/
def State.corrWatch (s : State) (b : Nat) : State :=
  let n := s.corrHour b
  let x := s.bank b
  let high := decide (s.nat OD.CORR_WARN < n)
  let s := s.putN (OD.CORR_HOUR b) (Nat.min n 65535)
  let s := s.setBank b { x with corrHigh := high, hourHits := x.hourHits.filter (fun t => decide (s.now < t + sec 3600))
                                corr100At := if 100 < n then some s.now else x.corr100At }
  if high = x.corrHigh then s else s.note Ev.BANK_CORR_HIGH b high

/-! ### Effects of a codeword that is lost, and of a fenced row (Table 17.2) -/

/-- The copy of the configuration that a row of H.DICT holds: copy 0 in its lower half (log 36, DESIGN CHOICE, unsafe). -/
def State.dictCopyBad (s : State) (row : Nat) : State :=
  let i := if row < 2048 then 0 else 1
  { s with power := { s.power with copies := vset s.power.copies i { vget {} s.power.copies i with good := false } } }

/-- H.CAPT: the samples that lie in the codeword read 0x7FC0_0000 and their block is invalid; a buffer lies in its quarter oldest block first
(log 36). -/
def State.captBad (s : State) (row col : Nat) : State :=
  let q := row / 32768
  let n := s.nSig q
  let x := s.strm q
  let first := (row % 32768 * 32 + col) * 4
  let bad (j : Nat) : Bool := decide (first ≤ j) && decide (j < first + 4)
  let fix (i : Nat) (b : CapBlock) : CapBlock :=
    if (List.range n).any fun j => bad (i * n + j) then
      { b with invalid := true, vals := b.vals.mapIdx fun j v => if bad (i * n + j) then 0x7FC00000 else v }
    else b
  s.setStrm q { x with blocks := x.blocks.mapIdx fix }

/-- One record with a damaged codeword `k`: none when a header codeword is hit, else cut at the last intact snapshot value. -/
def cutRecord (r : Rec) (k : Nat) : Option Rec := if k < 2 then none else some { r with snap := r.snap.take ((16 * k - 32) / 7) }

/-- The ring with codeword `k` damaged, counted from its oldest record. -/
def cutRing : List Rec → Nat → List Rec
  | [], _ => []
  | r :: rs, k => if k < recWords r then (cutRecord r k).toList ++ rs else r :: cutRing rs (k - recWords r)

/-- H.REC: the metadata area of 4,096 codewords is held twice; the ring follows, oldest record first (log 36). -/
def State.recBad (s : State) (row col : Nat) : State :=
  let k := row * 32 + col
  if k < 4096 then s else (s.setRec { s.recorder with ring := cutRing s.recorder.ring (k - 4096) }).refreshRing

/-- The codeword of the other lane's mirror, which lies at the same address of its state bank (R286). -/
def State.mirrorWord (s : State) (b row col : Nat) : BitVec 144 := s.cell (if b = 5 then 11 else 5) row col

/-- A poisoned mirror-region codeword of a state bank is fetched again from the other lane's mirror (Tables 1.6, 17.2); where that copy is lost
too, the load traps and the frame is invalid. -/
def State.refetch (s : State) (l : Lane) (b row col : Nat) : State :=
  let w := s.mirrorWord b row col
  if (bushelDecode w).good then
    let s := (s.lanePoison l).setCell b row col (bushelDeliver w)
    s.setBank b { s.bank b with delivered := bushelDeliver w }
  else (s.houseTrap l).setLaneRec l { (s.houseTrap l).lane l with frameBad := true }

/-- H.LINK: each serial lane has 4,096 codewords, the parcels of its next burst and then those it has received (log 36). A lost downlink codeword is
sent poisoned; a lost stored parcel counts as discarded (Table 17.2). -/
def State.linkBad (s : State) (row col : Nat) : State :=
  let k := row * 32 + col
  let l := k / 4096
  let j := k % 4096
  if 18 ≤ l then s
  else
    let x := vget {} s.link.lanes l
    let put (s : State) (x : SerLane) : State := { s with link := { s.link with lanes := vset s.link.lanes l x } }
    if j < 2048 then put s { x with lostTx := j :: x.lostTx }
    else if j - 2048 < x.rx.buf.length then
      ((put s { x with rx := { x.rx with buf := x.rx.buf.eraseIdx (j - 2048) }, uncorrAt := s.frame.n :: x.uncorrAt }).bump (OD.PAR_UNCORR l)).note
        Ev.PARCEL_UNCORR l
    else s

/-- A lost codeword was read, by bank (Table 17.2). A state-bank codeword comes from the other lane's mirror where one exists. -/
def State.lostWord (s : State) (b row col : Nat) (mirrored : Bool) : State :=
  match bankLane b with
  | some l =>
    if b % 6 < 4 then s.tilePoison l
    else if b % 6 = 4 then s.houseTrap l
    else if mirrored then s.refetch l b row col
    else (s.houseTrap l).setLaneRec l { (s.houseTrap l).lane l with frameBad := true }
  | none =>
    match b with
    | 12 => s.captBad row col
    | 13 => s.recBad row col
    | 14 => s.dictCopyBad row
    | 15 => s.secWipe 3
    | 16 => s.linkBad row col
    | _ => s

/-- A fenced lane fails its self-diagnostics and is demoted, then OUT until the next power-up (R291). (Log 21, DEDUCED, unsafe.) -/
def State.fenceLane (s : State) (l : Lane) : State :=
  let s := (s.setLaneRec l { s.lane l with fenced := true }).diagFailed l
  let st := s.laneSt l
  if st = 0 ∨ st = 7 then s else (s.demote l 7).setLane l 7 7

/-- A row is fenced (R453), by a march step or by a read. -/
def State.fenceRow (s : State) (b row : Nat) (byMarch : Bool) : State :=
  let x := s.bank b
  let s := s.setBank b { x with fenced := row :: x.fenced, remap := x.remap.filter (fun y => decide (y.1 ≠ row)) }
  let s := s.putN (OD.FENCED_ROWS b) (s.nat (OD.FENCED_ROWS b) + 1)
  let s := s.note (if byMarch then Ev.MARCH_FAIL else Ev.BANK_UNCORR) b
  match bankLane b with
  | some l => s.fenceLane l
  | none =>
    match b with
    | 13 => (s.setRec { s.recorder with ring := trimRing (520192 - 32 * (s.bank 13).fenced.length) (s.recorder.ring.length + 1) s.recorder.ring }).refreshRing
    | 14 => s.dictCopyBad row
    | 15 => s.secWipe 3
    | _ => s

/-! ### Remapping (R452) -/

/-- A codeword as copied into a spare: corrected where it could be, poisoned where it could not. -/
def copiedWord (w : BitVec 144) : BitVec 144 := bushelDeliver w

/-- Spares not yet used and not failed, in order. -/
def Bank.freeSpares (x : Bank) : List Nat :=
  (List.range 32).filter fun k => !(x.remap.any fun y => decide (y.2 = k)) && !x.failedSpares.contains k

/-- A failing row goes to the next free spare that passes its test (the first `bad` free ones fail it), or is fenced. -/
def State.remapRow (s : State) (b row bad : Nat) (byMarch : Bool) : State :=
  let x := s.bank b
  if x.fenced.contains row then s
  else
    let words := (List.range 32).map fun c => copiedWord (s.cell b row c)
    let old := (x.remap.filter fun y => decide (y.1 = row)).map (·.2)
    let free := x.freeSpares
    let x := { x with failedSpares := x.failedSpares ++ old ++ free.take bad, rowHits := x.rowHits.filter fun y => decide (y.1 ≠ row) }
    let x := { x with remap := x.remap.filter fun y => decide (y.1 ≠ row) }
    match free.drop bad with
    | [] => ((s.setBank b x).putN (OD.SPARES_USED b) (x.remap.length + x.failedSpares.length)).fenceRow b row byMarch
    | k :: _ =>
      let s := s.setBank b { x with remap := (row, k) :: x.remap }
      let s := ((List.range 32).zip words).foldl (init := s) fun s y => s.setCell b row y.1 y.2
      let used := x.remap.length + 1 + x.failedSpares.length
      (s.putN (OD.SPARES_USED b) used).occur { code := Ev.ROW_REMAP, detail := b, count := used }

/-- A corrected codeword was read: written back, counted, and its row remapped at ROW_CORR_THRESH within 24 h. -/
def State.corrRead (s : State) (b row col bad : Nat) (w : BitVec 144) : State :=
  let s := (s.setCell b row col w).bump (OD.CORR_COUNT b)
  let x := s.bank b
  let hits := (row, s.now) :: x.rowHits.filter fun y => decide (s.now < y.2 + sec 86400)
  let s := ((s.setBank b { x with rowHits := hits, hourHits := s.now :: x.hourHits }).putN (OD.LAST_ERR_ROW b) row).corrWatch b
  if s.nat OD.ROW_CORR_THRESH ≤ (hits.filter fun y => decide (y.1 = row)).length then s.remapRow b row bad false else s

/-- An uncorrectable or poisoned codeword was read: counted, recorded, kept poisoned; an uncorrectable one remaps its row. -/
def State.badRead (s : State) (b row col bad : Nat) (mirrored uncorr : Bool) : State :=
  let w := bushelDeliver (s.cell b row col)
  let s := ((s.setCell b row col w).bump (OD.UNCORR_COUNT b)).putN (OD.LAST_ERR_ROW b) row
  let s := (s.setBank b { s.bank b with uncorrAt := some s.now }).note Ev.BANK_UNCORR b
  let s := s.lostWord b row col mirrored
  if uncorr then s.remapRow b row bad false else s

/-- A codeword is read (R21): what the decoder finds is handled, and the delivered word kept with the flag that it was corrected. -/
def State.readWord (s : State) (b row col bad : Nat) (mirrored : Bool) : State :=
  let w := s.cell b row col
  let s := s.setBank b { s.bank b with delivered := bushelDeliver w, flagged := match bushelDecode w with | .corrected _ => true | _ => false }
  match bushelDecode w with
  | .clean => s.corrWatch b
  | .corrected v => s.corrRead b row col bad v
  | .poison => s.badRead b row col bad mirrored false
  | .uncorrectable => s.badRead b row col bad mirrored true

/-- A write of data under a mask (R9): fewer than 128 bits are merged into the codeword read; a lost codeword stays poisoned. -/
def State.writeWord (s : State) (b row col : Nat) (data mask : BitVec 128) : State :=
  if mask = BitVec.allOnes 128 then s.setCell b row col (bushelEncode data)
  else
    let w := s.cell b row col
    if (bushelDecode w).good then s.setCell b row col (bushelEncode ((bushelData (bushelDeliver w) &&& ~~~mask) ||| (data &&& mask))) else s

/-- What leaves a bank that is not ON, or a fenced row: the poison mark (R450, R453). -/
def poisonMark : BitVec 144 := bushelPoison (bushelEncode 0)

/-- BANK_READ, of a row that exists: cell upsets, then the access. -/
def State.bankAccess (s : State) (b row col : Nat) (upset : BitVec 144) (write : Option (BitVec 128 × BitVec 128)) (mirrored : Bool) (bad : Nat) : State :=
  let s := s.setCell b row col (s.cell b row col ^^^ upset)
  if s.nat (OD.BANK_STATE b) ≠ 1 ∨ (s.bank b).fenced.contains row = true then
    (s.setBank b { s.bank b with delivered := poisonMark }) |> fun s =>
      match bankLane b with
      | some _ => s.lostWord b row col mirrored
      | none => s
  else
    match write with
    | none => s.readWord b row col bad mirrored
    | some (data, mask) =>
      (if mask = BitVec.allOnes 128 then s else s.readWord b row col bad mirrored).writeWord b row col data mask

/-- BANK_READ (R21): a row beyond the bank's rows does not exist. -/
def execBankRead (bank : Fin 17) (row : Nat) (col : Fin 32) (upset : BitVec 144) (write : Option (BitVec 128 × BitVec 128)) (mirrored : Bool)
    (badSpares : Nat) (s : State) : Host.Outcome State Fault Refusal :=
  if row < s.bankRows bank.val then .next (s.bankAccess bank.val row col.val upset write mirrored badSpares)
  else .fault (.noSuchRow bank.val row)

/-! ### March engines (R455–R459) -/

/-- A march ends: result, time, MARCH_DONE or MARCH_FAIL (R456). -/
def State.marchEnd (s : State) (b result : Nat) : State :=
  let s := (s.putN (OD.MARCH_RESULT b) result).putI (OD.MARCH_TIME b) s.tai80
  if result = 4 then s else s.note (if result = 3 then Ev.MARCH_FAIL else Ev.MARCH_DONE) b

/-- A whole start-up march of a bank (R456): volatile contents are destroyed; the rows of `bad` fail their step, each with so many bad spares. -/
def State.startMarch (s : State) (b : Nat) (rows : List (Nat × Nat)) : State :=
  let s := if b = 13 ∨ b = 14 ∨ b = 15 then s else s.setBank b { s.bank b with cells := [] }
  let before := (s.bank b).fenced.length
  let s := rows.foldl (init := s) fun s x => if x.1 < s.bankRows b then s.remapRow b x.1 x.2 true else s
  s.marchEnd b (if before < (s.bank b).fenced.length then 3 else if rows.isEmpty then 1 else 2)

/-- The bank's request march is over; a March SS leaves encoded 0 and the bank ON again. -/
def State.clearRequest (s : State) (b : Nat) : State :=
  let x := s.bank b
  let s := s.setBank b { x with marchAlg := 0, marchOnRequest := false, marchRow := 0, marchFail := false, marchRepair := false }
  let s := (s.putBit OD.MARCH_BUSY b false).putN (OD.MARCH_ROW b) 0
  if s.nat (OD.BANK_STATE b) = 3 then s.setBankState b 1 else s

/-- A march of a bank, requested or not, is aborted. -/
def State.marchAbort (s : State) (b : Nat) : State :=
  let x := s.bank b
  if x.marchOnRequest then
    let s := if x.marchAlg = 2 then s.setBank b { x with cells := [] } else s
    (s.clearRequest b).marchEnd b 4
  else s

/-- MARCH_CMD 0: the running march of the bank is aborted; without one the request is refused (R457). (Log 20, DESIGN CHOICE, unsafe.) -/
def State.marchAbortCmd (s : State) (b : Nat) : State × Reply :=
  if 17 ≤ b then (s, Reply.outOfRange)
  else if (s.bank b).marchOnRequest then (s.marchAbort b, Reply.ok) else (s, Reply.wrongState)

/-- A request march begins. -/
def State.marchBegin (s : State) (b alg : Nat) : State :=
  let s := s.setBank b { s.bank b with marchAlg := alg, marchOnRequest := true, marchRow := 0, marchFail := false, marchRepair := false }
  let s := (s.putBit OD.MARCH_BUSY b true).putN (OD.MARCH_ROW b) 0
  if alg = 2 then s.setBankState b 3 else s

/-- MARCH_CMD 1: accepted on any bank that is ON and under no request march. -/
def State.marchTransparent (s : State) (b : Nat) : State × Reply :=
  if 17 ≤ b then (s, Reply.outOfRange)
  else if s.nat (OD.BANK_STATE b) = 1 ∧ (s.bank b).marchOnRequest = false then (s.marchBegin b 1, Reply.ok) else (s, Reply.wrongState)

/-- Where March SS is accepted (R457). -/
def State.marchSsOk (s : State) (b : Nat) : Bool :=
  match bankLane b with
  | some l => decide (s.laneSt l = 7)
  | none =>
    if b = 12 then (List.range 4).all fun q => decide (s.nat (OD.STREAM_MODE q) = 0)
    else if b = 16 then (List.range 18).all fun l => !s.flag (OD.LANE_EN l)
    else false

/-- MARCH_CMD 2. -/
def State.marchSs (s : State) (b : Nat) : State × Reply :=
  if 17 ≤ b then (s, Reply.outOfRange)
  else if s.nat (OD.BANK_STATE b) = 1 ∧ (s.bank b).marchOnRequest = false ∧ s.marchSsOk b = true then (s.marchBegin b 2, Reply.ok)
  else (s, Reply.wrongState)

/-- MARCH_ABORT. -/
def execMarchAbort (session : Nat) (bank : BitVec 8) (s : State) : Host.Outcome State Fault Refusal :=
  .next (s.command session (s.roleRefusal session) fun s => s.marchAbortCmd bank.toNat)

/-- MARCH_TRANSPARENT. -/
def execMarchTransparent (session : Nat) (bank : BitVec 8) (s : State) : Host.Outcome State Fault Refusal :=
  .next (s.command session (s.roleRefusal session) fun s => s.marchTransparent bank.toNat)

/-- MARCH_SS. -/
def execMarchSs (session : Nat) (bank : BitVec 8) (s : State) : Host.Outcome State Fault Refusal :=
  .next (s.command session (s.roleRefusal session) fun s => s.marchSs bank.toNat)

/-- Banks under background march (R459): those of a standby lane, the hub's on a standby module. -/
def State.bgEligible (s : State) (b : Nat) : Bool :=
  s.flag OD.BG_MARCH_EN && decide (s.nat (OD.BANK_STATE b) = 1) &&
  (match bankLane b with
   | some l => decide (s.laneSt l = 4) || decide (s.laneSt l = 3) || decide (s.laneSt l = 6)
   | none => decide (s.nat OD.PAIR_MODE ≠ 0) && (decide (s.nat OD.PAIR_STATE = 4) || decide (s.nat OD.PAIR_STATE = 8) || decide (s.nat OD.PAIR_STATE = 7)))

/-- The row buffer of a transparent step is read (R458, Table 17.7): corrected codewords are written back and counted, lost ones handled as a
read and their row remapped poisoned. -/
def State.marchReadRow (s : State) (b row bad : Nat) (upsets : List (BitVec 144)) : State :=
  (List.range 32).foldl (init := s) fun s c =>
    let s := s.setCell b row c (s.cell b row c ^^^ upsets.getD c 0)
    match bushelDecode (s.cell b row c) with
    | .clean => s
    | .corrected v => s.corrRead b row c bad v
    | .poison => s.badRead b row c bad false false
    | .uncorrectable => s.badRead b row c bad false true

/-- One row is tested; one that fails is remapped or fenced. A fenced row is passed over. -/
def State.marchRowTest (s : State) (b row alg bad : Nat) (ok : Bool) (upsets : List (BitVec 144)) : State :=
  if (s.bank b).fenced.contains row then s
  else
    let s := if alg = 1 then s.marchReadRow b row bad upsets else s
    if ok then s else s.remapRow b row bad true

/-- A step of a request march; the last row ends it. -/
def State.requestStep (s : State) (b bad : Nat) (ok : Bool) (upsets : List (BitVec 144)) : State :=
  let x := s.bank b
  let row := x.marchRow
  let s := s.marchRowTest b row x.marchAlg bad ok upsets
  let y := s.bank b
  let fail := x.marchFail || decide (x.fenced.length < y.fenced.length)
  let repair := x.marchRepair || !ok || decide (x.remap ≠ y.remap)
  if row + 1 < s.bankRows b then
    (s.setBank b { y with marchRow := row + 1, marchFail := fail, marchRepair := repair }).putN (OD.MARCH_ROW b) (row + 1)
  else
    let s := if x.marchAlg = 2 then s.setBank b { y with cells := [] } else s
    (s.clearRequest b).marchEnd b (if fail then 3 else if repair then 2 else 1)

/-- A step of the background march; every eligible bank once through is one cycle. -/
def State.backgroundStep (s : State) (b bad : Nat) (ok : Bool) (upsets : List (BitVec 144)) : State :=
  let row := (s.bank b).bgRow
  let s := s.marchRowTest b row 1 bad ok upsets
  if row + 1 < s.bankRows b then s.setBank b { s.bank b with bgRow := row + 1 }
  else
    let s := s.setBank b { s.bank b with bgRow := 0, bgPass := (s.bank b).bgPass + 1 }
    let banks := (List.range 17).filter fun k => s.bgEligible k
    if banks.all fun k => decide (0 < (s.bank k).bgPass) then
      (banks.foldl (init := s) fun s k => s.setBank k { s.bank k with bgPass := 0 }).bumpW OD.BG_CYCLES
    else s

/-- The pacing of R458 allows a transparent row step now: on a hub bank one every 10 µs; on a lane bank one in each frame, in every second one where F is
below 12.5 µs; one every 1.25 µs without a frame grid and in RETEST. -/
def State.stepPaced (s : State) (b : Nat) : Bool :=
  let x := s.bank b
  let since (d : Nat) : Bool := match x.stepAt with
    | some t => s.past t d
    | none => true
  match bankLane b with
  | none => since (us 10)
  | some l =>
    if s.frame.grid && decide (s.laneSt l ≠ 1) then
      match x.stepFrame with
      | some f => decide ((s.frame.n + 2 ^ 32 - f) % 2 ^ 32 ≥ (if s.fTicks * 16 < 125000 then 2 else 1))
      | none => true
    else since 782

/-- A row step is taken now. -/
def State.noteStep (s : State) (b : Nat) : State := s.setBank b { s.bank b with stepAt := some s.now, stepFrame := some s.frame.n }

/-- MARCH_ROW_STEP (R458, R459, Table 17.7): the request first, else the background march; a transparent step at its pace. -/
def State.marchRowStep (s : State) (b bad : Nat) (ok : Bool) (upsets : List (BitVec 144)) : State :=
  if (s.bank b).marchOnRequest then
    (if (s.bank b).marchAlg = 1 ∧ s.stepPaced b = false then s else (s.noteStep b).requestStep b bad ok upsets)
  else if s.bgEligible b && s.stepPaced b then (s.noteStep b).backgroundStep b bad ok upsets
  else s

/-- MARCH_ROW_STEP: whether the row passes, cell upsets found on the way by column, spares that fail before one passes. -/
def execMarchRowStep (bank : Fin 17) (ok : Bool) (upsets : List (BitVec 144)) (badSpares : Nat) (s : State) : Host.Outcome State Fault Refusal :=
  .next (s.marchRowStep bank.val badSpares ok upsets)

end Sys2Proof.Machine
end

