-- ==== Sys2Proof/Machine/Power.lean ====
section
/-!
DEFINITION. Machine/Power.lean: chapter 17, power domains, the auxiliary supply, the thermal stop (R460–R464, R468). A
domain switches at once (log 41): the times of its Ready column pass within the command that switches it.
-/
namespace Sys2Proof.Machine
open Sys2Proof

/-! ### Domains (R460–R462, Table 17.4) -/

/-- The domains a domain requires to be on; D3 and D4 require their banks' domain on as well. -/
def requires (d : Nat) : List Nat :=
  if d = 3 then [1, 5] else if d = 4 then [1, 6] else if d = 7 ∨ d = 9 ∨ d = 10 then [1, 12] else if d = 8 then [7]
  else if d = 13 ∨ d = 14 then [12] else if d = 5 ∨ d = 6 ∨ d = 11 ∨ d = 12 ∨ d = 15 then [1] else []

/-- The lane whose core (D3, D4) or banks (D5, D6) a domain holds. -/
def domainLane (d : Nat) : Option Lane :=
  if d = 3 ∨ d = 5 then some .a else if d = 4 ∨ d = 6 then some .b else none

/-- The banks in a domain (Table 17.1). -/
def domainBanks (d : Nat) : List Nat :=
  if d = 5 then [0, 1, 2, 3, 4, 5] else if d = 6 then [6, 7, 8, 9, 10, 11] else if d = 15 then [12] else if d = 1 then [13, 14, 15]
  else if d = 9 then [16] else []

/-- The blocks of Table 19.4 in a domain. -/
def domainBlocks (d : Nat) : List Nat :=
  if d = 1 then [1, 2] else if d = 15 then [3] else if d = 9 then [4] else if d = 8 then [5] else if d = 11 then [6, 7] else if d = 10 then [8, 9] else []

/-- The fence of R501: the block's epoch increments modulo 16. -/
def State.fenceBlock (s : State) (b : Nat) : State := s.putN (OD.BLOCK_EPOCH (b - 1)) ((s.nat (OD.BLOCK_EPOCH (b - 1)) + 1) % 16)

/-- A block in partial reset is so no longer. -/
def State.endReset (s : State) (b : Nat) : State :=
  { (s.putBit OD.PR_BUSY b false) with boot := { s.boot with resets := s.boot.resets.filter fun x => decide (x.1 ≠ b) } }

/-- PWR_STATE changes: counted, and recorded with SET 1 when the domain comes on (R462). (Log 75, DEDUCED, unsafe.) -/
def State.setPwr (s : State) (d st : Nat) : State :=
  if s.nat (OD.PWR_STATE d) = st then s
  else ((s.putN (OD.PWR_STATE d) st).bump (OD.PWR_SWITCHES d)).note Ev.DOMAIN_STATE d (decide (st = 1))

/-- A bank leaves ON: a march of it is aborted (Table 17.7), the contents of a volatile one are lost in OFF (R450). -/
def State.bankLeaves (s : State) (b st : Nat) : State :=
  let s := s.marchAbort b
  let s := if st = 0 ∧ (b ≤ 12 ∨ b = 16) then s.setBank b { s.bank b with cells := [], bgRow := 0 } else s
  s.setBankState b st

/-- A lane without power is OFF (Table 11.2, cause 13). -/
def State.laneOff (s : State) (l : Lane) : State :=
  let s := if s.serving = some l then s.putN OD.SERVING_LANE 0xFF else s
  let r := s.lane l
  let s := s.setLaneRec l { r with booted := false, commit := none, stepCount := 0, diagFail := false, frameBad := false,
                                   done := true, next := none, spec := none, commitRun := 0 }
  (s.setLane l 0 13).refreshClaims

/-- The PWM unit loses its supply: a running sequence is over, no channel is driven. -/
def State.pwmOff (s : State) : State :=
  (List.range 48).foldl (init := s.endSequence) fun s i => s.chanOff i

/-- Domain `d` is switched off: its blocks are fenced and stop (R462, R501, R502). (Log 157, DEDUCED, unsafe.) -/
def State.switchOff (s : State) (d : Nat) : State :=
  if s.nat (OD.PWR_STATE d) = 0 then s
  else
    let s := if d = 15 then s.captureOff else if d = 13 ∨ d = 14 then s.ldDomainOff d else if d = 12 then s.pwmOff else s
    let s := (domainBanks d).foldl (init := s) fun s b => s.bankLeaves b 0
    let s := (domainBlocks d).foldl (init := s) fun s b => (s.endReset b).fenceBlock b
    let s := s.setPwr d 0
    match d with
    | 1 => s.putB OD.SYS_LOCKED false
    | 2 => s.gateEnOff
    | 3 => s.laneOff .a
    | 4 => s.laneOff .b
    | 7 => s.stepAll
    | 8 => s.stepAll
    | 9 => s.linkRefresh
    | 10 => ((s.ethLink 0 false).ethLink 1 false).closeSessions fun x => decide (x < 0x20)
    | 11 => s.refreshCan
    | 12 => s.tbPowerOff
    | _ => s

/-- D5 or D6 goes to RETENTION: its banks keep their contents and accept no access (R450). -/
def State.retainDomain (s : State) (d : Nat) : State :=
  if s.nat (OD.PWR_STATE d) = 2 then s else ((domainBanks d).foldl (init := s) fun s b => s.bankLeaves b 2).setPwr d 2

/-- The rows of bank `b` that fail its start-up march, among all that fail (bank, row, bad spares). -/
def failsOf (fails : List (Nat × Nat × Nat)) (b : Nat) : List (Nat × Nat) := (fails.filter fun x => decide (x.1 = b)).map (·.2)

/-- Streams that are configured start when their domain comes on, unless their quarter of H.CAPT is fenced (R410, Table 17.2). -/
def State.captureOn (s : State) : State :=
  (List.range 4).foldl (init := s) fun s q =>
    if s.nat (OD.STREAM_MODE q) = 0 ∨ s.nSig q = 0 ∨ s.captFenced q = true then s else s.streamStart q

/-- A lane that RST_N holds in reset stays without power (R498). -/
def State.laneHeld (s : State) (d : Nat) : Bool :=
  match domainLane d with
  | some l => decide (s.boot.held = 2 + l.num)
  | none => false

/-- Domain `d` is switched on, each block starting as the Ready column states; banks that come from OFF march first (R456, R462). (Log 41, DESIGN CHOICE, unsafe.) -/
def State.switchOn (s : State) (d : Nat) (fails : List (Nat × Nat × Nat)) : State :=
  let was := s.nat (OD.PWR_STATE d)
  if was = 1 ∨ s.laneHeld d = true then s
  else
    let s := s.setPwr d 1
    let s := (domainBanks d).foldl (init := s) fun s b =>
      (if was = 0 ∧ d ≠ 1 then s.startMarch b (failsOf fails b) else s).setBankState b 1
    match d with
    | 1 => s.putB OD.SYS_LOCKED (!s.tb.tcxoFailed)
    | 7 => s.adcDomainOn
    | 8 => s.stepAll
    | 9 => s.linkRefresh
    | 10 => s.refreshPtpPorts
    | 11 => s.refreshCan
    | 12 => s.tbPowerOn
    | 15 => s.captureOn
    | _ => s

/-- A domain asked on whose requirements the configuration does not ask on (R461). -/
def State.requirementMissing (s : State) : Option Nat :=
  (List.range 16).find? fun d => decide (3 ≤ d) &&
    ((decide (s.pwrReq d = 1) && (requires d).any fun r => decide (s.pwrReq r ≠ 1)) ||
     (decide (s.pwrReq d = 2) && decide (s.pwrReq (if d = 5 then 3 else 4) ≠ 0)))

/-- The value 2 is accepted only for D5 and D6. -/
def pwrReqInRange (d v : Nat) : Bool := decide (v ≤ 1) || (decide (v = 2) && (decide (d = 5) || decide (d = 6)))

/-- Why a PWR_REQ is refused WRONG_STATE, staged and at commit (R461): the law runs and needs the domain, it is the serving lane's while no other
lane is STANDBY, or the module is the standby of a pair. (Log 60, DEDUCED, unsafe.) -/
def State.pwrLocked (s : State) (d v : Nat) : Bool :=
  let off := decide (v ≠ 1) && decide (s.nat (OD.PWR_STATE d) = 1)
  let running := decide (s.nat OD.LAW_STATE ≠ 0)
  let law := running && off && (decide (d = 7) || decide (d = 8) || decide (d = 12) || (decide (d = 9) && !s.epsUsed.isEmpty) ||
    (decide (d = 11) && decide (s.nat OD.FF_PORT ≠ 0)) || (decide (d = 13) && [0, 1, 2].any fun x => decide (s.ldFunc x ≠ 0)) ||
    (decide (d = 14) && [3, 4, 5].any fun x => decide (s.ldFunc x ≠ 0)))
  let serving := match domainLane d with
    | some l => off && decide (s.serving = some l) && decide (s.laneSt l.other ≠ 4)
    | none => false
  law || serving || s.standbyModule

/-- The order in which domains are switched off, users first. -/
def offOrder : List Nat := [15, 8, 7, 11, 13, 14, 10, 9, 12, 3, 4, 5, 6]

/-- The order in which domains are switched on, those required first. -/
def onOrder : List Nat := [5, 6, 3, 4, 12, 7, 8, 9, 10, 11, 13, 14, 15]

/-- A domain of the serving lane waits for a planned swap (R461). -/
def State.waitsForSwap (s : State) (d : Nat) : Bool :=
  match domainLane d with
  | some l => decide (s.serving = some l)
  | none => false

/-- Domains follow PWR_REQ (R461, R462): those of the serving lane at the frame after the swap, all others now. -/
def State.followPwrReq (s : State) (fails : List (Nat × Nat × Nat)) : State :=
  let wait := offOrder.filter fun d => s.waitsForSwap d && decide (s.pwrReq d ≠ 1) && decide (s.nat (OD.PWR_STATE d) = 1)
  let s := offOrder.foldl (init := s) fun s d =>
    if wait.contains d then s else if s.pwrReq d = 0 then s.switchOff d else if s.pwrReq d = 2 then s.retainDomain d else s
  let s := onOrder.foldl (init := s) fun s d => if s.pwrReq d = 1 then s.switchOn d fails else s
  if wait.isEmpty then s
  else
    let s := s.announceSwap
    { s with lanes := { s.lanes with afterSwapOff := wait.map fun d => (d, s.pwrReq d) } }

/-! ### Stops of the whole module (R465, R468, R497) -/

/-- The law takes GATE_OFF and enters FAULT with a cause; a law that is OFF with the outputs off has nothing to stop (log 42, DEDUCED, unsafe). -/
def State.moduleStop (s : State) (code : Nat) : State :=
  if s.nat OD.LAW_STATE = 0 ∧ (s.nat OD.OUT_STATE = 0 ∨ s.nat OD.OUT_STATE = 5) then s else s.lawStop code false

/-- The handover of R307 where no further frame follows: announced in a heartbeat that leaves now, the role given up at once. -/
def State.handOverNow (s : State) : State :=
  let s := s.setPr { s.pair with handover := some s.frame.n }
  let s := s.sendCross [s.heartbeat]
  (((s.setPr { s.pair with takeover := false, handover := none }).setPairState 6).bump OD.HANDOVERS).note Ev.HANDOVER 0

/-- The writer empties the staging FIFO (R404). -/
def State.drainFifo (n : Nat) (s : State) : State :=
  match n with
  | 0 => s
  | n + 1 => if s.recorder.fifo.isEmpty && s.recorder.aux.isNone then s else State.drainFifo n s.recWrite

/-! ### Auxiliary supply (R463–R465) -/

/-- What the supply supervisor measures (Table 17.8): RIDE_TIME = (BULK_ENERGY − 0.72 J)/INPUT_POWER. -/
def State.auxMeasure (s : State) (kind : Nat) (v f p e : F32) : State :=
  let s := ((s.putN OD.AUX_KIND kind).putF OD.AUX_INPUT_V v).putF OD.AUX_FREQ f
  let ride := fmul (fdiv (fsub e (fq 72 100)) p) (fofInt 1000)
  ((s.putF OD.INPUT_POWER p).putF OD.BULK_ENERGY e).putF OD.RIDE_TIME ride

/-- The AUX_SUPPLY record always enters the FIFO (R404). -/
def State.auxRecord (s : State) (set : Bool) : State :=
  (s.eventTriggers Ev.AUX_SUPPLY).enterFifo (s.recordOf { code := Ev.AUX_SUPPLY, set := set } false)

/-- AUX_SUPPLY (R464): a loss is declared, or the input has returned before the reserve was reached. -/
def State.auxSupply (s : State) (lost : Bool) : State :=
  if s.domainOn 1 = false ∨ s.power.auxLost = lost then s
  else
    let s := { s with power := { s.power with auxLost := lost } }
    (if lost then s.bump OD.AUX_LOSSES else s).auxRecord lost

/-- AUX_SUPPLY, with the supervisor's readings. -/
def execAuxSupply (lost : Bool) (kind : Fin 3) (inputV freq power energy : F32) (s : State) : Host.Outcome State Fault Refusal :=
  .next ((if s.domainOn 1 then s.auxMeasure kind.val inputV freq power energy else s).auxSupply lost)

/-! ### Thermal stop (R468) -/

/-- THERMAL_STOP: 125 °C has been reached for 100 ms; a module of a pair hands over, any other stops its law. -/
def State.thermalStop (s : State) : State :=
  match s.power.hotSince with
  | some t =>
    if s.past t (ms 100) = true ∧ s.nat OD.THERMAL_STATE ≠ 2 then
      let s := (s.putN OD.THERMAL_STATE 2).note Ev.OVERTEMP 1
      if s.handoverOk then s.announceHandover else s.moduleStop Ev.OVERTEMP
    else s
  | none => s

/-- THERMAL_STOP. -/
def execThermalStop (s : State) : Host.Outcome State Fault Refusal := .next s.thermalStop

end Sys2Proof.Machine
end

