-- ==== Sys2Proof/Machine/Apply.lean ====
section
/-!
DEFINITION. Machine/Apply.lean: what a change of the applied configuration sets going in every unit, at the switching boundary of a commit or at
the dictionary load of the cold start, and the stored copies of the configuration (R333, R454).
-/
namespace Sys2Proof.Machine
open Sys2Proof

/-! ### Encoding of values (Table 12.1) -/

/-- Octets of a type of fixed size (0: STR and OCT). -/
def tySize : Ty → Nat
  | .bool | .u8 => 1
  | .u16 | .i16 => 2
  | .u32 | .i32 | .f32 => 4
  | .u64 => 8
  | .tai80 => 10
  | .oct | .str => 0

/-- A value as transferred, least significant octet first (R316). -/
def encodeVal (ty : Ty) (v : Val) : List Byte :=
  match v with
  | .bytes b => b
  | .num n => leBytes (tySize ty) (n % (256 ^ tySize ty : Nat)).toNat

/-! ### Which entries a set changes -/

/-- Some changed entry has an index in `lo … hi`. -/
def touched (ks : List Nat) (lo hi : Nat) : Bool := ks.any fun k => decide (lo ≤ k / 256) && decide (k / 256 ≤ hi)

/-! ### Effects by subject -/

/-- Timebase: reference selection, divider values and the spread wait for their own instants (R34, R41, R49); new offsets are pulled in (R53). -/
def State.applyTb (s : State) (ks : List Nat) : State :=
  let s := if ks.contains OD.TB_REF_SEL || ks.contains OD.REFCLK_FREQ then s.refCommitted (ks.contains OD.REFCLK_FREQ) else s
  let s := if ks.contains OD.TB_PD_FREQ || touched ks 0x2004 0x2004 then s.divCommitted else s
  let s := if touched ks 0x2003 0x2003 then s.setTb { s.tb with ssPending := true } else s
  if touched ks 0x4001 0x4008 then s.refreshPulls else s

/-- A change of core `c`'s own settings that its conversions follow; those of the odd core of a pair are ignored (R65). -/
def State.coreSettings (s : State) (ks : List Nat) (c : Nat) : Bool :=
  !(s.pairFormed c && decide (c % 2 = 1)) &&
  [OD.ADC_RANGE c, OD.ADC_AAF c, OD.ADC_PERIOD c, OD.ADC_LOWPWR c, OD.ADC_PAIR c, OD.ADC_ENABLE c].any ks.contains

/-- A commit forms or dissolves the pair of core `c` (R65). -/
def State.pairingChanged (s : State) (ks : List Nat) (c : Nat) : Bool :=
  ks.contains (OD.ADC_PAIR (evenOf c)) || (s.flag (OD.ADC_PAIR (evenOf c)) && ks.contains (OD.ADC_ENABLE (evenOf c)))

/-- Acquisition of one core: Table 3.5, and the steps its settings cause in the filter chain (R90, R91). What changes a pair switches both of
its cores, and forming or dissolving it steps both channels. -/
def State.applyCore (s : State) (ks : List Nat) (c : Nat) : State :=
  let n := s.chanOf c
  let s := if touched ks (0x2100 + c) (0x2100 + c) || touched ks (0x2120 + c) (0x2120 + c) then
      s.coreTouched c (ks.contains (OD.ADC_PAIR c) && s.flag (OD.ADC_PAIR c)) else s
  let all := s.coreSettings ks c || s.pairingChanged ks c
  let s := if all || (s.pairFormed c && s.coreSettings ks n) then s.coreSwitched c else s
  let s := if s.pairingChanged ks c then (s.stepStage c 0).stepFrame c 2 else s
  if all then (s.stepStage n 0).stepFrame n 2
  else if ks.contains (OD.ADC_FRAME_WIN c) && decide (n = c) then s.stepFrame n 2 else s

/-- The filter chain of one channel (R90). A change of FIR_SET is a channel switch; a change of ρ (RS_RATIO), CH_GAIN, CH_OFFSET or RS_ANGLE_SRC is no step. (Log 76, DEDUCED, unsafe.) -/
def State.applyChain (s : State) (ks : List Nat) (n : Nat) : State :=
  let set := s.nat (OD.FIR_SET n)
  let stage :=
    if ks.contains (OD.FIR_SET n) || ks.contains (OD.CIC_ORDER n) || ks.contains (OD.CIC_DEC n) then some 0
    else if ks.contains (OD.FIR_DEC n) || (decide (set < 8) && touched ks (0x2240 + set) (0x2240 + set)) then some 1
    else if ks.contains (OD.RS_MODE n) || ks.contains (OD.RS_K n) then some 2
    else none
  let s := match stage with
    | some k => s.stepStage n k
    | none => s
  let s := if ks.contains (OD.RS_MODE n) then s.rsLeaves n else s
  if ks.contains (OD.FP_SHAPE n) then s.stepFrame n 2 else s

/-- A change of F, of a predictor or ε class, or of a law channel's role is followed by 64 cold frames (R108). -/
def changesFrame (ks : List Nat) : Bool := ks.contains OD.FRAME_PERIOD || touched ks 0x2821 0x2825 || touched ks 0x3010 0x3010

/-- The items an endpoint is sent (Table 9.11). -/
def State.allItems (s : State) : List (List (Nat × Nat)) := (List.range 16).map fun e => (s.items e).map fun i => (i, s.itemValue e i)

/-- Direct pins: a written PWMD_SRC ends a bench generator's forced low (R217). -/
def State.applyDirect (s : State) (written : List Nat) : State :=
  { s with pwm := { s.pwm with directLow := Vector.ofFn fun d : Fin 8 => vget false s.pwm.directLow d.val && !written.contains (OD.PWMD_SRC d.val) } }

/-- A CAN port: its CANopen device starts or ends with NODE_ID and CANOPEN_EN; a new schedule waits for its reference (R386, R390). -/
def State.applyCan (o s : State) (ks : List Nat) : State :=
  let s := s.refreshCan
  (List.range 2).foldl (init := s) fun s k =>
    let s := if ks.contains (OD.NODE_ID k) || ks.contains (OD.CANOPEN_EN k) then
        (if s.canOpen k = false then s.putN (OD.NMT_STATE k) 0
         else if 2 ≤ o.nat (OD.PORT_STATE k) ∧ 2 ≤ s.nat (OD.PORT_STATE k) then s.nmtBoot k else s) else s
    if touched ks (0x9110 + k) (0x9110 + k) || touched ks (0x9112 + k) (0x9112 + k) || touched ks (0x9114 + k) (0x9114 + k) then
      s.setCan k { s.canP k with schedDue := true }
    else s

/-- Network time and ports (Table 13.5): `modeWas` is the former SERVO_MODE. -/
def State.applyTime (s : State) (ks : List Nat) (modeWas : Nat) : State :=
  let s := (List.range 2).foldl (init := s) fun s k => if s.nat (OD.ETH_MODE k) = 0 then s.ethLink k false else s
  let asym := (List.range 2).any fun k => ks.contains (OD.CABLE_ASYM k)
  let s := if ks.contains OD.PTP_PROFILE || ks.contains OD.PTP_DOMAIN || asym then s.servoReconfigured else s
  let s := if ks.contains OD.SERVO_MODE && (decide (modeWas = 0) || decide (s.nat OD.SERVO_MODE = 0)) then s.servoModeChanged else s
  s.refreshPtpPorts

/-- Capture: a stream whose mode, grid or signals change starts anew, or for the first time (Table 15.9). -/
def State.applyStreams (s : State) (ks : List Nat) : State :=
  let s := (List.range 4).foldl (init := s) fun s q =>
    if ks.contains (OD.STREAM_MODE q) || ks.contains (OD.STREAM_GRID q) || touched ks (0x8110 + q) (0x8110 + q) then
      (if s.nat (OD.STREAM_STATE q) ≠ 0 then s.streamChanged q
       else if s.nat (OD.STREAM_MODE q) = 0 ∨ s.nSig q = 0 ∨ s.domainOn 15 = false ∨ s.captFenced q = true then s
       else s.streamStart q)
    else s
  s.refreshMasks

/-- Sessions (Tables 12.12, 13.5): those of a port whose address or VLAN changes close, those above a lowered ROLE_CEILING close with a notice, and
ownership is released where its port is no longer eligible. -/
def State.applySessions (s : State) (ks : List Nat) : State :=
  let moved (k : Nat) : Bool := ks.contains OD.DICT_UDP_PORT || [OD.VLAN_ID k, OD.IPV4_ADDR k, OD.IPV4_PREFIX k, OD.IPV4_GW k, OD.IPV6_ADDR k,
    OD.IPV6_PREFIX k, OD.IPV6_GW k].any ks.contains
  let s := s.closeSessions fun x => decide (x < 0x20) && moved (sessPort x)
  let above (x : Nat) : Bool := s.isOpen x && decide (sessPort x < 4) && ks.contains (OD.ROLE_CEILING (sessPort x)) &&
    decide (s.nat (OD.ROLE_CEILING (sessPort x)) < s.nat (OD.SESSION_ROLE (sessIdx x)))
  let s := (if above (s.nat OD.OWNER_SESSION) then s.ownerGone 6 else s).expel above 0x71
  let o := s.nat OD.OWNER_SESSION
  if o < 0x40 ∧ s.flag (OD.OWNER_ELIGIBLE (sessPort o)) = false then s.ownerGone 6 else s

/-- Everything that follows a change of the entries `ks` from state `o` to `s`; `written`: all entries of the set. -/
def State.applied (o s : State) (ks written : List Nat) (fails : List (Nat × Nat × Nat)) : State :=
  let s := (s.applyTb ks).applyDirect written
  let s := (List.range 32).foldl (init := s) fun s c => (s.applyCore ks c).applyChain ks c
  let s := if changesFrame ks then s.cold 3 else s
  let s := (List.range 6).foldl (init := s) fun s x => if ks.contains (OD.LD_FUNC (x + 1)) then s.ldFuncChanged x else s
  let s := (s.refreshConfig).refreshCurves
  let s := s.followPwrReq fails
  let s := s.refreshLink (decide (o.allItems ≠ s.allItems))
  let s := if ks.contains OD.PAIR_MODE then s.pairModeChanged else s
  let s := s.refreshAdmission
  let s := ((State.applyCan o s ks).applyTime ks (o.nat OD.SERVO_MODE)).applyStreams ks
  let s := if ks.contains OD.EFT_ENABLE then s.eftStart else s
  (State.tamperEnabled o s).applySessions ks

/-- A set of values is put in force as a whole. -/
def State.applySet (s : State) (set : List (Nat × Val)) (fails : List (Nat × Nat × Nat)) : State :=
  let ks := (set.filter fun x => decide (s.od x.1 ≠ x.2)).map (·.1)
  let n := set.foldl (init := s) fun n x => n.put x.1 x.2
  s.applied n ks (set.map (·.1)) fails

/-! ### The stored copies (R454) -/

/-- An entry belongs to the configuration: class RWC. -/
def isConfig (k : Nat) : Bool :=
  match OD.findRow (k / 256) (k % 256) with
  | some r => decide (r.acc = .RWC)
  | none => false

/-- The configuration in force: the entries of class RWC that differ from their defaults. -/
def State.configEntries (s : State) : List (Nat × Val) := s.dict.filter fun x => isConfig x.1

/-- An entry as the copy's CRC covers it: index, sub-index, value (log 36). -/
def entryBytes (x : Nat × Val) : List Byte :=
  leBytes 2 (x.1 / 256) ++ leBytes 1 (x.1 % 256) ++
  (match OD.findRow (x.1 / 256) (x.1 % 256) with
   | some r => encodeVal r.ty x.2
   | none => [])

/-- CRC-32 of a copy with its generation. -/
def copyCrc (gen : Nat) (es : List (Nat × Val)) : Nat := (crc32 (leBytes 4 gen ++ (es.map entryBytes).flatten)).toNat

/-- A copy whose CRC is good. -/
def copyGood (c : ConfigCopy) : Bool := c.good && decide (c.crc = copyCrc c.gen c.entries)

/-- The number of the newest good copy, if there is one. -/
def State.newestCopy (s : State) : Option Nat :=
  let a := vget {} s.power.copies 0
  let b := vget {} s.power.copies 1
  if copyGood a && copyGood b then some (if a.gen < b.gen then 1 else 0)
  else if copyGood a then some 0
  else if copyGood b then some 1
  else none

/-- The applied configuration is written to the older copy. -/
def State.storeConfig (s : State) : State :=
  let i := match s.newestCopy with
    | some 0 => 1
    | _ => 0
  let g := s.nat OD.CONFIG_GEN
  let es := s.configEntries
  { s with power := { s.power with copies := vset s.power.copies i { gen := g, crc := copyCrc g es, good := true, entries := es } } }

end Sys2Proof.Machine
end

