-- ==== Sys2Proof/Machine/Reset.lean ====
section
/-!
DEFINITION. Machine/Reset.lean: chapter 19, cold start, resets, watchdogs and partial reset (R492–R505), with the last-gasp sequence (R465),
secure boot (R479), and the frame boundary at which a planned swap is followed by what waited for it.
-/
namespace Sys2Proof.Machine
open Sys2Proof

/-- Replace the start-up controller's record. -/
def State.setBoot (s : State) (b : Boot) : State := { s with boot := b }

/-! ### The hub reset -/

/-- Entries that keep their value through a hub reset: identity, security and vault; the recorder's metadata; reset causes; remaps; the applied
safety parameters and their log; and, unless supply was lost, the counters of R32, R225 and R451, the state of the start delay's draws seeded at power-up
(R150), the domains and supply, the island, and the watchdog counters (R496, R497; log 43, DEDUCED, unsafe). -/
def survives (power : Bool) (k : Nat) : Bool :=
  let i := k / 256
  let j := k % 256
  decide (i = 0x1000) || decide (i / 256 = 0xC0) || decide (k = OD.TIME_EPOCH) || decide (i = 0x8000) && decide (j ≠ 9) ||
  decide (k = OD.LAST_RESET) || decide (k = OD.LAST_RESET_TIME) || decide (k = OD.RESET_COUNT) || decide (k = OD.LAST_GASPS) ||
  decide (k = OD.PWR_STATE 0) || decide (i = 0x7010) || decide (k = OD.SCS) || decide (k = OD.PW_SET) || decide (k = OD.ISLAND_FW) ||
  decide (k = OD.SCS_ACK) || decide (i = 0x7100) || (decide (0xB000 ≤ i) && decide (i ≤ 0xB010) && decide (j = 5)) ||
  (!power && (decide (i / 256 = 0xA0) || decide (k = OD.BS_SEED) || decide (k = OD.FIFO_PEAK) || (decide (0x8060 ≤ i) && decide (i < 0x80A0)) ||
    (decide (0x4400 ≤ i) && decide (i ≤ 0x4411) && decide (0x0C ≤ j) && decide (j ≤ 0x0F)) ||
    (decide (0xB000 ≤ i) && decide (i ≤ 0xB010)) || (decide (0xB100 ≤ i) && decide (i ≤ 0xB10F) && decide (j ≠ 1)) || decide (i = 0xB110) ||
    decide (i = 0xB111) || decide (i = 0xB120) || decide (i / 256 = 0x70) || decide (i = 0x9200) || decide (i = 0x9230)))

/-- A bank after the hub reset: march requests and volatile contents are gone; fenced rows and failed spares of volatile banks last until power
is lost. -/
def State.bankAfter (s : State) (power : Bool) (b : Nat) : Bank :=
  let x := s.bank b
  let x := { x with marchAlg := 0, marchOnRequest := false, marchRow := 0, marchFail := false, marchRepair := false, bgRow := 0, bgPass := 0 }
  let x := if b = 13 ∨ b = 14 ∨ b = 15 then x else { x with cells := [] }
  if power then { x with fenced := if b = 13 ∨ b = 14 ∨ b = 15 then x.fenced else [], rowHits := [], hourHits := [], corrHigh := false, corr100At := none,
                         uncorrAt := none, delivered := 0 } else x

/-- Everything volatile returns to its value at reset; `power`: supply was lost as well. What leaves on the outputs, the endpoints, the queue of
commands, H.REC, the copies in H.DICT, H.SEC, the vault and the image store stay. -/
def State.hubReset (s : State) (power : Bool) : State :=
  let r := s.recorder
  let banks := Vector.ofFn fun b : Fin 17 => s.bankAfter power b.val
  let fenced (l : Lane) : LaneRec := { fenced := (s.lane l).fenced && !power }
  { variant := s.variant, now := s.now, ltc := s.ltc, free := s.free
    dict := s.dict.filter fun x => survives power x.1
    recorder := { ring := r.ring, nextSeq := r.nextSeq, nextWrap := r.nextWrap, frozen := r.frozen
                  fifo := if power then [] else r.fifo, aux := if power then none else r.aux
                  waiting := if power then [] else r.waiting, lost := if power then [] else r.lost }
    power := { s.power with banks := banks, hotSince := if power then none else s.power.hotSince, auxLost := s.power.auxLost && !power }
    lanes := { a := fenced .a, b := fenced .b, digestKey := if power then 0 else s.lanes.digestKey }
    link := { eps := s.link.eps }
    tb := { tcxoFailed := s.tb.tcxoFailed }
    safety := if power then { hash := s.safety.hash, fails := s.safety.fails, lockUntil := s.safety.lockUntil, lockMin := s.safety.lockMin, log := s.safety.log }
              else s.safety
    security := { s.security with load := none, attest := [], response := [], lcReq := none, vendorOpen := false }
    hosts := { reserve := s.hosts.reserve }
    boot := { rstLow := s.boot.rstLow, rstAt := s.boot.rstAt }
    out := s.out, pending := s.pending }

/-- The hub reset with what it shows: a load in progress leaves its slot invalid (Table 18.6), the pin's level and RST_STUCK stand. -/
def State.hubResets (s : State) (power : Bool) : State :=
  let stuck := s.nat OD.RST_STUCK
  let level := s.nat OD.RST_N_LEVEL
  let t := s.hubReset power
  let t := if s.security.load.isSome then t.putN OD.FW_IMAGE_STATE 4 else t
  let t := (t.put OD.LC_NONCE (.bytes [])).putB OD.SYS_LOCKED (!power && !t.tb.tcxoFailed)
  if power then t else (t.putN OD.RST_STUCK stuck).putN OD.RST_N_LEVEL level

/-! ### Last gasp (R465) -/

/-- Whether the last power-down was a last gasp. -/
def State.gasped (s : State) (b : Bool) : State := { s with power := { s.power with lastGasp := b } }

/-- LAST_GASP (R465), in its order: service, shedding, recorder and configuration, remaining domains; D0 goes to the backup input, and what is
volatile is gone. On SVZ6416-S the record of SGB is written before D2 falls (Table 16.7). (Log 68, DEDUCED, unsafe.) -/
def State.lastGasp (s : State) : State :=
  if s.domainOn 1 then
    let s := s.bump OD.LAST_GASPS
    let s := if s.handoverOk then s.handOverNow
      else
        let s := s.moduleStop Ev.AUX_SUPPLY
        let s := s.sendBurstsOf false s.frame.n s.frame.t0
        if s.nat OD.LAW_STATE = 8 ∧ s.nat OD.FAULT_CAUSE = Ev.OVERTEMP then s.putN OD.FAULT_CAUSE Ev.AUX_SUPPLY else s
    let s := if s.variant = .S ∧ s.nat OD.SGB_CAUSE = 0 then s.islandNote Ev.SGB 0 else s
    let s := [15, 8, 7, 11, 3, 4].foldl (init := s) fun s d => s.switchOff d
    let s := s.setHosts { s.hosts with commit := none }
    let s := State.drainFifo 512 s
    let s := [5, 6, 9, 13, 14, 10, 12, 1, 2].foldl (init := s) fun s d => s.switchOff d
    let s := s.hubResets true
    s.gasped true
  else s

/-- LAST_GASP. -/
def execLastGasp (s : State) : Host.Outcome State Fault Refusal := .next s.lastGasp

/-! ### The cold start (R492–R495) -/

/-- A stage begins; BOOT_STATE shows the latest. -/
def State.beginStage (s : State) (k : Nat) : State := (s.putN OD.BOOT_STATE k).setBoot { s.boot with open_ := k :: s.boot.open_ }

/-- A stage has ended. -/
def State.endStage (s : State) (k : Nat) : State :=
  (s.putN (OD.STAGE_END (k - 1)) s.bootMs).setBoot { s.boot with open_ := s.boot.open_.filter fun x => decide (x ≠ k) }

/-- A hub that starts while Safe Gate Block is active holds its bit of TRIP_LATCH (R206, R431). (Log 66, DEDUCED, unsafe.) -/
def State.sgbAtStart (s : State) : State :=
  if s.variant = .S ∧ s.nat OD.SGB_CAUSE ≠ 0 then (s.putN OD.TRIP_FIRST 8).putBit OD.TRIP_LATCH 8 true else s

/-- The cold start runs from HUB, with MARCH beside it. -/
def State.fromHub (s : State) : State := (((s.sgbAtStart).setBoot { s.boot with running := true, held := 0, open_ := [] }).beginStage 2).beginStage 3

/-- A reset is recorded with source and scope, and kept in LAST_RESET (R496). -/
def State.resetNote (s : State) (source scope : Nat) : State :=
  let s := (s.putN OD.LAST_RESET (source * 256 + scope)).putI OD.LAST_RESET_TIME s.tai80
  s.note Ev.RESET (source * 256 + scope)

/-- COLD_START: t_p, with the supply's readings and the level of RST_N. -/
def State.coldStart (s : State) (rstLow : Bool) : State :=
  if s.domainOn 1 then s
  else
    let s := (s.putN (OD.PWR_STATE 0) 1).putB OD.RST_N_LEVEL (!rstLow)
    let s := s.setSecurity { s.security with tamperPresent := withBit s.security.tamperPresent 4 false }
    (s.setBoot { running := true, tp := s.now, rstLow := rstLow, rstAt := s.now }).beginStage 1

/-- COLD_START. -/
def execColdStart (kind : Fin 3) (inputV freq power energy : F32) (rstLow : Bool) (s : State) : Host.Outcome State Fault Refusal :=
  .next (if s.domainOn 1 then s else (s.auxMeasure kind.val inputV freq power energy).coldStart rstLow)

/-- The security controller draws the key of the lanes' digests at power-up (R284; free, log 5). -/
def State.drawDigestKey (s : State) : State :=
  let t := s.draw.2
  { t with lanes := { t.lanes with digestKey := BitVec.ofNat 128 (Config.freeNat s.draw.1) } }

/-- SUPPLY ends: D0, D1 and on SVZ6416-S D2 are in regulation; the start delay's draws are seeded with the serial number (R150); a reset by lost supply
is recorded; a low RST_N holds the module (R498). -/
def State.supplyEnd (s : State) : State :=
  let s := (s.endStage 1).drawDigestKey.switchOn 1 []
  let s := s.putN OD.BS_SEED (s.nat OD.SERIAL % 65536)
  let s := if s.variant = .S then s.switchOn 2 [] else s
  let s := if s.power.lastGasp then
      ((s.bump OD.RESET_COUNT).gasped false).resetNote 1 1 else s
  if s.boot.rstLow then s.setBoot { s.boot with held := 1 } else s.fromHub

/-- The image slots as the dictionary shows them. -/
def State.refreshSlots (s : State) : State :=
  let x (i : Nat) : ImageSlot := vget {} s.security.slots i
  let both (f : ImageSlot → Nat) : Nat := f (x 1) % 65536 * 65536 + f (x 0) % 65536
  (s.putN OD.SLOT_VERSION (both fun z => z.version)).putN OD.SLOT_SVN (both fun z => z.svn)

/-- A slot passes secure boot: held whole, verified now, not below the floor (R479, R480). -/
def State.slotBoots (s : State) (i : Nat) (ok : Bool) : Bool :=
  let x := vget {} s.security.slots i
  ok && x.valid && decide (s.nat OD.SVN_FLOOR ≤ x.svn)

/-- Sixteen fresh random octets (free, log 5). -/
def State.freshNonce (s : State) (k : Nat) : State := (s.draw.2).put k (.bytes (leBytes 16 (Config.freeNat s.draw.1 % 2 ^ 128)))

/-- What the security controller carries over from the time without supply: a wipe is completed, detections are recorded (R475, R482). -/
def State.lateSecurity (s : State) : State :=
  let s := match s.security.wipeDue with
    | some c => s.secWipe c
    | none => s
  let due := s.security.tamperDue
  due.foldl (init := { s with security := { s.security with tamperDue := [] } }) fun s i => s.note Ev.TAMPER i

/-- Both slots are refused: RECOVERY, with only D1 on (R479). (Log 69, DEDUCED, unsafe.) -/
def State.recovery (s : State) : State :=
  let s := [5, 6, 2].foldl (init := s) fun s d => s.switchOff d
  (s.putN OD.BOOT_STATE 12).setBoot { s.boot with running := false, open_ := [] }

/-- HUB ends: the key, secure boot, then the nonce of vendor tokens (R471, R479, R489). -/
def State.hubEnd (s : State) (puf slotA slotB : Bool) : State :=
  let s := ((s.endStage 2).putN OD.KEY_STATE (if puf then 1 else 2)).refreshSlots
  let s := (s.freshNonce OD.UNLOCK_NONCE).lateSecurity
  let pref := if s.nat OD.FW_SLOT_PREF = 1 then 1 else 0
  let ok (i : Nat) : Bool := s.slotBoots i (if i = 0 then slotA else slotB)
  let boot (s : State) (i : Nat) : State :=
    let v := (vget {} s.security.slots i).version
    let s : State := { ((s.putN OD.FW_SLOT i).putN OD.FW_VERSION v) with security := { s.security with running := i } }
    let s := (s.bump OD.BOOT_COUNT).occur { code := Ev.BOOT, detail := i, count := v }
    if s.variant = .S then s.occur { code := Ev.BOOT, detail := i, count := v } else s
  if ok pref then boot s pref
  else
    let s := s.note Ev.BOOT_REFUSED pref
    if ok (1 - pref) then boot s (1 - pref) else (s.note Ev.BOOT_REFUSED (1 - pref)).recovery

/-- MARCH ends: the lane banks and the MRAM banks have been tested (R456). -/
def State.marchStageEnd (s : State) (fails : List (Nat × Nat × Nat)) : State :=
  let s := s.endStage 3
  let s := [13, 14, 15].foldl (init := s) fun s b => s.startMarch b (failsOf fails b)
  (s.switchOn 5 fails).switchOn 6 fails

/-- HUB and MARCH have ended: the lanes boot. -/
def State.tryLaneBoot (s : State) : State :=
  if s.boot.running && !s.boot.open_.contains 2 && !s.boot.open_.contains 3 then ((s.switchOn 3 []).switchOn 4 []).beginStage 4 else s

/-- A lane part is written into its code bank and checked in place; one that fails leaves its lane OFF (R479). -/
def State.bootLane (s : State) (l : Lane) (ok : Bool) : State :=
  if ok && s.domainOn (3 + l.num) then
    let i := s.security.running
    let v := (vget {} s.security.slots i).version
    let s := { s with security := { s.security with laneSlot := vset s.security.laneSlot l.num i } }
    s.laneBooted l v
  else s

/-- NOT_READY with its cause (R494). -/
def State.notReady (s : State) (cause : Nat) : State := (s.putN OD.BOOT_STATE 11).putN OD.BOOT_FAIL cause

/-- LANE_BOOT ends. -/
def State.laneBootEnd (s : State) (okA okB : Bool) : State :=
  let s := ((s.endStage 4).bootLane .a okA).bootLane .b okB
  if s.lanes.a.booted || s.lanes.b.booted then s.beginStage 5
  else (s.notReady 1).setBoot { s.boot with running := false, open_ := [] }

/-- TIMEBASE has ended: TIME_WAIT and CALIBRATION begin. -/
def State.afterTimebase (s : State) : State := ((s.setBoot { s.boot with tbDoneAt := s.now }).beginStage 7).beginStage 8

/-- DICT_LOAD ends: the newest good copy is in force, else the defaults, and the domains follow it (R454). -/
def State.dictLoadEnd (s : State) (fails : List (Nat × Nat × Nat)) : State :=
  let s := s.endStage 5
  let c : ConfigCopy := match s.newestCopy with
    | some i => vget {} s.power.copies i
    | none => {}
  let s := ((s.putN OD.CONFIG_GEN c.gen).applySet c.entries fails).divLoaded
  let s := s.setBoot { s.boot with d12At := s.now }
  if s.domainOn 12 then s.beginStage 6 else s.afterTimebase

/-- TIME_WAIT may end: a servo step was made, or none can be (Table 19.1). -/
def State.timeWaitOver (s : State) : Bool :=
  s.servo.stepDone || decide (s.nat OD.SERVO_MODE = 0) || (!s.flag (OD.PTP_EN 0) && !s.flag (OD.PTP_EN 1)) || !s.domainOn 10

/-- CALIBRATION may end: enabled cores calibrated or faulted, frame grid running, law channels settled or without a working core (Table 19.1,
R494). -/
def State.calibrationOver (s : State) : Bool :=
  !s.domainOn 7 || (s.frame.grid &&
    (List.range 32).all (fun c => !s.coreOn c || (s.core c).calDone || (s.core c).faulted) &&
    (List.range 32).all (fun n => !s.isLaw n || (s.chain n).fpSettled || s.chanFault n))

/-- LANE_SYNC begins (R493): of the booted lanes the one with the higher claim serves, the other takes the frame-state copy; of equal claims, as both lanes of a module in pair mode may have, lane A's serves (log 138, DESIGN CHOICE, unsafe). The size of the frame
state follows the layout, which is not given (free, log 5). -/
def State.laneSync (s : State) : State :=
  let s := s.beginStage 9
  let k := s.draw.1
  let s := (s.draw.2).putN OD.FRAME_STATE_CW (Config.freeNat k % 65536)
  let c (l : Lane) : Nat := s.nat (healthKey l) % 256 * 16 + s.tie l
  let first : Lane := if s.lanes.a.booted && (!s.lanes.b.booted || decide (c .b ≤ c .a)) then .a else .b
  let s := s.serve first 2
  if (s.lane first.other).booted then s.setLane first.other 2 2 else s.refreshClaims

/-- LANE_SYNC may end. -/
def State.laneSyncOver (s : State) : Bool :=
  match s.serving with
  | some l => let o := s.laneSt l.other; decide (o = 4) || decide (o = 0) || decide (o = 1) || decide (o = 7)
  | none => false

/-- READY (R495); a pair begins to resolve its roles (R298). -/
def State.ready (s : State) : State :=
  let s := ((s.endStage 9).beginStage 10).endStage 10
  let s := (s.putB OD.BOOT_READY true).putN OD.BOOT_TIME s.bootMs
  let s := (s.setBoot { s.boot with running := false }).occur { code := Ev.READY, count := s.bootMs }
  if s.pairOn then s.setPr { s.pair with startAt := s.now } else s

/-- TIME_WAIT and CALIBRATION have both ended. -/
def State.tryLaneSync (s : State) : State :=
  if s.boot.running && !s.boot.open_.contains 7 && !s.boot.open_.contains 8 then s.laneSync else s

/-- BOOT_STAGE_END (Table 19.1): an open stage ends when its condition holds. -/
def State.bootStageEnd (s : State) (k : Nat) (f : StageFound) : State :=
  if s.boot.open_.contains k then
    match k with
    | 1 => s.supplyEnd
    | 2 => (s.hubEnd f.puf f.slotA f.slotB).tryLaneBoot
    | 3 => (s.marchStageEnd f.fails).tryLaneBoot
    | 4 => s.laneBootEnd f.laneA f.laneB
    | 5 => s.dictLoadEnd f.fails
    | 6 => if s.nat OD.TB_STATE = 3 ∨ s.domainOn 12 = false then ((s.endStage 6).putN OD.BOOT_FAIL 0).afterTimebase else s
    | 7 => if s.timeWaitOver then (s.endStage 7).tryLaneSync else s
    | 8 => if s.calibrationOver then (s.endStage 8).tryLaneSync else s
    | 9 => if s.laneSyncOver then s.ready else s
    | _ => s
  else s

/-- BOOT_STAGE_END. -/
def execBootStageEnd (stage : Fin 11) (found : StageFound) (s : State) : Host.Outcome State Fault Refusal := .next (s.bootStageEnd stage.val found)

/-- TIME_WAIT_EXPIRED (R492). -/
def State.timeWaitExpired (s : State) : State :=
  if s.boot.open_.contains 7 ∧ s.past s.boot.tbDoneAt (ms (s.nat OD.TIME_WAIT)) = true then (s.endStage 7).tryLaneSync else s

/-- TIME_WAIT_EXPIRED. -/
def execTimeWaitExpired (s : State) : Host.Outcome State Fault Refusal := .next s.timeWaitExpired

/-- BOOT_TIMEBASE_TIMEOUT (R494): TIMEBASE has not ended 1 s after D12 was switched on; it stays open, and the start resumes at the lock. -/
def State.timebaseTimeout (s : State) : State :=
  if s.boot.open_.contains 6 ∧ s.past s.boot.d12At (sec 1) = true ∧ s.nat OD.TB_STATE ≠ 3 then s.notReady 2 else s

/-- BOOT_TIMEBASE_TIMEOUT. -/
def execBootTimebaseTimeout (s : State) : Host.Outcome State Fault Refusal := .next s.timebaseTimeout

/-! ### Module reset (R496, R497) -/

/-- The reset itself: recorded, sessions and domains closed down, the hub reset; the cold start runs from HUB, or waits for RST_N. The hub
supervisor's watchdog cuts everything but the PWM unit, which stops on its own oscillator (R203). (Log 27, DEDUCED, unsafe; log 72, DEDUCED, unsafe.) -/
def State.resetNow (s : State) (source : Nat) : State :=
  let s := (s.bump OD.RESET_COUNT).resetNote source 1
  let s := if source = 4 then
      let t := s.stopOutputs false true 5 4
      let u := t.hubResets false
      ({ u with pwm := t.pwm }).putN OD.OUT_STATE (t.nat OD.OUT_STATE)
    else
      let s := s.closeSessions fun _ => true
      (offOrder.foldl (init := s) fun s d => s.switchOff d).hubResets false
  let s := s.setBoot { s.boot with tp := s.now }
  if source = 2 ∧ s.boot.rstLow = true then s.setBoot { s.boot with held := 1 } else s.fromHub

/-- A module reset is due: a module of a pair hands over first (R307), any other stops its law. -/
def State.requestReset (s : State) (source : Nat) : State :=
  let s := s.setBoot { s.boot with resetDue := some source }
  if source = 4 then s
  else if s.handoverOk then s.announceHandover
  else
    let s := s.moduleStop Ev.RESET
    s.sendBurstsOf false s.frame.n s.frame.t0

/-- A due reset is taken unless a handover is still to come; a hub that its watchdog resets cannot wait (R497). -/
def State.takeReset (s : State) : State :=
  match s.boot.resetDue with
  | some src => if decide (src ≠ 4) && s.tbValid && decide (s.nat OD.PAIR_STATE = 5) && s.pair.handover.isSome then s else s.resetNow src
  | none => s

/-- RESET_CMD 1 (R497, R499). -/
def State.resetCmdModule (s : State) : State × Reply := (s.requestReset 3, Reply.ok)

/-- Why a session may not reset: neither owner nor SERVICE (R499). -/
def State.resetRefusal (s : State) (session : Nat) : Option Reply :=
  if s.nat (OD.SESSION_ROLE (sessIdx session)) = 2 ∨ (s.nat OD.OWNER_SESSION = session ∧ sessIdx session < 11) then none else some Reply.roleDenied

/-- RESET_CMD_MODULE: answered, then taken. -/
def execResetCmdModule (session : Nat) (s : State) : Host.Outcome State Fault Refusal :=
  .next (s.command session (s.resetRefusal session) fun s => s.resetCmdModule).takeReset

/-! ### Lane reset (R498, R499) -/

/-- A lane is powered again as PWR_REQ asks; its banks march (rows that fail are found by later marches, log 44, DESIGN CHOICE, unsafe). -/
def State.laneOn (s : State) (l : Lane) : State :=
  let s := if s.pwrReq (5 + l.num) = 1 then s.switchOn (5 + l.num) [] else s
  if s.pwrReq (3 + l.num) = 1 ∧ s.domainOn (5 + l.num) = true then s.switchOn (3 + l.num) [] else s

/-- A lane loses its power: core, then banks. -/
def State.laneDown (s : State) (l : Lane) : State := (s.switchOff (3 + l.num)).switchOff (5 + l.num)

/-- A lane is reset and boots again; recorded with its scope. -/
def State.laneReset (s : State) (l : Lane) (source : Nat) : State := (((s.bump OD.RESET_COUNT).resetNote source (2 + l.num)).laneDown l).laneOn l

/-- RESET_CMD 2 or 3 (R499): the serving lane after a planned swap, which a STANDBY lane must be ready for. -/
def State.resetCmdLane (s : State) (l : Lane) : State × Reply :=
  if s.serving = some l then
    (if s.laneSt l.other = 4 then ({ s.announceSwap with lanes := { s.announceSwap.lanes with afterSwapReset := some l } }, Reply.ok)
     else (s, Reply.wrongState))
  else (s.laneReset l 3, Reply.ok)

/-- RESET_CMD_LANE. -/
def execResetCmdLane (session : Nat) (lane : Lane) (s : State) : Host.Outcome State Fault Refusal :=
  .next (s.command session (s.resetRefusal session) fun s => s.resetCmdLane lane)

/-- What waited for a planned swap follows it: a lane reset, or domains of the retired lane; given up where the swap was not made. -/
def State.afterSwap (s : State) : State :=
  let x := s.lanes
  if x.swapTo.isSome then s
  else
    let t := { s with lanes := { x with afterSwapReset := none, afterSwapOff := [] } }
    let t := match x.afterSwapReset with
      | some l => if s.serving = some l then t else t.laneReset l 3
      | none => t
    x.afterSwapOff.foldl (init := t) fun t d =>
      if s.waitsForSwap d.1 then t else if d.2 = 2 then t.retainDomain d.1 else t.switchOff d.1

/-- In pair mode the active names the boundary of a commit whose program is loaded: at least 200 µs and two frames after the set has been
mirrored; how many frames that takes is free (R308, R335, log 30). The frames until a named boundary count down. (Log 109, DEDUCED, unsafe.) -/
def State.countSwitch (s : State) : State :=
  match s.hosts.commit with
  | some c =>
    if s.pairOn && !s.standbyModule && !c.named && s.past c.loadedAt 0 then
      let (k, s) := s.draw
      let d := Nat.max (cdiv (us 200) s.fTicks) (2 + Config.freeNat k % 200)
      (s.setHosts { s.hosts with commit := some { c with named := true } }).setPr { s.pair with switchDelta := d }
    else s.setPr { s.pair with switchDelta := s.pair.switchDelta - 1 }
  | none => s.setPr { s.pair with switchDelta := s.pair.switchDelta - 1 }

/-- FRAME_BOUNDARY (R97), followed by what waits for one. -/
def State.frameBoundaryAll (s : State) : State :=
  let t := s.frameBoundary
  if t.frame.n = s.frame.n ∧ t.frame.begun = s.frame.begun then t else ((t.countSwitch).afterSwap).takeReset

/-- FRAME_BOUNDARY. -/
def execFrameBoundary (s : State) : Host.Outcome State Fault Refusal := .next s.frameBoundaryAll

/-! ### RST_N (R498) -/

/-- The lane RST_SCOPE = standby lane takes. -/
def State.rstLane (s : State) : Option Lane :=
  [Lane.a, Lane.b].find? fun l => let st := s.laneSt l; decide (st = 4) || decide (st = 3) || decide (st = 2) || decide (st = 6)

/-- RST_N_ASSERT: the pin has been low for 10 ms. It is ignored while RST_STUCK. (Log 67, DEDUCED, unsafe.) -/
def State.rstAssert (s : State) : State :=
  if s.domainOn 1 = false ∨ s.boot.rstLow = true then s
  else
    let s := (s.putB OD.RST_N_LEVEL false).setBoot { s.boot with rstLow := true, rstAt := s.now - ms 10 }
    if s.flag OD.RST_STUCK then s
    else if s.nat OD.RST_SCOPE = 0 then (s.requestReset 2).takeReset
    else
      match s.rstLane with
      | some l =>
        let s := (((s.bump OD.RESET_COUNT).resetNote 2 (2 + l.num))).laneDown l
        s.setBoot { s.boot with held := 2 + l.num }
      | none => s.resetNote 2 0

/-- RST_N_ASSERT. -/
def execRstNAssert (s : State) : Host.Outcome State Fault Refusal := .next s.rstAssert

/-- What RST_N holds starts: the cold start, or the lane's boot. -/
def State.rstStart (s : State) : State :=
  let h := s.boot.held
  let s := s.setBoot { s.boot with held := 0 }
  if h = 1 then s.fromHub else if h = 2 then s.laneOn .a else if h = 3 then s.laneOn .b else s

/-- RST_N_RELEASE: the pin reads high. -/
def State.rstRelease (s : State) : State :=
  if s.domainOn 1 = false ∨ s.boot.rstLow = false then s
  else ((s.putB OD.RST_N_LEVEL true).setBoot { s.boot with rstLow := false, rstAt := s.now }).rstStart

/-- RST_N_RELEASE. -/
def execRstNRelease (s : State) : Host.Outcome State Fault Refusal := .next s.rstRelease

/-- RST_STUCK: a low of 8 s is treated as failed closed; the scope starts as if released. -/
def State.rstStuck (s : State) : State :=
  if s.boot.rstLow = true ∧ s.flag OD.RST_STUCK = false ∧ s.domainOn 1 = true ∧ s.past s.boot.rstAt (sec 8) = true then
    ((s.putB OD.RST_STUCK true).note Ev.RST_STUCK 0).rstStart
  else s

/-- RST_STUCK. -/
def execRstStuck (s : State) : Host.Outcome State Fault Refusal := .next s.rstStuck

/-- RST_STUCK_RELEASE: the pin has read high for 1 s. -/
def State.rstUnstuck (s : State) : State :=
  if s.flag OD.RST_STUCK = true ∧ s.boot.rstLow = false ∧ s.past s.boot.rstAt (sec 1) = true then
    (s.putB OD.RST_STUCK false).note Ev.RST_STUCK 0 false
  else s

/-- RST_STUCK_RELEASE. -/
def execRstStuckRelease (s : State) : Host.Outcome State Fault Refusal := .next s.rstUnstuck

/-! ### Partial reset (R501, R502, Table 19.4) -/

/-- Quiesce: from now the block answers BUSY_RESET. -/
def State.prStart (s : State) (b : Nat) : State :=
  (s.putBit OD.PR_BUSY b true).setBoot { s.boot with resets := s.boot.resets ++ [(b, s.now, false)] }

/-- A request for a partial reset is allowed (Table 19.4). -/
def State.prAllowed (s : State) (b : Nat) : Bool :=
  s.domainOn (blockDomain b) && !s.bit OD.PR_BUSY b &&
  (if b = 4 then decide (s.nat OD.OUT_STATE = 0) || decide (s.nat OD.OUT_STATE = 5) else if b = 5 then decide (s.nat OD.LAW_STATE = 0) else true)

/-- PR_CMD. -/
def State.prCmd (s : State) (b : Nat) : State × Reply :=
  if b = 0 ∨ 9 < b then (s, Reply.outOfRange) else if s.prAllowed b then (s.prStart b, Reply.ok) else (s, Reply.wrongState)

/-- PARTIAL_RESET_CMD. -/
def execPartialResetCmd (session block : Nat) (s : State) : Host.Outcome State Fault Refusal :=
  .next (s.command session (s.resetRefusal session) fun s => s.prCmd block)

/-- The reset acts on its block (Table 19.4): queued transactions are taken up by their marks, streams end with LAST, every filter stage is stepped, a CAN port integrates again. The others keep
their state. (Log 73, DEDUCED, unsafe.) -/
def State.prAction (s : State) (b : Nat) : State :=
  match b with
  | 1 => s.actOnMarks
  | 3 => s.captureOff
  | 5 => s.stepAll
  | 6 => if 2 ≤ s.nat (OD.PORT_STATE 0) then ((s.canLeaves 0).setPort 0 2).refreshPort 0 else s
  | 7 => if 2 ≤ s.nat (OD.PORT_STATE 1) then ((s.canLeaves 1).setPort 1 2).refreshPort 1 else s
  | _ => s

/-- PR_DRAIN_END: 5 µs after t_q the drain ends and the fence is raised; requests answered TARGET_RESET and replies discarded are counted. (Log 71, DESIGN CHOICE, unsafe.) -/
def State.prDrainEnd (s : State) (b targets discards : Nat) : State :=
  match s.boot.resets.find? fun x => decide (x.1 = b) with
  | some (_, t, false) =>
    if s.past t (us 5) then
      let s := s.setBoot { s.boot with resets := s.boot.resets.map fun x => if x.1 = b then (b, t, true) else x }
      (((s.fenceBlock b).count OD.TARGET_RESETS targets).count OD.FENCE_DISCARDS discards).prAction b
    else s
  | _ => s

/-- PR_DRAIN_END. -/
def execPrDrainEnd (block : Fin 10) (targetResets discards : Nat) (s : State) : Host.Outcome State Fault Refusal :=
  .next (s.prDrainEnd block.val targetResets discards)

/-- PR_BLOCK_RUNNING: the block runs again; recorded, and where its watchdog began the reset, the end is kept for the escalation (R500). -/
def State.prRunning (s : State) (b : Nat) : State :=
  match s.boot.resets.find? fun x => decide (x.1 = b) with
  | some (_, t, true) =>
    let s := ((s.endReset b).bump OD.PR_COUNT).note Ev.PARTIAL_RESET b
    s.setBoot { s.boot with wdEnd := s.boot.wdEnd.map fun x => if x = (b, t) then (b, s.now) else x }
  | _ => s

/-- PR_BLOCK_RUNNING. -/
def execPrBlockRunning (block : Fin 10) (s : State) : Host.Outcome State Fault Refusal := .next (s.prRunning block.val)

/-! ### Watchdogs (R500, Table 19.3) -/

/-- An expiry is recorded and counted. -/
def State.wdNote (s : State) (u : Nat) : State := (s.bump (OD.WD_COUNT u)).note Ev.WATCHDOG u

/-- The watchdog of a block: ignored while the block resets or has no power; within 10 s of the end of its partial reset it resets the module. -/
def State.wdBlock (s : State) (u b : Nat) : State :=
  if s.bit OD.PR_BUSY b || !s.domainOn (blockDomain b) then s
  else
    let s := s.wdNote u
    if s.boot.wdEnd.any fun x => decide (x.1 = b) && decide (s.now < x.2 + sec 10) then (s.requestReset 6).takeReset
    else (s.prStart b).setBoot { (s.prStart b).boot with wdEnd := (b, s.now) :: s.boot.wdEnd.filter fun x => decide (x.1 ≠ b) }

/-- WATCHDOG: 1 hub supervisor, 2 and 3 the house cores, 4–8 the blocks 1–5. -/
def State.watchdog (s : State) (u : Nat) : State :=
  if s.domainOn 1 then
    match u with
    | 0 => s
    | 1 => ((s.wdNote 1).requestReset 4).takeReset
    | 2 => if s.domainOn 3 then (s.wdNote 2).diagFailed .a else s
    | 3 => if s.domainOn 4 then (s.wdNote 3).diagFailed .b else s
    | u => s.wdBlock u (u - 3)
  else s

/-- WATCHDOG. -/
def execWatchdog (unit : Fin 9) (s : State) : Host.Outcome State Fault Refusal := .next (s.watchdog unit.val)

/-! ### The maintenance port (R520) -/

/-- M_CONNECTED: USB_VBUS rises above or falls below 4.0 V; with the connection the M session ends. (Log 28, DEDUCED, safe.) -/
def State.mConnected (s : State) (up : Bool) : State :=
  if s.domainOn 1 = false ∨ s.flag OD.M_CONNECTED = up ∨ (up = true ∧ s.tb.tcxoFailed = true) then s
  else if up then (s.putB OD.M_CONNECTED true).bump OD.M_ENUMERATIONS
  else (s.putB OD.M_CONNECTED false).closeSession 0x40

/-- M_CONNECTED. -/
def execMConnected (up : Bool) (s : State) : Host.Outcome State Fault Refusal := .next (s.mConnected up)

end Sys2Proof.Machine
end

