-- ==== Sys2Proof/Machine/Security.lean ====
section
/-!
DEFINITION. Machine/Security.lean: chapter 18, identity, operator certificates, images, tamper, the life cycle and vendor tokens.
-/
namespace Sys2Proof.Machine
open Sys2Proof

/-! ### Attestation (R473, R487) -/

/-- The 65-octet body: challenge, serial, versions, life cycle, SCS (0 on SVZ6416-A), configuration generation. -/
def State.attestBody (s : State) (challenge : List Byte) : List Byte :=
  challenge ++ leBytes 4 (s.nat OD.SERIAL) ++ leBytes 2 (s.nat OD.FW_VERSION) ++ leBytes 2 (s.nat OD.SVN_FLOOR) ++ leBytes 1 (s.nat OD.LC_STATE) ++
  leBytes 4 (if s.variant = .S then s.nat OD.SCS else 0) ++ leBytes 4 (s.nat OD.CONFIG_GEN)

/-- Octets followed by the device key's signature (r ‖ s) over their SHA-384. -/
def signed (body : List Byte) : List Byte := body ++ beBytes 96 (Config.sign (Config.sha384 body)).toNat

/-- ATTEST_CHALLENGE: 48 octets; without the device key refused (Table 18.6). -/
def State.attest (s : State) (session : Nat) (challenge : List Byte) : State × Reply :=
  match lengthRefusal challenge.length 48 48 with
  | some r => (s, r)
  | none =>
    if s.nat OD.KEY_STATE ≠ 1 then (s, Reply.wrongState)
    else
      let x := s.security
      (s.setSecurity { x with attest := x.attest.filter (fun a => decide (a.1 ≠ session)) ++ [(session, signed (s.attestBody challenge))] }, Reply.ok)

/-- ATTEST_CHALLENGE, answered in RETIRED and RECOVERY too (Table 18.4, R479). -/
def execAttestChallenge (session : Nat) (challenge : List Byte) (s : State) : Host.Outcome State Fault Refusal :=
  .next (s.serveCommand (if s.nat OD.OWNER_SESSION = session then 2 else 0) session (s.roleRefusal session) fun s => s.attest session challenge)

/-- The attestation of a session becomes available to it. -/
def State.attestReady (s : State) (session : Nat) : State :=
  let x := s.security
  match x.attest.find? fun a => decide (a.1 = session) with
  | some a => s.setSecurity { x with attest := x.attest.filter (fun a => decide (a.1 ≠ session))
                                     response := a :: x.response.filter (fun a => decide (a.1 ≠ session)) }
  | none => s

/-- ATTEST_RESPONSE_READY. -/
def execAttestResponseReady (session : Nat) (s : State) : Host.Outcome State Fault Refusal := .next (s.attestReady session)

/-- RETURN_REPORT (R487): the body for a challenge of zeros, serial, CLEAR_COUNT, NEWEST_SEQ, WIPE_COUNT, signed. -/
def State.returnReport (s : State) : List Byte :=
  signed (s.attestBody (List.replicate 48 0) ++ leBytes 4 (s.nat OD.SERIAL) ++ leBytes 4 (s.nat OD.CLEAR_COUNT) ++ leBytes 4 (s.nat OD.NEWEST_SEQ) ++
    leBytes 4 (s.nat OD.WIPE_COUNT))

/-! ### Operator certificates (R476, R477) -/

/-- The 36-octet entries of REVOKED. -/
def chunks36 : Nat → List Byte → List (List Byte)
  | 0, _ => []
  | n + 1, b => if b.length < 36 then [] else b.take 36 :: chunks36 n (b.drop 36)

/-- The validity period is not checked: free-running time and no valid clock (R476). -/
def State.validityUnchecked (s : State) : Bool := decide (s.nat OD.TIME_QUALITY = 0) && !s.bit OD.VAULT_FLAGS 2

/-- A host's chain is accepted (R476). -/
def State.chainOk (s : State) (c : CertChain) : Bool :=
  let utc := utcSecond s.taiNs (s.int OD.UTC_OFFSET)
  let revoked := chunks36 64 (s.octets OD.REVOKED)
  ((List.range 4).any fun i => s.octets (OD.ANCHOR i) ≠ [] && decide (s.octets (OD.ANCHOR i) = c.anchor)) && decide (c.length ≤ 4) && c.algorithmOk &&
  !(c.names.any revoked.contains) && (s.validityUnchecked || (decide (c.notBefore ≤ utc) && decide (utc ≤ c.notAfter)))

/-- The chain of a session on E1 or E2. -/
def State.chainOf (s : State) (session : Nat) : Option CertChain :=
  match (s.host session).assoc with
  | some a => (s.hosts.assocs.find? fun x => decide (x.1 = a)).map (·.2.2.1)
  | none => none

/-- Sessions whose chain no longer passes close with a notice; their associations end (R477). -/
def State.dropUnaccepted (s : State) : State :=
  let bad (x : Nat) : Bool := match s.chainOf x with
    | some c => !s.chainOk c
    | none => false
  let t := s.expel bad 0x71
  t.setHosts { t.hosts with assocs := t.hosts.assocs.filter fun a => s.chainOk a.2.2.1 }

/-- A write to ANCHOR_0–3 (`target` 0–3) or REVOKED (4). -/
def State.certChange (s : State) (session target : Nat) (data : List Byte) : State × Reply :=
  if (if target < 4 then 1024 else 2304) < data.length then (s, Reply.typeMismatch)
  else if 4 ≤ target ∧ data.length % 36 ≠ 0 then (s, Reply.outOfRange)
  else if s.secretsBarred then (s, Reply.wrongState)
  else
    let s := if target < 4 then s.put (OD.ANCHOR target) (.bytes data)
      else (s.put OD.REVOKED (.bytes data)).putN OD.REVOKED_COUNT (data.length / 36)
    ((s.occur { code := Ev.CERT_CHANGE, session := session }).dropUnaccepted, Reply.ok)

/-- CERT_CHANGE. -/
def execCertChange (session : Nat) (target : Fin 5) (data : List Byte) (s : State) : Host.Outcome State Fault Refusal :=
  .next (s.command session (s.serviceRefusal session) fun s => s.certChange session target.val data)

/-! ### Images (R478–R481) -/

/-- Only SERVICE and the owner load and activate. -/
def State.imageRefusal (s : State) (session : Nat) : Option Reply :=
  if s.nat OD.OWNER_SESSION = session ∧ sessIdx session < 11 then none else s.serviceRefusal session

/-- The slot that is not running. -/
def State.targetSlot (s : State) : Nat := 1 - s.security.running

/-- Image slot `i`. -/
def State.slot (s : State) (i : Nat) : ImageSlot := vget {} s.security.slots i

/-- A load ends: FW_IMAGE_STATE and what the target slot then holds. -/
def State.loadEnds (s : State) (st : Nat) (x : ImageSlot) : State :=
  ((s.setSecurity { s.security with load := none, slots := vset s.security.slots s.targetSlot x }).putN OD.FW_IMAGE_STATE st).refreshSlots

/-- A segment of FW_IMAGE; `found` is what verification finds at the last one. -/
def State.imageSegment (s : State) (session offset size : Nat) (last : Bool) (found : ImageInfo) : State × Reply :=
  let lane (l : Lane) : Bool := (s.lane l).booted && decide (vget 0 s.security.laneSlot l.num = s.targetSlot)
  let next := match s.security.load with
    | some (x, n) => if x = session then some n else none
    | none => none
  if lane .a || lane .b then (s, Reply.wrongState)
  else if 1024 < size ∨ 25165824 < offset + size then (if next.isSome then s.loadEnds 4 {} else s, { code := 0x13 })
  else if offset ≠ 0 ∧ next ≠ some offset then (if next.isSome then s.loadEnds 4 {} else s, { code := 0x15, qty := next.getD 0 })
  else
    let s := if offset = 0 then (s.loadEnds 1 {}) else s
    if last then
      (if found.good = true ∧ s.nat OD.SVN_FLOOR ≤ found.svn then
        (s.loadEnds 2 { valid := true, version := found.version, svn := found.svn, laneMin := found.laneMin, laneMax := found.laneMax }, Reply.ok)
       else (s.loadEnds 3 {}, Reply.outOfRange))
    else (s.setSecurity { s.security with load := some (session, offset + size), loadAt := s.now }, Reply.ok)

/-- FW_IMAGE_LOAD, in RECOVERY too. -/
def execFwImageLoad (session offset size : Nat) (last : Bool) (found : ImageInfo) (s : State) : Host.Outcome State Fault Refusal :=
  .next (s.serveCommand (if offset ≠ 0 then 0 else if s.nat OD.OWNER_SESSION = session then 2 else 0) session
    (if s.nat OD.LC_STATE = 4 then some Reply.wrongState else s.imageRefusal session) fun s => s.imageSegment session offset size last found)

/-- A firmware command of C020, open in RECOVERY, barred in RETIRED. -/
def State.imageCommand (s : State) (session : Nat) (refusal : Option Reply) (act : State → State × Reply) : State :=
  s.serveCommand (if s.nat OD.OWNER_SESSION = session then 2 else 0) session (if s.nat OD.LC_STATE = 4 then some Reply.wrongState else refusal) act

/-- FW_ACTIVATE 1 or 2: a lane is reloaded from the new slot, and boots again (LANE_BOOT_DONE). (Log 63, DEDUCED, unsafe.) -/
def State.activateLane (s : State) (l : Lane) : State × Reply :=
  let t := s.slot s.targetSlot
  let run := s.slot s.security.running
  let st := s.laneSt l
  if t.valid = true ∧ (st = 4 ∨ st = 6 ∨ st = 7 ∨ st = 0) ∧ s.serving = some l.other ∧ run.laneMin ≤ t.version ∧ t.version ≤ run.laneMax then
    let s := s.laneOff l
    (s.setSecurity { s.security with laneSlot := vset s.security.laneSlot l.num s.targetSlot }, Reply.ok)
  else (s, Reply.wrongState)

/-- FW_ACTIVATE_LANE. -/
def execFwActivateLane (session : Nat) (lane : Lane) (s : State) : Host.Outcome State Fault Refusal :=
  .next (s.imageCommand session (s.imageRefusal session) fun s => s.activateLane lane)

/-- FW_ACTIVATE 3: the new slot is preferred and the module resets, after a handover where it is the active of a pair. -/
def State.activateModule (s : State) : State × Reply :=
  if (s.slot s.targetSlot).valid = true ∧ (s.nat OD.LAW_STATE = 0 ∨ s.handoverOk = true) then
    ((s.putN OD.FW_SLOT_PREF s.targetSlot).requestReset 5, Reply.ok)
  else (s, Reply.wrongState)

/-- FW_ACTIVATE_MODULE: answered, then taken. -/
def execFwActivateModule (session : Nat) (s : State) : Host.Outcome State Fault Refusal :=
  .next (s.imageCommand session (s.imageRefusal session) fun s => s.activateModule).takeReset

/-- FW_ACCEPT (R480). -/
def State.fwAccept (s : State) : State × Reply :=
  let run (l : Lane) : Bool := (s.lane l).booted && decide (vget 0 s.security.laneSlot l.num = s.security.running)
  if run .a && run .b then (s.putN OD.SVN_FLOOR (Nat.max (s.nat OD.SVN_FLOOR) (s.slot s.security.running).svn), Reply.ok) else (s, Reply.wrongState)

/-- FW_ACCEPT. -/
def execFwAccept (session : Nat) (s : State) : Host.Outcome State Fault Refusal :=
  .next (s.imageCommand session (s.serviceRefusal session) fun s => s.fwAccept)

/-! ### Tamper (R482, R483) -/

/-- A tamper source appears or goes; source 4 is seen only without the module's supply, and takes the vault key, clock and RTC with it (R467). -/
def State.tamper (s : State) (i : Nat) (isPresent : Bool) : State :=
  if s.security.tamperPresent.testBit i = isPresent ∨ (i = 4 ∧ isPresent = true ∧ s.domainOn 1 = true) then s
  else
    let s := s.setSecurity { s.security with tamperPresent := withBit s.security.tamperPresent i isPresent }
    if isPresent then
      let s := if s.bit OD.TAMPER_EN i then s.tamperDetect i else if i = 4 then s.secWipe 4 else s
      if i = 4 then (s.putBit OD.VAULT_FLAGS 2 false).putBit OD.VAULT_FLAGS 0 true else s
    else s

/-- TAMPER. -/
def execTamper (source : Fin 5) (isPresent : Bool) (s : State) : Host.Outcome State Fault Refusal := .next (s.tamper source.val isPresent)

/-- TAMPER_CLEAR (R483): bits of absent sources. -/
def State.tamperClear (s : State) (mask : Nat) : State × Reply :=
  if 0x1F < mask then (s, Reply.outOfRange)
  else
    let keep (i : Nat) : Bool := s.bit OD.TAMPER_LATCH i && (!mask.testBit i || s.security.tamperPresent.testBit i)
    (s.putN OD.TAMPER_LATCH ((List.range 5).foldl (init := 0) fun n i => if keep i then n + 2 ^ i else n), Reply.ok)

/-- TAMPER_CLEAR. -/
def execTamperClear (session : Nat) (mask : BitVec 8) (s : State) : Host.Outcome State Fault Refusal :=
  .next (s.command session (s.serviceRefusal session) fun s => s.tamperClear mask.toNat)

/-! ### Life cycle (R484, R485) -/

/-- A transition (R484): wipe, sessions closed but one on M, a word burned (RETIRED has its own fuse), recorded. -/
def State.transition (s : State) (lcTo session : Nat) : State :=
  let old := s.nat OD.LC_STATE
  let s := (s.secWipe 2).expel (fun x => decide (x ≠ 0x40)) 0x71
  let s := if lcTo = 4 then s else s.putN OD.LC_TRANSITIONS (s.nat OD.LC_TRANSITIONS + 1)
  let s := s.putN OD.LC_STATE lcTo
  let s := s.setSecurity { s.security with lcReq := none }
  s.occur { code := Ev.LIFECYCLE, detail := old * 16 + lcTo, session := session }

/-- LC_REQ is open (R485, Tables 18.4, 18.6): the recorder frozen, the law OFF, outputs OFF or SAFE, no image loading, a word left. -/
def State.lcAllowed (s : State) (req : Nat) : Bool :=
  let lc := s.nat OD.LC_STATE
  s.recorder.frozen && decide (s.nat OD.LAW_STATE = 0) && (decide (s.nat OD.OUT_STATE = 0) || decide (s.nat OD.OUT_STATE = 5)) &&
  s.security.load.isNone &&
  (if req = 3 then decide (1 ≤ lc) && decide (lc ≤ 3) else decide (lc = 1) && decide (s.nat OD.LC_TRANSITIONS < 64))

/-- Why a session may not request: SERVICE, for RETIRED on M. -/
def State.lcRefusal (s : State) (req session : Nat) : Option Reply :=
  if req = 3 ∧ session ≠ 0x40 then some Reply.roleDenied else s.serviceRefusal session

/-- LC_REQ. -/
def State.lcRequest (s : State) (req session : Nat) : State × Reply :=
  if s.lcAllowed req then
    let s := s.freshNonce OD.LC_NONCE
    (s.setSecurity { s.security with lcReq := some (session, req, s.now) }, Reply.ok)
  else (s, Reply.wrongState)

/-- LC_REQ_RETURN. -/
def execLcReqReturn (session : Nat) (s : State) : Host.Outcome State Fault Refusal :=
  .next (s.command session (s.lcRefusal 1 session) fun s => s.lcRequest 1 session)

/-- LC_REQ_SANITISED. -/
def execLcReqSanitised (session : Nat) (s : State) : Host.Outcome State Fault Refusal :=
  .next (s.command session (s.lcRefusal 2 session) fun s => s.lcRequest 2 session)

/-- LC_REQ_RETIRED. -/
def execLcReqRetired (session : Nat) (s : State) : Host.Outcome State Fault Refusal :=
  .next (s.command session (s.lcRefusal 3 session) fun s => s.lcRequest 3 session)

/-- The request ends. -/
def State.lcEnd (s : State) : State := s.setSecurity { s.security with lcReq := none }

/-- LC_CONFIRM: the nonce from the requesting session within 60 s makes the transition; anything else ends the request. (Log 64, DESIGN CHOICE, unsafe.) -/
def State.lcConfirm (s : State) (session : Nat) (nonce : List Byte) : State × Reply :=
  match lengthRefusal nonce.length 16 16 with
  | some r => (s, r)
  | none =>
    match s.security.lcReq with
    | some (who, req, at1) =>
      if who = session ∧ nonce = s.octets OD.LC_NONCE ∧ s.now ≤ at1 + sec 60 then
        let s := s.transition (req + 1) session
        (if req = 2 then { s with power := { s.power with copies := Vector.replicate 2 {} } } else s, Reply.ok)
      else (s.lcEnd, Reply.wrongState)
    | none => (s, Reply.wrongState)

/-- LC_CONFIRM. -/
def execLcConfirm (session : Nat) (nonce : List Byte) (s : State) : Host.Outcome State Fault Refusal :=
  .next (s.command session (s.serviceRefusal session) fun s => s.lcConfirm session nonce)

/-- LC_REQ_EXPIRY: 60 s without its confirmation. -/
def State.lcExpiry (s : State) : State :=
  match s.security.lcReq with
  | some (_, _, at1) => if at1 + sec 60 < s.now then s.lcEnd else s
  | none => s

/-- LC_REQ_EXPIRY. -/
def execLcReqExpiry (s : State) : Host.Outcome State Fault Refusal := .next s.lcExpiry

/-! ### Vendor tokens (R488, R489) -/

/-- A field of the token's body, which is laid out as a number, least significant octet first (R316). (Log 62, DESIGN CHOICE, unsafe.) -/
def tokenField (token : List Byte) (lo w : Nat) : Nat :=
  ((token.drop (lo / 8)).take (w / 8)).foldr (fun b n => n * 256 + b.toNat) 0

/-- A token passes the checks of Table 18.5; `signedOk`: its signature is that of the vendor service key. -/
def State.tokenOk (s : State) (token : List Byte) (signedOk : Bool) : Bool :=
  signedOk && decide (tokenField token 248 8 = 1) && decide (tokenField token 208 32 = s.nat OD.SERIAL) &&
  decide (tokenField token 200 8 = s.nat OD.LC_STATE) && decide ((token.drop 8).take 16 = s.octets OD.UNLOCK_NONCE) &&
  (decide (tokenField token 240 8 = 1) || decide (tokenField token 240 8 = 2))

/-- A vendor token is written (R488, R489): KIND 1 opens the vendor range to the M session, KIND 2 returns the module to FIELD. UNLOCK_NONCE is
drawn afresh after each. -/
def State.vendorToken (s : State) (session : Nat) (token : List Byte) (signedOk : Bool) : State × Reply :=
  match lengthRefusal token.length 128 128 with
  | some r => (s, r)
  | none =>
    let ok := s.tokenOk token signedOk
    let back := decide (s.nat OD.LC_STATE = 2) || decide (s.nat OD.LC_STATE = 3)
    let s := s.freshNonce OD.UNLOCK_NONCE
    if !ok then (s.occur { code := Ev.AUTH_FAIL, session := session }, Reply.outOfRange)
    else if !back then (s, Reply.wrongState)
    else if tokenField token 240 8 = 1 then (s.setSecurity { s.security with vendorOpen := true }, Reply.ok)
    else if 64 ≤ s.nat OD.LC_TRANSITIONS then (s, Reply.wrongState)
    else (((s.transition 1 session).recUnfreeze session).1, Reply.ok)

/-- Vendor tokens are written by a SERVICE session on M. -/
def State.vendorRefusal (s : State) (session : Nat) : Option Reply :=
  if session ≠ 0x40 then some Reply.roleDenied else s.serviceRefusal session

/-- VENDOR_UNLOCK. -/
def execVendorUnlock (session : Nat) (token : List Byte) (signed : Bool) (s : State) : Host.Outcome State Fault Refusal :=
  .next (s.command session (s.vendorRefusal session) fun s => s.vendorToken session token signed)

/-- VENDOR_RECOMMISSION; a token's KIND says which of the two it is. -/
def execVendorRecommission (session : Nat) (token : List Byte) (signed : Bool) (s : State) : Host.Outcome State Fault Refusal :=
  .next (s.command session (s.vendorRefusal session) fun s => s.vendorToken session token signed)

end Sys2Proof.Machine
end

