-- ==== Sys2Proof/Machine/Entry.lean ====
section
/-!
DEFINITION. Machine/Entry.lean: chapter 12, which entries exist, who may reach them, and what a read of one returns (R315–R320, R344).
-/
namespace Sys2Proof.Machine
open Sys2Proof

/-! ### Which entries exist (R315, R320) -/

/-- NO_ENTRY. -/
def Reply.noEntry : Reply := { code := 0x10 }
/-- NO_ACCESS. -/
def Reply.noAccess : Reply := { code := 0x11 }

/-- Why an entry cannot be reached: absent, or of the safety island on SVZ6416-A. The spec names no entry of the vendor range. (Log 61, DEDUCED, unsafe.) -/
def State.entryAbsent (s : State) (index sub : Nat) : Option Reply :=
  if sub = 0 then (match OD.highestSub index with
    | some _ => if s.variant = .A ∧ 0x7000 ≤ index ∧ index ≤ 0x71FF then some { code := 0x12 } else none
    | none => some Reply.noEntry)
  else
    match OD.findRow index sub with
    | some _ => if s.variant = .A ∧ 0x7000 ≤ index ∧ index ≤ 0x71FF then some { code := 0x12 } else none
    | none => some Reply.noEntry

/-- A setting or the data of a CAN object reserved for CANopen FD: transmit objects 28–31, receive objects 60–63 cannot be configured (R390; log 112,
DEDUCED, unsafe). -/
def reservedCan (index sub : Nat) : Bool :=
  (decide (0x9120 ≤ index) && decide (index < 0x9160) && decide (28 ≤ (index - 0x9120) % 32) && decide (sub ≤ 4)) ||
  (decide (0x9160 ≤ index) && decide (index < 0x91E0) && decide (60 ≤ (index - 0x9160) % 64) && decide (sub ≤ 3))

/-- The access class of an entry that exists; sub-index 0 is RO, and so are the settings of M, the requests of D0–D2 and the reserved CAN objects
(R390, Tables 12.13, 17.8). -/
def entryAccess (index sub : Nat) : Access :=
  if sub = 0 then .RO
  else if (index = 0x9304 ∧ sub ≤ 2) ∨ (0xB100 ≤ index ∧ index ≤ 0xB102 ∧ sub = 1) ∨ reservedCan index sub then .RO
  else
    match OD.findRow index sub with
    | some r => r.acc
    | none => .RO

/-- The type of an entry. -/
def entryType (index sub : Nat) : Ty :=
  if sub = 0 then .u8
  else
    match OD.findRow index sub with
    | some r => r.ty
    | none => .u8

/-- The block whose port serves an index (Table 19.4). -/
def entryBlock (index : Nat) : Option Nat :=
  if 0x8000 ≤ index ∧ index ≤ 0x80FF then some 2
  else if 0x8100 ≤ index ∧ index ≤ 0x81FF then some 3
  else if (0x4400 ≤ index ∧ index ≤ 0x44FF) ∨ (0x4800 ≤ index ∧ index ≤ 0x48FF) then some 4
  else if 0x2200 ≤ index ∧ index ≤ 0x22FF then some 5
  else if 0x9100 ≤ index ∧ index < 0x9120 then some (6 + index % 2)
  else if 0x9120 ≤ index ∧ index < 0x9160 then some (6 + (index - 0x9120) / 32)
  else if 0x9160 ≤ index ∧ index < 0x91E0 then some (6 + (index - 0x9160) / 64)
  else if 0x9000 ≤ index ∧ index < 0x9010 then some (8 + index % 2)
  else if 0x9020 ≤ index ∧ index < 0x9040 then some (8 + (index - 0x9020) / 16)
  else none

/-- BUSY_RESET while the block of an index is reset or its domain is off (R501). -/
def State.entryBusy (s : State) (index : Nat) : Option Reply :=
  match entryBlock index with
  | some b => s.blockBusy b
  | none => none

/-- In RECOVERY only indexes 1000, C000 and C020 work (R479). -/
def State.entryBarred (s : State) (index : Nat) : Bool :=
  decide (s.nat OD.BOOT_STATE = 12) && !(decide (index = 0x1000) || decide (index = 0xC000) || decide (index = 0xC020))

/-! ### Values formed as they are read -/

/-- Characters as octets. -/
def ascii (t : String) : List Byte := t.toList.map fun c => BitVec.ofNat 8 c.toNat

/-- An entry another session's commit has changed since it was staged (R334). -/
def State.isStale (s : State) (session : Nat) (x : Nat × Staged) : Bool :=
  let c := sparseGet (fun _ => 0) s.hosts.changed x.1
  decide (x.2.gen < c / 256) && decide (c % 256 ≠ session)

/-- The staged entries of a session that are stale. -/
def State.staleOf (s : State) (session : Nat) : List (Nat × Staged) := (s.host session).staged.filter fun x => s.isStale session x

/-- TAMPER_LOG: 16 entries of 12 octets, those not used 0 (R482). -/
def State.tamperLog (s : State) : List Byte :=
  let b := (s.security.tamperLog.map fun x => leBytes 8 x.1 ++ leBytes 2 x.2.1 ++ leBytes 1 x.2.2 ++ leBytes 1 0).flatten
  b ++ List.replicate (192 - b.length) 0

/-- What a session reads of entries that depend on it (R352, R405, R441). -/
def State.ownVal (s : State) (session k : Nat) : Option Val :=
  let c := s.cursor session
  let p := sessPort session
  let n (x : Nat) : Option Val := some (.num x)
  if k = OD.REC_CURSOR then n c.seq
  else if k = OD.REC_CURSOR_WRAP then n c.wrap
  else if k = OD.REC_FILTER then n c.filter
  else if k = OD.REC_MIN_SEV then n c.minSev
  else if k = OD.STAGED_COUNT then n (s.host session).staged.length
  else if k = OD.STALE_COUNT then n (s.staleOf session).length
  else if k = OD.SAFETY_STAGED then n (s.safetyStaged session).length
  else if k = OD.PW_FAILURES then n (Nat.min (vget 0 s.safety.fails p) 255)
  else if k = OD.LOCKOUT_LEFT then n ((s.lockoutTicks p + 624999999) / 625000000)
  else if k = OD.ATTEST_RESPONSE then some (.bytes (((s.security.response.find? fun a => decide (a.1 = session)).map (·.2)).getD []))
  else none

/-- What the module forms that is no whole number. -/
def State.octetVal (s : State) (k : Nat) : Option Val :=
  if k = OD.PRODUCT then some (.bytes (ascii (if s.variant = .A then "SVZ6416-A" else "SVZ6416-S")))
  else if k = OD.TAI_NOW then some (.num s.tai80)
  else if k = OD.TAMPER_LOG then some (.bytes s.tamperLog)
  else if k = OD.LOG_DATA then some (.bytes s.logData)
  else if k = OD.TCXO_VS_REF ∧ s.refInUse = true then some (.num s.tcxoVsRef)
  else if 0x2200 ≤ k / 256 ∧ k / 256 < 0x2220 ∧ k % 256 = 0x0E then some (.num (s.rhoNow (k / 256 - 0x2200)))
  else none

/-- The value of entry `k` as a session reads it. -/
def State.entryVal (s : State) (session k : Nat) : Val :=
  (((s.ownVal session k).orElse fun _ => s.octetVal k).orElse fun _ => (s.formed k).map fun n => .num n).getD (s.od k)

/-! ### Reading (R318, R344) -/

/-- The answer that carries a value: a whole number, or up to 1,024 octets of STR and OCT from OFFSET with their total length. (Log 56, DEDUCED, unsafe.) -/
def valReply (ty : Ty) (v : Val) (offset : Nat) : Reply :=
  if tySize ty = 0 then { qty := (Val.asBytes v).length, offset := offset, data := ((Val.asBytes v).drop offset).take 1024 } else { data := encodeVal ty v }

/-- Why RETURN_REPORT is not read: SERVICE on M, in a RETURN state, with the device key (R487, Table 18.6). -/
def State.reportRefusal (s : State) (session : Nat) : Option Reply :=
  if session ≠ 0x40 ∨ s.nat (OD.SESSION_ROLE (sessIdx session)) ≠ 2 then some Reply.roleDenied
  else if (s.nat OD.LC_STATE ≠ 2 ∧ s.nat OD.LC_STATE ≠ 3) ∨ s.nat OD.KEY_STATE ≠ 1 then some Reply.wrongState
  else none

/-- What a read does beside returning the value: buffers of CAN objects, SENT since the last read, renewal of a safety login. -/
def State.readEffect (s : State) (session index sub : Nat) : State :=
  if 0x9160 ≤ index ∧ index < 0x91E0 ∧ (sub = 4 ∨ sub = 5) then s.rxRead ((index - 0x9160) / 64) ((index - 0x9160) % 64) (sub = 4)
  else if entryAccess index sub = .RWS then s.rwsAccess session
  else s

/-- What follows a read: TX_STATE shows "sent" once (Table 14.8). -/
def State.readAfter (s : State) (index sub : Nat) : State :=
  if 0x9120 ≤ index ∧ index < 0x9160 ∧ sub = 6 then s.putBit (OD.TX_STATE ((index - 0x9120) / 32) ((index - 0x9120) % 32)) 0 false else s

/-- The answer of an ordinary entry. -/
def State.plainRead (s : State) (session index sub offset : Nat) : State × Reply :=
  let t := s.readEffect session index sub
  (t.readAfter index sub, valReply (entryType index sub) (t.entryVal session (OD.key index sub)) offset)

/-- A read of an entry. -/
def State.readEntry (s : State) (session index sub offset : Nat) (staged : Bool) : State × Reply :=
  let k := OD.key index sub
  match s.entryAbsent index sub with
  | some r => (s, r)
  | none =>
    if entryAccess index sub = .WO then (s, Reply.noAccess)
    else if s.entryBarred index then (s, Reply.wrongState)
    else
      match s.entryBusy index with
      | some r => (s, r)
      | none =>
        if k = OD.REC_DATA then (s, s.recData session offset)
        else if 0x8100 ≤ index ∧ index < 0x8104 ∧ k = OD.CAPT_DATA (index - 0x8100) then s.captData (index - 0x8100) offset
        else if k = OD.RETURN_REPORT then
          (match s.reportRefusal session with
           | some r => (s, r)
           | none => (s, valReply .oct (.bytes s.returnReport) offset))
        else
          match (if staged ∧ entryAccess index sub = .RWC then (s.host session).staged.find? fun x => decide (x.1 = k) else none) with
          | some x => (s, { valReply (entryType index sub) x.2.val offset with detail := 1 })
          | none => s.plainRead session index sub offset

end Sys2Proof.Machine
end

