-- ==== Sys2Proof/Machine/Locks.lean ====
section
/-!
DEFINITION. Machine/Locks.lean: chapter 12, what a write must pass before it has any effect: access, role, type, range and state locks
(R316–R319, R324, R332, R533).
-/
namespace Sys2Proof.Machine
open Sys2Proof

/-! ### Types (Table 12.1) -/

/-- Octets as a number, least significant first. -/
def leNat (b : List Byte) : Nat := b.foldr (fun x n => n * 256 + x.toNat) 0

/-- A number of a type's width as its value: two's complement for the signed types. -/
def tyInt (ty : Ty) (n : Nat) : Int :=
  if ty = .i16 ∧ 2 ^ 15 ≤ n then (n : Int) - 2 ^ 16 else if ty = .i32 ∧ 2 ^ 31 ≤ n then (n : Int) - 2 ^ 32 else n

/-- A length lies in the spans an entry states. -/
def lengthOk (spans : List Span) (n : Nat) : Bool :=
  spans.isEmpty || spans.any fun sp => match sp with
    | .len lo hi => decide (lo ≤ n) && decide (n ≤ hi)
    | _ => true

/-- The greatest length an entry states; 65,535 where it states none. -/
def lengthMax (spans : List Span) : Nat :=
  spans.foldl (init := if spans.isEmpty then 65535 else 0) fun m sp => match sp with
    | .len _ hi => Nat.max m hi
    | _ => m

/-- The value data spell for a row (R317): STR is judged by its characters where its subject says so; a subnormal becomes +0.0. -/
def parseVal (r : OdRow) (b : List Byte) : Except Reply Val :=
  if r.ty = .str then
    (if 255 < b.length ∨ utf8Chars b = none then .error Reply.typeMismatch else .ok (.bytes b))
  else if r.ty = .oct then
    (if lengthMax r.range < b.length then .error Reply.typeMismatch
     else if lengthOk r.range b.length then .ok (.bytes b) else .error Reply.outOfRange)
  else if b.length ≠ tySize r.ty then .error Reply.typeMismatch
  else if r.ty = .bool ∧ 1 < leNat b then .error Reply.outOfRange
  else if r.ty = .f32 then
    let x : F32 := BitVec.ofNat 32 (leNat b)
    if ffinite x && inRange r ((fflush x).toNat : Nat) then .ok (.num ((fflush x).toNat : Nat)) else .error Reply.outOfRange
  else if inRange r (tyInt r.ty (leNat b)) then .ok (.num (tyInt r.ty (leNat b)))
  else .error Reply.outOfRange

/-! ### Ranges their columns state in words -/

/-- An identifier of Table 15.2 that names a signal (R396). -/
def validSignal (id : Nat) : Bool :=
  decide (id = 0) || (decide (0x100 ≤ id) && decide (id < 0x120)) || (decide (0x200 ≤ id) && decide (id < 0x220)) ||
  (decide (0x300 ≤ id) && decide (id ≤ 0x30B)) || (decide (0x1000 ≤ id) && decide (id < 0x1600)) ||
  (decide (0x100000 ≤ id) && decide (id < 0x1000000) &&
    (if id % 256 = 0 then (OD.highestSub (id / 256)).isSome
     else match OD.findRow (id / 256) (id % 256) with
      | some r => decide (r.ty ≠ .u64) && decide (r.ty ≠ .tai80) && decide (r.ty ≠ .str) && decide (r.ty ≠ .oct)
      | none => false))

/-- The bit timing of Table 14.1, by sub-index 0x03–0x0A of OD (9100 + k). -/
def canTiming (sub n : Nat) : Bool :=
  let lo := if sub = 4 ∨ sub = 5 then 2 else 1
  let hi := if sub = 3 ∨ sub = 4 then 256 else if sub = 5 ∨ sub = 6 then 128 else if sub = 7 ∨ sub = 8 then 32 else 16
  decide (lo ≤ n) && decide (n ≤ hi)

/-- A word of REC_CFG: BURST 1–255, REFILL 1–60,000 ms, reserved bits 0. -/
def recCfgOk (n : Nat) : Bool :=
  decide (n / 2 ^ 24 ≠ 0) && decide (n / 256 % 65536 ≠ 0) && decide (n / 256 % 65536 ≤ 60000) && decide (n % 16 = 0)

/-- A column word: a TYPE of Table 14.2, TX_ENABLE at least 1 in a used column, reserved bits 0. -/
def columnOk (w : Nat) : Bool :=
  decide (colType w ≤ 5) && (decide (colType w = 0) || decide (w / 2 ^ 16 % 4096 ≠ 0)) && decide (w % 65536 = 0)

/-- A trigger word: REPEAT 0–6, reserved bits 0 (Table 14.3). -/
def triggerOk (w : Nat) : Bool := decide (trigRep w ≤ 6) && decide (w % 4096 = 0)

/-- What the Range/unit column of an entry asks beyond its spans. -/
def wordRange (index sub n : Nat) : Bool :=
  if 0x2100 ≤ index ∧ index < 0x2120 ∧ sub = 5 then decide (index % 2 = 0) || decide (n = 0)
  else if 0x4001 ≤ index ∧ index < 0x4009 ∧ sub = 1 then decide (n % 2 = 0)
  else if 0x5001 ≤ index ∧ index < 0x5007 ∧ sub = 2 then decide (n = 0) || decide (index % 2 = 0)
  else if 0x8020 ≤ index ∧ index < 0x8030 then validSignal n
  else if 0x8041 ≤ index ∧ index ≤ 0x8052 then recCfgOk n
  else if 0x8110 ≤ index ∧ index < 0x8114 then validSignal n
  else if 0x9100 ≤ index ∧ index < 0x9102 ∧ 3 ≤ sub ∧ sub ≤ 0x0A then canTiming sub n
  else if 0x9112 ≤ index ∧ index < 0x9114 then columnOk n
  else if 0x9114 ≤ index ∧ index < 0x9116 then triggerOk n
  else if (0x9120 ≤ index ∧ index < 0x91E0) ∧ sub = 1 then decide (n / 2 ^ 29 % 4 = 0)
  else if index = 0xB020 ∧ sub = 1 then decide (n / 256 ≤ 2)
  else if 0xB100 ≤ index ∧ index < 0xB110 ∧ sub = 1 then pwrReqInRange (index - 0xB100) n
  else true

/-- The value a write of an entry spells, or why it is refused (R317). -/
def checkVal (index sub : Nat) (b : List Byte) : Except Reply Val :=
  match OD.findRow index sub with
  | none => .error Reply.noEntry
  | some r =>
    match parseVal r b with
    | .error e => .error e
    | .ok v => if wordRange index sub (Val.asInt v).toNat then .ok v else .error Reply.outOfRange

/-! ### State locks (R319) -/

/-- Entries that keep their value while LAW_STATE is not OFF (R123, R194). -/
def lawLocks (index sub : Nat) : Bool :=
  (decide (index = 0x3000) && decide (sub ≤ 6)) || decide (index = 0x3010) ||
  (decide (index = 0x4000) && decide (sub = 1)) || (decide (0x4001 ≤ index) && decide (index < 0x4009) && (decide (sub = 1) || decide (sub = 3))) ||
  (decide (0x4010 ≤ index) && decide (index < 0x4028) && decide (sub ≤ 8)) || (decide (index = 0x4100) && decide (sub = 1)) ||
  (decide (index = 0x4200) && (decide (sub = 1) || decide (sub = 5)))

/-- A value of class RWC cannot be taken in the present state; `atCommit`: also what is checked at a commit alone (Table 17.2). -/
def State.stateLocked (s : State) (index sub : Nat) (v : Val) (atCommit : Bool) : Bool :=
  (lawLocks index sub && decide (s.nat OD.LAW_STATE ≠ 0)) ||
  (decide (0xB100 ≤ index) && decide (index < 0xB110) && decide (sub = 1) && s.pwrLocked (index - 0xB100) (Val.asInt v).toNat) ||
  (atCommit && decide (0x8100 ≤ index) && decide (index < 0x8104) && decide (sub = 1) && decide (v ≠ .num 0) && s.captFenced (index - 0x8100))

/-- An armed launch slot keeps its frame, time and period (R369). -/
def State.slotArmed (s : State) (index sub : Nat) : Bool :=
  decide (0x9020 ≤ index) && decide (index < 0x9040) && decide (sub ≤ 3) &&
  decide (s.nat (OD.LAUNCH_STATE ((index - 0x9020) / 16) ((index - 0x9020) % 16)) = 1)

/-! ### Access and role (R318, R324, Table 12.6) -/

/-- No write is served: RETIRED is read-only but for the attestation, RECOVERY serves a few indexes (Table 18.4, R479). -/
def State.writeBarred (s : State) (index sub : Nat) : Bool :=
  (decide (s.nat OD.LC_STATE = 4) && !(decide (index = 0xC000) && decide (sub = 6))) || s.entryBarred index

/-- Why the role of a session does not allow a write of an RWC entry; the standby of a pair takes none (R308). -/
def State.stageRefusal (s : State) (session index : Nat) : Option Reply :=
  match (if index = 0xC030 then s.serviceRefusal session else s.roleRefusal session) with
  | some r => some r
  | none => if s.standbyModule = true ∧ ¬ (0xB100 ≤ index ∧ index < 0xB110) then some { code := 0x7C } else none

/-- Why a session may not write an RW or WO entry outside 2000–6FFF. -/
def State.otherRefusal (s : State) (session index sub : Nat) : Option Reply :=
  if index = 0x1F00 then (match s.roleRefusal session with
    | some r => some r
    | none => if sub = 1 ∧ s.standbyModule = true then some { code := 0x7C } else none)
  else if 0x7000 ≤ index ∧ index ≤ 0x71FF then s.safetyRefusal session
  else if (index = 0x8000 ∧ sub = 6) ∨ index = 0x8010 then none
  else if index = 0x9220 ∨ index = 0x9240 then s.resetRefusal session
  else if index = 0x9310 then none
  else if index = 0xC020 ∧ (sub = 2 ∨ sub = 4) then s.imageRefusal session
  else if index = 0xC040 ∧ sub = 5 then s.vendorRefusal session
  else if 0xC010 ≤ index ∧ index ≤ 0xC040 then s.serviceRefusal session
  else s.roleRefusal session

/-- Why a session may not write an entry that exists, whatever the value. -/
def State.accessRefusal (s : State) (session index sub : Nat) : Option Reply :=
  match entryAccess index sub with
  | .RO => some Reply.noAccess
  | .RWC => s.stageRefusal session index
  | .RWS => s.rwsRefusal session
  | _ => if 0x2000 ≤ index ∧ index ≤ 0x6FFF then s.ownerRefusal session else s.otherRefusal session index sub

/-- The session's own commit runs: staging, discard and further commits wait for it (R336). -/
def State.commitPending (s : State) (session index sub : Nat) : Bool :=
  (decide (entryAccess index sub = .RWC) || decide (index = 0x1F00)) &&
  (match s.hosts.commit with
   | some c => decide (c.session = session)
   | none => false)

/-- Why a write is refused before its value is looked at. The order of refusals is the model's (log 45, DESIGN CHOICE, unsafe). -/
def State.writeRefusal (s : State) (session index sub : Nat) : Option Reply :=
  match s.entryAbsent index sub with
  | some r => some r
  | none =>
    if entryAccess index sub = .RO then some Reply.noAccess
    else if s.writeBarred index sub then some Reply.wrongState
    else
      match (if entryAccess index sub = .RWC then none else s.entryBusy index) with
      | some r => some r
      | none =>
        match s.accessRefusal session index sub with
        | some r => some r
        | none => if s.commitPending session index sub then some { code := 0x19 } else none

end Sys2Proof.Machine
end

