-- ==== Sys2Proof/Machine/Commit.lean ====
section
/-!
DEFINITION. Machine/Commit.lean: chapter 12, staging, commits with their checks, and the switching boundary (R332–R337, R533, R114, R295).
-/
namespace Sys2Proof.Machine
open Sys2Proof

/-! ### Staging (R332) -/

/-- STAGING_FULL. -/
def Reply.stagingFull : Reply := { code := 0x76 }

/-- Octets of data of a value of entry `k`. -/
def valSize (k : Nat) (v : Val) : Nat :=
  match v with
  | .bytes b => b.length
  | .num _ => tySize (entryType (k / 256) (k % 256))

/-- A checked RWC write goes into the session's staging set with the CONFIG_GEN it was staged at; it replaces an earlier one of the entry. -/
def State.stage (s : State) (session k : Nat) (v : Val) : State × Reply :=
  if s.stateLocked (k / 256) (k % 256) v false then (s, Reply.wrongState)
  else
    let h := s.host session
    let set : List (Nat × Staged) := h.staged.filter (fun x => decide (x.1 ≠ k)) ++ [(k, { val := v, gen := s.nat OD.CONFIG_GEN })]
    if 1024 < set.length ∨ 65536 < set.foldl (fun n x => n + valSize x.1 x.2.val) 0 then (s, Reply.stagingFull)
    else (s.setHost session { h with staged := set }, Reply.ok)

/-- The staging set is emptied. -/
def State.unstage (s : State) (session : Nat) : State := s.setHost session { s.host session with staged := [] }

/-- DISCARD (R336, R337). -/
def State.discard (s : State) (session : Nat) : State × Reply := (s.unstage session, Reply.ok)

/-- Why a session may not commit or discard: an OBSERVER, the standby of a pair (`commits`: COMMIT alone), its own commit running. -/
def State.commitRefusal (s : State) (session : Nat) (commits : Bool) : Option Reply :=
  match s.otherRefusal session 0x1F00 (if commits then 1 else 2) with
  | some r => some r
  | none => if s.commitPending session 0x1F00 1 then some { code := 0x19 } else none

/-- DICT_DISCARD. -/
def execDictDiscard (session : Nat) (s : State) : Host.Outcome State Fault Refusal :=
  .next (s.command session (s.commitRefusal session false) fun s => s.discard session)

/-! ### The checks of a commit (R333) -/

/-- A refusal that names an entry: DETAIL the index, QTY the sub-index. -/
def entryRefusal (code k : Nat) : Option Reply := some { code := code, detail := k / 256, qty := k % 256 }

/-- The values a session has staged, oldest first. -/
def State.stagedVals (s : State) (session : Nat) : List (Nat × Val) := (s.host session).staged.map fun x => (x.1, x.2.val)

/-- The state with a set's values in its entries. -/
def State.withSet (s : State) (set : List (Nat × Val)) : State := set.foldl (init := s) fun s x => s.put x.1 x.2

/-- Check 1: stale entries (R334), with the first and their number. -/
def State.staleRefusal (s : State) (session : Nat) : Option Reply :=
  match s.staleOf session with
  | [] => none
  | x :: xs => some { code := 0x40, detail := x.1 / 256, qty := x.1 % 256 * 2 ^ 24 + (xs.length + 1) }

/-- Check 2a: state locks (R319), then power domains as a whole (R461); `c` holds the set. -/
def State.lockRefusal (s c : State) (set : List (Nat × Val)) : Option Reply :=
  match set.find? fun x => s.stateLocked (x.1 / 256) (x.1 % 256) x.2 true with
  | some x => entryRefusal 0x18 x.1
  | none =>
    if set.any fun x => decide (0xB100 ≤ x.1 / 256) && decide (x.1 / 256 < 0xB110) then
      match c.requirementMissing with
      | some d => entryRefusal 0x18 (OD.PWR_REQ d)
      | none => none
    else none

/-- Check 2b: ranges that depend on other entries (R49, R51, R533), of the state `c` the commit would put in force. -/
def State.dependentRefusal (c : State) : Option Reply :=
  if c.nat OD.SS_MODE = 2 ∧ 25 < c.nat OD.SS_DEPTH then entryRefusal 0x14 OD.SS_DEPTH
  else if c.shortestPeriod < 2 * (c.int OD.INTERLEAVE_TRIM).natAbs then entryRefusal 0x14 OD.INTERLEAVE_TRIM
  else
    match (List.range 8).find? fun i => decide (c.carPeriod i < 2 * (c.int (OD.CAR_OFFSET i)).natAbs) with
    | some i => entryRefusal 0x14 (OD.CAR_OFFSET i)
    | none => none

/-- Check 3: all of Table 5.6, in its order. -/
def State.admission (c : State) : List (Option Reply) :=
  [c.checkAlign, c.checkDeadline, c.checkSorter, c.checkLink, c.checkSchedule, c.checkStreams]

/-- REFUSAL_MASK: one bit per failing check. -/
def refusalMask (rs : List (Option Reply)) : Nat :=
  (List.range 6).foldl (fun m i => if (rs.getD i none).isSome then m + 2 ^ i else m) 0

/-- Table 5.6 on the state `c` a commit would put in force: the first failing code refuses it, and is kept and recorded (R114). -/
def State.admitSet (s c : State) : State × Option Reply :=
  let rs := c.admission
  let s := s.putN OD.REFUSAL_MASK (refusalMask rs)
  match rs.findSome? id with
  | none => (s, none)
  | some r =>
    let s := ((s.putN OD.LAST_REFUSAL r.code).putN OD.LAST_REFUSAL_QTY (r.qty % 2 ^ 32)).putN OD.LAST_REFUSAL_LOC r.detail
    (s.note Ev.ADMISSION_REFUSED r.detail, some r)

/-- Check 4: Table 11.4 when pair mode is set or staged (R295): check number and failing value. (Log 107, DEDUCED, unsafe.) -/
def State.pairRefusal (c : State) : Option Reply :=
  let fail (n qty : Nat) : Option Reply := some { code := 0x47, detail := n, qty := qty }
  let lanes : List Nat := [16, 17]
  let need := if c.nat OD.PAIR_MODE = 2 then c.nat OD.LEASE_LEN + 3 else 3
  let load := 15 + c.nat OD.MIRROR_BUDGET
  let lim (l : Nat) : Nat := parcelLimit c.fTicks (c.nat (OD.LANE_RATE l))
  let copy := cdiv (16 * c.nat OD.FRAME_STATE_CW) 15
  if c.nat OD.PAIR_MODE = 0 then none
  else if (List.range 24).any (fun p => decide (c.nat (OD.PAIR_USE p) = 1)) || (List.range 8).any (fun d => decide (c.nat (OD.PWMD_SRC d) = 1)) then fail 1 1
  else if lanes.any fun l => !c.flag (OD.LANE_EN l) then fail 2 0
  else if c.nat (OD.LANE_RATE 16) ≠ c.nat (OD.LANE_RATE 17) then fail 2 (c.nat (OD.LANE_RATE 17))
  else
    match c.epsUsed.find? fun e => decide (c.nat (OD.BRIDGE_N e) < need) with
    | some e => fail 3 (c.nat (OD.BRIDGE_N e))
    | none =>
      if lanes.any fun l => decide (lim l < load) then fail 4 load
      else if (lanes.map fun l => lim l - load).foldl (· + ·) 0 < copy then fail 5 copy
      else if c.nat OD.PARTNER_SERIAL_EXP ≠ 0 ∧ c.nat OD.PARTNER_SERIAL_EXP ≠ c.nat OD.PARTNER_SERIAL then fail 6 (c.nat OD.PARTNER_SERIAL_EXP)
      else none

/-- Checks 1–4 in their order; the first failure refuses the commit. -/
def State.commitChecks (s : State) (session : Nat) : State × Option Reply :=
  let set := s.stagedVals session
  let c := s.withSet set
  match s.staleRefusal session with
  | some r => (s.occur { code := Ev.STAGE_STALE, session := session }, some r)
  | none =>
    match (s.lockRefusal c set).orElse fun _ => c.dependentRefusal with
    | some r => (s, some r)
    | none =>
      match s.admitSet c with
      | (t, some r) => (t, some r)
      | (t, none) => (t, c.pairRefusal)

/-- COMMIT is served (R333): an empty set is answered at once, a refused set stays staged, an accepted one is loaded; checks and loading take a
free time below 50 ms (log 46, DESIGN CHOICE, safe). -/
def State.commit (s : State) (q : Request) : State × Option Reply :=
  if (s.host q.session).staged.isEmpty then (s.putN OD.LAST_COMMIT_RESULT 0, some Reply.ok)
  else
    match s.commitChecks q.session with
    | (t, some r) => (t.putN OD.LAST_COMMIT_RESULT r.code, some r)
    | (t, none) =>
      let (k, t) := t.draw
      let run : CommitRun := { session := q.session, req := q, set := s.stagedVals q.session, loadedAt := t.now + Config.freeNat k % ms 50 }
      (t.setHosts { t.hosts with commit := some run }, none)

/-! ### The switching boundary (R335) -/

/-- The number of the first frame that a set switched now governs (R335). -/
def State.switchFrame (s : State) : Nat := if s.frame.grid then (s.frame.n + 1) % 2 ^ 32 else s.frame.n

/-- A set of a session switches: CONFIG_GEN, what each entry was last changed by (R334), and the last commit's entries. -/
def State.setSwitches (s : State) (session : Nat) (set : List (Nat × Val)) : State :=
  let ks := (set.filter fun x => decide (s.od x.1 ≠ x.2)).map (·.1)
  let gen := (s.nat OD.CONFIG_GEN + 1) % 2 ^ 32
  let h := s.hosts
  let s := s.setHosts { h with changed := ks.foldl (fun m k => sparseSet (fun _ => 0) m k (gen * 256 + session)) h.changed }
  let s := ((s.putN OD.CONFIG_GEN gen).putN OD.LAST_COMMIT_SESSION session).putN OD.LAST_COMMIT_FRAME s.switchFrame
  let s := (s.putI OD.LAST_COMMIT_TIME s.tai80).putN OD.LAST_COMMIT_RESULT 0
  s.occur { code := Ev.COMMIT, detail := session, session := session }

/-- The running commit ends with an answer, if its session still waits for it. -/
def State.commitEnds (s : State) (c : CommitRun) (r : Reply) : State :=
  let s := (s.setHosts { s.hosts with commit := none }).putN OD.LAST_COMMIT_RESULT r.code
  if c.answer then s.finish c.req r else s

/-- The running commit switches as a whole and its session's set is emptied; the stored copy follows (R454). (Log 59, DESIGN CHOICE, unsafe.) -/
def State.ownSwitch (s : State) (c : CommitRun) (fails : List (Nat × Nat × Nat)) : State :=
  let s := if c.answer then s.unstage c.session else s
  let s := (s.setSwitches c.session c.set).commitEnds c { qty := s.switchFrame }
  (s.applySet c.set fails).storeConfig

/-- A set mirrored from the active of a pair switches at the boundary that its heartbeat named (R308, Table 12.12). -/
def State.mirroredSwitch (s : State) (fails : List (Nat × Nat × Nat)) : State :=
  match s.pair.mirrorSet with
  | some set =>
    if s.mirrorDue then
      let s := s.setPr { s.pair with mirrorSet := none, switchNamed := false }
      ((s.setSwitches 0xFF set).applySet set fails).storeConfig
    else s
  | none => s

/-- The switching boundary; `fails`: what the march of a bank in a domain switched on finds. A commit of a module that has lost role 0x3 does not take
effect. -/
def State.configSwitch (s : State) (fails : List (Nat × Nat × Nat)) : State :=
  match s.hosts.commit with
  | some c =>
    if s.standbyModule then s.commitEnds c { code := 0x7C }
    else if s.switchDue c.loadedAt c.named then s.ownSwitch c fails
    else s
  | none => s.mirroredSwitch fails

/-- CONFIG_SWITCH. -/
def execConfigSwitch (fails : List (Nat × Nat × Nat)) (s : State) : Host.Outcome State Fault Refusal := .next (s.configSwitch fails)

end Sys2Proof.Machine
end

