-- ==== Sys2Proof/Machine/Endpoint.lean ====
section
/-!
DEFINITION. Machine/Endpoint.lean: chapter 09, the endpoints at the far end of the serial lanes: rate scan, acceptance of bursts, LTC
copy, insertions and edges, bridging and safe states, local faults, configuration, and the uplink burst (R226, R236, R240–R250).
-/
namespace Sys2Proof.Machine
open Sys2Proof

/-! ### Ports and acceptance (R226, R240–R243) -/

/-- EP_RATE_SCAN (R226): 20 ms without bundle lock on a rate; the next of 12.5, 10.3125, 6.25 Gb/s, at which training bundles are sent. -/
def State.epRateScan (s : State) (e k : Nat) : State :=
  let p := (s.ep e).port k
  if p.rx.bundleLock = false ∧ s.past p.dwellAt (ms 20) = true then
    (s.setEp e ((s.ep e).setPort k { p with rate := (p.rate + 2) % 3, dwellAt := s.now, rx := {}, lane := 1, tx := { start := s.now } })).epTraining e k 1
  else s

/-- EP_RATE_SCAN. -/
def execEpRateScan (e : Fin 16) (port : Fin 2) (s : State) : Host.Outcome State Fault Refusal := .next (s.epRateScan e.val port.val)

/-- The LTC copy of an endpoint. -/
def Endpoint.ltc (x : Endpoint) (now : Nat) : Nat := ((now : Int) + x.ltcOfs).toNat

/-- F as configured. -/
def Endpoint.fTicks (x : Endpoint) : Nat := match x.cfg with
  | some c => c.period
  | none => 0

/-- BRIDGE_N as configured. -/
def Endpoint.bridgeN (x : Endpoint) : Nat := match x.cfg with
  | some c => c.bridgeN
  | none => 3

/-- A port's claim is live (R243). -/
def Endpoint.live (x : Endpoint) (k now : Nat) : Bool :=
  match (x.port k).claimAt with
  | some t => decide (now ≤ t + x.bridgeN * x.fTicks) || x.cfg.isNone
  | none => false

/-- A claim's role is 0x3. -/
def roleActive (claim : Nat) : Bool := decide (claim / 4096 = 3)

/-- The port obeyed under an arbitration mode (R243). -/
def Endpoint.obeyedPort (x : Endpoint) (mode now : Nat) : Option Nat :=
  if mode = 2 then
    (List.range 2).find? fun k =>
      let p := x.port k
      decide (p.epoch = x.epochH) && roleActive p.claim && (match p.freshUntil with
        | some t => decide (now ≤ t)
        | none => false)
  else
    let a := if x.live 0 now then (x.port 0).claim else 0
    let b := if x.live 1 now then (x.port 1).claim else 0
    if a = b then none
    else if a < b then (if roleActive b then some 1 else none)
    else if roleActive a then some 0 else none

/-- A decoded claim parcel is recorded; in lease mode it raises H, and renews its port's lease when it carries H with role 0x3 and is
not the one that raised H on a port whose lease was stale (R243, Table 9.20). -/
def Endpoint.noteClaim (x : Endpoint) (k now : Nat) (c : BitVec 128) : Endpoint :=
  let p := x.port k
  let claim := fld c 104 16
  let ep := fld c 72 32
  let lease := decide (fld c 122 2 = 2)
  let wasFresh := match p.freshUntil with
    | some t => decide (now ≤ t)
    | none => false
  let raises := lease && decide (x.epochH < ep)
  let h := if raises then ep else x.epochH
  let renew := lease && decide (ep = h) && roleActive claim && (!raises || wasFresh)
  let p := { p with claim := claim, claimAt := some now, epoch := ep, sender := fld c 0 16, oneway := fld c 32 16
                    freshUntil := if renew then some (now + fld c 64 8 * x.fTicks) else p.freshUntil }
  { x.setPort k p with epochH := h }

/-- A fault to report, with the next sequence number (R250). -/
def Endpoint.report (x : Endpoint) (now kind group index device value action : Nat) : Endpoint :=
  { x with seq := (x.seq + 1) % 256
           faults := x.faults ++ [{ kind := kind, group := group, index := index, device := device, seq := x.seq, time := x.ltc now,
                                    value := value, action := action }] }

/-- The LTC copy after an accepted sync parcel: differences up to 8 ticks are slewed by at most 2, larger ones and a change of port
step (R240). -/
def syncOfs (old want : Int) (rebase : Bool) : Int :=
  let d := want - old
  if rebase || decide (8 < d.natAbs) then want
  else if 2 < d then old + 2 else if d < -2 then old - 2 else want

/-! ### Channels, edges and submodules (R244, R245) -/

/-- A channel with the planned edges up to `t` done. -/
def EpChan.settle (t : Nat) (c : EpChan) : EpChan :=
  c.plan.foldl (init := { c with plan := [] }) fun c e =>
    if e.1 ≤ t ∧ c.plan = [] then { c with level := e.2, edgeAt := if e.2 = c.level then c.edgeAt else e.1 }
    else { c with plan := c.plan ++ [e] }

/-- A channel of an endpoint at `now`. -/
def Endpoint.chan (x : Endpoint) (i now : Nat) : EpChan := (vget {} x.chans i).settle now

/-- Replace a channel. -/
def Endpoint.setChan (x : Endpoint) (i : Nat) (c : EpChan) : Endpoint := { x with chans := vset x.chans i c }

/-- The device of channel `i` in its configuration. -/
def EpCfg.device (c : EpCfg) (i : Nat) : Nat :=
  match c.pairs.find? fun q => decide (q.pair = i / 2) with
  | some q => deviceOf c.topology q.pos (decide (i % 2 = 0))
  | none => 0

/-- The channel of device `d` in the leg of channel `i`. -/
def EpCfg.sibling (c : EpCfg) (i d : Nat) : Option Nat :=
  match c.pairs.find? fun q => decide (q.pair = i / 2) with
  | some q =>
    (c.pairs.filter fun r => decide (r.stack = q.stack) && decide (r.phase = q.phase)).findSome? fun r =>
      if c.device (2 * r.pair) = d then some (2 * r.pair) else if c.device (2 * r.pair + 1) = d then some (2 * r.pair + 1) else none
  | none => none

/-- When a device last was, or by its plan will last be, at the level it ends with; and that level. -/
def EpChan.final (c : EpChan) : Bool × Nat := c.plan.foldl (fun r e => if e.2 = r.1 then r else (e.2, e.1)) (c.level, c.edgeAt)

/-- The endpoint's own NPC/ANPC guard on one edge: the instant it may happen (R245, R200). -/
def Endpoint.guardEdge (x : Endpoint) (c : EpCfg) (i : Nat) (level : Bool) (t now : Nat) : Nat :=
  let d := c.device i
  let dead := match c.pairs.find? fun q => decide (q.pair = i / 2) with
    | some q => q.dead
    | none => 0
  if level then
    (if innerOf d = 0 then t
     else match c.sibling i (innerOf d) with
      | some j =>
        let f := (x.chan j now).final
        if f.1 then Nat.max t (f.2 + dead) else t + dead
      | none => t)
  else
    (if outerOf d = 0 then t
     else match c.sibling i (outerOf d) with
      | some j =>
        let f := (x.chan j now).final
        if f.1 then t + c.toi else Nat.max t (f.2 + c.toi)
      | none => t)

/-- One edge of a set is planned; one the guard moves later is reported with KIND 6. -/
def Endpoint.planEdge (x : Endpoint) (c : EpCfg) (i : Nat) (e : Option SetEdge) (r now : Nat) : Endpoint :=
  match e with
  | none => x
  | some e =>
    let t := r + e.ofs
    let g := x.guardEdge c i e.level t now
    let ch := x.chan i now
    let x := x.setChan i { ch with plan := ch.plan ++ [(g, e.level)] }
    if t < g then x.report now 6 0 (i / 2) 0 0 0 else x

/-- The first reload at or before LTC `t` of a pair, and whether its half is a down half. -/
def EpPairCfg.reload (q : EpPairCfg) (t : Nat) : Nat × Bool :=
  let half := q.period / 2
  if half = 0 then (t, false)
  else
    let k := ((t : Int) - q.anchor) / (half : Int)
    ((k * (half : Int) + q.anchor).toNat, decide (k % 2 = 1))

/-- The endpoint executes commands: running, bridging, or with only a leg stopped by a local fault. -/
def Endpoint.executes (x : Endpoint) : Bool :=
  decide (x.state = 4) || decide (x.state = 5) || (decide (x.state = 8) && x.stop.isNone)

/-- Execute one set from reload `r`. -/
def Endpoint.runSet (x : Endpoint) (c : EpCfg) (z : EdgeSet) (r : Nat) : Endpoint :=
  let at' := ((r : Int) - x.ltcOfs).toNat
  let x := { x with lastSets := z :: x.lastSets.filter fun y => !(decide (y.pair = z.pair) && decide (y.down = z.down))
                    sets := x.sets.filter fun y => !(decide (y.pair = z.pair) && decide (y.start = z.start)) }
  if z.forceOff then
    (x.setChan (2 * z.pair) { (x.chan (2 * z.pair) at') with level := false, plan := [] }).setChan (2 * z.pair + 1)
      { (x.chan (2 * z.pair + 1) at') with level := false, plan := [] }
  else
    let first (e : Option SetEdge) : Bool := match e with
      | some y => !y.level
      | none => false
    if first z.h then (x.planEdge c (2 * z.pair) z.h at' at').planEdge c (2 * z.pair + 1) z.l at' at'
    else (x.planEdge c (2 * z.pair + 1) z.l at' at').planEdge c (2 * z.pair) z.h at' at'

/-- EP_EDGE_EXECUTE (R245): at a first reload the set for that tick is executed, or else the last executed one of the same DIR, which
counts as late. -/
def Endpoint.edgeExecute (x : Endpoint) (p now : Nat) : Endpoint :=
  match x.cfg with
  | none => x
  | some c =>
    match c.pairs.find? fun q => decide (q.pair = p) with
    | none => x
    | some q =>
      if x.executes && !(x.legsOff.contains (q.stack, q.phase)) then
        let (r, down) := q.reload (x.ltc now)
        let own := x.sets.find? fun z => decide (z.pair = p) && decide (z.start = r % 2 ^ 32)
        let old := x.lastSets.find? fun z => decide (z.pair = p) && decide (z.down = down)
        let x := if own.isNone then { x with late := (x.late + 1) % 256 } else x
        match own, old with
        | none, none => x
        | some z, _ => x.runSet c z r
        | none, some z => x.runSet c z r
      else x
/-- EP_EDGE_EXECUTE. -/
def execEpEdgeExecute (e : Fin 16) (p : Fin 24) (s : State) : Host.Outcome State Fault Refusal :=
  .next (s.setEp e.val ((s.ep e.val).edgeExecute p.val s.now))

/-- The codes of an arm with one part replaced; entries at or above N_SM fall away, bypassed submodules stay bypassed, and 10 on a
half-bridge is taken as 00 (R244, R249). -/
def Endpoint.applyPart (x : Endpoint) (c : EpCfg) (arm part : Nat) (codes : List Nat) (now : Nat) : Endpoint :=
  let bad := !c.fullBridge && codes.contains 2
  let fix (j v : Nat) : Nat := if x.bypassed.contains (arm, j) then 0 else if !c.fullBridge && decide (v = 2) then 0 else v
  let old := vget [] x.sub arm
  let new := (List.range c.nSm).map fun j =>
    if 48 * part ≤ j ∧ j < 48 * part + 48 then fix j (codes.getD (j - 48 * part) 0) else old.getD j 3
  let x := { x with sub := vset x.sub arm new }
  if bad then x.report now 6 arm 0 0 0 0 else x

/-- EP_INSERTION_APPLY (R244): every insertion whose apply tick has come on the LTC copy. -/
def Endpoint.insertionApply (x : Endpoint) (now : Nat) : Endpoint :=
  match x.cfg with
  | none => x
  | some c =>
    let t := x.ltc now
    let due := x.due.filter fun d => decide (d.1 ≤ t)
    let x := { x with due := x.due.filter fun d => !decide (d.1 ≤ t) }
    if x.executes then due.foldl (init := x) fun x d => x.applyPart c d.2.1 d.2.2.1 d.2.2.2 now else x

/-- EP_INSERTION_APPLY. -/
def execEpInsertionApply (e : Fin 16) (s : State) : Host.Outcome State Fault Refusal :=
  .next (s.setEp e.val ((s.ep e.val).insertionApply s.now))

/-! ### Safe states (R246, R248) -/

/-- t_oi in force: 6,250 ticks without a configuration (R246). -/
def Endpoint.toi (x : Endpoint) : Nat := match x.cfg with
  | some c => c.toi
  | none => 6250

/-- Step 1 and what follows of GATE_OFF (KIND 1) or CLAMP (KIND 2) on one pair channel (Table 8.5): outer and 2-level devices off at
once, inner ones t_oi later or, in CLAMP, active until CLAMP_TIME ends. -/
def Endpoint.stopChan (x : Endpoint) (c : EpCfg) (q : EpStop) (i now : Nat) : Endpoint :=
  let d := c.device i
  let ch := x.chan i now
  let dead := match c.pairs.find? fun r => decide (r.pair = i / 2) with
    | some r => r.dead
    | none => 0
  let inner := Nat.max now (q.at1 + q.toi)
  if d = 0 ∨ isOuter d = true then
    x.setChan i { ch with level := false, edgeAt := if ch.level then now else ch.edgeAt, plan := [] }
  else if q.kind = 2 ∧ clampActive c.topology d = true then
    let other := x.chan (if i % 2 = 0 then i + 1 else i - 1) now
    let on := Nat.max inner (other.final.2 + dead)
    let off := Nat.max (q.at1 + us q.clampUs) inner
    x.setChan i { ch with plan := (if ch.level then [] else [(on, true)]) ++ [(Nat.max off on, false)] }
  else x.setChan i { ch with plan := if ch.level then [(inner, false)] else [] }

/-- Every pair channel and every submodule takes a safe state: BLOCK is code 11, BYPASS code 00 (Tables 9.7, 9.8). -/
def Endpoint.stopAll (x : Endpoint) (q : EpStop) (now : Nat) : Endpoint :=
  match x.cfg with
  | none => { x with stop := some q, due := [], sets := [] }
  | some c =>
    let pairStop : EpStop := { q with kind := if c.topology = 0 then 1 else if q.kind = 2 ∨ q.kind = 4 then 2 else 1 }
    let x := c.pairs.foldl (init := x) fun x r => (x.stopChan c pairStop (2 * r.pair) now).stopChan c pairStop (2 * r.pair + 1) now
    let code := if q.kind = 2 ∨ q.kind = 4 then 0 else 3
    { x with stop := some q, due := [], sets := [], lastSets := []
             sub := Vector.ofFn fun a : Fin 6 => (List.range c.nSm).map fun j =>
               if c.armMask.testBit a.val then (if x.bypassed.contains (a.val, j) then 0 else code) else 3 }

/-- A safe state is requested; a later request escalates and never restarts (R248, R202). -/
def Endpoint.takeStop (x : Endpoint) (kind toi clampUs now state : Nat) : Endpoint :=
  match x.stop with
  | none => { x.stopAll { kind := kind, toi := toi, clampUs := clampUs, at1 := now } now with state := state, sawIdle := false }
  | some q =>
    let soft (k : Nat) : Bool := decide (k = 2) || decide (k = 4)
    if soft q.kind && !soft kind then x.stopAll { q with kind := kind } now else x

/-- EP_SAFE as configured (R248): GATE_OFF and BLOCK, or CLAMP and BYPASS. -/
def Endpoint.epSafeStop (x : Endpoint) (now state : Nat) : Endpoint :=
  match x.cfg with
  | some c =>
    let kind := if c.pairs.isEmpty then (if c.epSafe = 1 then 4 else 3) else (if c.epSafe = 1 then 2 else 1)
    x.takeStop kind c.toi c.clampUs now state
  | none => x.takeStop 1 6250 0 now state

/-! ### Accepting a burst (R241–R248) -/

/-- The endpoint keeps no last accepted frame number while it has no configuration or sits in EP_SAFE after a bridge (R242). -/
def Endpoint.later (x : Endpoint) (frame : Nat) : Bool :=
  match x.lastFrame with
  | none => true
  | some f => decide (frame ≠ f) && decide ((frame + 2 ^ 32 - f) % 2 ^ 32 < 2 ^ 31)

/-- A configuration item is collected by its generation (R246). -/
def Endpoint.collect (x : Endpoint) (w : BitVec 128) : Endpoint :=
  let g := fld w 96 16
  let it := fld w 116 8
  let rest := x.items.filter fun y => decide (y.1 = g) && decide (y.2.1 ≠ it)
  { x with items := rest ++ [(g, it, fld w 0 96)] }

/-- An insertion parcel: applied at its tick, or on arrival when that has passed, reported with KIND 7 (R244). -/
def Endpoint.insertion (x : Endpoint) (t0 now : Nat) (w : BitVec 128) : Endpoint :=
  let tick := t0 + fld w 96 16
  let arm := fld w 121 3
  let part := fld w 118 3
  let codes := (List.range 48).map fun i => fld w (2 * i) 2
  match x.cfg with
  | none => x
  | some c =>
    if tick < x.ltc now then
      let x := { x.applyPart c arm part codes now with late := (x.late + 1) % 256 }
      x.report now 7 arm 0 0 0 0
    else { x with due := (x.due.filter fun d => !(decide (d.1 = tick) && decide (d.2.1 = arm) && decide (d.2.2.1 = part))) ++ [(tick, arm, part, codes)] }

/-- An edge parcel: its set replaces one for the same pair and tick (R245). -/
def Endpoint.edges (x : Endpoint) (w : BitVec 128) : Endpoint :=
  let z := edgeSetOf w
  { x with sets := (x.sets.filter fun y => !(decide (y.pair = z.pair) && decide (y.start = z.start))) ++ [z] }

/-- The parcels of an accepted burst take effect. -/
def Endpoint.useParcels (x : Endpoint) (k t0 now : Nat) (run : Bool) (ps : List (BitVec 128)) : Endpoint :=
  let x := ps.foldl (init := x) fun x w => if ptype w = 6 then x.collect w else x
  let x := match findType 7 ps with
    | some w => x.setPort k { x.port k with power := some (fld w 122 2, fld w 0 64) }
    | none => x
  match findType 3 ps with
  | some w => { x.takeStop (fld w 120 4) (fld w 104 16) (fld w 88 16) now 7 with sawIdle := !run }
  | none =>
    let safe := x.stop.isSome || decide (x.state < 4) || decide (5 < x.state)
    let x :=
      if safe && run && x.sawIdle && x.cfg.isSome then { x with state := 4, stop := none, sawIdle := false, legsOff := [] }
      else if safe then { x with sawIdle := x.sawIdle || !run }
      else x
    if x.executes then
      ps.foldl (init := x) fun x w => if ptype w = 4 then x.insertion t0 now w else if ptype w = 5 then x.edges w else x
    else x

/-- A burst meets R241: its frame, LTC and commands are taken, and a bridge ends. -/
def Endpoint.accept (x : Endpoint) (k now : Nat) (c y : BitVec 128) (ps : List (BitVec 128)) : Endpoint :=
  let t0 := fld y 0 64
  let switch := decide (x.obeyed ≠ some k)
  let want : Int := ((t0 + fld y 100 20 + fld c 32 16 : Nat) : Int) - (now : Int)
  let x := { x with obeyed := some k, sets := if switch then [] else x.sets, ltcOfs := syncOfs x.ltcOfs want switch
                    lastFrame := if x.cfg.isSome then some (fld y 64 32) else none, frameNo := fld y 64 32, t0 := t0
                    sender := fld c 0 16, claimObeyed := fld c 104 16, missed := 0
                    awaited := if x.cfg.isSome then some (t0 + x.fTicks) else none
                    state := if x.state = 5 then 4 else if x.state < 2 then 2 else x.state }
  x.useParcels k t0 now (decide (fld y 122 1 = 1)) ps

/-- EP_BURST_ACCEPT (R241–R243): a burst without both its sync and its claim parcel is not used; a mode other than the configured one
is reported with KIND 8; a port not obeyed only has its claim recorded. -/
def Endpoint.burst (x : Endpoint) (k now : Nat) : Endpoint :=
  let p := x.port k
  let ps := p.rx.buf
  let x := x.setPort k { p with rx := { p.rx with buf := [] } }
  match findType 2 ps, findType 1 ps with
  | none, _ => x
  | some c, none => x.noteClaim k now c
  | some c, some y =>
    let x := x.noteClaim k now c
    let x := x.setPort k { x.port k with frameNo := fld y 64 32 }
    let mode := fld c 122 2
    let want := match x.cfg with
      | some g => g.mode
      | none => mode
    if mode ≠ want then x.report now 8 0 0 0 0 0
    else if x.obeyedPort mode now = some k ∧ x.later (fld y 64 32) = true then x.accept k now c y ps
    else { x with obeyed := if x.obeyedPort mode now = none then none else x.obeyed }

/-- EP_BURST_ACCEPT. -/
def execEpBurstAccept (e : Fin 16) (port : Fin 2) (s : State) : Host.Outcome State Fault Refusal :=
  .next (s.setEp e.val ((s.ep e.val).burst port.val s.now))

/-! ### Missed frames, leases and configuration (R243, R246–R248) -/

/-- EP_FRAME_MISSED (R247): no burst accepted by t0 + F + 2.4 µs + ONEWAY + 1 µs; a running endpoint bridges. -/
def Endpoint.frameMissed (x : Endpoint) (now : Nat) : Endpoint :=
  match x.awaited with
  | none => x
  | some t =>
    let ow := match x.obeyed with
      | some k => (x.port k).oneway
      | none => Nat.max (x.port 0).oneway (x.port 1).oneway
    if t + x.fTicks + 1500 + ow + 625 ≤ x.ltc now then
      { x with missed := Nat.min (x.missed + 1) 255, awaited := some (t + x.fTicks), state := if x.state = 4 then 5 else x.state }
    else x

/-- EP_FRAME_MISSED. -/
def execEpFrameMissed (e : Fin 16) (s : State) : Host.Outcome State Fault Refusal := .next (s.setEp e.val ((s.ep e.val).frameMissed s.now))

/-- EP_BRIDGE_EXPIRY (R248): BRIDGE_N frames missed; EP_SAFE, and the last accepted frame number is forgotten (R242). -/
def Endpoint.bridgeExpiry (x : Endpoint) (now : Nat) : Endpoint :=
  if (x.state = 5 ∨ (x.state = 8 ∧ x.stop = none)) ∧ x.bridgeN ≤ x.missed then { x.epSafeStop now 6 with lastFrame := none } else x

/-- EP_BRIDGE_EXPIRY. -/
def execEpBridgeExpiry (e : Fin 16) (s : State) : Host.Outcome State Fault Refusal := .next (s.setEp e.val ((s.ep e.val).bridgeExpiry s.now))

/-- EP_LEASE_EXPIRY (R243): LEASE_LEN × F after its last renewal a port's lease is stale, and the port is not obeyed. -/
def Endpoint.leaseExpiry (x : Endpoint) (k now : Nat) : Endpoint :=
  match (x.port k).freshUntil with
  | some t =>
    if t ≤ now then { x.setPort k { x.port k with freshUntil := none } with obeyed := if x.obeyed = some k then none else x.obeyed } else x
  | none => x

/-- EP_LEASE_EXPIRY. -/
def execEpLeaseExpiry (e : Fin 16) (port : Fin 2) (s : State) : Host.Outcome State Fault Refusal :=
  .next (s.setEp e.val ((s.ep e.val).leaseExpiry port.val s.now))

/-- The value of an item held. -/
def Endpoint.item (x : Endpoint) (i : Nat) : Option Nat := (x.items.find? fun y => decide (y.2.1 = i)).map fun y => y.2.2

/-- A field of an item's value. -/
def cut (v lo width : Nat) : Nat := v / 2 ^ lo % 2 ^ width

/-- The configuration the items held make, once all of one generation are there (Table 9.11). -/
def Endpoint.generation (x : Endpoint) : Option EpCfg :=
  match x.item 0, x.item 1, x.items with
  | some a, some b, (g, _, _) :: _ =>
    if cut a 88 8 = x.items.length then
      some { gen := g, topology := cut a 84 4, mode := cut a 80 4, bridgeN := cut a 64 8, epSafe := cut a 56 8, period := cut a 24 32
             toi := cut b 80 16, clampUs := cut b 64 16, ulStart := cut b 48 16, reserve := cut b 40 8, armMask := cut b 32 8
             stackMask := cut b 24 8, nSm := cut b 8 16, fullBridge := decide (cut b 0 8 = 1)
             pairs := (x.items.filter fun y => decide (0x10 ≤ y.2.1)).map fun y =>
               { pair := y.2.1 - 0x10, period := cut y.2.2 64 32, anchor := cut y.2.2 32 32, dead := cut y.2.2 18 14, pos := cut y.2.2 16 2
                 phase := cut y.2.2 14 2, stack := cut y.2.2 11 3, polarity := cut y.2.2 8 2 } }
    else none
  | _, _, _ => none

/-- EP_CFG (R246): at a frame boundary a complete generation is put in force. -/
def Endpoint.config (x : Endpoint) : Endpoint :=
  match x.generation with
  | some g =>
    if x.cfg = some g then x
    else { x with cfg := some g, state := if x.state ≤ 2 then 3 else x.state }
  | none => x

/-- EP_CFG. -/
def execEpCfg (e : Fin 16) (s : State) : Host.Outcome State Fault Refusal := .next (s.setEp e.val (s.ep e.val).config)

/-! ### Local faults and the uplink (R236, R249, R250) -/

/-- A leg goes into GATE_OFF in the order of Table 8.5. -/
def Endpoint.legOff (x : Endpoint) (p now : Nat) : Endpoint :=
  match x.cfg with
  | none => x
  | some c =>
    match c.pairs.find? fun q => decide (q.pair = p) with
    | none => x
    | some q =>
      let leg := c.pairs.filter fun r => decide (r.stack = q.stack) && decide (r.phase = q.phase)
      let st : EpStop := { kind := 1, toi := c.toi, at1 := now }
      let x := leg.foldl (init := x) fun x r => (x.stopChan c st (2 * r.pair) now).stopChan c st (2 * r.pair + 1) now
      { x with legsOff := (q.stack, q.phase) :: x.legsOff, state := if x.stop.isSome then x.state else 8, sawIdle := false }

/-- EP_LOCAL_FAULT (R249): DESAT and UVLO stop the leg, submodule faults bypass the submodule, over-temperature only reports unless the
endpoint's own limit forces a safe state. -/
def Endpoint.localFault (x : Endpoint) (f : LocalFault) (now : Nat) : Endpoint :=
  if f.kind = 1 ∨ f.kind = 2 then (x.legOff f.index now).report now f.kind f.group f.index f.device f.value 3
  else if f.kind = 4 ∨ f.kind = 5 then
    let x := { x with bypassed := if x.bypassed.contains (f.group, f.index) then x.bypassed else (f.group, f.index) :: x.bypassed
                      sub := vset x.sub f.group ((vget [] x.sub f.group).set f.index 0) }
    x.report now f.kind f.group f.index f.device f.value 2
  else if f.forces then (x.epSafeStop now 8).report now f.kind f.group f.index f.device f.value 4
  else x.report now f.kind f.group f.index f.device f.value 0

/-- EP_LOCAL_FAULT. -/
def execEpLocalFault (e : Fin 16) (fault : LocalFault) (s : State) : Host.Outcome State Fault Refusal :=
  .next (s.setEp e.val ((s.ep e.val).localFault fault s.now))

/-- A fault parcel (Table 9.17). -/
def faultParcel (f : EpFault) : BitVec 128 :=
  packFields [(124, 4, 0xC), (120, 4, f.kind), (117, 3, f.group), (108, 9, f.index), (104, 4, f.device), (96, 8, f.seq), (32, 64, f.time),
    (16, 16, f.value), (8, 8, f.action)]

/-- The fault parcels of one uplink, at most FAULT_RESERVE; when more are pending the last is an overflow report (R250). -/
def Endpoint.faultParcels (x : Endpoint) (reserve : Nat) : List (BitVec 128) × List EpFault :=
  let n := x.faults.length
  let sent := if n ≤ reserve then n else reserve - 1
  let aggregate := if n ≤ reserve ∨ reserve = 0 then [] else
    [packFields [(124, 4, 0xC), (120, 4, 0xF), (96, 8, x.seq), (16, 16, n - sent)]]
  let (now', later) := (x.faults.take sent, x.faults.drop sent)
  (now'.map faultParcel ++ aggregate, ((now'.map fun f => { f with left := f.left - 1 }).filter fun f => decide (0 < f.left)) ++ later)

/-- The status parcel of a port (Table 9.13). -/
def Endpoint.statusParcel (x : Endpoint) (k : Nat) : BitVec 128 :=
  let p := x.port k
  let gen := match x.cfg with
    | some c => c.gen
    | none => 0
  packFields [(124, 4, 8), (120, 4, x.state), (119, 1, k), (118, 1, if x.obeyed = some k then 1 else 0), (96, 16, gen), (64, 32, x.serial),
    (48, 16, p.corr), (32, 16, p.uncorr), (24, 8, x.missed), (16, 8, x.late), (8, 8, x.faults.length)]

/-- The echo parcel of a port (Table 9.14). -/
def Endpoint.echoParcel (x : Endpoint) (k now : Nat) : BitVec 128 :=
  let mode := match x.cfg with
    | some c => c.mode
    | none => 0
  let other := if x.live (1 - k) now then (x.port (1 - k)).claim else 0
  let f := x.fTicks
  let age := if f = 0 then 0 else Nat.min ((x.ltc now - x.t0) / f) 255
  packFields [(124, 4, 9), (123, 1, x.obeyed.getD 0), (122, 1, if x.obeyed.isNone then 1 else 0), (120, 2, mode), (104, 16, x.claimObeyed),
    (72, 32, x.epochH), (56, 16, other), (24, 32, x.frameNo), (16, 8, age), (0, 16, x.sender)]

/-- The submodule voltage parcels of an arm (Table 9.15), bypassed submodules reported 0xFFFE. -/
def Endpoint.voltParcels (x : Endpoint) (arm nSm : Nat) (volts : List (Nat × Nat × Nat)) : List (BitVec 128) :=
  let code (j : Nat) : Nat :=
    if x.bypassed.contains (arm, j) then 0xFFFE
    else match volts.find? fun v => decide (v.1 = arm) && decide (v.2.1 = j) with
      | some v => v.2.2
      | none => 0xFFFF
  (List.range (cdiv nSm 7)).map fun p =>
    packFields ([(124, 4, 0xA), (121, 3, arm), (115, 6, p)] ++ (List.range 7).map fun i => (16 * i, 16, if 7 * p + i < nSm then code (7 * p + i) else 0xFFFF))

/-- A stack current parcel (Table 9.16). -/
def stackParcel (c : StackSample) : BitVec 128 :=
  packFields [(124, 4, 0xB), (121, 3, c.stack), (96, 16, (c.ofs % 65536).toNat), (64, 32, c.ia.toNat), (32, 32, c.ib.toNat), (0, 32, c.ic.toNat)]

/-- The latest instant on the LTC copy at which an uplink burst starts: t0(n) + UL_START (R236); none before a burst was accepted. -/
def Endpoint.ulStart (x : Endpoint) (now : Nat) : Option Nat :=
  match x.cfg with
  | some c =>
    if x.awaited.isNone ∨ c.period = 0 then none
    else
      let at1 : Int := ((x.t0 + c.ulStart : Nat) : Int)
      some (at1 + ((x.ltc now : Int) - at1) / (c.period : Int) * (c.period : Int)).toNat
  | none => none

/-- Parcels leave on a port of an endpoint that is in P0: encoded, from its next bundle boundary (R225, R236); a port in P1 sends control blocks. -/
def State.epSend (s : State) (e k : Nat) (ps : List (BitVec 128)) : State :=
  let x := s.ep e
  let p := x.port k
  let z := p.asleep (x.ltc s.now)
  if p.lane ≠ 4 ∨ z = 2 then s
  else if z = 1 then
    let (bs, tx) := p.tx.idle
    (s.setEp e (x.setPort k { p with tx := tx })).emit (.control (.endpoint (Fin.ofNat 16 e) (Fin.ofNat 2 k)) bs)
  else
    let ws := codewords ps []
    let (bs, tx) := p.tx.send p.tb s.now ws
    (s.setEp e (x.setPort k { p with tx := tx })).emit (.uplink e k (x.ltc s.now + p.tx.wait p.tb s.now) ws bs)

/-- EP_UPLINK_BURST (R236, R250): once per frame, from t0 + UL_START on the LTC copy; the same content on both ports but for PORT, OBEYING and the echo.
An endpoint that has accepted no burst yet knows no t0 and starts when commanded (log 146, DESIGN CHOICE, unsafe). -/
def State.epUplink (s : State) (e : Nat) (volts : List (Nat × Nat × Nat)) (currents : List StackSample) : State :=
  let x := s.ep e
  let start := x.ulStart s.now
  if start.isSome ∧ start = x.ulSent then s
  else
    let (reserve, arms, nSm, epStacks) := match x.cfg with
      | some c => (c.reserve, (List.range 6).filter (fun a => c.armMask.testBit a), c.nSm, c.stackMask)
      | none => (4, [], 0, 0)
    let (faults, left) := x.faultParcels reserve
    let stack (k : Nat) : List (BitVec 128) := (currents.find? fun c => decide (c.stack = k)).toList.map stackParcel
    let meas := (arms.map fun a => x.voltParcels a nSm volts).flatten ++ (((List.range 8).filter fun k => epStacks.testBit k).map stack).flatten
    let send (k : Nat) : List (BitVec 128) := [x.statusParcel k, x.echoParcel k s.now] ++ meas ++ faults
    ((s.setEp e { x with faults := left, ulSent := start }).epSend e 0 (send 0)).epSend e 1 (send 1)

/-- EP_UPLINK_BURST. -/
def execEpUplinkBurst (e : Fin 16) (volts : List (Nat × Nat × Nat)) (currents : List StackSample) (s : State) :
    Host.Outcome State Fault Refusal := .next (s.epUplink e.val volts currents)

end Sys2Proof.Machine
end

