-- ==== Sys2Proof/Machine/Own.lean ====
section
/-!
DEFINITION. Machine/Own.lean: chapter 12, ownership: request, release, force, and the lease (R326–R331).
-/
namespace Sys2Proof.Machine
open Sys2Proof

/-- The certificate identity of a session on E1 or E2. -/
def State.identityOf (s : State) (session : Nat) : Option (BitVec 384) := (s.chainOf session).map (·.identity)

/-- A lease that has run out is lost first (Table 12.12). -/
def State.expireLease (s : State) : State := if s.nat OD.OWNER_SESSION ≠ 0xFF ∧ s.leaseExpired = true then s.ownerGone 3 else s

/-- OWNERSHIP_LOST: the lease expires. -/
def execOwnershipLost (s : State) : Host.Outcome State Fault Refusal := .next s.expireLease

/-- Why a session may not request or release ownership (R331, Table 12.6). -/
def State.ownRefusal (s : State) (session : Nat) : Option Reply :=
  if s.standbyModule then some { code := 0x7C }
  else if s.nat (OD.SESSION_ROLE (sessIdx session)) = 0 ∨ s.flag (OD.OWNER_ELIGIBLE (sessPort session)) = false then some Reply.roleDenied
  else none

/-- Ownership is reserved to another certificate identity after a takeover (R331): the time left, ms. -/
def State.reservedLeft (s : State) (session : Nat) : Option Nat :=
  match s.hosts.reserve with
  | some (i, t) => if s.now < t ∧ s.identityOf session ≠ some i then some ((t - s.now + 624999) / 625000) else none
  | none => none

/-- OWN_REQ = 1 (R327). -/
def State.ownRequest (s : State) (session : Nat) : State × Reply :=
  let s := s.expireLease
  let o := s.nat OD.OWNER_SESSION
  if o = session then (s.setHosts { s.hosts with leaseAt := s.now }, Reply.ok)
  else if o ≠ 0xFF then (s, { code := 0x72, detail := o, time := timeField s.leaseLeft })
  else
    match s.reservedLeft session with
    | some t => (s, { code := 0x72, detail := 0xFF, time := timeField t })
    | none => (s.grant session 1 0xFF, Reply.ok)

/-- OWN_REQUEST. -/
def execOwnRequest (session : Nat) (s : State) : Host.Outcome State Fault Refusal :=
  .next (s.command session (s.ownRefusal session) fun s => s.ownRequest session)

/-- OWN_REQ = 2 (R327). -/
def State.ownRelease (s : State) (session : Nat) : State × Reply :=
  let s := s.expireLease
  if s.nat OD.OWNER_SESSION = session then (s.setOwner 0xFF 2 session 0xFF, Reply.ok)
  else (s, { code := 0x70, detail := s.nat OD.OWNER_SESSION })

/-- OWN_RELEASE. -/
def execOwnRelease (session : Nat) (s : State) : Host.Outcome State Fault Refusal :=
  .next (s.command session (s.ownRefusal session) fun s => s.ownRelease session)

/-- Why a session may not take ownership by force: any but M with SERVICE (R330). -/
def State.forceRefusal (s : State) (session : Nat) : Option Reply :=
  if s.standbyModule then some { code := 0x7C }
  else if session ≠ 0x40 then some Reply.roleDenied
  else s.serviceRefusal session

/-- OWN_REQ = 3 (R330): ownership passes at once; the former owner is told PREEMPTED. -/
def State.ownForce (s : State) (session : Nat) : State × Reply :=
  let s := s.expireLease
  let old := s.nat OD.OWNER_SESSION
  if old = session then (s.setHosts { s.hosts with leaseAt := s.now }, Reply.ok)
  else if old = 0xFF then (s.grant session 1 0xFF, Reply.ok)
  else ((s.grant session 5 old).notice old 0x77 session, Reply.ok)

/-- OWN_FORCE. -/
def execOwnForce (session : Nat) (s : State) : Host.Outcome State Fault Refusal :=
  .next (s.command session (s.forceRefusal session) fun s => s.ownForce session)

/-- OWN_REQ by value. -/
def State.ownWrite (s : State) (session v : Nat) : State × Reply :=
  match (if v = 3 then s.forceRefusal session else s.ownRefusal session) with
  | some r => (s, r)
  | none => if v = 1 then s.ownRequest session else if v = 2 then s.ownRelease session else s.ownForce session

end Sys2Proof.Machine
end

