-- ==== Sys2Proof/Machine/Write.lean ====
section
/-!
DEFINITION. Machine/Write.lean: chapter 12, what a served WRITE does to each entry, and segmented writes (R318, R344).
-/
namespace Sys2Proof.Machine
open Sys2Proof

/-! ### Writes by subject -/

/-- LANE_CMD (R294, R291). -/
def State.laneCommand (s : State) (n : Nat) : State × Reply :=
  if n = 1 then s.laneSwap
  else if n = 2 then s.laneRequalify .a
  else if n = 3 then s.laneRequalify .b
  else if n = 4 then s.laneTakeOut .a
  else if n = 5 then s.laneTakeOut .b
  else (s, Reply.ok)

/-- PAIR_CMD (R307, R310). -/
def State.pairCommand (s : State) (n : Nat) : State × Reply :=
  if n = 1 then s.pairHandover else if n = 2 then s.pairRequalify else (s, Reply.ok)

/-- The value is kept by its entry, where its unit reads it. -/
def State.kept (s : State) (k : Nat) (v : Val) : State × Reply := (s.put k v, Reply.ok)

/-- A command object of 2000–6FFF (R324). -/
def State.writeObject (s : State) (session index sub : Nat) (v : Val) : State × Reply :=
  let k := OD.key index sub
  let n := (Val.asInt v).toNat
  if k = OD.LAW_CMD then (if n = 1 then s.lawStart else (s.lawStopCmd, Reply.ok))
  else if index = 0x3100 then s.setpoint (sub - 1) (BitVec.ofNat 32 n)
  else if k = OD.BRK_CLOSED then s.brkWrite (decide (n = 1))
  else if k = OD.TRIP_CLEAR then s.tripClear session n
  else if index / 256 = 0x44 then s.pstateReq (index - 0x4400) n
  else if index / 256 = 0x50 ∧ sub = 0x0B then s.ldCmd (index - 0x5001) n
  else if k = OD.LD_CLEAR then s.ldClear session n
  else if k = OD.LANE_CMD then s.laneCommand n
  else if k = OD.PAIR_CMD then s.pairCommand n
  else s.kept k v

/-- Ports and the fieldbus. -/
def State.writePort (s : State) (index sub : Nat) (v : Val) : State × Reply :=
  let k := OD.key index sub
  let n := (Val.asInt v).toNat
  if k = OD.FORCE_STEP then s.forceStep
  else if 0x9020 ≤ index ∧ index < 0x9040 then
    (if sub = 4 then s.launchArm ((index - 0x9020) / 16) ((index - 0x9020) % 16) n
     else if s.slotArmed index sub then (s, Reply.wrongState) else s.kept k v)
  else if 0x9100 ≤ index ∧ index < 0x9102 then s.busRecover (index - 0x9100)
  else if 0x9120 ≤ index ∧ index < 0x9160 ∧ sub = 5 then s.txReq ((index - 0x9120) / 32) ((index - 0x9120) % 32) n
  else s.kept k v

/-- A session's own cursor entries (R405). -/
def State.writeCursor (s : State) (session sub n : Nat) : State × Reply :=
  let c := s.cursor session
  let c' : Cursor := if sub = 1 then { c with seq := n } else if sub = 2 then { c with wrap := n }
    else if sub = 4 then { c with filter := n } else { c with minSev := n }
  (s.setCursor session c', Reply.ok)

/-- Recorder and capture. -/
def State.writeRecord (s : State) (session index sub n : Nat) : State × Reply :=
  if index = 0x8000 then
    (if sub = 6 then s.recClear session else if n = 1 then s.recFreeze session else s.recUnfreeze session)
  else if index = 0x8010 then s.writeCursor session sub n
  else if sub = 0x11 then s.trigNow (index - 0x8100)
  else if n = 1 then s.captArm (index - 0x8100)
  else (s.streamStop (index - 0x8100), Reply.ok)

/-- The safety island (R440, R442), but for SAFETY_LOGIN. -/
def State.writeSafety (s : State) (session index sub : Nat) (v : Val) : State × Reply :=
  let n := (Val.asInt v).toNat
  if index = 0x7001 then (if sub = 2 then (s.safetyLogoff session, Reply.ok) else s.passwordNew session (Val.asBytes v))
  else if index = 0x7010 then (s.safetyStage session sub v, Reply.ok)
  else if sub = 2 then (s.safetyUnstage session, Reply.ok)
  else if sub = 4 then s.scsAck session n
  else if n ≠ 1 then (s, Reply.outOfRange)
  else if sub = 1 then s.safetyApply session
  else s.sgbTest session

/-- FW_ACTIVATE by value. -/
def State.activate (s : State) (n : Nat) : State × Reply :=
  if n = 1 then s.activateLane .a else if n = 2 then s.activateLane .b else s.activateModule

/-- LC_REQ by value. -/
def State.lcWrite (s : State) (session n : Nat) : State × Reply :=
  match s.lcRefusal n session with
  | some r => (s, r)
  | none => s.lcRequest n session

/-- A vendor token: whether its signature is that of the vendor service key is the token's own (free, log 35). -/
def State.tokenWrite (s : State) (session : Nat) (token : List Byte) : State × Reply :=
  let (k, s) := s.draw
  s.vendorToken session token (decide (Config.freeNat k % 2 = 1))

/-- Security and life cycle (chapter 18), but for FW_IMAGE. -/
def State.writeSecurity (s : State) (session index sub : Nat) (v : Val) : State × Reply :=
  let n := (Val.asInt v).toNat
  let b := Val.asBytes v
  let k := OD.key index sub
  if index = 0xC000 then s.attest session b
  else if index = 0xC010 then s.certChange session (sub - 1) b
  else if index = 0xC011 then s.certChange session 4 b
  else if k = OD.FW_ACTIVATE then s.activate n
  else if k = OD.FW_ACCEPT then s.fwAccept
  else if index = 0xC030 then s.tamperClear n
  else if k = OD.LC_REQ then s.lcWrite session n
  else if k = OD.LC_CONFIRM then s.lcConfirm session b
  else if k = OD.VENDOR_TOKEN then s.tokenWrite session b
  else s.kept k v

/-- MARCH_CMD (R457). -/
def State.marchWrite (s : State) (n : Nat) : State × Reply :=
  if n / 256 = 0 then s.marchAbortCmd (n % 256) else if n / 256 = 1 then s.marchTransparent (n % 256) else s.marchSs (n % 256)

/-- RESET_CMD (R499). -/
def State.resetWrite (s : State) (n : Nat) : State × Reply :=
  if n = 1 then s.resetCmdModule else if n = 2 then s.resetCmdLane .a else s.resetCmdLane .b

/-- A checked value of class RW, WO or RWS takes effect. -/
def State.effect (s : State) (session index sub : Nat) (v : Val) : State × Reply :=
  let n := (Val.asInt v).toNat
  if 0x2000 ≤ index ∧ index ≤ 0x6FFF then s.writeObject session index sub v
  else if index = 0x1F00 then s.discard session
  else if index = 0x9310 then s.ownWrite session n
  else if index / 4096 = 7 then s.writeSafety session index sub v
  else if index / 4096 = 8 then s.writeRecord session index sub n
  else if index = 0x9220 then s.resetWrite n
  else if index = 0x9240 then s.prCmd n
  else if index / 4096 = 9 then s.writePort index sub v
  else if index / 4096 = 0xB then s.marchWrite n
  else s.writeSecurity session index sub v

/-! ### A whole value, and segments (R344) -/

/-- A whole value is checked and takes effect, or is staged. COMMIT and SAFETY_LOGIN may be answered later. -/
def State.writeWhole (s : State) (q : Request) (data : List Byte) : State × Option Reply :=
  match checkVal q.index q.sub data with
  | .error r => (s, some r)
  | .ok v =>
    let k := OD.key q.index q.sub
    if entryAccess q.index q.sub = .RWC then ((s.stage q.session k v).1, some (s.stage q.session k v).2)
    else if k = OD.COMMIT then s.commit q
    else if k = OD.SAFETY_LOGIN then s.safetyLogin q.session (some q) (Val.asBytes v)
    else ((s.effect q.session q.index q.sub v).1, some (s.effect q.session q.index q.sub v).2)

/-- A segmented write under way to entry `k`. -/
def State.segOf (s : State) (session k : Nat) : Option SegXfer := (s.host session).segs.find? fun x => decide (x.key = k)

/-- It ends. -/
def State.segEnd (s : State) (session k : Nat) : State :=
  let h := s.host session
  s.setHost session { h with segs := h.segs.filter fun x => decide (x.key ≠ k) }

/-- It goes on with the data so far. -/
def State.segPut (s : State) (q : Request) (data : List Byte) : State :=
  let k := OD.key q.index q.sub
  let h := s.host q.session
  let x : SegXfer := { key := k, tag := q.tag, size := data.length, data := data, at1 := s.now }
  s.setHost q.session { h with segs := h.segs.filter (fun y => decide (y.key ≠ k)) ++ [x] }

/-- SEGMENT_ERROR with the next expected offset. -/
def Reply.segmentError (next : Nat) : Reply := { code := 0x15, qty := next }

/-- A segment of a value: at OFFSET 0 a transfer begins, in place of one under way to the entry; at its LAST the whole takes effect. (Log 55, DESIGN CHOICE, unsafe.) -/
def State.writeSegment (s : State) (q : Request) : State × Option Reply :=
  let k := OD.key q.index q.sub
  let sofar := if q.offset = 0 then some [] else
    match s.segOf q.session k with
    | some x => if x.size = q.offset then some x.data else none
    | none => none
  let t := s.segEnd q.session k
  match sofar with
  | none => (t, some (Reply.segmentError (((s.segOf q.session k).map (·.size)).getD 0)))
  | some d =>
    let all := d ++ q.data
    if q.last then t.writeWhole q all
    else if 65535 < all.length then (t, some Reply.typeMismatch)
    else (t.segPut q all, some Reply.ok)

/-- A segment of FW_IMAGE: what verification finds of the image is the image's own (free, log 35). -/
def State.imageWrite (s : State) (q : Request) : State × Reply :=
  let (k, s) := s.draw
  let f (i : Nat) : Nat := Config.freeNat (k + i)
  let s := s.drawn 4
  s.imageSegment q.session q.offset q.data.length q.last
    { good := decide (f 0 % 2 = 1), version := f 1 % 65536, svn := f 2, laneMin := f 3 % 65536, laneMax := f 4 % 65536 }

/-- A WRITE is served. A request carries at most 1,024 octets (Table 12.8); a USDO transfer moves its value whole. -/
def State.writeRequest (s : State) (q : Request) : State × Option Reply :=
  let k := OD.key q.index q.sub
  if 1024 < q.data.length ∧ q.usdo = false then (s, some Reply.typeMismatch)
  else
    match s.writeRefusal q.session q.index q.sub with
    | some r => (s.segEnd q.session k, some r)
    | none =>
      if k = OD.FW_IMAGE then ((s.imageWrite q).1, some (s.imageWrite q).2)
      else s.writeSegment q

/-- What follows the answer of a WRITE: a module reset that it asked for (R497, R481). -/
def State.writeAfter (s : State) (q : Request) : State :=
  let k := OD.key q.index q.sub
  if k = OD.RESET_CMD ∨ k = OD.FW_ACTIVATE then s.takeReset else s

end Sys2Proof.Machine
end

