-- ==== Sys2Proof/Machine/Hosts.lean ====
section
/-!
DEFINITION. Machine/Hosts.lean: chapter 12, the dictionary engine: sessions and associations, arriving requests, the queue and its windows, notices,
withdrawals and USDO (R322–R325, R338–R349).
-/
namespace Sys2Proof.Machine
open Sys2Proof

/-! ### Classes and the next transaction (R338, R339) -/

/-- The class of a transaction: 1 safety, 2 owner, 3 operator, 4 observer, 5 bulk. -/
def State.classOf (s : State) (q : Request) : Nat :=
  if (q.op = 3 ∨ q.op = 4) ∧ (entryAccess q.index q.sub = .RWS ∨ OD.key q.index q.sub = OD.SAFETY_LOGIN) then 1
  else if q.offset ≠ 0 then 5
  else if s.nat OD.OWNER_SESSION = q.session then 2
  else if s.nat (OD.SESSION_ROLE (sessIdx q.session)) ≠ 0 then 3
  else 4

/-- What the choice of R339 depends on: the queue, the budgets used, and used(p). -/
structure Turns where
  queue : List Request
  safety : Nat
  owner : Nat
  used : List Nat

/-- As they stand. -/
def State.turns (s : State) : Turns :=
  { queue := s.hosts.queue, safety := s.hosts.safetyUsed, owner := s.hosts.ownerUsed, used := (List.range 5).map fun p => s.nat (OD.PORT_USED p) }

/-- After a transaction of a class has been served. -/
def Turns.after (c : Turns) (q : Request) (cls : Nat) : Turns :=
  { queue := c.queue.erase q, safety := c.safety + (if cls = 1 then 1 else 0), owner := c.owner + (if cls = 2 then 1 else 0)
    used := c.used.set (sessPort q.session) (c.used.getD (sessPort q.session) 0 + 1) }

/-- A write of COMMIT. -/
def isCommit (q : Request) : Bool := decide (q.op = 4) && decide (OD.key q.index q.sub = OD.COMMIT)

/-- A commit waits for that of another session (R336). -/
def State.waitsForCommit (s : State) (q : Request) : Bool :=
  isCommit q && (match s.hosts.commit with
    | some c => decide (c.session ≠ q.session)
    | none => false)

/-- An older request of the session to the same entry goes first (R344). -/
def olderSame (queue : List Request) (q : Request) : Bool :=
  (queue.takeWhile fun x => decide (x ≠ q)).any fun x =>
    decide (x.session = q.session) && decide (x.op = 3 ∨ x.op = 4) && decide (q.op = 3 ∨ q.op = 4) && decide (x.index = q.index) && decide (x.sub = q.sub)

/-- The highest-class transaction, oldest first. -/
def State.highest (s : State) (qs : List Request) : Option Request :=
  qs.foldl (init := none) fun b q => match b with
    | none => some q
    | some x => if s.classOf q < s.classOf x then some q else some x

/-- The next transaction of R339. (Log 53, DESIGN CHOICE, unsafe.) -/
def State.pick (s : State) (c : Turns) : Option Request :=
  let qs := c.queue.filter fun q => !s.waitsForCommit q && !olderSame c.queue q
  let first (cls : Nat) : Option Request := qs.find? fun q => decide (s.classOf q = cls)
  let safety := if c.safety < 40 then first 1 else none
  let owner := if c.owner < 120 then first 2 else none
  let ports := s.highest (qs.filter fun q => decide (c.used.getD (sessPort q.session) 0 < 40))
  ((safety.orElse fun _ => owner).orElse fun _ => ports).orElse fun _ => s.highest qs

/-- The number of transactions that R339 would serve before `q` (R341). -/
def State.ahead (s : State) (q : Request) : Nat → Turns → Nat
  | 0, _ => 0
  | n + 1, c =>
    match s.pick c with
    | none => 0
    | some x => if x = q then 0 else 1 + State.ahead s q n (c.after x (s.classOf x))

/-- POSITION of a queued transaction. -/
def State.position (s : State) (q : Request) : Nat := s.ahead q s.hosts.queue.length s.turns

/-- Ticks of 0.25 ms, in which one transaction is served (R338). (Log 50, DESIGN CHOICE, unsafe.) -/
def serviceTicks : Nat := 156250

/-- The estimated wait of a queued transaction, ms, rounded up (R341). -/
def State.waitMs (s : State) (q : Request) : Nat := cdiv (s.position q * serviceTicks + (s.hosts.busyUntil - s.now)) 625000

/-- The retry-after of a session (R342): until its oldest queued transaction is served, at least 1 ms. -/
def State.retryAfter (s : State) (session : Nat) : Nat :=
  match s.hosts.queue.find? fun q => decide (q.session = session) with
  | some q => Nat.max 1 (s.waitMs q)
  | none => 1

/-! ### Serving -/

/-- A USDO read carries the whole value. -/
def State.usdoWhole (s : State) (q : Request) (r : Reply) : Reply :=
  let b := Val.asBytes (s.entryVal q.session (OD.key q.index q.sub))
  if q.usdo ∧ r.code = 0 ∧ b.length = r.qty then { r with data := b } else r

/-- What is done with the rights of the owner's session: a transaction taken over from the former active of a pair keeps them (R287; log 140, DEDUCED,
unsafe). -/
def State.asOwner (s : State) (q : Request) (f : State → State) : State :=
  if q.owned then
    let owner := s.nat OD.OWNER_SESSION
    let t := f ((s.putN OD.OWNER_SESSION q.session).setHosts { s.hosts with leaseAt := s.now })
    (t.putN OD.OWNER_SESSION owner).setHosts { t.hosts with leaseAt := s.hosts.leaseAt }
  else f s

/-- A write is done and answered, unless its answer is still to come. -/
def State.serveWrite (s : State) (q : Request) : State :=
  match s.writeRequest q with
  | (t, some r) => (t.finish q r).writeAfter q
  | (t, none) => t

/-- A transaction is served: counted, done, answered. -/
def State.serveRequest (s : State) (q : Request) : State :=
  let s := s.served q.session (s.classOf q)
  let s := s.setHosts { s.hosts with busyUntil := s.now + serviceTicks }
  match q.op with
  | 2 => (s.finish q Reply.ok).closeSession q.session
  | 3 => (s.readEntry q.session q.index q.sub q.offset q.readStaged).1.finish q
      (s.usdoWhole q (s.readEntry q.session q.index q.sub q.offset q.readStaged).2)
  | 4 =>
    s.asOwner q fun s => s.serveWrite q
  | _ => s.finish q Reply.ok

/-- TRANSACTION_SERVE (R339): the engine is free and a transaction may be served. -/
def State.transactionServe (s : State) : State :=
  if s.bit OD.PR_BUSY 1 = true ∨ s.past s.hosts.busyUntil 0 = false then s
  else
    match s.pick s.turns with
    | some q => (s.setHosts { s.hosts with queue := s.hosts.queue.erase q }).serveRequest q
    | none => s

/-- TRANSACTION_SERVE. -/
def execTransactionServe (s : State) : Host.Outcome State Fault Refusal := .next s.transactionServe

/-- SERVICE_WINDOW (R339): a window of 100 ms ends. -/
def State.serviceWindow (s : State) : State :=
  if s.past s.hosts.windowAt (ms 100) then
    let s := s.setHosts { s.hosts with windowAt := s.now, safetyUsed := 0, ownerUsed := 0 }
    (List.range 5).foldl (init := s) fun s p => s.putN (OD.PORT_USED p) 0
  else s

/-- SERVICE_WINDOW. -/
def execServiceWindow (s : State) : Host.Outcome State Fault Refusal := .next s.serviceWindow

/-! ### DELAYED and withdrawal (R341, R342) -/

/-- A DELAYED notice is due: DELAY_NOTICE after arrival, then every 100 ms; USDO carries none (R348). -/
def State.noticeDue (s : State) (q : Request) : Bool :=
  !q.usdo && decide ((if q.noticeAt = 0 then q.at1 + ms (s.nat OD.DELAY_NOTICE) else q.noticeAt) ≤ s.now)

/-- A DELAYED response leaves, with POSITION and the estimated wait. -/
def State.sendDelayed (s : State) (q : Request) (position wait : Nat) : State :=
  let r : Reply := { code := 1, position := Nat.min position 65535, time := timeField wait, op := q.op + 0x80, index := q.index, sub := q.sub }
  let s := s.answer q.session q.tag r
  (if sessIdx q.session < 11 then s.bump (OD.TX_DELAYED (sessIdx q.session)) else s).bump OD.DELAYED_TOTAL

/-- A request whose notice has just been sent. -/
def State.noticed (s : State) (q : Request) : Request := if s.noticeDue q then { q with noticeAt := s.now + ms 100 } else q

/-- The time left to a commit in service, ms: until 200 µs after loading, or the boundary named. -/
def State.commitLeft (s : State) (c : CommitRun) : Nat :=
  cdiv (Nat.max (c.loadedAt + us 200 - s.now) (if c.named then s.pair.switchDelta * s.fTicks else 0)) 625000

/-- Notices of transactions in service: a commit, and logins whose password is being verified. -/
def State.serviceNotices (s : State) : State :=
  let t := match s.hosts.commit with
    | some c =>
      if c.answer && s.noticeDue c.req then
        let t := s.sendDelayed c.req 0 (s.commitLeft c)
        t.setHosts { t.hosts with commit := some { c with req := s.noticed c.req } }
      else s
    | none => s
  let v := s.safety.verifying
  let t := v.foldl (init := t) fun t x => match x.2.1 with
    | some q => if s.noticeDue q then t.sendDelayed q 0 0 else t
    | none => t
  t.setSafety { t.safety with verifying := v.map fun x => (x.1, x.2.1.map s.noticed, x.2.2) }

/-- DELAY_NOTICE: every notice that is due is sent. -/
def State.delayNotice (s : State) : State :=
  let t := (s.hosts.queue.filter s.noticeDue).foldl (init := s) fun t q => t.sendDelayed q (s.position q) (s.waitMs q)
  (t.setHosts { t.hosts with queue := s.hosts.queue.map s.noticed }).serviceNotices

/-- DELAY_NOTICE. -/
def execDelayNotice (s : State) : Host.Outcome State Fault Refusal := .next s.delayNotice

/-- A queued transaction is withdrawn and answered QUEUE_EXPIRED (R342, R344). -/
def State.withdrawn (s : State) (q : Request) (time : Nat) : State :=
  let s := (s.bump OD.EXPIRED_TOTAL).occur { code := Ev.QUEUE_PRESSURE, session := q.session }
  s.finish q { code := 0x78, time := timeField time }

/-- QUEUE_EXPIRED: transactions that have waited QUEUE_MAX_WAIT. -/
def State.queueExpired (s : State) : State :=
  let old := s.hosts.queue.filter fun q => s.past q.at1 (ms (s.nat OD.QUEUE_MAX_WAIT))
  let s := s.setHosts { s.hosts with queue := s.hosts.queue.filter fun q => !old.contains q }
  old.foldl (init := s) fun s q => s.withdrawn q (s.retryAfter q.session)

/-- QUEUE_EXPIRED. -/
def execQueueExpired (s : State) : Host.Outcome State Fault Refusal := .next s.queueExpired

/-- SEG_TIMEOUT: segmented transfers of a session without their next segment. -/
def State.segTimeout (s : State) (session : Nat) : State :=
  let due (t : Nat) : Bool := s.past t (ms (s.nat OD.SEG_TIMEOUT))
  let h := s.host session
  let late := h.segs.filter fun x => due x.at1
  let s := s.setHost session { h with segs := h.segs.filter fun x => !due x.at1 }
  let s := late.foldl (init := s) fun s x =>
    s.finish { session := session, op := 4, index := x.key / 256, sub := x.key % 256, tag := x.tag, tagged := false } (Reply.segmentError x.size)
  match s.security.load with
  | some (x, n) =>
    if x = session ∧ due s.security.loadAt = true then
      (s.loadEnds 4 {}).finish { session := session, op := 4, index := 0xC020, sub := 2, tagged := false } (Reply.segmentError n)
    else s
  | none => s

/-- SEG_TIMEOUT. -/
def execSegTimeout (session : Nat) (s : State) : Host.Outcome State Fault Refusal := .next (if s.isOpen session then s.segTimeout session else s)

/-! ### Requests arrive (R325, R342, R344) -/

/-- The reply a TAG of the session was answered with, among the last 64. -/
def State.cached (s : State) (q : Request) : Option Reply :=
  if q.tagged then ((s.host q.session).replies.find? fun x => decide (x.1 = q.tag)).map (·.2.2) else none

/-- Same session and TAG. -/
def sameTag (q x : Request) : Bool := x.tagged && decide (x.session = q.session) && decide (x.tag = q.tag)

/-- The TAG is that of a transaction still queued or in service. -/
def State.outstanding (s : State) (q : Request) : Bool :=
  q.tagged && (s.hosts.queue.any (sameTag q) || (match s.hosts.commit with
    | some c => sameTag q c.req
    | none => false) || s.safety.verifying.any fun x => match x.2.1 with
      | some y => sameTag q y
      | none => false)

/-- The queue of the session, or of the module, is full (R338). -/
def State.queueFull (s : State) (session : Nat) : Bool :=
  decide (32 ≤ (s.hosts.queue.filter fun q => decide (q.session = session)).length) || decide (256 ≤ s.hosts.queue.length)

/-- The engine serves what arrives at once. -/
def State.engineIdle (s : State) : Bool := s.hosts.queue.isEmpty && s.past s.hosts.busyUntil 0

/-- A request of an open session arrives; what a closed session sends is dropped. (Log 54, DEDUCED, unsafe.) -/
def State.arrive (s : State) (q : Request) : State :=
  if s.isOpen q.session = false then s
  else
    let s := s.heard q.session
    let q := { q with at1 := s.now }
    if s.bit OD.PR_BUSY 1 then s.finish { q with tagged := false } Reply.busyReset
    else
      match s.cached q with
      | some r => s.emit (.reply q.session q.tag r)
      | none =>
        if s.outstanding q then s.delayNotice
        else if s.queueFull q.session then
          let s := (s.bump OD.REFUSED_TOTAL).occur { code := Ev.QUEUE_PRESSURE, session := q.session }
          s.finish q { code := 0x74, time := timeField (s.retryAfter q.session) }
        else if s.engineIdle && !s.waitsForCommit q then s.serveRequest q
        else s.setHosts { s.hosts with queue := s.hosts.queue ++ [q] }

/-- DICT_CLOSE. -/
def execDictClose (session : Nat) (tag : BitVec 16) (s : State) : Host.Outcome State Fault Refusal :=
  .next (s.arrive { session := session, op := 2, tag := tag.toNat })

/-- DICT_READ. -/
def execDictRead (session : Nat) (tag index : BitVec 16) (sub : Byte) (offset : BitVec 32) (staged : Bool) (s : State) :
    Host.Outcome State Fault Refusal :=
  .next (s.arrive { session := session, op := 3, tag := tag.toNat, index := index.toNat, sub := sub.toNat, offset := offset.toNat, readStaged := staged })

/-- DICT_WRITE. -/
def execDictWrite (session : Nat) (tag index : BitVec 16) (sub : Byte) (offset : BitVec 32) (last : Bool) (data : List Byte) (s : State) :
    Host.Outcome State Fault Refusal :=
  .next (s.arrive
    { session := session, op := 4, tag := tag.toNat, index := index.toNat, sub := sub.toNat, offset := offset.toNat, last := last, data := data })

/-- DICT_KEEPALIVE. -/
def execDictKeepalive (session : Nat) (tag : BitVec 16) (s : State) : Host.Outcome State Fault Refusal :=
  .next (s.arrive { session := session, op := 5, tag := tag.toNat })

/-- DICT_ABORT (R344): the queued transaction of a TAG is withdrawn; the ABORT itself is answered with whether there was one. -/
def State.abort (s : State) (session tag : Nat) : State :=
  if s.isOpen session = false then s
  else
    let s := s.heard session
    let a : Request := { session := session, op := 6, tag := tag, tagged := false }
    if s.bit OD.PR_BUSY 1 then s.finish a Reply.busyReset
    else
      match s.hosts.queue.find? (sameTag a) with
      | some q => ((s.setHosts { s.hosts with queue := s.hosts.queue.erase q }).withdrawn q 0).finish a { qty := 1 }
      | none => s.finish a Reply.ok

/-- DICT_ABORT. -/
def execDictAbort (session : Nat) (tag : BitVec 16) (s : State) : Host.Outcome State Fault Refusal := .next (s.abort session tag.toNat)

/-- COMMIT, sent without a TAG. -/
def commitRequest (session now : Nat) : Request :=
  { session := session, op := 4, index := 0x1F00, sub := 1, data := [1], tagged := false, at1 := now }

/-- DICT_COMMIT: served as it comes, but behind a commit of another session (R336). -/
def State.commitNow (s : State) (session : Nat) : State :=
  let q := commitRequest session s.now
  if s.bit OD.PR_BUSY 1 then (s.heard session).finish q Reply.busyReset
  else
    match (if s.writesBarred then some Reply.wrongState else s.commitRefusal session true) with
    | some r => ((s.heard session).served session (s.classOf q)).finish q r
    | none =>
      if s.waitsForCommit q then let s := s.heard session; s.setHosts { s.hosts with queue := s.hosts.queue ++ [q] }
      else
        match ((s.heard session).served session (s.classOf q)).commit q with
        | (t, some r) => t.finish q r
        | (t, none) => t

/-- DICT_COMMIT. -/
def execDictCommit (session : Nat) (s : State) : Host.Outcome State Fault Refusal := .next (s.commitNow session)

/-! ### Sessions (R322, R323, R325, R345, R476) -/

/-- Sessions may be opened on a port: life cycle (Table 18.3), RECOVERY (R479), power and connection. -/
def State.portServed (s : State) (p : Nat) : Bool :=
  let open' := decide (s.nat OD.LC_STATE ≠ 0) && decide (s.nat OD.LC_STATE ≠ 4) && decide (s.nat OD.BOOT_STATE ≠ 12)
  if p < 2 then open' && s.domainOn 10 && s.ethUp p
  else if p < 4 then open' && s.domainOn 11 && s.canOpen (p - 2) && (decide (s.nat (OD.PORT_STATE (p - 2)) = 2) || decide (s.nat (OD.PORT_STATE (p - 2)) = 3))
  else s.domainOn 1 && s.flag OD.M_CONNECTED

/-- A session opens with its role and peer. -/
def State.openSession (s : State) (x role : Nat) (assoc : Option Nat) (peer : List Byte) (detail : Nat) : State :=
  let i := sessIdx x
  let s := ((s.putN (OD.SESSION_STATE i) 1).putN (OD.SESSION_ROLE i) role).put (OD.PEER i) (.bytes peer)
  (s.setHost x { assoc := assoc, lastAt := s.now }).occur { code := Ev.SESSION, detail := detail, session := x }

/-- The open session of an association, or of the M port. -/
def State.sessionOf (s : State) (p assoc : Nat) : Option Nat :=
  allSessions.find? fun x => s.isOpen x && decide (sessPort x = p) && (decide (p = 4) || decide ((s.host x).assoc = some assoc))

/-- The answer to an OPEN that opens no session; it belongs to none. -/
def State.openRefused (s : State) (tag : Nat) (r : Reply) : State := s.emit (.reply 0xFF tag { r with op := 0x81 })

/-- The new session of an OPEN: role and peer, and whether the certificate's validity went unchecked (R323, R476). -/
def State.openNew (s : State) (p assoc tag role x : Nat) : State :=
  let q : Request := { session := x, op := 1, tag := tag, at1 := s.now }
  let a := s.hosts.assocs.find? fun a => decide (a.1 = assoc)
  let cert := match a with
    | some a => if p < 2 then a.2.2.1.role else 2
    | none => 2
  let peer := match a with
    | some a => if p < 2 then a.2.2.2 else []
    | none => []
  let unchecked := decide (p < 2) && s.validityUnchecked
  let role := Nat.min role (Nat.min (s.nat (OD.ROLE_CEILING p)) cert)
  (s.openSession x role (if p < 2 then some assoc else none) peer (p + (if unchecked then 256 else 0))).finish q { detail := x }

/-- DICT_OPEN on E1, E2 (over an association of the port) or M; C1 and C2 carry no OPEN. (Log 48, DEDUCED, unsafe.) -/
def State.dictOpen (s : State) (p assoc tag role : Nat) : State :=
  let known := s.hosts.assocs.any fun a => decide (a.1 = assoc) && decide (a.2.1 = p)
  if p = 2 ∨ p = 3 ∨ s.portServed p = false ∨ (p < 2 ∧ known = false) then s
  else if s.bit OD.PR_BUSY 1 then s.openRefused tag Reply.busyReset
  else
    match s.sessionOf p assoc with
    | some x =>
      let s := s.heard x
      let q : Request := { session := x, op := 1, tag := tag, at1 := s.now }
      (match s.cached q with
       | some r => s.emit (.reply x tag r)
       | none => s.finish q { detail := x })
    | none =>
      if 2 < role then s.openRefused tag Reply.outOfRange
      else
        match allSessions.find? fun x => decide (sessPort x = p) && !s.isOpen x with
        | some x => s.openNew p assoc tag role x
        | none => (s.bump OD.REFUSED_TOTAL).openRefused tag { code := 0x75, time := 0x8001 }

/-- DICT_OPEN. -/
def execDictOpen (port : Fin 5) (assoc : Nat) (tag : BitVec 16) (role : Byte) (s : State) : Host.Outcome State Fault Refusal :=
  .next (s.dictOpen port.val assoc tag.toNat role.toNat)

/-- SESSION_TIMEOUT (R325). -/
def State.sessionTimeout (s : State) (session : Nat) : State :=
  if s.past (s.host session).lastAt (sec (s.nat OD.SESSION_TIMEOUT)) then s.closeSession session else s

/-- SESSION_TIMEOUT. -/
def execSessionTimeout (session : Nat) (s : State) : Host.Outcome State Fault Refusal := .next (s.sessionTimeout session)

/-- DTLS_HANDSHAKE (R345, R476): an association with a host whose chain is accepted; any other is refused. The device key signs for the module. -/
def State.handshake (s : State) (k assoc : Nat) (peer : List Byte) (chain : CertChain) : State :=
  if s.portServed k = false ∨ s.nat OD.KEY_STATE ≠ 1 then s
  else if s.chainOk chain then
    s.setHosts { s.hosts with assocs := s.hosts.assocs.filter (fun a => decide (a.1 ≠ assoc)) ++ [(assoc, k, chain, peer)] }
  else s.note Ev.AUTH_FAIL 0

/-- DTLS_HANDSHAKE. -/
def execDtlsHandshake (k : Fin 2) (assoc : Nat) (peer : List Byte) (chain : CertChain) (s : State) : Host.Outcome State Fault Refusal :=
  .next (s.handshake k.val assoc peer chain)

/-- DTLS_ASSOCIATION_END: its session closes. -/
def State.associationEnd (s : State) (assoc : Nat) : State :=
  let s := s.closeSessions fun x => decide (x < 0x20) && decide ((s.host x).assoc = some assoc)
  s.setHosts { s.hosts with assocs := s.hosts.assocs.filter fun a => decide (a.1 ≠ assoc) }

/-- DTLS_ASSOCIATION_END. -/
def execDtlsAssociationEnd (assoc : Nat) (s : State) : Host.Outcome State Fault Refusal := .next (s.associationEnd assoc)

/-! ### USDO on C1 and C2 (R347, R348) -/

/-- The session of a CAN port. -/
def canSession (k : Nat) : Nat := 0x20 + 0x10 * k

/-- The session of a CAN port opens with its first request, with the port's ceiling as its role; the client's node ID is no part of the command (free,
log 2). (Log 57, DEDUCED, unsafe.) -/
def State.usdoOpen (s : State) (k : Nat) : State :=
  if s.isOpen (canSession k) then s
  else
    let (n, s) := s.draw
    s.openSession (canSession k) (s.nat (OD.ROLE_CEILING (2 + k))) none [BitVec.ofNat 8 (Config.freeNat n)] (2 + k)

/-- USDO_REQUEST: a transaction of the port's session, without a TAG. -/
def State.usdoRequest (s : State) (k : Nat) (isWrite : Bool) (index sub : Nat) (data : List Byte) : State :=
  if s.portServed (2 + k) then
    (s.usdoOpen k).arrive { session := canSession k, op := if isWrite then 4 else 3, index := index, sub := sub, data := data, usdo := true, tagged := false }
  else s

/-- USDO_REQUEST. -/
def execUsdoRequest (k : Fin 2) (isWrite : Bool) (index : BitVec 16) (sub : Byte) (data : List Byte) (s : State) : Host.Outcome State Fault Refusal :=
  .next (s.usdoRequest k.val isWrite index.toNat sub.toNat data)

/-- USDO_WAIT has passed for a transaction of the port that has had no final answer. -/
def State.usdoLate (s : State) (x : Nat) (q : Request) : Bool :=
  q.usdo && !q.late && decide (q.session = x) && s.past q.at1 (ms (s.nat OD.USDO_WAIT))

/-- The abort of R348. -/
def State.usdoAbortLate (s : State) (x : Nat) : State := s.emit (.usdoAbort x 0x08000020)

/-- USDO_WAIT_EXPIRED (R348): queued transactions are withdrawn, those in service go on without their answer; all are aborted. -/
def State.usdoWaitExpired (s : State) (k : Nat) : State :=
  let x := canSession k
  let old := s.hosts.queue.filter (s.usdoLate x)
  let t := s.setHosts { s.hosts with queue := s.hosts.queue.filter fun q => !s.usdoLate x q }
  let t := old.foldl (init := t) fun t _ => (t.keepLast x 0 { code := 0x78 }).usdoAbortLate x
  let t := match t.hosts.commit with
    | some c => if s.usdoLate x c.req then (t.setHosts { t.hosts with commit := some { c with req := { c.req with late := true } } }).usdoAbortLate x else t
    | none => t
  let v := t.safety.verifying
  let late (q : Option Request) : Bool := match q with
    | some q => s.usdoLate x q
    | none => false
  let t := v.foldl (init := t) fun t y => if late y.2.1 then t.usdoAbortLate x else t
  t.setSafety { t.safety with verifying := v.map fun y => (y.1, y.2.1.map (fun q => if s.usdoLate x q then { q with late := true } else q), y.2.2) }

/-- USDO_WAIT_EXPIRED. -/
def execUsdoWaitExpired (k : Fin 2) (s : State) : Host.Outcome State Fault Refusal := .next (s.usdoWaitExpired k.val)

/-! ### Loss of the TCXO (R47) -/

/-- TCXO_FAIL: the timebase, CAN and USB are lost, and with them the sessions of C1, C2 and M. -/
def State.tcxoFail (s : State) : State :=
  if s.tb.tcxoFailed then s
  else
    let s := ((s.tcxoLost).refreshCan).putB OD.M_CONNECTED false
    s.closeSessions fun x => decide (0x20 ≤ x)

/-- TCXO_FAIL. -/
def execTcxoFail (s : State) : Host.Outcome State Fault Refusal := .next s.tcxoFail

/-- TCXO_RECOVER (R47): acquisition proceeds; CAN integrates again. -/
def execTcxoRecover (s : State) : Host.Outcome State Fault Refusal := .next (s.tcxoRecover).refreshCan

end Sys2Proof.Machine
end

