-- ==== Sys2Proof/Machine/Dispatch.lean ====
section
/-!
DEFINITION. Machine/Dispatch.lean: one arm per command, each one call of its meaning.
-/
namespace Sys2Proof.Machine
open Sys2Proof

/-- The effect of a command on everything but the queue. -/
def exec (i : Instr) (s : State) : Host.Outcome State Fault Refusal :=
  match i with
  | .fabricCodewordArrival link dest sent err => Sys2Proof.Machine.execFabricCodewordArrival link dest sent err s
  | .bankRead bank row col upset write mirrored badSpares => Sys2Proof.Machine.execBankRead bank row col upset write mirrored badSpares s
  | .gaugeSample lane vals => Sys2Proof.Machine.execGaugeSample lane vals s
  | .gillRenewTimeout lane g => Sys2Proof.Machine.execGillRenewTimeout lane g s
  | .gaugeHealthyAgain lane g => Sys2Proof.Machine.execGaugeHealthyAgain lane g s
  | .houseSupervisionMiss lane => Sys2Proof.Machine.execHouseSupervisionMiss lane s
  | .tbAlign refOffset => Sys2Proof.Machine.execTbAlign refOffset s
  | .holdoverRelock vcoInRange => Sys2Proof.Machine.execHoldoverRelock vcoInRange s
  | .lossOfLock vcoInRange => Sys2Proof.Machine.execLossOfLock vcoInRange s
  | .carrierPull c => Sys2Proof.Machine.execCarrierPull c s
  | .adcConversionDone c slot code => Sys2Proof.Machine.execAdcConversionDone c slot code s
  | .adcConversionTimeout c window => Sys2Proof.Machine.execAdcConversionTimeout c window s
  | .fcSettled n => Sys2Proof.Machine.execFcSettled n s
  | .rsGridsync n => Sys2Proof.Machine.execRsGridsync n s
  | .commitPhase specDone words writes => Sys2Proof.Machine.execCommitPhase specDone words writes s
  | .fullPathCommit lane words writes => Sys2Proof.Machine.execFullPathCommit lane words writes s
  | .lawStart session => Sys2Proof.Machine.execLawStart session s
  | .lawStop session => Sys2Proof.Machine.execLawStop session s
  | .setpointWrite session slot value => Sys2Proof.Machine.execSetpointWrite session slot value s
  | .brkClosedWrite session closed => Sys2Proof.Machine.execBrkClosedWrite session closed s
  | .rtTimerReset isOver => Sys2Proof.Machine.execRtTimerReset isOver s
  | .protDelayExpired row => Sys2Proof.Machine.execProtDelayExpired row s
  | .fbLost c => Sys2Proof.Machine.execFbLost c s
  | .fbRestored c => Sys2Proof.Machine.execFbRestored c s
  | .degradedStopEnd => Sys2Proof.Machine.execDegradedStopEnd s
  | .carrierReload c => Sys2Proof.Machine.execCarrierReload c s
  | .compareEdge p highActive => Sys2Proof.Machine.execCompareEdge p highActive s
  | .deadTimeTurnOn ch => Sys2Proof.Machine.execDeadTimeTurnOn ch s
  | .safeStep2 => Sys2Proof.Machine.execSafeStep2 s
  | .clampTimeEnd => Sys2Proof.Machine.execClampTimeEnd s
  | .debugHalt lane halt => Sys2Proof.Machine.execDebugHalt lane halt s
  | .tripInput n level => Sys2Proof.Machine.execTripInput n level s
  | .blankWindowEnd n => Sys2Proof.Machine.execBlankWindowEnd n s
  | .cmdTimeout => Sys2Proof.Machine.execCmdTimeout s
  | .tripClear session mask => Sys2Proof.Machine.execTripClear session mask s
  | .mmcSort arm => Sys2Proof.Machine.execMmcSort arm s
  | .parcelReceive rx w => Sys2Proof.Machine.execParcelReceive rx w s
  | .blockLockLost rx invalid => Sys2Proof.Machine.execBlockLockLost rx invalid s
  | .bundleLock rx offset clean => Sys2Proof.Machine.execBundleLock rx offset clean s
  | .trainingBundleReceive rx bundle height width => Sys2Proof.Machine.execTrainingBundleReceive rx bundle height width s
  | .rxReady l => Sys2Proof.Machine.execRxReady l s
  | .adaptTimeout l => Sys2Proof.Machine.execAdaptTimeout l s
  | .weakRetry l => Sys2Proof.Machine.execWeakRetry l s
  | .onewayMeasured l => Sys2Proof.Machine.execOnewayMeasured l s
  | .linkRetrain l => Sys2Proof.Machine.execLinkRetrain l s
  | .fastRetrainDone l fom => Sys2Proof.Machine.execFastRetrainDone l fom s
  | .pstateReq session l v => Sys2Proof.Machine.execPstateReq session l v s
  | .pstateEntry l => Sys2Proof.Machine.execPstateEntry l s
  | .uplinkBurstReceive l => Sys2Proof.Machine.execUplinkBurstReceive l s
  | .uplinkLost e => Sys2Proof.Machine.execUplinkLost e s
  | .epRateScan e port => Sys2Proof.Machine.execEpRateScan e port s
  | .epBurstAccept e port => Sys2Proof.Machine.execEpBurstAccept e port s
  | .epInsertionApply e => Sys2Proof.Machine.execEpInsertionApply e s
  | .epEdgeExecute e p => Sys2Proof.Machine.execEpEdgeExecute e p s
  | .epFrameMissed e => Sys2Proof.Machine.execEpFrameMissed e s
  | .epBridgeExpiry e => Sys2Proof.Machine.execEpBridgeExpiry e s
  | .epLeaseExpiry e port => Sys2Proof.Machine.execEpLeaseExpiry e port s
  | .epCfg e => Sys2Proof.Machine.execEpCfg e s
  | .epUplinkBurst e volts currents => Sys2Proof.Machine.execEpUplinkBurst e volts currents s
  | .epLocalFault e fault => Sys2Proof.Machine.execEpLocalFault e fault s
  | .ldCmd session x v => Sys2Proof.Machine.execLdCmd session x v s
  | .ldClear session mask => Sys2Proof.Machine.execLdClear session mask s
  | .chopperPeriodStart x => Sys2Proof.Machine.execChopperPeriodStart x s
  | .ldHoldExpired x => Sys2Proof.Machine.execLdHoldExpired x s
  | .ldPrechargeTimeout x => Sys2Proof.Machine.execLdPrechargeTimeout x s
  | .ldSupplyMeasure x vpos vneg senseHigh => Sys2Proof.Machine.execLdSupplyMeasure x vpos vneg senseHigh s
  | .ldUvlo x vneg => Sys2Proof.Machine.execLdUvlo x vneg s
  | .ldUvloRecover x => Sys2Proof.Machine.execLdUvloRecover x s
  | .ldShort x hard => Sys2Proof.Machine.execLdShort x hard s
  | .ldSoftOffDone x => Sys2Proof.Machine.execLdSoftOffDone x s
  | .ldRetryWaitEnd x => Sys2Proof.Machine.execLdRetryWaitEnd x s
  | .ldRetryReload x => Sys2Proof.Machine.execLdRetryReload x s
  | .ldBootRefresh x => Sys2Proof.Machine.execLdBootRefresh x s
  | .chopperUnavailable x => Sys2Proof.Machine.execChopperUnavailable x s
  | .pathCodeword words => Sys2Proof.Machine.execPathCodeword words s
  | .outputCompare => Sys2Proof.Machine.execOutputCompare s
  | .eftFault => Sys2Proof.Machine.execEftFault s
  | .eftWarmingEnd => Sys2Proof.Machine.execEftWarmingEnd s
  | .laneRetestDone lane pass => Sys2Proof.Machine.execLaneRetestDone lane pass s
  | .laneQualified => Sys2Proof.Machine.execLaneQualified s
  | .healthRecompute kaA kaB => Sys2Proof.Machine.execHealthRecompute kaA kaB s
  | .loopbackTest pass => Sys2Proof.Machine.execLoopbackTest pass s
  | .laneSwap session => Sys2Proof.Machine.execLaneSwap session s
  | .laneRotate => Sys2Proof.Machine.execLaneRotate s
  | .laneRequalify session lane => Sys2Proof.Machine.execLaneRequalify session lane s
  | .laneTakeOut session lane => Sys2Proof.Machine.execLaneTakeOut session lane s
  | .heartbeatReceive x0 x1 serial => Sys2Proof.Machine.execHeartbeatReceive x0 x1 serial s
  | .xlRunReceive x0 x1 => Sys2Proof.Machine.execXlRunReceive x0 x1 s
  | .forwardedBlockMissing => Sys2Proof.Machine.execForwardedBlockMissing s
  | .plausibility => Sys2Proof.Machine.execPlausibility s
  | .pairRoleResolve => Sys2Proof.Machine.execPairRoleResolve s
  | .pairHandover session => Sys2Proof.Machine.execPairHandover session s
  | .pairRequalify session => Sys2Proof.Machine.execPairRequalify session s
  | .autoHandover => Sys2Proof.Machine.execAutoHandover s
  | .skewDiverged module lane => Sys2Proof.Machine.execSkewDiverged module lane s
  | .dictOpen port assoc tag role => Sys2Proof.Machine.execDictOpen port assoc tag role s
  | .dictClose session tag => Sys2Proof.Machine.execDictClose session tag s
  | .dictRead session tag index sub offset staged => Sys2Proof.Machine.execDictRead session tag index sub offset staged s
  | .dictWrite session tag index sub offset last data => Sys2Proof.Machine.execDictWrite session tag index sub offset last data s
  | .dictKeepalive session tag => Sys2Proof.Machine.execDictKeepalive session tag s
  | .dictAbort session tag => Sys2Proof.Machine.execDictAbort session tag s
  | .sessionTimeout session => Sys2Proof.Machine.execSessionTimeout session s
  | .dictCommit session => Sys2Proof.Machine.execDictCommit session s
  | .configSwitch fails => Sys2Proof.Machine.execConfigSwitch fails s
  | .dictDiscard session => Sys2Proof.Machine.execDictDiscard session s
  | .ownRequest session => Sys2Proof.Machine.execOwnRequest session s
  | .ownRelease session => Sys2Proof.Machine.execOwnRelease session s
  | .ownForce session => Sys2Proof.Machine.execOwnForce session s
  | .ownershipLost => Sys2Proof.Machine.execOwnershipLost s
  | .transactionServe => Sys2Proof.Machine.execTransactionServe s
  | .serviceWindow => Sys2Proof.Machine.execServiceWindow s
  | .delayNotice => Sys2Proof.Machine.execDelayNotice s
  | .queueExpired => Sys2Proof.Machine.execQueueExpired s
  | .segTimeout session => Sys2Proof.Machine.execSegTimeout session s
  | .usdoRequest k isWrite index sub data => Sys2Proof.Machine.execUsdoRequest k isWrite index sub data s
  | .usdoWaitExpired k => Sys2Proof.Machine.execUsdoWaitExpired k s
  | .ethFrameReceive k len fcsOk vlan kind => Sys2Proof.Machine.execEthFrameReceive k len fcsOk vlan kind s
  | .ethLink k up => Sys2Proof.Machine.execEthLink k up s
  | .dtlsHandshake k assoc peer chain => Sys2Proof.Machine.execDtlsHandshake k assoc peer chain s
  | .ptpAnnounceReceive k msg => Sys2Proof.Machine.execPtpAnnounceReceive k msg s
  | .ptpDelayExchange k t1 t2 t3 t4 => Sys2Proof.Machine.execPtpDelayExchange k t1 t2 t3 t4 s
  | .servoMeasurement k logInterval sent received => Sys2Proof.Machine.execServoMeasurement k logInterval sent received s
  | .announceTimeout => Sys2Proof.Machine.execAnnounceTimeout s
  | .forceStep session => Sys2Proof.Machine.execForceStep session s
  | .leapSecond => Sys2Proof.Machine.execLeapSecond s
  | .vaultTimeCopy => Sys2Proof.Machine.execVaultTimeCopy s
  | .launchArm session k slot value => Sys2Proof.Machine.execLaunchArm session k slot value s
  | .launch k slot => Sys2Proof.Machine.execLaunch k slot s
  | .canRxFrame k f held => Sys2Proof.Machine.execCanRxFrame k f held s
  | .canTxReq session k t value => Sys2Proof.Machine.execCanTxReq session k t value s
  | .canTxDone k t res => Sys2Proof.Machine.execCanTxDone k t res s
  | .canIdBackoffEnd k t => Sys2Proof.Machine.execCanIdBackoffEnd k t s
  | .canBusoffRecover k => Sys2Proof.Machine.execCanBusoffRecover k s
  | .busRecover session k => Sys2Proof.Machine.execBusRecover session k s
  | .ttReference k prio cycle => Sys2Proof.Machine.execTtReference k prio cycle s
  | .ttRefDue k won => Sys2Proof.Machine.execTtRefDue k won s
  | .ttSyncLost k => Sys2Proof.Machine.execTtSyncLost k s
  | .ttColumnOpen k w => Sys2Proof.Machine.execTtColumnOpen k w s
  | .canTsPair k counter => Sys2Proof.Machine.execCanTsPair k counter s
  | .canopenNmt k cmd node => Sys2Proof.Machine.execCanopenNmt k cmd node s
  | .canopenHeartbeat k => Sys2Proof.Machine.execCanopenHeartbeat k s
  | .recOccurrence code detail set origin => Sys2Proof.Machine.execRecOccurrence code detail set origin s
  | .recTokenRefill code => Sys2Proof.Machine.execRecTokenRefill code s
  | .recWrite => Sys2Proof.Machine.execRecWrite s
  | .recSummaryRetry => Sys2Proof.Machine.execRecSummaryRetry s
  | .recDataRead session offset => Sys2Proof.Machine.execRecDataRead session offset s
  | .recClear session => Sys2Proof.Machine.execRecClear session s
  | .recFreeze session => Sys2Proof.Machine.execRecFreeze session s
  | .recUnfreeze session => Sys2Proof.Machine.execRecUnfreeze session s
  | .captGridSample q => Sys2Proof.Machine.execCaptGridSample q s
  | .captArm session q => Sys2Proof.Machine.execCaptArm session q s
  | .captStop session q => Sys2Proof.Machine.execCaptStop session q s
  | .trigNow session q => Sys2Proof.Machine.execTrigNow session q s
  | .captFreeze q => Sys2Proof.Machine.execCaptFreeze q s
  | .captHoldoffEnd q => Sys2Proof.Machine.execCaptHoldoffEnd q s
  | .captDataRead session q offset => Sys2Proof.Machine.execCaptDataRead session q offset s
  | .captRearm q => Sys2Proof.Machine.execCaptRearm q s
  | .streamRate q => Sys2Proof.Machine.execStreamRate q s
  | .streamPacketSend q => Sys2Proof.Machine.execStreamPacketSend q s
  | .streamPause q src srcPort => Sys2Proof.Machine.execStreamPause q src srcPort s
  | .streamResume q src srcPort => Sys2Proof.Machine.execStreamResume q src srcPort s
  | .sinDemand n chB => Sys2Proof.Machine.execSinDemand n chB s
  | .sinTestPulse n chB fell => Sys2Proof.Machine.execSinTestPulse n chB fell s
  | .sinDiscrepancy n => Sys2Proof.Machine.execSinDiscrepancy n s
  | .sinFaultEnd n => Sys2Proof.Machine.execSinFaultEnd n s
  | .sgbGateDelayExpired reaction => Sys2Proof.Machine.execSgbGateDelayExpired reaction s
  | .sgbAutoRelease => Sys2Proof.Machine.execSgbAutoRelease s
  | .gateEnFault output => Sys2Proof.Machine.execGateEnFault output s
  | .outputOffTest output fell => Sys2Proof.Machine.execOutputOffTest output fell s
  | .sos v => Sys2Proof.Machine.execSos v s
  | .sosWireFault v => Sys2Proof.Machine.execSosWireFault v s
  | .sosTestInjection reported => Sys2Proof.Machine.execSosTestInjection reported s
  | .safetyDiag row detail => Sys2Proof.Machine.execSafetyDiag row detail s
  | .islandSelfTestDone => Sys2Proof.Machine.execIslandSelfTestDone s
  | .safetyLogin session password => Sys2Proof.Machine.execSafetyLogin session password s
  | .safetyLoginVerified session => Sys2Proof.Machine.execSafetyLoginVerified session s
  | .portLockoutEnd port => Sys2Proof.Machine.execPortLockoutEnd port s
  | .safetyLoginTimeout session => Sys2Proof.Machine.execSafetyLoginTimeout session s
  | .safetyLogout session => Sys2Proof.Machine.execSafetyLogout session s
  | .safetyPwNew session password => Sys2Proof.Machine.execSafetyPwNew session password s
  | .safetyApply session => Sys2Proof.Machine.execSafetyApply session s
  | .safetyDiscard session => Sys2Proof.Machine.execSafetyDiscard session s
  | .scsAck session value => Sys2Proof.Machine.execScsAck session value s
  | .sgbTest session => Sys2Proof.Machine.execSgbTest session s
  | .marchAbort session bank => Sys2Proof.Machine.execMarchAbort session bank s
  | .marchTransparent session bank => Sys2Proof.Machine.execMarchTransparent session bank s
  | .marchSs session bank => Sys2Proof.Machine.execMarchSs session bank s
  | .marchRowStep bank ok upsets badSpares => Sys2Proof.Machine.execMarchRowStep bank ok upsets badSpares s
  | .auxSupply lost kind inputV freq power energy => Sys2Proof.Machine.execAuxSupply lost kind inputV freq power energy s
  | .lastGasp => Sys2Proof.Machine.execLastGasp s
  | .thermalStop => Sys2Proof.Machine.execThermalStop s
  | .attestChallenge session challenge => Sys2Proof.Machine.execAttestChallenge session challenge s
  | .attestResponseReady session => Sys2Proof.Machine.execAttestResponseReady session s
  | .certChange session target data => Sys2Proof.Machine.execCertChange session target data s
  | .fwImageLoad session offset size last found => Sys2Proof.Machine.execFwImageLoad session offset size last found s
  | .fwActivateLane session lane => Sys2Proof.Machine.execFwActivateLane session lane s
  | .fwActivateModule session => Sys2Proof.Machine.execFwActivateModule session s
  | .fwAccept session => Sys2Proof.Machine.execFwAccept session s
  | .tamper source isPresent => Sys2Proof.Machine.execTamper source isPresent s
  | .tamperClear session mask => Sys2Proof.Machine.execTamperClear session mask s
  | .lcReqReturn session => Sys2Proof.Machine.execLcReqReturn session s
  | .lcReqSanitised session => Sys2Proof.Machine.execLcReqSanitised session s
  | .lcReqRetired session => Sys2Proof.Machine.execLcReqRetired session s
  | .lcConfirm session nonce => Sys2Proof.Machine.execLcConfirm session nonce s
  | .lcReqExpiry => Sys2Proof.Machine.execLcReqExpiry s
  | .vendorUnlock session token signed => Sys2Proof.Machine.execVendorUnlock session token signed s
  | .vendorRecommission session token signed => Sys2Proof.Machine.execVendorRecommission session token signed s
  | .coldStart kind inputV freq power energy rstLow => Sys2Proof.Machine.execColdStart kind inputV freq power energy rstLow s
  | .bootStageEnd stage found => Sys2Proof.Machine.execBootStageEnd stage found s
  | .timeWaitExpired => Sys2Proof.Machine.execTimeWaitExpired s
  | .bootTimebaseTimeout => Sys2Proof.Machine.execBootTimebaseTimeout s
  | .resetCmdModule session => Sys2Proof.Machine.execResetCmdModule session s
  | .resetCmdLane session lane => Sys2Proof.Machine.execResetCmdLane session lane s
  | .rstNAssert => Sys2Proof.Machine.execRstNAssert s
  | .rstNRelease => Sys2Proof.Machine.execRstNRelease s
  | .rstStuck => Sys2Proof.Machine.execRstStuck s
  | .rstStuckRelease => Sys2Proof.Machine.execRstStuckRelease s
  | .watchdog unit => Sys2Proof.Machine.execWatchdog unit s
  | .partialResetCmd session block => Sys2Proof.Machine.execPartialResetCmd session block s
  | .prDrainEnd block targetResets discards => Sys2Proof.Machine.execPrDrainEnd block targetResets discards s
  | .prBlockRunning block => Sys2Proof.Machine.execPrBlockRunning block s
  | .mConnected up => Sys2Proof.Machine.execMConnected up s
  | .dtlsAssociationEnd assoc => Sys2Proof.Machine.execDtlsAssociationEnd assoc s
  | .laneBootDone lane version => Sys2Proof.Machine.execLaneBootDone lane version s
  | .ldPulseEdge x => Sys2Proof.Machine.execLdPulseEdge x s
  | .sinChannelsHigh n => Sys2Proof.Machine.execSinChannelsHigh n s
  | .sosBelowHysteresis v => Sys2Proof.Machine.execSosBelowHysteresis v s
  | .refclkQualified => Sys2Proof.Machine.execRefclkQualified s
  | .dcrSourceMove => Sys2Proof.Machine.execDcrSourceMove s
  | .dcrTuneWrite => Sys2Proof.Machine.execDcrTuneWrite s
  | .tbDivApplied => Sys2Proof.Machine.execTbDivApplied s
  | .freqAcquisitionDone => Sys2Proof.Machine.execFreqAcquisitionDone s
  | .lockDetectStable => Sys2Proof.Machine.execLockDetectStable s
  | .refLoss => Sys2Proof.Machine.execRefLoss s
  | .refFallback => Sys2Proof.Machine.execRefFallback s
  | .refReturn => Sys2Proof.Machine.execRefReturn s
  | .tbHoldoverExpired => Sys2Proof.Machine.execTbHoldoverExpired s
  | .relockDone => Sys2Proof.Machine.execRelockDone s
  | .tbLost => Sys2Proof.Machine.execTbLost s
  | .tcxoFail => Sys2Proof.Machine.execTcxoFail s
  | .tcxoRecover => Sys2Proof.Machine.execTcxoRecover s
  | .ssChangeApply => Sys2Proof.Machine.execSsChangeApply s
  | .interleaveDegraded => Sys2Proof.Machine.execInterleaveDegraded s
  | .adcStartupCal => Sys2Proof.Machine.execAdcStartupCal s
  | .adcCalDone => Sys2Proof.Machine.execAdcCalDone s
  | .ichValueUpdate => Sys2Proof.Machine.execIchValueUpdate s
  | .fpBlockRelease => Sys2Proof.Machine.execFpBlockRelease s
  | .frameBoundary => Sys2Proof.Machine.execFrameBoundary s
  | .speedMarginClear => Sys2Proof.Machine.execSpeedMarginClear s
  | .shedRestore => Sys2Proof.Machine.execShedRestore s
  | .speculationStart => Sys2Proof.Machine.execSpeculationStart s
  | .coldFramesEnd => Sys2Proof.Machine.execColdFramesEnd s
  | .frameSlip => Sys2Proof.Machine.execFrameSlip s
  | .bsDelay => Sys2Proof.Machine.execBsDelay s
  | .deadCloseTimeout => Sys2Proof.Machine.execDeadCloseTimeout s
  | .bsFailed => Sys2Proof.Machine.execBsFailed s
  | .syncOk => Sys2Proof.Machine.execSyncOk s
  | .syncOkWithdrawn => Sys2Proof.Machine.execSyncOkWithdrawn s
  | .stopComplete => Sys2Proof.Machine.execStopComplete s
  | .limExit => Sys2Proof.Machine.execLimExit s
  | .rotorReleaseEnd => Sys2Proof.Machine.execRotorReleaseEnd s
  | .obsReturnDone => Sys2Proof.Machine.execObsReturnDone s
  | .obsBridgeExpiry => Sys2Proof.Machine.execObsBridgeExpiry s

end Sys2Proof.Machine
end

