-- ==== Sys2Proof/Machine/Step.lean ====
section
/-!
DEFINITION. Machine/Step.lean: one step of the block: the command at the front of the queue, or one tick of the timebase when none waits.
-/
namespace Sys2Proof.Machine
open Sys2Proof

/-- A tick of 1.6 ns passes (R33, R38): what a timer brings about is a command of its own (log 1). (Log 24, DEDUCED, unsafe.) -/
def State.tick (s : State) : State := { s with now := s.now + 1, ltc := s.ltc + 1 }

/-- The front command runs on the state with the queue's rest; an empty queue lets a tick pass. (Log 1, DESIGN CHOICE, unsafe.) -/
def step (s : State) : Host.Outcome State Fault Refusal :=
  match s.pending with
  | [] => .next s.tick
  | c :: rest => exec c { s with pending := rest }

/-- The state with the command that a word spells in front of its queue. -/
def State.withFetchWord (s : State) (nbits w : Nat) : State :=
  match decodeTableWord nbits w with
  | some c => { s with pending := c :: s.pending }
  | none => s

end Sys2Proof.Machine
end

