-- ==== Sys2Proof/Safety.lean ====
section
/-!
DEFINITION. Safety.lean: the terms in which runs are judged: the canonical form of what the state stores sparsely, and the steps that stop.
-/
namespace Sys2Proof.Machine
open Sys2Proof

/-- The contents of a bank are in canonical form: addresses strictly rising, no codeword listed that equals what an unlisted one reads as (0). -/
def Memory.wf (cells : List (Nat × BitVec 144)) : Bool := sparseWf (fun _ => 0) cells

/-- The dictionary and every bank are in canonical form, so that equal contents are equal data. -/
def State.Canonical (s : State) : Prop := sparseWf odDefault s.dict = true ∧ ∀ b, Memory.wf (s.bank b).cells = true

/-- What no command changes: the variant of the module (R2), the instant (a command takes none, log 1) and the queue of waiting commands; the
counter of free values only rises, so that no free value is used twice (log 5). -/
structure State.Persists (s t : State) : Prop where
  variant : t.variant = s.variant
  now : t.now = s.now
  pending : t.pending = s.pending
  free : s.free ≤ t.free

/-- The dictionary engine serves writes: block 1 is not in partial reset (R501), the module neither RETIRED (Table 18.3) nor in RECOVERY (R479). -/
def State.Serves (s : State) : Prop := s.bit OD.PR_BUSY 1 = false ∧ s.writesBarred = false

/-- The last thing the module sent is the answer `r` to a session (Table 12.9). -/
def State.Answered (s : State) (session : Nat) (r : Reply) : Prop := s.out.head? = some (.reply session 0 r)

/-- The state a command acts on once it is served (R325, R328, R339): the session has been heard and the service counted. -/
def State.atService (s : State) (session : Nat) : State := (s.heard session).served session (if s.nat OD.OWNER_SESSION = session then 2 else 0)

/-- What raising an occurrence may change: the dictionary, the recorder, event triggers of capture streams, and what has been sent. -/
def State.Recorded (s t : State) : Prop := t = { s with dict := t.dict, recorder := t.recorder, streams := t.streams, out := t.out }

/-- Entries the recorder keeps for itself (R401–R406): its peak, the counts of lost, suppressed and overflowing records. -/
def recorderEntry (k : Nat) : Bool :=
  decide (k = OD.FIFO_PEAK) || decide (k = OD.FROZEN_LOST) || (decide (0x806000 ≤ k) && decide (k < 0x80A000))

/-- Entries of the ports and sessions (9300–933F). -/
def sessionKey (k : Nat) : Bool := decide (0x930000 ≤ k) && decide (k < 0x934000)

/-- Of all entries only the listed ones, those the recorder keeps and those of the sessions may differ. -/
def State.Alters (s t : State) (keys : List Nat) : Prop :=
  ∀ k, k ∉ keys → recorderEntry k = false → sessionKey k = false → t.od k = s.od k

/-- Entries that follow a change of LAW_STATE: the ride-through timers, held outside RUN and STOPPING, and the observer's bridge (R148, R163, R183). -/
def lawKeys : List Nat := [OD.LAW_STATE, OD.RT_STATE, OD.RT_TIME_UV, OD.RT_TIME_OV, OD.OBS_STATE, OD.BRIDGE_LEFT]

/-- Entries that a stop of the outputs writes: OUT_STATE, and the phase errors of carriers that cease (R53, R198, R201). -/
def stopKeys : List Nat := [OD.OUT_STATE, OD.PULL_ACTIVE] ++ (List.range 8).map OD.CAR_PHASE_ERR

/-- A protective stop of the law for `code` (R148, R164): FAULT with its cause, no permission to close left. -/
def State.FaultStop (s t : State) (code : Nat) : Prop :=
  t.nat OD.LAW_STATE = 8 ∧ (s.nat OD.LAW_STATE ≠ 8 → t.nat OD.FAULT_CAUSE = code) ∧ t.flag OD.SYNC_OK = false ∧ t.flag OD.DEAD_CLOSE_OK = false ∧
  t.sup.stopHeld = false

end Sys2Proof.Machine
end

