-- ==== Sys2Proof/Certificates/Slice0/Obligations.lean ====
section
/-!
DEFINITION. Obligations.lean: the statements for the provers, from the numbered rules of spec/. Where a statement says what a command does, its hypotheses
are on the state and the operands alone and its conclusion is the next state. The rules a docstring names are those the statement rests on; OBLIGATIONS.json
says which are stated whole, and names the log entries of the model's own choices that the others take in.
-/
open Sys2Proof Sys2Proof.Machine

/-! ### The block -/

/-- A step runs the command at the front of the queue on the state with the rest of it. -/
def Obligations.Step_runs_front : Prop :=
  ∀ (s : State) (c : Instr) (rest : List Instr), s.pending = c :: rest → step s = exec c { s with pending := rest }

/-- With no command waiting a tick of the timebase passes and nothing else changes (the model's choice, log 1). -/
def Obligations.Step_idle_ticks : Prop :=
  ∀ s : State, s.pending = [] →
    ∃ t, step s = .next t ∧ t.now = s.now + 1 ∧ t.ltc = s.ltc + 1 ∧ { t with now := s.now, ltc := s.ltc } = s

/-- No command is refused; the one fault is BANK_READ of a row the bank does not have, and every other command completes. -/
def Obligations.Commands_complete : Prop :=
  (∀ (c : Instr) (s : State) (r : Refusal), exec c s ≠ .refused r) ∧
  (∀ (c : Instr) (s : State) (f : Fault), exec c s = .fault f ↔
    ∃ bank row col upset write mirrored bad, c = .bankRead bank row col upset write mirrored bad ∧ s.bankRows bank.val ≤ row ∧
      f = .noSuchRow bank.val row)

/-- No command changes the variant, the instant or the queue, and none reuses a free value. -/
def Obligations.Commands_persist : Prop :=
  ∀ (c : Instr) (s t : State), exec c s = .next t → s.Persists t

/-- Every step keeps the dictionary and every bank in canonical form. -/
def Obligations.Step_keeps_canonical : Prop :=
  ∀ s t : State, s.Canonical → step s = .next t → t.Canonical

/-- The state after reset is canonical. -/
def Obligations.Reset_canonical : Prop := State.reset.Canonical

/-- After reset every dictionary entry reads its default, no command waits and nothing has been sent. -/
def Obligations.Reset_defaults : Prop :=
  (∀ k, State.reset.od k = odDefault k) ∧ State.reset.pending = [] ∧ State.reset.out = [] ∧
  State.reset.nat OD.OWNER_SESSION = 0xFF ∧ State.reset.nat OD.TRIP_FIRST = 0xFF ∧ State.reset.nat OD.TB_STATE = 0 ∧
  State.reset.nat OD.LAW_STATE = 0 ∧ State.reset.nat OD.FRAME_PERIOD = 12500

/-! ### The Bushel code (R15–R20) -/

/-- Every encoded word is valid and carries its data. -/
def Obligations.Code_encodes : Prop :=
  ∀ d : BitVec 128, bushelSyndrome (bushelEncode d) = ⟨0, 0, 0, 0⟩ ∧ bushelDecode (bushelEncode d) = .clean ∧ bushelData (bushelEncode d) = d

/-- R19: an error in one symbol is corrected; an error in two symbols is detected and never miscorrected; an error in three symbols need not be. -/
def Obligations.Code_corrects_one_detects_two : Prop :=
  (∀ (d : BitVec 128) (j e : Nat), j < 36 → 0 < e → e < 16 →
    bushelDecode (fixSymbol (bushelEncode d) j e) = .corrected (bushelEncode d)) ∧
  (∀ (d : BitVec 128) (i j a b : Nat), i < 36 → j < 36 → i ≠ j → 0 < a → a < 16 → 0 < b → b < 16 →
    bushelDecode (fixSymbol (fixSymbol (bushelEncode d) i a) j b) = .uncorrectable) ∧
  (∃ (d : BitVec 128) (i j k a b c : Nat) (v : BitVec 144), i < j ∧ j < k ∧ k < 36 ∧ 0 < a ∧ a < 16 ∧ 0 < b ∧ b < 16 ∧ 0 < c ∧ c < 16 ∧
    bushelDecode (fixSymbol (fixSymbol (fixSymbol (bushelEncode d) i a) j b) k c) = .corrected v ∧ v ≠ bushelEncode d)

/-- R20: the poisoned form of a valid word decodes as poison, with the syndrome of the unused point; no error in one or two symbols of a valid word
does; and with one more symbol in error it is uncorrectable. -/
def Obligations.Code_poison : Prop :=
  (∀ d : BitVec 128, bushelPoison (bushelEncode d) = bushelEncode d ^^^ (0xFFFF#144 <<< 128) ∧
    bushelSyndrome (bushelPoison (bushelEncode d)) = ⟨15, gfMul 15 8, 15, 15⟩ ∧ bushelDecode (bushelPoison (bushelEncode d)) = .poison) ∧
  (∀ (d : BitVec 128) (i j a b : Nat), i < 36 → j < 36 → i ≠ j → a < 16 → b < 16 →
    bushelDecode (fixSymbol (fixSymbol (bushelEncode d) i a) j b) ≠ .poison) ∧
  (∀ (d : BitVec 128) (j e : Nat), j < 36 → 0 < e → e < 16 → bushelDecode (fixSymbol (bushelPoison (bushelEncode d)) j e) = .uncorrectable)

/-! ### Architecture and memory (chapters 01 and 17) -/

/-- R14: what an arriving codeword does on a package fabric link; the codeword checked is the sender's, or on a replay the one kept. -/
def Obligations.Fabric_arrival : Prop :=
  ∀ (s : State) (l : Fin 3) (dest : Consumer) (sent err : BitVec 144),
    (bushelDecode (((vget {} s.arch.links l.val).wait.getD sent) ^^^ err) = .clean →
      ∃ t, exec (.fabricCodewordArrival l dest sent err) s = .next t ∧
        (vget {} t.arch.links l.val).delivered = ((vget {} s.arch.links l.val).wait.getD sent) ^^^ err ∧
        (vget {} t.arch.links l.val).wait = none ∧ t.dict = s.dict) ∧
    (∀ v, bushelDecode (((vget {} s.arch.links l.val).wait.getD sent) ^^^ err) = .corrected v →
      ∃ t, exec (.fabricCodewordArrival l dest sent err) s = .next t ∧ (vget {} t.arch.links l.val).delivered = v ∧
        t.nat OD.FAB_CORR = Nat.min (s.nat OD.FAB_CORR + 1) 0xFFFFFFFF) ∧
    ((vget {} s.arch.links l.val).wait = none → bushelDecode (sent ^^^ err) = .uncorrectable →
      ∃ t, exec (.fabricCodewordArrival l dest sent err) s = .next t ∧ (vget {} t.arch.links l.val).wait = some sent ∧
        (vget {} t.arch.links l.val).replay = (sent :: (vget {} s.arch.links l.val).replay).take 8 ∧
        (vget {} t.arch.links l.val).delivered = (vget {} s.arch.links l.val).delivered ∧
        t.nat OD.FAB_REPLAY = Nat.min (s.nat OD.FAB_REPLAY + 1) 0xFFFFFFFF) ∧
    (∀ w, (vget {} s.arch.links l.val).wait = some w → bushelDecode (w ^^^ err) = .uncorrectable →
      ∃ t, exec (.fabricCodewordArrival l dest sent err) s = .next t ∧ (vget {} t.arch.links l.val).wait = none ∧
        (vget {} t.arch.links l.val).delivered = bushelDeliver (w ^^^ err) ∧
        t.nat OD.FAB_POISON = Nat.min (s.nat OD.FAB_POISON + 1) 0xFFFFFFFF)

/-- R27, R29: after a sample of a die, a renewal timeout that is due, or a gauge's return, the lane's SI is the lowest reading of its healthy gauges, and 0
with a self-diagnostic failure while fewer than four are healthy; and the gauge concerned is excluded or healthy. -/
def Obligations.Gauges_give_si : Prop :=
  ∀ (s : State) (l : Lane) (g : Fin 6) (vals : List (Option Nat)),
    let good (t : State) : Prop :=
      t.nat (siKey l) = (if (t.healthyReadings l).length < 4 then 0 else (t.healthyReadings l).foldl Nat.min 65535) ∧
      ((t.healthyReadings l).length < 4 → (t.lane l).diagFail = true)
    (∃ t, exec (.gaugeSample l vals) s = .next t ∧ good t) ∧
    (s.past (vget {} (s.gauges l) g.val).renewedAt (us 4) = true →
      ∃ t, exec (.gillRenewTimeout l g) s = .next t ∧ good t ∧ t.bit (gillOkKey l) g.val = false) ∧
    (1000 ≤ (vget {} (s.gauges l) g.val).goodRun →
      ∃ t, exec (.gaugeHealthyAgain l g) s = .next t ∧ good t ∧ t.bit (gillOkKey l) g.val = true)

/-- R12: a missed supervision deadline is a self-diagnostic failure of its lane; nothing else changes. -/
def Obligations.House_supervision : Prop :=
  ∀ (s : State) (l : Lane), ∃ t, exec (.houseSupervisionMiss l) s = .next t ∧ t.lane l = { s.lane l with diagFail := true } ∧
    t.lane l.other = s.lane l.other ∧ t.dict = s.dict ∧ t.recorder = s.recorder

/-- R9, R21: a whole codeword written to a row of a bank that is ON is stored encoded, and every other codeword of every bank stays as it was. -/
def Obligations.Bank_write : Prop :=
  ∀ (s : State) (b : Fin 17) (row : Nat) (col : Fin 32) (data : BitVec 128) (m : Bool) (bad : Nat),
    row < s.bankRows b.val → s.nat (OD.BANK_STATE b.val) = 1 → (s.bank b.val).fenced.contains row = false →
    ∃ t, exec (.bankRead b row col 0 (some (data, BitVec.allOnes 128)) m bad) s = .next t ∧
      t.cell b.val row col.val = bushelEncode data ∧
      (∀ a, a ≠ s.physRow b.val row * 32 + col.val →
        sparseGet (fun _ => 0) (t.bank b.val).cells a = sparseGet (fun _ => 0) (s.bank b.val).cells a) ∧
      (∀ b', b' ≠ b.val → t.bank b' = s.bank b') ∧ t.dict = s.dict

/-- R18, R21: reading a clean codeword delivers it and counts nothing. -/
def Obligations.Bank_read_clean : Prop :=
  ∀ (s : State) (b : Fin 17) (row : Nat) (col : Fin 32) (m : Bool) (bad : Nat),
    row < s.bankRows b.val → s.nat (OD.BANK_STATE b.val) = 1 → (s.bank b.val).fenced.contains row = false →
    bushelDecode (s.cell b.val row col.val) = .clean →
    ∃ t, exec (.bankRead b row col 0 none m bad) s = .next t ∧ (t.bank b.val).delivered = s.cell b.val row col.val ∧
      t.nat (OD.CORR_COUNT b.val) = s.nat (OD.CORR_COUNT b.val) ∧ t.nat (OD.UNCORR_COUNT b.val) = s.nat (OD.UNCORR_COUNT b.val)

/-- R457: an accepted march command sets its bank's engine going with the algorithm asked for, an abort ends it, and each is answered OK. -/
def Obligations.March_commands : Prop :=
  ∀ (s : State) (session : Nat) (bank : BitVec 8), s.Serves → s.roleRefusal session = none → bank.toNat < 17 →
    (s.nat (OD.BANK_STATE bank.toNat) = 1 → (s.bank bank.toNat).marchOnRequest = false →
      ∃ t, exec (.marchTransparent session bank) s = .next t ∧ (t.bank bank.toNat).marchAlg = 1 ∧ (t.bank bank.toNat).marchOnRequest = true ∧
        t.nat (OD.BANK_STATE bank.toNat) = 1 ∧ t.Answered session Reply.ok) ∧
    (s.nat (OD.BANK_STATE bank.toNat) = 1 → (s.bank bank.toNat).marchOnRequest = false → (s.atService session).marchSsOk bank.toNat = true →
      ∃ t, exec (.marchSs session bank) s = .next t ∧ (t.bank bank.toNat).marchAlg = 2 ∧ (t.bank bank.toNat).marchOnRequest = true ∧
        t.nat (OD.BANK_STATE bank.toNat) = 3 ∧ t.Answered session Reply.ok) ∧
    ((s.bank bank.toNat).marchOnRequest = true →
      ∃ t, exec (.marchAbort session bank) s = .next t ∧ (t.bank bank.toNat).marchOnRequest = false ∧ t.Answered session Reply.ok)

/-- R452, R455, R457–R459: the steps of a march. A step of a March SS advances a row whether the row passes or is remapped, and the last row ends the
march with its result, the bank empty; a transparent step, requested or in the background, whose pace has come goes over a row of clean codewords and
advances, and one that comes before changes nothing. -/
def Obligations.March_rows : Prop :=
  ∀ (s : State) (b : Fin 17) (upsets : List (BitVec 144)) (bad : Nat),
    let x := s.bank b.val
    let row := x.marchRow
    let clean (r : Nat) : Prop := ∀ c, c < 32 → bushelDecode (s.cell b.val r c) = .clean
    (∀ ok : Bool, x.marchOnRequest = true → x.marchAlg = 2 → x.fenced.contains row = false → (ok = true ∨ x.freeSpares.drop bad ≠ []) →
      (row + 1 < s.bankRows b.val →
        ∃ t, exec (.marchRowStep b ok upsets bad) s = .next t ∧ t.nat (OD.MARCH_ROW b.val) = row + 1 ∧ (t.bank b.val).marchRow = row + 1 ∧
          (t.bank b.val).marchRepair = (x.marchRepair || !ok) ∧ (ok = false → (t.bank b.val).remap.any (fun y => decide (y.1 = row)) = true)) ∧
      (s.bankRows b.val ≤ row + 1 →
        ∃ t, exec (.marchRowStep b ok upsets bad) s = .next t ∧
          t.nat (OD.MARCH_RESULT b.val) = (if x.marchFail then 3 else if x.marchRepair || !ok then 2 else 1) ∧
          (t.bank b.val).cells = [] ∧ (t.bank b.val).marchOnRequest = false ∧ t.bit OD.MARCH_BUSY b.val = false ∧
          t.nat (OD.MARCH_ROW b.val) = 0)) ∧
    (x.marchOnRequest = true → x.marchAlg = 1 → s.stepPaced b.val = true → clean row → row + 1 < s.bankRows b.val →
      ∃ t, exec (.marchRowStep b true [] bad) s = .next t ∧ t.nat (OD.MARCH_ROW b.val) = row + 1 ∧ (t.bank b.val).marchRow = row + 1) ∧
    (x.marchOnRequest = false → s.bgEligible b.val = true → s.stepPaced b.val = true → clean x.bgRow → x.bgRow + 1 < s.bankRows b.val →
      ∃ t, exec (.marchRowStep b true [] bad) s = .next t ∧ (t.bank b.val).bgRow = x.bgRow + 1 ∧ t.dict = s.dict) ∧
    (x.marchAlg = 1 ∨ x.marchOnRequest = false → s.stepPaced b.val = false → ∀ ok : Bool, exec (.marchRowStep b ok upsets bad) s = .next s)

/-! ### The timebase (chapter 02) -/

/-- R34, R39, R40, R42: a qualified reference, the end of frequency acquisition, the lock, and ALIGN, which ends in LOCKED with the LTC on an alignment
point; and a move of the DCR to the committed source. -/
def Obligations.Timebase_acquires : Prop :=
  ∀ s : State,
    (s.tb.tcxoFailed = false → s.tb.refQualified = false →
      ∃ t, exec .refclkQualified s = .next t ∧ t.tb = { s.tb with refQualified := true, refQualAt := s.now } ∧
        t.flag OD.REF_ACTIVE = (s.flag OD.REF_ACTIVE || (decide (s.nat OD.TB_STATE = 1) && !s.tb.freqAcquired && decide (s.nat OD.TB_REF_SEL = 1))) ∧
        s.Alters t [OD.REF_ACTIVE, OD.TCXO_VS_REF] ∧ State.Recorded { s with tb := t.tb } t) ∧
    (s.nat OD.TB_STATE = 1 → s.sourceGood = true →
      exec .freqAcquisitionDone s = .next { s with tb := { s.tb with freqAcquired := true } }) ∧
    (s.nat OD.TB_STATE = 1 → s.tb.freqAcquired = true →
      ∃ t, exec .lockDetectStable s = .next t ∧ t.nat OD.TB_STATE = 2 ∧ s.Alters t [OD.TB_STATE] ∧ s.Recorded t) ∧
    (∀ off : Nat, s.nat OD.TB_STATE = 2 →
      ∃ t, exec (.tbAlign off) s = .next t ∧ t.nat OD.TB_STATE = 3 ∧ t.ltc = (if s.tb.alignedOnce then alignUp s.ltc else alignUp (ticksOfNs s.vaultNs)) ∧
        t.ltc % 2500 = 0 ∧ t.tb.alignedOnce = true ∧ t.tb.lockedAt = s.now) ∧
    (∀ ref : Bool, s.tb.movePending = true → (s.nat OD.TB_STATE = 3 ∨ s.nat OD.TB_STATE = 4) → ref = decide (s.nat OD.TB_REF_SEL = 1) →
      (ref = false ∨ s.tb.refQualified = true) →
      ∃ t, exec .dcrSourceMove s = .next t ∧ t.nat OD.TB_STATE = 3 ∧ t.flag OD.REF_ACTIVE = ref ∧ t.tb.movePending = false ∧
        s.Alters t [OD.TB_STATE, OD.REF_ACTIVE, OD.TCXO_VS_REF, OD.HOLDOVER_TIME, OD.RELOCK_COUNT, OD.TIME_QUALITY] ∧ State.Recorded { s with tb := t.tb } t)

/-- R43–R47: loss of the reference in LOCKED and the ways out of HOLDOVER; loss of lock and the re-phase; the limit of HOLDOVER; loss of the timebase,
which ends in ACQUIRE with the servo OFF. -/
def Obligations.Timebase_holds_over : Prop :=
  ∀ s : State,
    (s.nat OD.TB_STATE = 3 → s.flag OD.REF_ACTIVE = true →
      ∃ t, exec .refLoss s = .next t ∧ t.nat OD.TB_STATE = 4 ∧ t.tb.holdCause = 1 ∧ t.tb.holdAt = s.now ∧ t.tb.refQualified = false ∧
        t.nat OD.TIME_QUALITY ≤ 1 ∧ s.Alters t [OD.TB_STATE, OD.TCXO_VS_REF, OD.TIME_QUALITY] ∧
        State.Recorded { s with tb := t.tb } t) ∧
    (s.nat OD.TB_STATE = 4 → s.tb.holdCause = 1 → s.flag OD.REF_FALLBACK = true → s.tb.refQualified = false → s.tb.tcxoFailed = false →
      s.past s.tb.refLostAt (ms (s.nat OD.REF_LOSS_QUAL)) = true →
      ∃ t, exec .refFallback s = .next t ∧ t.nat OD.TB_STATE = 3 ∧ t.flag OD.REF_ACTIVE = false ∧
        t.nat OD.HOLDOVER_TIME = Nat.min (s.msSince s.tb.holdAt) 0xFFFFFFFF ∧
        s.Alters t [OD.TB_STATE, OD.REF_ACTIVE, OD.HOLDOVER_TIME, OD.RELOCK_COUNT, OD.TIME_QUALITY] ∧ State.Recorded { s with tb := t.tb } t) ∧
    (s.nat OD.TB_STATE = 3 → s.nat OD.TB_REF_SEL = 1 → s.flag OD.REF_ACTIVE = false → s.tb.refQualified = true →
      s.past s.tb.refQualAt (sec 10) = true →
      ∃ t, exec .refReturn s = .next t ∧ t.flag OD.REF_ACTIVE = true ∧ s.Alters t [OD.REF_ACTIVE] ∧ s.Recorded t) ∧
    (s.nat OD.TB_STATE = 4 → s.tb.holdCause = 1 → s.tb.refQualified = true →
      (∃ t, exec (.holdoverRelock true) s = .next t ∧ t.nat OD.TB_STATE = 3 ∧ t.flag OD.REF_ACTIVE = true) ∧
      (∃ t, exec (.holdoverRelock false) s = .next t ∧ t.nat OD.TB_STATE = 1)) ∧
    (s.nat OD.TB_STATE = 4 → s.tb.holdExpired = false → s.past s.tb.holdAt (sec (s.nat OD.HOLDOVER_LIMIT)) = true →
      ∃ t, exec .tbHoldoverExpired s = .next t ∧ t.nat OD.TB_STATE = 4 ∧ t.tb = { s.tb with holdExpired := true } ∧ t.nat OD.TIME_QUALITY = 0 ∧
        s.Alters t [OD.TIME_QUALITY] ∧ State.Recorded { s with tb := t.tb } t) ∧
    (s.nat OD.TB_STATE = 3 → s.sourceGood = true →
      (∃ t, exec (.lossOfLock true) s = .next t ∧ t.nat OD.TB_STATE = 4 ∧ t.tb.holdCause = 2 ∧ t.tb.rephasing = true ∧
        s.Alters t [OD.TB_STATE, OD.TIME_QUALITY] ∧ State.Recorded { s with tb := t.tb } t) ∧
      (∃ t, exec (.lossOfLock false) s = .next t ∧ t.nat OD.TB_STATE = 1)) ∧
    (s.nat OD.TB_STATE = 4 → s.tb.holdCause = 2 → s.tb.rephasing = true →
      ∃ t, exec .relockDone s = .next t ∧ t.nat OD.TB_STATE = 3 ∧ t.tb.rephasing = false ∧ t.tb.holdCause = 0 ∧
        s.Alters t [OD.TB_STATE, OD.HOLDOVER_TIME, OD.RELOCK_COUNT, OD.TIME_QUALITY] ∧ State.Recorded { s with tb := t.tb } t) ∧
    (s.nat OD.TB_STATE ≠ 0 →
      ∃ t, exec .tbLost s = .next t ∧ t.nat OD.TB_STATE = 1 ∧ t.tb.freqAcquired = false ∧ t.servo.stepDone = false ∧ t.nat OD.SERVO_STATE = 0 ∧
        t.flag OD.REF_ACTIVE = (decide (t.nat OD.TB_REF_SEL = 1) && t.tb.refQualified))

/-- R35, R41, R49, R53, R54: the DCR word, a divider change at its alignment point, a change of spread, the pull granted to a carrier's next period,
at most CARRIER_PULL × T_c, and the interleave estimate with its flag. -/
def Obligations.Timebase_adjusts : Prop :=
  ∀ s : State,
    (∀ w : Int, s.nat OD.TB_STATE ≠ 4 →
      (s.nat OD.SERVO_STATE = 0 ∧ w = s.int OD.TB_TUNE_MAN ∨ (s.nat OD.SERVO_STATE = 2 ∨ s.nat OD.SERVO_STATE = 3) ∧ w = s.servo.rate) →
      ∃ t, exec .dcrTuneWrite s = .next t ∧ t.int OD.TB_TUNE = iclamp w (-500000) 500000 ∧ s.Alters t [OD.TB_TUNE] ∧ s.Recorded t) ∧
    (s.nat OD.TB_STATE = 4 → exec .dcrTuneWrite s = .next s) ∧
    (∀ d, s.tb.pending = some d → s.nat OD.TB_STATE = 3 → s.past s.tb.pendingFrom (us 4) = true → s.past s.tb.lockedAt (us 4) = true →
      s.ltc % 2500 = 0 →
      ∃ t, exec .tbDivApplied s = .next t ∧ t.tb = { s.tb with inForce := d, pending := none } ∧ t.flag OD.DIV_PENDING = false) ∧
    (s.tb.ssPending = true →
      exec .ssChangeApply s = .next { s with tb := { s.tb with ssPending := false, ssMode := s.nat OD.SS_MODE, ssDepth := s.nat OD.SS_DEPTH
                                                               ssRate := s.nat OD.SS_RATE } }) ∧
    (∀ c : Fin 8, (s.car c.val).started = true →
      ∃ t, exec (.carrierPull c) s = .next t ∧
        (t.car c.val).pull.natAbs ≤ s.tb.inForce.pull * s.carPeriod c.val / 10000 ∧
        ((s.pullError c.val).natAbs ≤ s.tb.inForce.pull * s.carPeriod c.val / 10000 → (t.car c.val).pull = s.pullError c.val) ∧
        (∀ c' : Fin 8, c' ≠ c → t.car c'.val = s.car c'.val) ∧ t.dict = s.dict) ∧
    (∃ t, exec .interleaveDegraded s = .next t ∧ t.flag OD.INTERLEAVE_DEGRADED = s.interleaveBad ∧
      t.nat OD.INTERLEAVE_ERR = (match s.interleaveErr with | some e => Nat.min e 0xFFFFFFFE | none => 0xFFFFFFFF) ∧
      s.Alters t [OD.INTERLEAVE_ERR, OD.INTERLEAVE_DEGRADED] ∧ s.Recorded t)

/-! ### Supply, reset and start-up (chapters 17 and 19) -/

/-- R464, R465, R468: a declared loss of input and its return; the thermal stop 100 ms into over-temperature; the last gasp, after which only D0 has
supply and everything volatile is gone. -/
def Obligations.Supply_events : Prop :=
  ∀ s : State,
    (∀ (lost : Bool) (kind : Fin 3) (v f p e : F32), s.domainOn 1 = true → s.power.auxLost ≠ lost →
      ∃ t, exec (.auxSupply lost kind v f p e) s = .next t ∧ t.power = { s.power with auxLost := lost } ∧ t.nat OD.AUX_KIND = kind.val ∧
        t.nat OD.AUX_LOSSES = (if lost then Nat.min (s.nat OD.AUX_LOSSES + 1) 0xFFFFFFFF else s.nat OD.AUX_LOSSES) ∧
        s.Alters t [OD.AUX_KIND, OD.AUX_INPUT_V, OD.AUX_FREQ, OD.INPUT_POWER, OD.BULK_ENERGY, OD.RIDE_TIME, OD.AUX_LOSSES] ∧
        State.Recorded { s with power := t.power } t) ∧
    (∀ hot, s.power.hotSince = some hot → s.past hot (ms 100) = true → s.nat OD.THERMAL_STATE ≠ 2 →
      (s.handoverOk = true → ∃ t, exec .thermalStop s = .next t ∧ t.nat OD.THERMAL_STATE = 2 ∧ t.pair.handover.isSome = true ∧
        s.Alters t [OD.THERMAL_STATE]) ∧
      (s.handoverOk = false → ∃ t, exec .thermalStop s = .next t ∧ t.nat OD.THERMAL_STATE = 2 ∧ t.pair = s.pair)) ∧
    (s.domainOn 1 = true →
      ∃ t, exec .lastGasp s = .next t ∧ t.domainOn 1 = false ∧ t.power.lastGasp = true ∧ t.hosts.commit = none ∧ t.recorder.fifo = [] ∧
        t.boot.running = false ∧ t.lanes.a.booted = false ∧ t.lanes.b.booted = false ∧ t.nat OD.LAW_STATE = 0 ∧
        (∀ k, survives true k = false → k ≠ OD.FW_IMAGE_STATE → k ≠ OD.LC_NONCE → t.od k = odDefault k))

/-- R492–R495: the cold start begins at SUPPLY; a stage that is not open does not end; TIMEBASE ends at the lock and is followed by TIME_WAIT and
CALIBRATION; either of these ends without the other; TIME_WAIT is cut short by its limit; NOT_READY 2 without lock 1 s after D12; and READY. -/
def Obligations.Start_up : Prop :=
  ∀ s : State,
    (∀ (kind : Fin 3) (v f p e : F32) (low : Bool), s.domainOn 1 = false →
      ∃ t, exec (.coldStart kind v f p e low) s = .next t ∧ t.nat OD.BOOT_STATE = 1 ∧
        t.boot = { running := true, tp := s.now, rstLow := low, rstAt := s.now, open_ := [1] } ∧ t.nat (OD.PWR_STATE 0) = 1 ∧
        t.flag OD.RST_N_LEVEL = !low ∧ t.nat OD.AUX_KIND = kind.val) ∧
    (∀ (k : Fin 11) (f : StageFound), s.boot.open_.contains k.val = false → exec (.bootStageEnd k f) s = .next s) ∧
    (∀ f : StageFound, s.boot.open_.contains 6 = true → (s.nat OD.TB_STATE = 3 ∨ s.domainOn 12 = false) →
      ∃ t, exec (.bootStageEnd 6 f) s = .next t ∧ t.nat OD.BOOT_STATE = 8 ∧ t.nat (OD.STAGE_END 5) = s.bootMs ∧ t.nat OD.BOOT_FAIL = 0 ∧
        t.boot = { s.boot with tbDoneAt := s.now, open_ := 8 :: 7 :: s.boot.open_.filter fun x => decide (x ≠ 6) } ∧
        s.Alters t [OD.BOOT_STATE, OD.STAGE_END 5, OD.BOOT_FAIL] ∧ State.Recorded { s with boot := t.boot } t) ∧
    (∀ f : StageFound, s.boot.open_.contains 7 = true → s.boot.open_.contains 8 = true → s.timeWaitOver = true →
      ∃ t, exec (.bootStageEnd 7 f) s = .next t ∧ t.nat (OD.STAGE_END 6) = s.bootMs ∧ t.boot.open_ = s.boot.open_.filter (fun x => decide (x ≠ 7)) ∧
        s.Alters t [OD.STAGE_END 6]) ∧
    (∀ f : StageFound, s.boot.open_.contains 7 = true → s.boot.open_.contains 8 = true → s.calibrationOver = true →
      ∃ t, exec (.bootStageEnd 8 f) s = .next t ∧ t.nat (OD.STAGE_END 7) = s.bootMs ∧ t.boot.open_ = s.boot.open_.filter (fun x => decide (x ≠ 8)) ∧
        s.Alters t [OD.STAGE_END 7]) ∧
    (∀ f : StageFound, s.boot.open_.contains 9 = true → s.laneSyncOver = true →
      ∃ t, exec (.bootStageEnd 9 f) s = .next t ∧ t.nat OD.BOOT_STATE = 10 ∧ t.flag OD.BOOT_READY = true ∧ t.nat OD.BOOT_TIME = s.bootMs ∧
        t.boot.running = false ∧ t.boot.open_.contains 9 = false ∧ t.nat OD.OUT_STATE = s.nat OD.OUT_STATE ∧
        s.Alters t [OD.BOOT_STATE, OD.BOOT_READY, OD.BOOT_TIME, OD.STAGE_END 8, OD.STAGE_END 9]) ∧
    (s.boot.open_.contains 7 = true → s.boot.open_.contains 8 = true → s.past s.boot.tbDoneAt (ms (s.nat OD.TIME_WAIT)) = true →
      ∃ t, exec .timeWaitExpired s = .next t ∧ t.nat (OD.STAGE_END 6) = s.bootMs ∧ t.boot.open_ = s.boot.open_.filter (fun x => decide (x ≠ 7)) ∧
        s.Alters t [OD.STAGE_END 6]) ∧
    (s.boot.open_.contains 6 = true → s.past s.boot.d12At (sec 1) = true → s.nat OD.TB_STATE ≠ 3 →
      ∃ t, exec .bootTimebaseTimeout s = .next t ∧ t.nat OD.BOOT_STATE = 11 ∧ t.nat OD.BOOT_FAIL = 2 ∧ s.Alters t [OD.BOOT_STATE, OD.BOOT_FAIL] ∧
        s.Recorded t)

/-- R496–R498, R500: what a module reset leaves, and where it is taken: on RESET_CMD 1, RST_N with RST_SCOPE 0 and the hub supervisor's watchdog; a pair's
active announces its handover first. A low of 8 s is RST_STUCK, and 1 s of high ends it. -/
def Obligations.Module_resets : Prop :=
  ∀ s : State,
    let fresh (t : State) : Prop := t.nat OD.BOOT_STATE = 3 ∧ t.boot.running = true ∧ t.boot.tp = s.now ∧ t.boot.open_ = [3, 2] ∧ t.hosts.commit = none ∧
      t.nat OD.LAW_STATE = 0 ∧ t.nat OD.OWNER_SESSION = 0xFF ∧ t.lanes.a.booted = false ∧ t.lanes.b.booted = false
    (∀ session : Nat, s.Serves → s.resetRefusal session = none → s.pair.handover = none → s.handoverOk = false →
      ∃ t, exec (.resetCmdModule session) s = .next t ∧ fresh t) ∧
    (∀ session : Nat, s.Serves → s.resetRefusal session = none → s.tbValid = true → s.handoverOk = true →
      ∃ t, exec (.resetCmdModule session) s = .next t ∧ t.boot.resetDue = some 3 ∧ t.pair.handover.isSome = true ∧ t.Answered session Reply.ok) ∧
    (s.domainOn 1 = true → ∃ t, exec (.watchdog 1) s = .next t ∧ fresh t) ∧
    (s.domainOn 1 = true → s.boot.rstLow = false → s.flag OD.RST_STUCK = false → s.nat OD.RST_SCOPE = 0 → s.pair.handover = none →
      s.handoverOk = false →
      ∃ t, exec .rstNAssert s = .next t ∧ t.boot.rstLow = true ∧ t.boot.held = 1 ∧ t.boot.running = false ∧ t.flag OD.RST_N_LEVEL = false) ∧
    (s.domainOn 1 = true → s.boot.rstLow = true → s.boot.held = 1 →
      ∃ t, exec .rstNRelease s = .next t ∧ t.boot.rstLow = false ∧ t.boot.open_ = [3, 2] ∧ t.nat OD.BOOT_STATE = 3 ∧ t.flag OD.RST_N_LEVEL = true) ∧
    (s.domainOn 1 = true → s.boot.rstLow = true → s.boot.held = 0 →
      ∃ t, exec .rstNRelease s = .next t ∧ t.boot = { s.boot with rstLow := false, rstAt := s.now } ∧ t.flag OD.RST_N_LEVEL = true ∧
        s.Alters t [OD.RST_N_LEVEL]) ∧
    (s.domainOn 1 = true → s.boot.rstLow = true → s.flag OD.RST_STUCK = false → s.past s.boot.rstAt (sec 8) = true → s.boot.held = 1 →
      ∃ t, exec .rstStuck s = .next t ∧ t.flag OD.RST_STUCK = true ∧ t.boot.open_ = [3, 2] ∧ t.nat OD.BOOT_STATE = 3 ∧
        s.Alters t [OD.RST_STUCK, OD.BOOT_STATE, OD.TRIP_FIRST, OD.TRIP_LATCH]) ∧
    (s.flag OD.RST_STUCK = true → s.boot.rstLow = false → s.past s.boot.rstAt (sec 1) = true →
      ∃ t, exec .rstStuckRelease s = .next t ∧ t.flag OD.RST_STUCK = false ∧ s.Alters t [OD.RST_STUCK] ∧ s.Recorded t)

/-- R499–R502: RESET_CMD of a lane, of the serving one by a planned swap first; the watchdogs of a house core and of a block, which within
10 s of the end of the partial reset it began resets the module; and a partial reset from
PR_CMD over its drain of 5 µs and the fence to running again. -/
def Obligations.Lane_and_partial_resets : Prop :=
  ∀ s : State,
    (∀ (session : Nat) (l : Lane), s.Serves → s.resetRefusal session = none →
      (s.serving ≠ some l →
        ∃ t, exec (.resetCmdLane session l) s = .next t ∧ t = ((s.atService session).laneReset l 3).answer session 0 Reply.ok ∧ t.Answered session Reply.ok) ∧
      (s.serving = some l → s.laneSt l.other = 4 →
        ∃ t, exec (.resetCmdLane session l) s = .next t ∧ t.lanes.afterSwapReset = some l ∧ t.lanes.swapTo.isSome = true ∧ t.Answered session Reply.ok) ∧
      (s.serving = some l → s.laneSt l.other ≠ 4 →
        ∃ t, exec (.resetCmdLane session l) s = .next t ∧ t.lanes = s.lanes ∧ t.Answered session Reply.wrongState ∧ s.Alters t [])) ∧
    (∀ l : Lane, s.domainOn 1 = true → s.domainOn (3 + l.num) = true →
      ∃ t, exec (.watchdog (2 + Fin.ofNat 9 l.num)) s = .next t ∧ (t.lane l).diagFail = true ∧
        t.nat (OD.WD_COUNT (2 + l.num)) = Nat.min (s.nat (OD.WD_COUNT (2 + l.num)) + 1) 0xFFFFFFFF ∧ s.Alters t [OD.WD_COUNT (2 + l.num)]) ∧
    (∀ b : Fin 5, s.domainOn 1 = true → s.bit OD.PR_BUSY (b.val + 1) = false → s.domainOn (blockDomain (b.val + 1)) = true →
      (s.boot.wdEnd.any fun x => decide (x.1 = b.val + 1) && decide (s.now < x.2 + sec 10)) = false →
      ∃ t, exec (.watchdog ⟨b.val + 4, by omega⟩) s = .next t ∧ t.bit OD.PR_BUSY (b.val + 1) = true ∧
        t.boot.resets = s.boot.resets ++ [(b.val + 1, s.now, false)] ∧ s.Alters t [OD.WD_COUNT (b.val + 4), OD.PR_BUSY]) ∧
    (∀ b : Fin 5, s.domainOn 1 = true → s.bit OD.PR_BUSY (b.val + 1) = false → s.domainOn (blockDomain (b.val + 1)) = true →
      (s.boot.wdEnd.any fun x => decide (x.1 = b.val + 1) && decide (s.now < x.2 + sec 10)) = true → s.pair.handover = none → s.handoverOk = false →
      ∃ t, exec (.watchdog ⟨b.val + 4, by omega⟩) s = .next t ∧ t.nat OD.BOOT_STATE = 3 ∧ t.boot.running = true ∧ t.boot.open_ = [3, 2] ∧
        t.nat OD.LAW_STATE = 0) ∧
    (∀ session b : Nat, s.Serves → s.resetRefusal session = none → 1 ≤ b → b ≤ 9 → s.prAllowed b = true →
      ∃ t, exec (.partialResetCmd session b) s = .next t ∧ t.bit OD.PR_BUSY b = true ∧ t.boot.resets = s.boot.resets ++ [(b, s.now, false)] ∧
        t.Answered session Reply.ok ∧ s.Alters t [OD.PR_BUSY]) ∧
    (∀ session b : Nat, s.Serves → s.resetRefusal session = none → 1 ≤ b → b ≤ 9 → s.prAllowed b = false →
      ∃ t, exec (.partialResetCmd session b) s = .next t ∧ t.boot = s.boot ∧ t.Answered session Reply.wrongState ∧ s.Alters t []) ∧
    (∀ (b : Fin 10) (t0 targets discards : Nat), (s.boot.resets.find? fun x => decide (x.1 = b.val)) = some (b.val, t0, false) →
      s.past t0 (us 5) = true → b.val ∈ [1, 2, 4, 8, 9] →
      ∃ t, exec (.prDrainEnd b targets discards) s = .next t ∧
        t.nat (OD.BLOCK_EPOCH (b.val - 1)) = (s.nat (OD.BLOCK_EPOCH (b.val - 1)) + 1) % 16 ∧
        (t.boot.resets.find? fun x => decide (x.1 = b.val)) = some (b.val, t0, true) ∧
        t.nat OD.FENCE_DISCARDS = Nat.min (s.nat OD.FENCE_DISCARDS + discards) 0xFFFFFFFF ∧
        s.Alters t [OD.BLOCK_EPOCH (b.val - 1), OD.TARGET_RESETS, OD.FENCE_DISCARDS]) ∧
    (∀ (b : Fin 10) (t0 : Nat), (s.boot.resets.find? fun x => decide (x.1 = b.val)) = some (b.val, t0, true) →
      ∃ t, exec (.prBlockRunning b) s = .next t ∧ t.bit OD.PR_BUSY b.val = false ∧
        (t.boot.resets.any fun x => decide (x.1 = b.val)) = false ∧ t.nat OD.PR_COUNT = Nat.min (s.nat OD.PR_COUNT + 1) 0xFFFFFFFF ∧
        s.Alters t [OD.PR_BUSY, OD.PR_COUNT])

/-! ### The law and its supervision (chapters 06 and 07) -/

/-- R145, R148, R154: START, STOP, a set-point and BRK_CLOSED from the owner. A START is answered WRONG_STATE outside OFF and while a trip is latched; an
accepted one enters SENSE. A STOP goes to STOPPING from a gated state, to OFF from the others. A set-point out of range changes nothing. -/
def Obligations.Law_commands : Prop :=
  ∀ (s : State) (session : Nat), s.Serves → s.ownerRefusal session = none →
    (s.nat OD.LAW_STATE ≠ 0 ∨ s.nat OD.TRIP_LATCH ≠ 0 →
      ∃ t, exec (.lawStart session) s = .next t ∧ t.Answered session Reply.wrongState ∧ t.lanes = s.lanes ∧ t.pwm = s.pwm ∧
        s.Alters t [OD.LAW_CONFIG_STATUS, OD.PWM_CONFIG_STATUS, OD.LD_CONFIG_STATUS, OD.LINK_CONFIG_STATUS]) ∧
    (∀ u : State, u = ((s.atService session).refreshConfig).putN OD.LINK_CONFIG_STATUS (s.atService session).linkConfig →
      u.startRefused u.startBlocked = false →
      ∃ t, exec (.lawStart session) s = .next t ∧ t.Answered session Reply.ok ∧ t.nat OD.LAW_STATE = 1 ∧ t.nat OD.LAW_CMD = 1 ∧
        t.sup.deadSince = none ∧ t.sup.liveSince = none) ∧
    (s.gatedState (s.nat OD.LAW_STATE) = true → s.nat OD.LAW_STATE ≠ 7 →
      ∃ t, exec (.lawStop session) s = .next t ∧ t.Answered session Reply.ok ∧ t.nat OD.LAW_STATE = 7 ∧ t.nat OD.LAW_CMD = 0 ∧ t.sup.stopFrom = s.now ∧
        t.flag OD.SYNC_OK = false) ∧
    (s.gatedState (s.nat OD.LAW_STATE) = false → s.nat OD.LAW_STATE ≠ 8 →
      ∃ t, exec (.lawStop session) s = .next t ∧ t.Answered session Reply.ok ∧ t.nat OD.LAW_STATE = 0 ∧ t.nat OD.LAW_CMD = 0) ∧
    (s.nat OD.LAW_STATE = 8 → s.sup.degFrom = none →
      ∃ t, exec (.lawStop session) s = .next t ∧ t.Answered session Reply.ok ∧ t.nat OD.LAW_STATE = 0 ∧ s.Alters t (OD.LAW_CMD :: lawKeys)) ∧
    (∀ (slot : Fin 10) (v : F32), ffinite v = true → keyInRange (setKey slot.val) (v.toNat : Nat) = true →
      ∃ t, exec (.setpointWrite session slot v) s = .next t ∧ t.Answered session Reply.ok ∧ t.f32 (setKey slot.val) = fflush v ∧
        s.Alters t [setKey slot.val] ∧ State.Recorded { s with hosts := t.hosts } t) ∧
    (∀ (slot : Fin 10) (v : F32), (ffinite v = false ∨ keyInRange (setKey slot.val) (v.toNat : Nat) = false) →
      ∃ t, exec (.setpointWrite session slot v) s = .next t ∧ t.Answered session Reply.outOfRange ∧ s.Alters t [] ∧
        State.Recorded { s with hosts := t.hosts } t) ∧
    (∀ closed : Bool,
      ∃ t, exec (.brkClosedWrite session closed) s = .next t ∧ t.Answered session Reply.ok ∧ t.flag OD.BRK_CLOSED = closed ∧
        t.sup = { s.sup with brkPending := some closed } ∧ s.Alters t [OD.BRK_CLOSED] ∧ State.Recorded { s with hosts := t.hosts, sup := t.sup } t)

/-- R150–R155: the end of the start delay on a dead bus and on one that is no longer dead; the close permissions granted and withdrawn; a failed black
start; and the end of STOPPING. -/
def Obligations.Law_start_events : Prop :=
  ∀ s : State,
    (s.nat OD.LAW_STATE = 2 → s.past s.sup.delayAt (ms (s.nat OD.BS_DELAY_LAST)) = true →
      (s.stillDead = true → s.nat OD.BS_TOPO = 1 →
        ∃ t, exec .bsDelay s = .next t ∧ t.nat OD.LAW_STATE = 3 ∧ t.nat OD.DEAD_CLOSE_OK = 1 ∧ t.sup.closeFrom = s.now ∧
          s.Alters t (OD.DEAD_CLOSE_OK :: lawKeys)) ∧
      (s.stillDead = true → s.nat OD.BS_TOPO ≠ 1 →
        ∃ t, exec .bsDelay s = .next t ∧ t.nat OD.LAW_STATE = 4 ∧ t.nat OD.COLD_LEFT = 64 ∧ t.sup.energiseDead = true) ∧
      (s.stillDead = false → s.nat OD.BS_TOPO ≠ 1 →
        ∃ t, exec .bsDelay s = .next t ∧ t.nat OD.LAW_STATE = 5 ∧ t.lanes = s.lanes) ∧
      (s.stillDead = false → s.nat OD.BS_TOPO = 1 →
        ∃ t, exec .bsDelay s = .next t ∧ t.nat OD.LAW_STATE = 4 ∧ t.nat OD.COLD_LEFT = 64 ∧ t.sup.energiseDead = false)) ∧
    (s.nat OD.LAW_STATE = 3 → s.past s.sup.closeFrom (ms (s.nat OD.CLOSE_WAIT_MAX)) = true →
      ∃ t, exec .deadCloseTimeout s = .next t ∧ t.nat OD.LAW_STATE = 1 ∧ t.flag OD.DEAD_CLOSE_OK = false ∧ t.flag OD.SYNC_OK = false ∧
        s.Alters t (OD.DEAD_CLOSE_OK :: OD.SYNC_OK :: lawKeys) ∧ State.Recorded { s with sup := t.sup } t) ∧
    (s.nat OD.LAW_STATE = 4 → s.secTicks OD.BS_HOLD_MAX < s.holdTicks →
      ∃ t, exec .bsFailed s = .next t ∧ s.FaultStop t Ev.BS_FAILED) ∧
    (∀ t0, s.sup.syncSince = some t0 → s.nat OD.LAW_STATE = 5 → s.flag OD.SYNC_OK = false → s.past t0 (ms (s.nat OD.T_SYNC)) = true →
      (s.gatedSync = false → ∃ t, exec .syncOk s = .next t ∧ t.nat OD.LAW_STATE = 6 ∧ t.flag OD.SYNC_OK = false ∧ t.nat OD.COLD_LEFT = 64) ∧
      (s.gatedSync = true → ∃ t, exec .syncOk s = .next t ∧ t.nat OD.LAW_STATE = 5 ∧ t.flag OD.SYNC_OK = true ∧ t.sup.closeFrom = s.now ∧
        s.Alters t [OD.SYNC_OK])) ∧
    (s.nat OD.LAW_STATE = 5 → s.flag OD.SYNC_OK = true → s.past s.sup.closeFrom (ms (s.nat OD.CLOSE_WAIT_MAX)) = true →
      ∃ t, exec .syncOkWithdrawn s = .next t ∧ t.nat OD.LAW_STATE = 5 ∧ t.flag OD.SYNC_OK = false ∧ t.sup.syncSince = none ∧
        s.Alters t [OD.SYNC_OK, OD.DEAD_CLOSE_OK] ∧ State.Recorded { s with sup := t.sup } t) ∧
    (s.nat OD.LAW_STATE = 7 → s.past s.sup.stopFrom (ms (s.nat OD.STOP_TIME)) = true →
      ∃ t, exec .stopComplete s = .next t ∧ t.nat OD.LAW_STATE = 0 ∧ s.Alters t (lawKeys ++ stopKeys))

/-- R163, R164, R171, R176: a ride-through timer's reset, a delayed threshold's trip, the limiter's exit and the rotor's release. -/
def Obligations.Protection_events : Prop :=
  ∀ s : State,
    (∀ (isOver : Bool) (t0 : Nat), (if isOver then s.sup.ov else s.sup.uv).normal = some t0 → s.past t0 (s.secTicks OD.RT_RESET) = true →
      ∃ t, exec (.rtTimerReset isOver) s = .next t ∧ (if isOver then t.sup.ov else t.sup.uv) = {} ∧
        (if isOver then t.sup.uv = s.sup.uv else t.sup.ov = s.sup.ov) ∧
        t.bit OD.RT_STATE (if isOver then 1 else 0) = false ∧
        s.Alters t [OD.RT_STATE, OD.RT_TIME_UV, OD.RT_TIME_OV] ∧ State.Recorded { s with sup := t.sup } t) ∧
    (s.nat OD.LAW_STATE ≠ 0 → s.nat OD.LAW_STATE ≠ 8 →
      (∀ t0, s.sup.vdcUvSince = some t0 → s.past t0 (ms (s.nat OD.VDC_UV_TIME)) = true →
        ∃ t, exec (.protDelayExpired 0) s = .next t ∧ s.FaultStop t Ev.PROT_TRIP) ∧
      (∀ t0, s.sup.freqSince = some t0 → s.past t0 (ms (s.nat OD.F_TRIP_TIME)) = true →
        ∃ t, exec (.protDelayExpired 1) s = .next t ∧ s.FaultStop t Ev.PROT_TRIP) ∧
      (∀ t0, s.sup.rocofSince = some t0 → s.past t0 (ms (s.nat OD.ROCOF_TIME)) = true →
        ∃ t, exec (.protDelayExpired 2) s = .next t ∧ s.FaultStop t Ev.PROT_TRIP)) ∧
    (s.law.limActive = true → s.nat OD.LIM_EXIT_FRAMES ≤ s.law.limQuiet → s.sup.degFrom = none →
      ∃ t, exec .limExit s = .next t ∧ t.nat OD.LIM_ACTIVE = 0 ∧ t.law.limActive = false ∧ t.law.dRf = 0 ∧ t.law.dXf = 0 ∧
        t.law.releaseAt = some s.now ∧ s.Alters t [OD.LIM_ACTIVE, OD.ZF_MAG] ∧ State.Recorded { s with lanes := t.lanes } t) ∧
    (∀ t0, s.law.releaseAt = some t0 → s.past t0 (s.secTicks OD.HOLD_RELEASE) = true →
      ∃ t, exec .rotorReleaseEnd s = .next t ∧ t.law.releaseAt = none ∧ t.nat OD.HOLD_STATE ≠ 3 ∧ s.Alters t [OD.HOLD_STATE] ∧
        State.Recorded { s with lanes := t.lanes } t)

/-- R180, R183, R184: a lost channel is masked, counted and answered by its class, a current or DC-link channel with a stop, a capacitor voltage with the
observer; its return and the blend; the end of the bridge; and a degraded stop's end. -/
def Obligations.Feedback_events : Prop :=
  ∀ s : State,
    (∀ c : Fin 32, s.nat (OD.CH_ROLE c.val) ≠ 0 → s.fbCheck c.val ≠ 0 → s.bit OD.FB_LOST_MASK c.val = false →
      s.nat OD.LAW_STATE ≠ 0 → s.nat OD.LAW_STATE ≠ 8 →
      (lossClass (s.nat (OD.CH_ROLE c.val)) ≠ 1 →
        ∃ t, exec (.fbLost c) s = .next t ∧ s.FaultStop t Ev.FB_LOST ∧ t.bit OD.FB_LOST_MASK c.val = true ∧
          t.nat OD.FB_LAST_CAUSE = s.fbCheck c.val * 256 + c.val) ∧
      (lossClass (s.nat (OD.CH_ROLE c.val)) = 1 → s.nat (OD.CH_ROLE c.val) < 10 → s.gatedState (s.nat OD.LAW_STATE) = true →
        s.flag OD.OBS_ENABLE = true → s.nat OD.T_BRIDGE ≠ 0 →
        ∃ t, exec (.fbLost c) s = .next t ∧ t.sup.bridging = true ∧ t.nat OD.OBS_STATE = 2 ∧ t.nat OD.LAW_STATE = s.nat OD.LAW_STATE ∧
          t.bit OD.FB_LOST_MASK c.val = true ∧ t.nat OD.FB_LAST_CAUSE = s.fbCheck c.val * 256 + c.val ∧
          s.Alters t [OD.FB_LOST_MASK, OD.FB_LAST_CAUSE, OD.FB_LOSS_COUNT, OD.OBS_STATE])) ∧
    (∀ c : Fin 32, s.bit OD.FB_LOST_MASK c.val = true → 64 ≤ (vget {} s.sup.fb c.val).good →
      ∃ t, exec (.fbRestored c) s = .next t ∧ t.bit OD.FB_LOST_MASK c.val = false ∧
        (∀ c' : Fin 32, c' ≠ c → t.bit OD.FB_LOST_MASK c'.val = s.bit OD.FB_LOST_MASK c'.val) ∧
        s.Alters t [OD.FB_LOST_MASK, OD.OBS_STATE] ∧ State.Recorded { s with sup := t.sup } t) ∧
    (∀ k, s.sup.blend = some k → 64 ≤ k → s.sup.degFrom = none →
      ∃ t, exec .obsReturnDone s = .next t ∧ t.sup = { s.sup with bridging := false, blend := none, bridgeUsed := s.bridgeTicks, returnedAt := some s.now } ∧
        t.nat OD.OBS_STATE = 1 ∧ s.Alters t [OD.OBS_STATE, OD.BRIDGE_LEFT] ∧ State.Recorded { s with sup := t.sup } t) ∧
    (s.sup.bridging = true → s.sup.blend = none → s.sup.degFrom = none → s.gatedState (s.nat OD.LAW_STATE) = true →
      ms (s.nat OD.T_BRIDGE) ≤ s.bridgeTicks →
      (s.nat OD.DEG_STOP_TIME = 0 → ∃ t, exec .obsBridgeExpiry s = .next t ∧ s.FaultStop t Ev.DEGRADED_STOP) ∧
      (s.nat OD.DEG_STOP_TIME ≠ 0 →
        ∃ t, exec .obsBridgeExpiry s = .next t ∧ t.nat OD.LAW_STATE = 8 ∧ t.nat OD.FAULT_CAUSE = Ev.DEGRADED_STOP ∧ t.sup.degFrom = some s.now)) ∧
    (∀ t0, s.sup.degFrom = some t0 → (s.past t0 (ms (s.nat OD.DEG_STOP_TIME)) = true ∨ (t0 < s.frame.commitAt ∧ fisZero s.law.l0 = true)) →
      ∃ t, exec .degradedStopEnd s = .next t ∧ t.sup.degFrom = none ∧ t.sup.bridging = false ∧
        s.Alters t (OD.OBS_STATE :: OD.BRIDGE_LEFT :: stopKeys))

/-! ### Local drivers (chapter 10) -/

/-- R258, R260, R262–R265: LD_CMD refused, without effect on the output, off and on, and LD_CLEAR refused while a channel asked for still senses its fault, else clearing the latches. -/
def Obligations.Ld_commands : Prop :=
  ∀ (s : State) (session : Nat), s.Serves → s.ownerRefusal session = none →
    (∀ (x : Fin 6) (v : Nat) (r : Reply), s.ldCmdRefused x.val v = some r →
      ∃ t, exec (.ldCmd session x v) s = .next t ∧ t.Answered session r ∧ s.Alters t [] ∧ State.Recorded { s with hosts := t.hosts } t) ∧
    (∀ (x : Fin 6) (v : Nat), s.ldCmdRefused x.val v = none → (s.ldFunc x.val < 2 ∨ (s.ldCmdNow x.val = v ∧ s.ldSt x.val = 2)) →
      ∃ t, exec (.ldCmd session x v) s = .next t ∧ t.Answered session Reply.ok ∧ t.nat (OD.LD_CMD (x.val + 1)) = v ∧ (t.ldc x.val).on = (s.ldc x.val).on ∧
        (∀ y : Fin 6, y ≠ x → t.ldc y.val = s.ldc y.val) ∧ s.Alters t [OD.LD_CMD (x.val + 1)]) ∧
    (∀ x : Fin 6, 2 ≤ s.ldFunc x.val → (s.ldCmdNow x.val ≠ 0 ∨ s.ldSt x.val ≠ 2) →
      ∃ t, exec (.ldCmd session x 0) s = .next t ∧ t.Answered session Reply.ok ∧ t.nat (OD.LD_CMD (x.val + 1)) = 0 ∧ (t.ldc x.val).on = false ∧
        t.nat (OD.LD_STATE (x.val + 1)) ≠ 2 ∧ (∀ y : Fin 6, y ≠ x → t.ldc y.val = s.ldc y.val) ∧
        s.Alters t [OD.LD_CMD (x.val + 1), OD.LD_STATE (x.val + 1)]) ∧
    (∀ x : Fin 6, s.ldCmdRefused x.val 1 = none → (s.ldSt x.val = 1 ∨ (s.ldSt x.val = 2 ∧ s.ldCmdNow x.val ≠ 1)) → 2 ≤ s.ldFunc x.val →
      s.ldPowered x.val = true → s.sgb = false → s.tbValid = true → (s.ldc x.val).softAt = none → (s.ldc x.val).refreshAt = none →
      ∃ t, exec (.ldCmd session x 1) s = .next t ∧ t.Answered session Reply.ok ∧ t.nat (OD.LD_CMD (x.val + 1)) = 1 ∧ (t.ldc x.val).on = true ∧
        t.nat (OD.LD_STATE (x.val + 1)) = 2 ∧ (∀ y : Fin 6, y ≠ x → t.ldc y.val = s.ldc y.val) ∧
        s.Alters t [OD.LD_CMD (x.val + 1), OD.LD_STATE (x.val + 1), OD.LD_FAULT (x.val + 1)]) ∧
    (∀ mask : Nat, (∃ x, x < 6 ∧ mask.testBit x = true ∧ (s.ldc x).desatHigh = true) →
      ∃ t, exec (.ldClear session mask) s = .next t ∧ t.Answered session Reply.tripActive ∧ s.Alters t [] ∧
        State.Recorded { s with hosts := t.hosts } t) ∧
    (∀ mask : Nat, (∀ x, x < 6 → mask.testBit x = true → (s.ldc x).desatHigh = false) →
      ∃ t, exec (.ldClear session mask) s = .next t ∧ t.Answered session Reply.ok ∧
        (∀ x, x < 6 → mask.testBit x = true → t.bit OD.LD_LATCH_MASK x = false ∧ t.bit (OD.LD_FAULT (x + 1)) 5 = false ∧
          t.bit (OD.LD_FAULT (x + 1)) 6 = false ∧ t.nat (OD.RETRY_LEFT (x + 1)) = s.nat (OD.RETRY_MAX (x + 1))) ∧
        (∀ x, x < 6 → mask.testBit x = false → t.bit OD.LD_LATCH_MASK x = s.bit OD.LD_LATCH_MASK x ∧ t.ldc x = s.ldc x))

/-- R258–R276: what happens to one driver channel by itself: the chopper's period, the end of a pulse, the hold, the precharge limit, its supplies and
their loss and return, shorts alone and together, the soft turn-off with what follows it, the retries and the bootstrap refresh. The other channels stay
as they are unless a common short takes them too. -/
def Obligations.Ld_events : Prop :=
  ∀ (s : State) (x : Fin 6),
    let c := s.ldc x.val
    let k := x.val + 1
    let others (t : State) : Prop := ∀ y : Fin 6, y ≠ x → t.ldc y.val = s.ldc y.val
    (s.ldFunc x.val = 1 → s.ltc % s.ldPeriod x.val = 0 → c.duties = [] → c.unavailable = false → c.refreshAt = none → s.ldFree x.val = true →
      ∃ t, exec (.chopperPeriodStart x) s = .next t ∧ (t.ldc x.val).periodAt = s.now ∧ t.nat (OD.LD_STATE k) = 2 ∧
        (t.ldc x.val).on = decide (625 ≤ s.ldOnTicks x.val) ∧ others t ∧ s.Alters t [OD.LD_STATE k, OD.LD_DROPPED k]) ∧
    (∀ p, s.ldFunc x.val = 1 → s.ltc % s.ldPeriod x.val = 0 → (c.duties.find? fun q => decide (q.2 + 64 < s.now)) = some p →
      ∃ t, exec (.chopperPeriodStart x) s = .next t ∧ t.f32 (OD.LD_DUTY_NOW k) = p.1 ∧ others t) ∧
    (s.ldFunc x.val = 1 → c.refreshAt = none → c.on = true → s.past c.periodAt (s.ldOnTicks x.val) = true →
      s.ldOnTicks x.val + 625 ≤ s.ldPeriod x.val →
      ∃ t, exec (.ldPulseEdge x) s = .next t ∧ t.ldc x.val = { c with on := false, offAt := s.now } ∧ others t ∧ t.dict = s.dict) ∧
    (s.ldFunc x.val = 1 → c.holdOff = false → s.ldSt x.val = 2 →
      s.past s.frame.commitAt (Nat.max (us (s.nat OD.CMD_TIMEOUT)) (5 * s.nat OD.FRAME_PERIOD)) = true →
      ∃ t, exec (.ldHoldExpired x) s = .next t ∧ (t.ldc x.val).on = false ∧ (t.ldc x.val).holdOff = true ∧ t.nat (OD.LD_STATE k) = 1 ∧ others t ∧
        s.Alters t [OD.LD_STATE k]) ∧
    (s.ldFunc x.val = 2 → c.on = true → s.past c.runSince (ms (s.nat (OD.PRECH_TIME_MAX k))) = true →
      ∃ t, exec (.ldPrechargeTimeout x) s = .next t ∧ (t.ldc x.val).on = false ∧ t.nat (OD.LD_CMD k) = 0 ∧ t.bit (OD.LD_FAULT k) 7 = true ∧
        (t.ldc x.val).prechOffAt = some s.now ∧ others t ∧ s.Alters t [OD.LD_STATE k, OD.LD_CMD k, OD.LD_FAULT k]) ∧
    (∀ (vpos vneg : F32) (sense : Bool), s.ldFunc x.val ≠ 0 → s.ldPowered x.val = true →
      ∃ t, exec (.ldSupplyMeasure x vpos vneg sense) s = .next t ∧ t.f32 (OD.VPOS_MEAS k) = vpos ∧ t.f32 (OD.VNEG_MEAS k) = vneg ∧
        (t.ldc x.val).desatHigh = sense ∧ others t ∧ s.Alters t [OD.VPOS_MEAS k, OD.VNEG_MEAS k]) ∧
    (∀ vneg : Bool, s.ldFunc x.val ≠ 0 → s.ldPowered x.val = true → (vneg = true → s.vnegUsed x.val = true) →
      (if vneg then c.uvNeg else c.uvPos) = false → c.softAt = none →
      ((vneg = true ∨ s.bootEmpty x.val = false) →
        ∃ t, exec (.ldUvlo x vneg) s = .next t ∧ t.nat (OD.LD_STATE k) = 7 ∧ (t.ldc x.val).on = false ∧
          t.bit (OD.LD_FAULT k) (if vneg then 3 else 2) = true ∧ others t ∧ s.Alters t [OD.LD_STATE k, OD.LD_FAULT k]) ∧
      (vneg = false → s.bootEmpty x.val = true →
        ∃ t, exec (.ldUvlo x vneg) s = .next t ∧ t.nat (OD.LD_STATE k) = 8 ∧ (t.ldc x.val).on = false ∧ t.bit (OD.LD_FAULT k) 4 = true ∧ others t ∧
          s.Alters t [OD.LD_STATE k, OD.LD_FAULT k])) ∧
    (∀ t0, c.recoverAt = some t0 → s.past t0 (ms 1) = true → s.ldSt x.val ≠ 8 →
      ∃ t, exec (.ldUvloRecover x) s = .next t ∧ (t.ldc x.val).uvPos = false ∧ (t.ldc x.val).uvNeg = false ∧ t.bit (OD.LD_FAULT k) 2 = false ∧
        t.bit (OD.LD_FAULT k) 3 = false ∧ others t) ∧
    (∀ t0, c.lowSince = some t0 → s.ldFunc x.val = 1 → s.nat OD.CH_LD = k → (s.ldSt x.val = 7 ∨ s.ldSt x.val = 8) → c.unavailable = false →
      s.past t0 (sec 1) = true →
      ∃ t, exec (.chopperUnavailable x) s = .next t ∧ t.ldc x.val = { c with unavailable := true } ∧ others t ∧ s.Alters t []) ∧
    (∀ hard : Bool, c.on = true → s.flag (OD.DESAT_EN k) = true → s.shortSeen x.val hard = true →
      (s.shortGroup x.val = [] →
        ∃ t, exec (.ldShort x hard) s = .next t ∧ t.nat (OD.LD_STATE k) = 3 ∧ (t.ldc x.val).on = false ∧ (t.ldc x.val).softAt = some s.now ∧
          t.bit (OD.LD_FAULT k) 1 = hard ∧ t.bit (OD.LD_FAULT k) 0 = (!hard) ∧
          t.nat (OD.FAULT_COUNT k) = Nat.min (s.nat (OD.FAULT_COUNT k) + 1) 0xFFFFFFFF ∧ others t ∧
          s.Alters t [OD.LD_STATE k, OD.LD_FAULT k, OD.FAULT_COUNT k]) ∧
      (s.shortGroup x.val ≠ [] →
        ∃ t, exec (.ldShort x hard) s = .next t ∧ ∀ y, y = x.val ∨ y ∈ s.shortGroup x.val →
          t.nat (OD.LD_STATE (y + 1)) = 6 ∧ t.bit OD.LD_LATCH_MASK y = true ∧ (t.ldc y).on = false)) ∧
    (∀ t0, c.softAt = some t0 → s.past t0 (s.usTicks (OD.SOFT_OFF k)) = true → s.ldSt x.val = 3 →
      ∃ t, exec (.ldSoftOffDone x) s = .next t ∧ (t.ldc x.val).softAt = none ∧ others t ∧
        t.nat (OD.LD_STATE k) = (if c.uvPos || c.uvNeg then 7 else if s.nat (OD.RETRY_LEFT k) = 0 then 5
          else if s.ldFunc x.val = 1 ∨ s.ldCmdNow x.val ≠ 0 then 4 else 1) ∧
        s.Alters t [OD.LD_STATE k, OD.LD_FAULT k, OD.LD_LATCH_MASK]) ∧
    (∀ t0, c.waitAt = some t0 → s.ldSt x.val = 4 → s.past t0 (ms (s.nat (OD.RETRY_WAIT k))) = true →
      ∃ t, exec (.ldRetryWaitEnd x) s = .next t ∧ t.nat (OD.RETRY_LEFT k) = s.nat (OD.RETRY_LEFT k) - 1 ∧ (t.ldc x.val).waitAt = none ∧
        t.bit (OD.LD_FAULT k) 0 = false ∧ t.bit (OD.LD_FAULT k) 1 = false ∧ others t) ∧
    (s.ldSt x.val = 2 → s.past c.runSince (sec 60) = true →
      ∃ t, exec (.ldRetryReload x) s = .next t ∧ t.nat (OD.RETRY_LEFT k) = s.nat (OD.RETRY_MAX k) ∧ s.Alters t [OD.RETRY_LEFT k] ∧ s.Recorded t) ∧
    (s.nat (OD.LD_SUPPLY k) = 1 → s.flag (OD.BOOT_REFRESH_EN k) = true → c.on = true →
      s.past c.contOnAt (us (s.nat (OD.BOOT_INTERVAL k))) = true →
      ∃ t, exec (.ldBootRefresh x) s = .next t ∧ t.ldc x.val = { c with on := false, offAt := s.now, refreshAt := some s.now } ∧
        t.nat (OD.LD_REFRESHES k) = (s.nat (OD.LD_REFRESHES k) + 1) % 4294967296 ∧ others t ∧ s.Alters t [OD.LD_REFRESHES k])

/-! ### The PWM unit (chapter 08) -/

/-- R188–R200, R214: at a valley or a peak a carrier's reload makes each pending word of its pairs the active one, once LOAD_ALL lies more than 64 ticks
back; an edge turns its channel off and schedules the other after the dead time, or waits out the minimum pulse; it is dropped with the one before where
that is still held back; it does nothing while the compare state is the other one, nor a second time; and a scheduled turn-on. -/
def Obligations.Pwm_edges : Prop :=
  ∀ s : State,
    (∀ c : Fin 8, (s.nat OD.OUT_STATE = 1 ∨ s.nat OD.OUT_STATE = 2) → s.flag (OD.CAR_EN c.val) = true → s.atReload c.val = true →
      (s.car c.val).at1 ≠ (s.ltc : Int) →
      ∃ t, exec (.carrierReload c) s = .next t ∧ (t.car c.val).late = false ∧
        (s.past (s.car c.val).loadAt 65 = false → ∀ p : Fin 24, (t.pair' p.val).active = (s.pair' p.val).active) ∧
        (s.past (s.car c.val).loadAt 65 = true →
          ∀ (p : Fin 24) (w : BitVec 32), s.pairUsed p.val = true → s.nat (OD.PAIR_CARRIER p.val) = c.val → (s.pair' p.val).pending = some w →
          (t.pair' p.val).active = w ∧ (t.pair' p.val).switching = true ∧
          (forceOff w = true → (t.chan (2 * p.val)).active = false ∧ (t.chan (2 * p.val + 1)).active = false)) ∧
        (∀ p : Fin 24, (s.pairUsed p.val = false ∨ s.nat (OD.PAIR_CARRIER p.val) ≠ c.val) → t.pair' p.val = s.pair' p.val)) ∧
    (∀ (p : Fin 24) (high : Bool) (on off : Nat), on = (if high then 2 * p.val else 2 * p.val + 1) → off = (if high then 2 * p.val + 1 else 2 * p.val) →
      s.nat (OD.PAIR_USE p.val) = 1 → (s.pair' p.val).switching = true → s.pwm.seq = none → forceOff (s.pair' p.val).active = false →
      (s.pair' p.val).delayed = none → s.compareState p.val = high → (s.pair' p.val).seen ≠ some high →
      ((s.chan off).active = false ∧ (s.chan off).stretched = false ∨
          (s.chan off).active = true ∧ (s.guardOff off ≤ s.now ∧ (s.nat OD.MIN_PULSE = 0 ∨ s.pulseOk off ≤ s.now)) →
        ∃ t, exec (.compareEdge p high) s = .next t ∧ (t.chan off).active = false ∧ (t.chan off).turnOn = none ∧
          (∃ at', (t.chan on).turnOn = some at' ∧ s.now + s.nat (OD.DEAD_TIME p.val) ≤ at')) ∧
      ((s.chan off).active = true → s.guardOff off ≤ s.now → s.nat OD.MIN_PULSE ≠ 0 → s.now < s.pulseOk off →
        ∃ t, exec (.compareEdge p high) s = .next t ∧ (t.pair' p.val).delayed = some { high := high, at1 := s.pulseOk off, pulse := true } ∧
          t.pwm.channels = s.pwm.channels ∧ s.Alters t [OD.PULSE_STRETCH]) ∧
      ((s.chan off).active = false → (s.chan off).stretched = true →
        ∃ t, exec (.compareEdge p high) s = .next t ∧ (t.chan off).active = false ∧ (t.chan off).turnOn = none ∧ t.chan on = s.chan on ∧
          s.Alters t [OD.PULSE_STRETCH])) ∧
    (∀ (p : Fin 24) (high : Bool), (s.pair' p.val).delayed = none → (s.compareState p.val ≠ high ∨ (s.pair' p.val).seen = some high) →
      exec (.compareEdge p high) s = .next s) ∧
    (∀ (ch : Fin 48) (t0 : Nat), (s.chan ch.val).turnOn = some t0 → t0 ≤ s.now → s.pwm.seq = none →
      (s.guardOn ch.val ≤ s.now →
        ∃ t, exec (.deadTimeTurnOn ch) s = .next t ∧ (t.chan ch.val).active = true ∧ (t.chan ch.val).turnOn = none ∧
          (∀ i : Fin 48, i ≠ ch → t.chan i.val = s.chan i.val) ∧ t.dict = s.dict) ∧
      (s.now < s.guardOn ch.val →
        ∃ t, exec (.deadTimeTurnOn ch) s = .next t ∧ t.chan ch.val = { s.chan ch.val with turnOn := some (s.guardOn ch.val), moved := true } ∧
          (∀ i : Fin 48, i ≠ ch → t.chan i.val = s.chan i.val) ∧ s.Alters t [OD.NPC_ORDER_FIX]))

/-- R201–R211, R216: the second step of a stop, the end of CLAMP, a debugger's halt, trip inputs with filter and blanking, the command time-out and
TRIP_CLEAR; and the sorting of an arm with its count of available submodules. A trip latches its bit and stops the law. -/
def Obligations.Pwm_stops : Prop :=
  ∀ s : State,
    let tripped (t : State) (b : Nat) : Prop := t.bit OD.TRIP_LATCH b = true ∧ t.nat OD.LAW_STATE = 8 ∧ t.nat OD.TRIP_FIRST ≠ 0xFF
    (∀ q, s.pwm.seq = some q → q.step2 = true → s.past q.at1 (q.span (s.nat OD.T_OI)) = true →
      (q.clamp = false → ∃ t, exec .safeStep2 s = .next t ∧ (∀ i : Fin 48, (t.chan i.val).active = false) ∧ t.pwm.seq = none ∧ s.Alters t [OD.OUT_STATE]) ∧
      (q.clamp = true → ∃ t, exec .safeStep2 s = .next t ∧ t.pwm.seq = some { q with step2 := false } ∧ t.nat OD.OUT_STATE = 4 ∧
        s.Alters t [OD.OUT_STATE])) ∧
    (∀ q, s.pwm.seq = some q → q.clamp = true →
      s.past q.at1 (Nat.max (q.span (ms (s.nat OD.CLAMP_TIME))) (q.span (s.nat OD.T_OI))) = true →
      ∃ t, exec .clampTimeEnd s = .next t ∧ (∀ i : Fin 48, (t.chan i.val).active = false) ∧ t.pwm.seq = none ∧ t.pwm.safeParcels = some false ∧
        s.Alters t [OD.OUT_STATE]) ∧
    (∀ l : Lane,
      (s.serving = some l → ∃ t, exec (.debugHalt l true) s = .next t ∧ tripped t 6) ∧
      (s.serving ≠ some l → ∃ t, exec (.debugHalt l true) s = .next t ∧ t.dict = s.dict ∧ (match l with | .a => t.pwm.haltedA | .b => t.pwm.haltedB) = true) ∧
      (∃ t, exec (.debugHalt l false) s = .next t ∧ t.dict = s.dict ∧ (match l with | .a => t.pwm.haltedA | .b => t.pwm.haltedB) = false)) ∧
    (∀ (i : Fin 4) (level : Bool),
      (s.tripAsserts i.val level = false →
        ∃ t, exec (.tripInput i level) s = .next t ∧ (t.tripIn i.val).assertedAt = none ∧ t.flag (OD.TRIP_LEVEL i.val) = level ∧
          s.Alters t [OD.TRIP_LEVEL i.val]) ∧
      (s.tripAsserts i.val level = true → s.past ((s.tripIn i.val).assertedAt.getD s.now) (s.nat (OD.TRIP_FILT i.val)) = true →
        (s.now < (s.tripIn i.val).blankUntil →
          ∃ t, exec (.tripInput i level) s = .next t ∧ (t.tripIn i.val).waiting = true ∧ s.Alters t [OD.TRIP_LEVEL i.val]) ∧
        ((s.tripIn i.val).blankUntil ≤ s.now → s.flag (OD.TRIP_EN i.val) = true → s.bit OD.TRIP_LATCH i.val = false →
          ∃ t, exec (.tripInput i level) s = .next t ∧ tripped t i.val ∧ t.flag (OD.TRIP_LEVEL i.val) = level))) ∧
    (∀ i : Fin 4, (s.tripIn i.val).waiting = true → (s.tripIn i.val).blankUntil ≤ s.now →
      ((s.tripIn i.val).assertedAt = none →
        ∃ t, exec (.blankWindowEnd i) s = .next t ∧ (t.tripIn i.val).waiting = false ∧
          t.nat OD.BLANK_IGNORED = Nat.min (s.nat OD.BLANK_IGNORED + 1) 0xFFFFFFFF ∧ s.Alters t [OD.BLANK_IGNORED]) ∧
      ((s.tripIn i.val).assertedAt.isSome = true → s.flag (OD.TRIP_EN i.val) = true → s.bit OD.TRIP_LATCH i.val = false →
        ∃ t, exec (.blankWindowEnd i) s = .next t ∧ tripped t i.val)) ∧
    (s.nat OD.OUT_STATE = 2 → s.past s.pwm.loadAllAt (Nat.max (us (s.nat OD.CMD_TIMEOUT)) (5 * s.nat OD.FRAME_PERIOD)) = true →
      ∃ t, exec .cmdTimeout s = .next t ∧ tripped t 7) ∧
    (∀ session mask : Nat, s.Serves → s.ownerRefusal session = none →
      ((∃ b, b < 9 ∧ mask.testBit b = true ∧ s.tripPersists b = true) →
        ∃ t, exec (.tripClear session mask) s = .next t ∧ t.Answered session Reply.tripActive ∧ t.nat OD.TRIP_LATCH = s.nat OD.TRIP_LATCH ∧
          s.Alters t []) ∧
      ((∀ b, b < 9 → mask.testBit b = true → s.tripPersists b = false) → mask.testBit 8 = false →
        ∃ t, exec (.tripClear session mask) s = .next t ∧ t.Answered session Reply.ok ∧
          t.nat OD.TRIP_LATCH = s.nat OD.TRIP_LATCH - (s.nat OD.TRIP_LATCH &&& mask) ∧
          (t.nat OD.TRIP_LATCH = 0 → t.nat OD.TRIP_FIRST = 0xFF) ∧ s.Alters t [OD.TRIP_LATCH, OD.TRIP_FIRST])) ∧
    (∀ k : Fin 6,
      ∃ t, exec (.mmcSort k) s = .next t ∧ (t.arm k.val).order = s.sortArm k.val ∧
        t.nat (OD.N_AVAIL k.val) = ((List.range (s.nat OD.N_SM)).filter fun j => s.smAvailable k.val j).length ∧
        (∀ k' : Fin 6, k' ≠ k → t.arm k'.val = s.arm k'.val))

/-! ### Acquisition and filters (chapters 03 and 04) -/

/-- R59, R62–R73, R79: a conversion acts on its core's grid alone: the register, the window and the held value of a primary one; one in flight at a switch; a
secondary entry at its place; a calibration reading and the fault of a third bad one; a conversion that does not come; start-up calibration from its
beginning to its end; the internal channels; and, of the filter chain, the filling of its stages, SETTLED and GRIDSYNC (R87–R93). -/
def Obligations.Adc_and_filters : Prop :=
  ∀ s : State,
    (∀ (c : Fin 32) (code k : Int), s.coreRuns c.val = true → s.inFlight c.val = false → s.slotNow c.val = some k → s.coreFeeds c.val = true →
      let n := s.chanOf c.val
      let good := s.frame.grid && !(s.core c.val).faulted && (s.core c.val).calDone && s.inWindow n k
      ∃ t, exec (.adcConversionDone c (.primary k) code) s = .next t ∧
        (t.chain n).window = (if good then (s.chain n).window ++ [(k, satCode code, fullScale (satCode code))] else (s.chain n).window) ∧
        (t.core c.val).held = some (satCode code) ∧ (t.core c.val).taken = none ∧ (t.core c.val).lastHold = s.holdBefore c.val 100 ∧
        t.nat (OD.ADC_RESULT c.val 0) % 2 ^ 18 =
          (if (s.core c.val).faulted then s.nat (OD.ADC_RESULT c.val 0) % 2 ^ 18 else (satCode code % 262144).toNat) ∧
        ((s.core c.val).taken = none → (s.core c.val).skip = none →
          t.nat (OD.ADC_RESULT c.val 0) / 2 ^ 28 = (s.nat (OD.ADC_RESULT c.val 0) / 2 ^ 28 + 1) % 16) ∧
        s.Alters t [OD.ADC_RESULT c.val 0, OD.SUBST_COUNT, OD.SEQ_STARVED, OD.CH_STATUS n]) ∧
    (∀ (c : Fin 32) (code k : Int), s.coreRuns c.val = true →
      (s.inFlight c.val = true ∨ s.slotNow c.val = some k ∧ s.coreFeeds c.val = false →
        ∃ t, exec (.adcConversionDone c (.primary k) code) s = .next t ∧ t.chains = s.chains ∧
          t.nat (OD.ADC_RESULT c.val 0) / 2 ^ 28 = (s.nat (OD.ADC_RESULT c.val 0) / 2 ^ 28 + 1) % 16 ∧
          s.Alters t [OD.ADC_RESULT c.val 0, OD.SEQ_STARVED]) ∧
      (s.inFlight c.val = false → s.slotNow c.val ≠ some k → exec (.adcConversionDone c (.primary k) code) s = .next (s.dueSweep c.val))) ∧
    (∀ (c : Fin 32) (e : Fin 15) (h : Nat) (code : Int), s.coreRuns c.val = true → s.placeBefore c.val 100 = some h →
      (s.dueSweep c.val).seqHead c.val (h / 2) = some (e.val + 1) → s.calFirst c.val = false →
      ∃ t, exec (.adcConversionDone c (.secondary e) code) s = .next t ∧ (t.core c.val).placedAt = h ∧
        (t.core c.val).due = ((s.dueSweep c.val).core c.val).due.eraseP (fun d => decide (d.1 = e.val + 1)) ∧
        ((s.core c.val).faulted = false → t.nat (OD.ADC_RESULT c.val (e.val + 1)) % 2 ^ 18 = (satCode code % 262144).toNat) ∧
        s.Alters t [OD.ADC_RESULT c.val (e.val + 1), OD.SEQ_STARVED, OD.CH_STATUS (s.chanOf c.val)]) ∧
    (∀ (c : Fin 32) (code : Int), s.coreRuns c.val = true → (s.core c.val).calDone = false → s.adcUnit.calNeeded = false →
      (s.slotNow c.val).isSome = true → (s.core c.val).calAgnd + 1 < 64 →
      (agndBad (satCode code) = false → (s.core c.val).ownBad < 3 →
        ∃ t, exec (.adcConversionDone c .agnd code) s = .next t ∧ (t.core c.val).calAgnd = (s.core c.val).calAgnd + 1 ∧
          (t.core c.val).calDone = false ∧ (t.core c.val).agndBad = 0 ∧ vget none t.adcUnit.ich 2 = some (satCode code) ∧
          s.Alters t [OD.SEQ_STARVED]) ∧
      (agndBad (satCode code) = true → (s.core c.val).agndBad = 2 →
        ∃ t, exec (.adcConversionDone c .agnd code) s = .next t ∧ (t.core c.val).faulted = true ∧ (t.core c.val).calBad = true ∧
          ((s.core c.val).faulted = false → t.bit OD.ADC_FAULT_MASK c.val = true))) ∧
    (∀ (c : Fin 32) (h : Nat) (code : Int), s.coreRuns c.val = true → (s.core c.val).calDone = true → s.placeBefore c.val 100 = some h →
      s.calDue c.val 0 0 = true → s.calFirst c.val = false → (s.dueSweep c.val).seqHead c.val (h / 2) = none → agndBad (satCode code) = false →
      (s.core c.val).ownBad < 3 → -32768 ≤ s.int (OD.ADC_OFFSET_CAL c.val) → s.int (OD.ADC_OFFSET_CAL c.val) ≤ 32767 →
      ∃ t, exec (.adcConversionDone c .agnd code) s = .next t ∧ (t.core c.val).placedAt = h ∧ (t.core c.val).agndBad = 0 ∧
        (t.int (OD.ADC_OFFSET_CAL c.val) - s.int (OD.ADC_OFFSET_CAL c.val)).natAbs ≤ 50 ∧
        (s.nat OD.ADC_CAL_STATE = 2 → t.nat OD.ADC_CAL_STATE = 3) ∧
        s.Alters t [OD.ADC_OFFSET_CAL c.val, OD.ADC_CAL_STATE, OD.SEQ_STARVED, OD.CH_STATUS (s.chanOf c.val)]) ∧
    (∀ (c : Fin 32) (window : Bool),
      (s.coreRuns c.val = true → s.holdLate c.val window = true → (s.core c.val).faulted = false →
        ∃ t, exec (.adcConversionTimeout c window) s = .next t ∧ (t.core c.val).faulted = true ∧ t.bit OD.ADC_FAULT_MASK c.val = true ∧
          (t.chain (s.chanOf c.val)).settled = false ∧ (t.chain (s.chanOf c.val)).fpSettled = false ∧
          (t.chain (s.chanOf c.val)).windowLate = (window || (s.chain (s.chanOf c.val)).windowLate)) ∧
      (s.holdLate c.val window = false → exec (.adcConversionTimeout c window) s = .next s)) ∧
    (s.adcUnit.calNeeded = true → s.domainOn 7 = true → s.tbValid = true →
      ∃ t, exec .adcStartupCal s = .next t ∧ t.nat OD.ADC_CAL_STATE = 1 ∧ t.adcUnit.calNeeded = false ∧
        s.Alters t ([OD.ADC_CAL_STATE] ++ (List.range 32).flatMap fun c => [OD.ADC_SKEW_CAL c, OD.ADC_GAIN_CAL c, OD.ADC_OFFSET_CAL c]) ∧
        (∀ c : Fin 32, s.coreOn c.val = true → (t.core c.val).calDone = false ∧ (t.core c.val).calAgnd = 0 ∧ (t.core c.val).calBad = false ∧
          t.int (OD.ADC_OFFSET_CAL c.val) = (s.trim c.val).offset)) ∧
    (s.nat OD.ADC_CAL_STATE = 1 →
      (s.adcUnit.calNeeded = false → (∀ c : Fin 32, s.coreOn c.val = true → (s.core c.val).calDone = true) →
        ∃ t, exec .adcCalDone s = .next t ∧ t.nat OD.ADC_CAL_STATE = 2 ∧ s.Alters t [OD.ADC_CAL_STATE] ∧ s.Recorded t) ∧
      (s.adcUnit.calNeeded = false → (∀ c : Fin 32, s.coreOn c.val = true → (s.core c.val).calDone = true ∨ (s.core c.val).calBad = true) →
        (∃ c : Fin 32, s.coreOn c.val = true ∧ (s.core c.val).calDone = false) →
        ∃ t, exec .adcCalDone s = .next t ∧ t.nat OD.ADC_CAL_STATE = 4 ∧ s.Alters t [OD.ADC_CAL_STATE] ∧ s.Recorded t) ∧
      (s.adcUnit.calNeeded = true → exec .adcCalDone s = .next s)) ∧
    (s.domainOn 7 = true → s.tbValid = true →
      ∃ t, exec .ichValueUpdate s = .next t ∧ t.int OD.REF_DIVERGENCE = s.refDivergence ∧
        (∀ (i : Fin 16) (code : Int), vget none s.adcUnit.ich i.val = some code → t.f32 (OD.ICH_VALUE i.val) = ichValue i.val code) ∧
        (∀ i : Fin 6, vget 0 t.power.dieTemps i.val = t.f32 (OD.ICH_VALUE (10 + i.val)))) ∧
    (∀ (n : Fin 32) (code : Int) (hold : Nat) (ovr subst : Bool), s.domainOn 8 = true → s.chanValid n.val = true →
      let t := s.feedMeas n.val code hold ovr subst
      (t.chain n.val).cicLeft = (s.chain n.val).cicLeft - 1 ∧
      ((s.chain n.val).cicLeft ≠ 0 →
        (t.chain n.val).firLeft = (s.chain n.val).firLeft ∧ (t.chain n.val).rsLeft = (s.chain n.val).rsLeft) ∧
      (s.firOn n.val = true → (s.chain n.val).firLeft ≠ 0 → (t.chain n.val).rsLeft = (s.chain n.val).rsLeft)) ∧
    (∀ n : Fin 32, (s.chain n.val).cicLeft = 0 → (s.chain n.val).firLeft = 0 → (s.chain n.val).rsLeft = 0 → (s.chain n.val).settled = false →
      s.chanValid n.val = true →
      ∃ t, exec (.fcSettled n) s = .next t ∧ t.chain n.val = { s.chain n.val with settled := true, stepped := 3 } ∧ t.bit (OD.CH_STATUS n.val) 2 = true ∧
        t.bit OD.UNSETTLED_MASK n.val = (!(s.chain n.val).fpSettled) ∧ s.Alters t [OD.UNSETTLED_MASK, OD.CH_STATUS n.val]) ∧
    (∀ (n : Fin 32) (t0 : Nat), (s.chain n.val).gridsync = false → (s.chain n.val).binGoodAt = some t0 → s.nat (OD.RS_MODE n.val) = 2 →
      s.past t0 (4 * 625000000 / (if s.nat OD.F_NOM = 1 then 60 else 50)) = true →
      ∃ t, exec (.rsGridsync n) s = .next t ∧ (t.chain n.val).gridsync = true ∧ t.bit OD.GRIDSYNC_MASK n.val = true ∧
        s.Alters t [OD.GRIDSYNC_MASK, OD.CH_STATUS n.val]) ∧
    (∀ n : Fin 32, (s.chain n.val).gridsync = true → flt (fq 1 (2 * s.nat (OD.RS_K n.val))) (s.chain n.val).binErr = true →
      ∃ t, exec (.rsGridsync n) s = .next t ∧ (t.chain n.val).gridsync = false ∧ t.bit OD.GRIDSYNC_MASK n.val = false ∧
        s.Alters t [OD.GRIDSYNC_MASK, OD.CH_STATUS n.val])

/-! ### Frames (chapter 05) -/

/-- FRAME_BOUNDARY and FP_BLOCK_RELEASE complete (R82, R96, R97): a boundary that has come begins the next frame, with its number and time on the grid, and
where none has come only bursts that are due leave; the block is released 1.4 µs after t0 with the frame's number, or counted missing, once a frame. -/
def Obligations.Frame_boundary_and_block : Prop :=
  ∀ s : State,
    (let u := (s.stopBursts).owedBursts
     (s.tbValid = true → s.frame.grid = true → u.boundaryCame = true → u.switchFirst = false → s.boot.resetDue = none → s.lanes.afterSwapOff = [] →
       ∃ t, exec .frameBoundary s = .next t ∧ t.frame.begun = true ∧ t.frame.grid = true ∧ t.frame.n = (s.frame.n + 1) % 2 ^ 32 ∧
         t.frame.t0Prev = s.frame.t0 ∧ t.frame.t0 = s.nextFrame.frame.t0 ∧ t.frame.block = none ∧ t.frame.path = none ∧ t.frame.specOn = false ∧
         t.frame.missed = false) ∧
     (s.tbValid = true → s.frame.grid = false → s.frame.begun = false → s.boot.resetDue = none → s.lanes.afterSwapOff = [] →
       ∃ t, exec .frameBoundary s = .next t ∧ t.frame.begun = true ∧ t.frame.grid = true ∧ t.frame.t0 = s.gridAfter s.ltc ∧ t.frame.block = none) ∧
     (s.tbValid = false → exec .frameBoundary s = .next u) ∧
     (s.frame.grid = true → u.boundaryCame = false ∨ u.switchFirst = true → exec .frameBoundary s = .next u)) ∧
    (let t := s.nextFrame
     t.frame.begun = true ∧ t.frame.block = none ∧ t.frame.path = none ∧ t.frame.specOn = false ∧ t.frame.missed = false ∧
     (s.frame.grid = true → t.frame.n = (s.frame.n + 1) % 2 ^ 32 ∧ t.frame.t0Prev = s.frame.t0 ∧ t.dict = s.dict ∧
       (s.ltc ≤ s.gridAfter (s.frame.t0 + s.fTicks / 2) + s.fTicks + 1125 → t.frame.t0 = s.gridAfter (s.frame.t0 + s.fTicks / 2))) ∧
     (s.frame.grid = false → t.frame.t0 = s.gridAfter s.ltc ∧ t.nat OD.FRAME_STATE = 1 ∧ s.Alters t [OD.FRAME_STATE])) ∧
    (s.frame.begun = true → s.frame.block = none → s.frame.missed = false → s.frame.t0 + 875 ≤ s.ltc →
      (s.tbValid = true → s.domainOn 8 = true → s.frame.chainReset = false → s.bit OD.PR_BUSY 5 = false →
        ∃ t, exec .fpBlockRelease s = .next t ∧
          (∃ b, t.frame.block = some b ∧ b.number = s.frame.n ∧ b.t0 = s.frame.t0 ∧ b.epoch = s.nat OD.TIME_EPOCH ∧
            b.samples = (List.range 32).map (fun n => (s.fpChannel n).1) ∧ b.nibbles = (List.range 32).map (fun n => (s.fpChannel n).2.1)) ∧
          (∀ n : Fin 32, t.chain n.val = (s.fpChannel n.val).2.2) ∧ t.frame.n = s.frame.n ∧ t.lanes = s.lanes) ∧
      (s.tbValid = false ∨ s.domainOn 8 = false ∨ s.frame.chainReset = true ∨ s.bit OD.PR_BUSY 5 = true →
        ∃ t, exec .fpBlockRelease s = .next t ∧ t.frame = { s.frame with chainReset := false, missed := true } ∧
          t.nat OD.FP_MISSED = Nat.min (s.nat OD.FP_MISSED + 1) 0xFFFFFFFF ∧ t.chains = s.chains ∧ s.Alters t [OD.FP_MISSED])) ∧
    (s.frame.begun = false ∨ s.frame.block ≠ none ∨ s.frame.missed = true ∨ s.ltc < s.frame.t0 + 875 → exec .fpBlockRelease s = .next s)

/-- R103–R111: speculation on the predictions; the commit phase, which takes the full path while run-ahead is not used, squashes with its cause or commits the
corrected speculation, and in a standby module takes the path its active names (R299); a lane's full path, finite or not; the path codeword on the other
lane; and slips by their row. -/
def Obligations.Frame_paths : Prop :=
  ∀ s : State,
    (s.frame.begun = true → s.blockUsed = none → s.frame.specOn = false → s.fullOnly = false → s.frame.path = none →
      ∃ t, exec .speculationStart s = .next t ∧ t.frame = { s.frame with specOn := true, xp := (List.range 32).map fun n => (s.predict n).getD fzero } ∧
        (∀ l : Lane, s.computing l = true → (t.lane l).spec.isSome = true ∧ (t.lane l).law = (s.lane l).law) ∧
        (∀ l : Lane, s.computing l = false → t.lane l = s.lane l) ∧ t.dict = s.dict ∧ t.pwm = s.pwm) ∧
    (∀ (l : Lane) (b : FpBlock) (done : Bool) (words : List (BitVec 128)) (writes : Nat), s.serving = some l → s.blockUsed = some b →
      s.frame.begun = true → s.frame.path = none → s.laneDone l = false → (s.lane l).frameBad = false → s.ltc ≤ s.deadline →
      (s.fullOnly = true → exec (.commitPhase done words writes) s = .next { s with frame := { s.frame with path := some false } }) ∧
      (s.fullOnly = false → s.awaitsPath = true → exec (.commitPhase done words writes) s = .next s) ∧
      (∀ c : Nat, s.fullOnly = false → s.followsPartner = false → s.squashCause l b done = some c → s.frame.streak + 1 < 8 →
        ∃ t, exec (.commitPhase done words writes) s = .next t ∧ t.frame = { s.frame with path := some false, streak := s.frame.streak + 1 } ∧
          t.nat OD.SQUASHES = Nat.min (s.nat OD.SQUASHES + 1) 0xFFFFFFFF ∧ t.nat OD.LAST_SQUASH_CAUSE = c ∧
          s.Alters t [OD.SQUASHES, OD.LAST_SQUASH_CAUSE] ∧ t.lanes = s.lanes) ∧
      (∀ c : Nat, s.fullOnly = false → s.followsPartner = false → s.squashCause l b done = some c → 8 ≤ s.frame.streak + 1 →
        ∃ t, exec (.commitPhase done words writes) s = .next t ∧ t.frame = { s.frame with path := some false, streak := 0, coldNew := true } ∧
          t.nat OD.COLD_LEFT = 64 ∧ s.Alters t [OD.SQUASHES, OD.LAST_SQUASH_CAUSE, OD.COLD_ENTRIES, OD.COLD_LEFT] ∧ t.lanes = s.lanes) ∧
      (∀ sp : Law, s.fullOnly = false → s.awaitsPath = false → (s.lane l).spec = some sp →
        s.followsPartner = false ∧ s.squashCause l b done = none ∨ s.followsPartner = true ∧ s.namedPath = some true →
        exec (.commitPhase done words writes) s = .next (({ s with frame := { s.frame with path := some true } }).commitServing l
          (sp.deltaOf (s.measured l b.samples) (s.byRole s.frame.xp) (s.byRole b.samples)) b b.samples true words writes)) ∧
      (s.fullOnly = false → s.followsPartner = true → s.namedPath = some false →
        ∃ t, exec (.commitPhase done words writes) s = .next t ∧ t.frame.path = some false ∧
          t.nat OD.SQUASHES = Nat.min (s.nat OD.SQUASHES + 1) 0xFFFFFFFF ∧ t.lanes = s.lanes)) ∧
    (∀ (l : Lane) (b : FpBlock) (words : List (BitVec 128)) (writes : Nat), s.blockUsed = some b → s.frame.begun = true → s.computing l = true →
      (s.lane l).done = false → (s.lane l).frameBad = false → s.ltc ≤ s.deadline → s.awaitsPath = false → (s.frame.path = some false ∨ s.fullOnly = true) →
      let new := s.frameLaw l (s.samplesUsed b) false
      let ok := new.finite && (s.duties new none).all (fun d => ffinite d || !s.lawRuns (s.nat OD.LAW_STATE))
      (s.serving = some l →
        ∃ t, exec (.fullPathCommit l words writes) s = .next t ∧
          (ok = true →
            t = ({ s with frame := { s.frame with path := some false } }).commitServing l new b (s.samplesUsed b) false words writes) ∧
          (ok = false → t.lane l = { s.lane l with frameBad := true } ∧ t.lane l.other = s.lane l.other ∧ t.dict = s.dict ∧ t.pwm = s.pwm)) ∧
      (s.serving ≠ some l →
        ∃ t, exec (.fullPathCommit l words writes) s = .next t ∧ ((t.lane l).done = true ∨ (t.lane l).frameBad = true) ∧
          t.lane l.other = s.lane l.other ∧ t.dict = s.dict ∧ t.pwm = s.pwm)) ∧
    (∀ (l : Lane) (b : FpBlock) (words : List (BitVec 128)), s.serving = some l → s.blockUsed = some b → s.computing l.other = true →
      (s.lane l.other).done = false → (s.lane l.other).frameBad = false → s.ltc ≤ s.deadline →
      (s.frame.path = some false →
        ∃ t, exec (.pathCodeword words) s = .next t ∧ t.lane l.other = { s.lane l.other with spec := none } ∧ t.lane l = s.lane l ∧ t.dict = s.dict) ∧
      (s.frame.path = some true →
        ∃ t, exec (.pathCodeword words) s = .next t ∧ ((t.lane l.other).done = true ∨ (t.lane l.other).frameBad = true) ∧ t.lane l = s.lane l ∧
          t.dict = s.dict ∧ t.pwm = s.pwm)) ∧
    (let u := s.owedBursts
     let left := [Lane.a, Lane.b].filter fun l => !u.laneDone l
     let bad := left.filter fun l => (u.lane l).frameBad
     u.frame.begun = true → u.frameOver = false →
      (u.blockUsed = none → u.deadline ≤ u.ltc → exec .frameSlip s = .next (u.slip 5 left)) ∧
      (u.blockUsed ≠ none → 2 ≤ bad.length → exec .frameSlip s = .next (u.slip 3 bad)) ∧
      (u.blockUsed ≠ none → bad.length = 1 → left.length = 1 → exec .frameSlip s = .next (u.slip 2 bad)) ∧
      (u.blockUsed ≠ none → bad = [] → u.deadline ≤ u.ltc → left.length = 1 → exec .frameSlip s = .next (u.slip 1 left)) ∧
      (u.blockUsed ≠ none → bad = [] → u.ltc < u.deadline → exec .frameSlip s = .next u)) ∧
    (∀ (l : Lane) (counts : Bool),
      let t := s.slipLane l counts
      (t.lane l).done = true ∧ (t.lane l).slipRun = (s.lane l).slipRun + 1 ∧ (t.lane l).commitRun = 0 ∧ t.lane l.other = s.lane l.other ∧
      s.Alters t [match l with | .a => OD.SLIPS_A | .b => OD.SLIPS_B])

/-- R108, R113: the end of the cold frames, the end of a speed margin, and a shed step that falls due, restored at the next boundary. -/
def Obligations.Frame_recovery : Prop :=
  ∀ s : State,
    (s.nat OD.COLD_LEFT = 0 → s.nat OD.FRAME_STATE = 2 →
      ∃ t, exec .coldFramesEnd s = .next t ∧ t.nat OD.FRAME_STATE = (if s.lawRuns (s.nat OD.LAW_STATE) then 4 else 1) ∧ s.Alters t [OD.FRAME_STATE] ∧
        s.Recorded t) ∧
    (∀ t0, s.frame.marginOkAt = some t0 → s.past t0 (ms 10) = true → 108 * 1024 ≤ s.siNow * 100 → s.flag OD.SPEED_MARGIN = true →
      ∃ t, exec .speedMarginClear s = .next t ∧ t.flag OD.SPEED_MARGIN = false ∧ t.bit OD.HEALTH_FLAGS 7 = false ∧
        s.Alters t [OD.SPEED_MARGIN, OD.HEALTH_FLAGS] ∧ s.Recorded t) ∧
    (∀ t0, s.frame.shedOkAt = some t0 → s.past t0 (ms 100) = true → 102 * 1024 ≤ s.siNow * 100 → s.frame.shed ≠ [] → s.frame.restore = false →
      exec .shedRestore s = .next { s with frame := { s.frame with shedOkAt := some s.now, restore := true } }) ∧
    (s.frame.restore = true → 102 * 1024 ≤ s.siNow * 100 → (∀ l : Lane, s.fitsFullyShed l = true) →
      let t := s.speedBoundary
      t.frame.shed = s.frame.shed.dropLast ∧ t.frame.restore = false ∧ t.frame.n = s.frame.n ∧ t.lanes = s.lanes ∧ t.pwm = s.pwm)

/-! ### Network time and launches (chapter 13) -/

/-- R357–R367: Announce messages and their absence, the delay exchange, measurements and the first step, FORCE_STEP, the leap second and the copy to the vault
clock. -/
def Obligations.Network_time : Prop :=
  ∀ s : State,
    (∀ (k : Fin 2) (m : Announce), s.ptpOn k.val = true → s.flag (OD.LINK_UP k.val) = true →
      (s.inProfile m = false →
        ∃ t, exec (.ptpAnnounceReceive k m) s = .next t ∧ t.nat (OD.RX_DROPPED k.val) = Nat.min (s.nat (OD.RX_DROPPED k.val) + 1) 0xFFFFFFFF ∧
          s.Alters t [OD.RX_DROPPED k.val] ∧ s.Recorded t) ∧
      (s.inProfile m = true → m.domain = s.nat OD.PTP_DOMAIN → m.steps ≤ 255 → m.cls ≠ 255 → m.ptpTimescale = true → s.masterOn (1 - k.val) = none →
        ∃ t, exec (.ptpAnnounceReceive k m) s = .next t ∧ vget none t.servo.masters k.val = some (m, s.now) ∧ t.nat OD.SLAVE_PORT = k.val ∧
          t.nat OD.GM_CLASS = m.cls ∧ t.octets OD.GM_IDENTITY = beBytes 8 m.identity)) ∧
    (∀ (k : Fin 2) (m : Announce) (t0 : Nat), s.nat OD.SLAVE_PORT = k.val → vget none s.servo.masters k.val = some (m, t0) →
      s.past t0 (sec (3 * m.interval)) = true → s.masterOn (1 - k.val) = none →
      ∃ t, exec .announceTimeout s = .next t ∧ vget none t.servo.masters k.val = none ∧ t.nat OD.SLAVE_PORT = 0xFF ∧ t.nat OD.GM_CLASS = 255 ∧
        t.nat OD.SERVO_STATE =
          (if s.nat OD.SERVO_STATE = 2 ∨ s.nat OD.SERVO_STATE = 3 ∨ s.nat OD.SERVO_STATE = 5 then 4 else s.nat OD.SERVO_STATE)) ∧
    (∀ (k : Fin 2) (t1 t2 t3 t4 d : Int), s.ptpOn k.val = true → s.flag (OD.LINK_UP k.val) = true →
      d = (if s.nat OD.PTP_PROFILE = 2 then ((s.rxRef k.val t4 - s.txRef k.val t1) - (t3 - t2)) / 2
        else ((s.rxRef k.val t2 - t1) + (t4 - s.txRef k.val t3)) / 2) →
      ∃ t, exec (.ptpDelayExchange k t1 t2 t3 t4) s = .next t ∧ t.int (OD.MEAN_PATH_DELAY k.val) = d ∧ vget false t.servo.pathKnown k.val = true ∧
        s.Alters t [OD.MEAN_PATH_DELAY k.val, OD.PTP_PORT_STATE 0, OD.PTP_PORT_STATE 1] ∧ State.Recorded { s with servo := t.servo } t) ∧
    (∀ (k : Fin 2) (m : Announce) (t0 : Nat) (li sent rcv : Int), s.syncInProfile li = true → s.masterOn k.val = some (m, t0) → s.nat OD.SLAVE_PORT = k.val → s.nat OD.SERVO_MODE ≠ 0 →
      (s.nat OD.SERVO_STATE = 1 → vget false s.servo.pathKnown k.val = false →
        ∃ t, exec (.servoMeasurement k li sent rcv) s = .next t ∧ t.nat OD.SERVO_STATE = 2 ∧ t.servo.offs = s.servo.offs ∧ t.ltc = s.ltc) ∧
      (s.nat OD.SERVO_STATE = 1 → vget false s.servo.pathKnown k.val = true → s.nat OD.SERVO_MODE = 1 → s.servo.stepDone = false → s.servo.offs = [] →
        ∃ t, exec (.servoMeasurement k li sent rcv) s = .next t ∧ t.nat OD.SERVO_STATE = 2 ∧ t.servo.offs = [s.offsetOf k.val sent rcv] ∧
          t.servo.count = s.servo.count + 1 ∧ t.int OD.OFFSET = iclamp (s.offsetOf k.val sent rcv) (-2147483648) 2147483647 ∧ t.ltc = s.ltc) ∧
      (∀ p, s.nat OD.SERVO_STATE = 2 → vget false s.servo.pathKnown k.val = true → s.nat OD.SERVO_MODE = 1 → s.servo.stepDone = false →
        s.servo.offs.head? = some p → (s.offsetOf k.val sent rcv - p).natAbs ≤ 10000 →
        ∃ t, exec (.servoMeasurement k li sent rcv) s = .next t ∧ t.servo.stepDone = true ∧ t.servo.count = s.servo.count + 1) ∧
      (s.nat OD.SERVO_STATE = 2 ∨ s.nat OD.SERVO_STATE = 3 → vget false s.servo.pathKnown k.val = true → s.nat OD.SERVO_MODE = 1 →
        s.servo.stepDone = true → s.servo.count ≠ 0 → s.offsetOf k.val sent rcv ≤ 1000000 →
        ∃ t, exec (.servoMeasurement k li sent rcv) s = .next t ∧ t.ltc = s.ltc ∧
          t.servo.rate = (s.nativeRate (s.offsetOf k.val sent rcv) (s.now - s.servo.lastAt)).servo.rate ∧
          t.servo.integ = (s.nativeRate (s.offsetOf k.val sent rcv) (s.now - s.servo.lastAt)).servo.integ)) ∧
    (∀ (k : Fin 2) (li sent rcv : Int), s.syncInProfile li = false → s.ptpOn k.val = true → s.flag (OD.LINK_UP k.val) = true →
      ∃ t, exec (.servoMeasurement k li sent rcv) s = .next t ∧ t.nat (OD.RX_DROPPED k.val) = Nat.min (s.nat (OD.RX_DROPPED k.val) + 1) 0xFFFFFFFF ∧
        t.servo = s.servo ∧ s.Alters t [OD.RX_DROPPED k.val] ∧ s.Recorded t) ∧
    (∀ session : Nat, s.Serves → s.roleRefusal session = none →
      let u := s.announceTimeout
      (u.nat OD.SERVO_STATE = 2 ∨ u.nat OD.SERVO_STATE = 3 ∨ u.nat OD.SERVO_STATE = 5 →
        ∃ t, exec (.forceStep session) s = .next t ∧ t.Answered session Reply.ok ∧
          t.nat OD.SERVO_STATE = (if u.nat OD.SERVO_STATE = 5 then 2 else u.nat OD.SERVO_STATE) ∧ t.servo.threshRun = 0) ∧
      (u.nat OD.SERVO_STATE = 0 ∨ u.nat OD.SERVO_STATE = 1 ∨ u.nat OD.SERVO_STATE = 4 →
        ∃ t, exec (.forceStep session) s = .next t ∧ t.Answered session Reply.wrongState ∧ t.ltc = s.ltc ∧ u.Alters t [])) ∧
    (∀ (day : Nat) (ch : Int), s.servo.leap = some (day, ch, false) → ((day : Int) + 1) * 86400 + ch ≤ utcSecond s.taiNs (s.int OD.UTC_OFFSET) →
      ∃ t, exec .leapSecond s = .next t ∧ t.int OD.UTC_OFFSET = s.int OD.UTC_OFFSET + ch ∧ t.servo.leap = some (day, ch, true) ∧
        s.Alters t [OD.UTC_OFFSET] ∧ State.Recorded { s with servo := t.servo } t) ∧
    (s.nat OD.SERVO_STATE = 3 → s.past s.power.vaultAt (sec 1) = true →
      exec .vaultTimeCopy s = .next { s with power := { s.power with
        vaultTai := s.taiNs, vaultAt := s.now, vaultUtc := s.int OD.UTC_OFFSET
        vaultUtcValid := s.power.vaultUtcValid || s.bit OD.LEAP 2 } })

/-- R354–R356, R368–R370: what a port does with a frame, its link, and launches: on time, late by the port's policy, and while the port is down; arming and
disarming a slot. -/
def Obligations.Ethernet_ports : Prop :=
  ∀ (s : State) (k : Fin 2),
    (∀ (len vlan : Nat) (fcs : Bool) (kind : EthKind), s.ethUp k.val = false → exec (.ethFrameReceive k len fcs vlan kind) s = .next s) ∧
    (∀ (len vlan : Nat) (fcs : Bool) (kind : EthKind), s.ethUp k.val = true → (1522 < len ∨ fcs = false) →
      ∃ t, exec (.ethFrameReceive k len fcs vlan kind) s = .next t ∧ t.nat (OD.RX_ERRORS k.val) = Nat.min (s.nat (OD.RX_ERRORS k.val) + 1) 0xFFFFFFFF ∧
        s.Alters t [OD.RX_ERRORS k.val] ∧ s.Recorded t) ∧
    (∀ (len vlan : Nat) (kind : EthKind), s.ethUp k.val = true → len ≤ 1522 → vlan ≠ s.nat (OD.VLAN_ID k.val) → vlan ≠ s.nat (OD.PTP_VLAN_ID k.val) →
      ∃ t, exec (.ethFrameReceive k len true vlan kind) s = .next t ∧ t.nat (OD.RX_FRAMES k.val) = (s.nat (OD.RX_FRAMES k.val) + 1) % 2 ^ 32 ∧
        t.nat (OD.RX_DROPPED k.val) = Nat.min (s.nat (OD.RX_DROPPED k.val) + 1) 0xFFFFFFFF ∧
        s.Alters t [OD.RX_FRAMES k.val, OD.RX_DROPPED k.val] ∧ s.Recorded t) ∧
    (∀ (len vlan : Nat) (kind : EthKind), s.ethUp k.val = true → len ≤ 1522 → vlan = s.nat (OD.VLAN_ID k.val) →
      (kind = .neighbour ∨ kind = .echo6 ∨ (s.flag (OD.IPV4_ADDR k.val) = true ∧ (kind = .arp ∨ kind = .echo4))) →
      (s.launchGuard k.val = false →
        ∃ t, exec (.ethFrameReceive k len true vlan kind) s = .next t ∧ t.out.head? = some (.netAnswer k.val kind) ∧
          t.nat (OD.TX_FRAMES k.val) = (s.nat (OD.TX_FRAMES k.val) + 1) % 2 ^ 32 ∧ s.Alters t [OD.RX_FRAMES k.val, OD.TX_FRAMES k.val]) ∧
      (s.launchGuard k.val = true →
        ∃ t, exec (.ethFrameReceive k len true vlan kind) s = .next t ∧ t.out = s.out ∧
          vget [] t.ethWait k.val = vget [] s.ethWait k.val ++ [kind] ∧ s.Alters t [OD.RX_FRAMES k.val])) ∧
    (∀ up : Bool, s.flag (OD.LINK_UP k.val) ≠ up → (up = true → s.nat (OD.ETH_MODE k.val) ≠ 0) →
      ∃ t, exec (.ethLink k up) s = .next t ∧ t.flag (OD.LINK_UP k.val) = up ∧
        (up = false → vget none t.servo.masters k.val = vget none s.servo.masters k.val ∧ vget false t.servo.pathKnown k.val = false ∧
          t.nat (OD.PTP_PORT_STATE k.val) = (if s.ptpOn k.val then 5 else 0))) ∧
    (∀ i : Fin 16, s.nat (OD.LAUNCH_STATE k.val i.val) = 1 → s.launchNext k.val i.val ≤ s.taiNs →
      (s.ethUp k.val = false →
        ∃ t, exec (.launch k i) s = .next t ∧ t.nat (OD.LAUNCH_STATE k.val i.val) = 5 ∧ s.Alters t [OD.LAUNCH_STATE k.val i.val] ∧ t.out = s.out) ∧
      (s.ethUp k.val = true → s.launchBehind k.val i.val = true → exec (.launch k i) s = .next s) ∧
      (s.ethUp k.val = true → s.launchBehind k.val i.val = false →
        (s.taiNs ≤ s.launchNext k.val i.val + 16 ∨ s.nat (OD.LATE_POLICY k.val) ≠ 0) →
        ∃ t, exec (.launch k i) s = .next t ∧
          (vget [] s.ethWait k.val = [] → t.out.head? = some (.launch k.val i.val (s.octets (OD.LAUNCH_FRAME k.val i.val)))) ∧
          vget 0 t.launchBusy k.val = s.now + ticksOfNs (s.launchSpan k.val i.val) ∧
          t.nat (OD.LAUNCH_COUNT k.val i.val) = (s.nat (OD.LAUNCH_COUNT k.val i.val) + 1) % 2 ^ 32 ∧
          t.nat (OD.LAUNCH_STATE k.val i.val) = (if s.nat (OD.LAUNCH_PERIOD k.val i.val) = 0 then 2 else 1) ∧
          t.launchNext k.val i.val =
            (if s.nat (OD.LAUNCH_PERIOD k.val i.val) = 0 then s.launchNext k.val i.val
             else s.launchNext k.val i.val + s.nat (OD.LAUNCH_PERIOD k.val i.val))) ∧
      (s.ethUp k.val = true → s.launchBehind k.val i.val = false → s.launchNext k.val i.val + 16 < s.taiNs → s.nat (OD.LATE_POLICY k.val) = 0 →
        ∃ t, exec (.launch k i) s = .next t ∧ t.nat (OD.LAUNCH_STATE k.val i.val) = 3 ∧
          s.Alters t [OD.LAUNCH_STATE k.val i.val, OD.TX_FRAMES k.val])) ∧
    (∀ (session : Nat) (i : Fin 16), s.Serves → s.unlessBusy (8 + k.val) (s.roleRefusal session) = none →
      (s.nat (OD.LAUNCH_STATE k.val i.val) = 1 →
        ∃ t, exec (.launchArm session k i 0) s = .next t ∧ t.Answered session Reply.ok ∧ t.nat (OD.LAUNCH_STATE k.val i.val) = 0 ∧
          s.Alters t [OD.LAUNCH_STATE k.val i.val, OD.TX_FRAMES k.val]) ∧
      (s.nat (OD.LAUNCH_TIME k.val i.val) / 2 ^ 64 = s.nat OD.TIME_EPOCH → s.ethUp k.val = true → s.octets (OD.LAUNCH_FRAME k.val i.val) ≠ [] →
        s.launchOverlap k.val i.val (s.nat (OD.LAUNCH_TIME k.val i.val) % 2 ^ 64) = false →
        s.taiNs ≤ s.nat (OD.LAUNCH_TIME k.val i.val) % 2 ^ 64 + 16 →
        ∃ t, exec (.launchArm session k i 1) s = .next t ∧ t.Answered session Reply.ok ∧ t.nat (OD.LAUNCH_STATE k.val i.val) = 1 ∧
          t.launchNext k.val i.val = s.nat (OD.LAUNCH_TIME k.val i.val) % 2 ^ 64 ∧ s.Alters t [OD.LAUNCH_STATE k.val i.val]) ∧
      (s.nat (OD.LAUNCH_TIME k.val i.val) / 2 ^ 64 ≠ s.nat OD.TIME_EPOCH ∨ s.ethUp k.val = false ∨ s.octets (OD.LAUNCH_FRAME k.val i.val) = [] ∨
        s.launchOverlap k.val i.val (s.nat (OD.LAUNCH_TIME k.val i.val) % 2 ^ 64) = true →
        ∃ t, exec (.launchArm session k i 1) s = .next t ∧ t.Answered session Reply.wrongState ∧ t.launchAt = s.launchAt ∧ s.Alters t []) ∧
      (∀ v, 2 ≤ v → ∃ t, exec (.launchArm session k i v) s = .next t ∧ t.Answered session Reply.outOfRange ∧ s.Alters t []))

/-! ### The serial link and its endpoints (chapter 09) -/

/-- R224–R226, R228: a parcel at a receiver by its codeword and type; block and bundle lock; and training. -/
def Obligations.Link_receivers : Prop :=
  ∀ s : State,
    (∀ (l : Fin 18) (w : BitVec 144),
      (bushelDecode w = .clean → typeValid (.lane l) (ptype (bushelData w)) = true → ptype (bushelData w) ≠ 0 →
        ∃ t, exec (.parcelReceive (.lane l) w) s = .next t ∧ t.dict = s.dict ∧ (t.rx (.lane l)).buf =
          (if 16 ≤ l.val ∨ ptype (bushelData w) = 0xE then (s.rx (.lane l)).buf else (s.rx (.lane l)).buf ++ [bushelData w])) ∧
      (∀ v, bushelDecode w = .corrected v → typeValid (.lane l) (ptype (bushelData v)) = true → ptype (bushelData v) ≠ 0 →
        ∃ t, exec (.parcelReceive (.lane l) w) s = .next t ∧ (t.rx (.lane l)).buf =
            (if 16 ≤ l.val ∨ ptype (bushelData v) = 0xE then (s.rx (.lane l)).buf else (s.rx (.lane l)).buf ++ [bushelData v]) ∧
          t.nat (OD.PAR_CORR l.val) = Nat.min (s.nat (OD.PAR_CORR l.val) + 1) 0xFFFFFFFF ∧ s.Alters t [OD.PAR_CORR l.val]) ∧
      (bushelDecode w = .poison ∨ bushelDecode w = .uncorrectable ∨
          (bushelDecode w = .clean ∧ typeValid (.lane l) (ptype (bushelData w)) = false) →
        ∃ t, exec (.parcelReceive (.lane l) w) s = .next t ∧ (t.rx (.lane l)).buf = (s.rx (.lane l)).buf ∧
          t.nat (OD.PAR_UNCORR l.val) = Nat.min (s.nat (OD.PAR_UNCORR l.val) + 1) 0xFFFFFFFF ∧ s.Alters t [OD.PAR_UNCORR l.val])) ∧
    (∀ (e : Fin 16) (k : Fin 2) (w : BitVec 144),
      (bushelDecode w = .clean → typeValid (.endpoint e k) (ptype (bushelData w)) = true → ptype (bushelData w) ≠ 0 →
        ∃ t, exec (.parcelReceive (.endpoint e k) w) s = .next t ∧ t.dict = s.dict ∧ (t.rx (.endpoint e k)).buf =
          (if ptype (bushelData w) = 0xE then (s.rx (.endpoint e k)).buf else (s.rx (.endpoint e k)).buf ++ [bushelData w])) ∧
      (bushelDecode w = .poison ∨ bushelDecode w = .uncorrectable →
        ∃ t, exec (.parcelReceive (.endpoint e k) w) s = .next t ∧ (t.rx (.endpoint e k)).buf = (s.rx (.endpoint e k)).buf ∧
          ((t.ep e.val).port k.val).uncorr = (((s.ep e.val).port k.val).uncorr + 1) % 65536 ∧ t.dict = s.dict)) ∧
    (∀ (r : RxPort) (n : Fin 65), 16 ≤ n.val → (s.rx r).blockLock = true →
      ∃ t, exec (.blockLockLost r n) s = .next t ∧ (t.rx r).blockLock = false ∧ (t.rx r).bundleLock = false ∧ (t.rx r).buf = (s.rx r).buf ∧
        t.dict = s.dict) ∧
    (∀ (r : RxPort) (n : Fin 65),
      (n.val < 16 → (s.rx r).blockLock = true → exec (.blockLockLost r n) s = .next s) ∧
      (n.val ≠ 0 → (s.rx r).blockLock = false → exec (.blockLockLost r n) s = .next s) ∧
      (n.val = 0 → (s.rx r).blockLock = false →
        ∃ t, exec (.blockLockLost r n) s = .next t ∧ t.rx r = { s.rx r with blockLock := true } ∧ t.dict = s.dict)) ∧
    (∀ r : RxPort, (s.rx r).blockLock = false → ∀ (ofs : Fin 9) (clean : Bool), (s.rx r).bundle ofs.val clean = s.rx r) ∧
    (∀ (l : Fin 18) (ofs : Fin 9) (clean : Bool),
      ∃ t, exec (.bundleLock (.lane l) ofs clean) s = .next t ∧ t.rx (.lane l) = (s.rx (.lane l)).bundle ofs.val clean ∧
        t.nat (OD.LANE_STATE l.val) =
          (if ((s.rx (.lane l)).bundle ofs.val clean).bundleLock = true ∧ (s.rx (.lane l)).bundleLock = false ∧ s.nat (OD.LANE_STATE l.val) = 1
           then 2 else s.nat (OD.LANE_STATE l.val)) ∧ s.Alters t [OD.LANE_STATE l.val]) ∧
    (∀ (e : Fin 16) (k : Fin 2) (ofs : Fin 9) (clean : Bool),
      ∃ t, exec (.bundleLock (.endpoint e k) ofs clean) s = .next t ∧ t.rx (.endpoint e k) = (s.rx (.endpoint e k)).bundle ofs.val clean ∧
        t.dict = s.dict) ∧
    (∀ (l : Fin 18) (b : BitVec 576) (height width : Fin 256),
      (∀ w, (∀ p : Fin 4, bushelDecode (bundleParcel b p.val) = .clean) → w = bushelData (bundleParcel b 0) → ptype w = 0xE →
        ∃ t, exec (.trainingBundleReceive (.lane l) b height width) s = .next t ∧ t.nat (OD.FOM_RX l.val) = Nat.min height.val width.val ∧
          (t.ser l.val).tr.farSeq = some (fld w 112 2) ∧ t.nat (OD.TAPS_PEER l.val) = fld w 107 5 * 1024 + fld w 102 5 * 32 + fld w 97 5 ∧
          ((s.ser l.val).tr.farSeq = some (fld w 112 2) → t.nat (OD.TAPS_TX l.val) = s.nat (OD.TAPS_TX l.val)) ∧
          s.Alters t [OD.FOM_RX l.val, OD.TAPS_PEER l.val, OD.TAPS_TX l.val, OD.LANE_STATE l.val]) ∧
      ((∀ p : Fin 4, bushelDecode (bundleParcel b p.val) = .poison ∨ bushelDecode (bundleParcel b p.val) = .uncorrectable) →
        ∃ t, exec (.trainingBundleReceive (.lane l) b height width) s = .next t ∧
          t.nat (OD.PAR_UNCORR l.val) = Nat.min (s.nat (OD.PAR_UNCORR l.val) + 4) 0xFFFFFFFF ∧ (t.ser l.val).tr = (s.ser l.val).tr ∧
          s.Alters t [OD.PAR_UNCORR l.val])) ∧
    (∀ (e : Fin 16) (k : Fin 2) (b : BitVec 576) (height width : Fin 256) (w : BitVec 128),
      (∀ p : Fin 4, bushelDecode (bundleParcel b p.val) = .clean) → w = bushelData (bundleParcel b 0) → ptype w = 0xE →
      ∃ t, exec (.trainingBundleReceive (.endpoint e k) b height width) s = .next t ∧
        ((t.ep e.val).port k.val).tr.farSeq = some (fld w 112 2) ∧ ((t.ep e.val).port k.val).fom = Nat.min height.val width.val ∧
        ((t.ep e.val).port k.val).taps =
          (if ((s.ep e.val).port k.val).tr.farSeq = some (fld w 112 2) then ((s.ep e.val).port k.val).taps else tapsAfter ((s.ep e.val).port k.val).taps w) ∧
        t.dict = s.dict)

/-- R229–R236, R238: the states of a serial lane: READY and P0, adaptation that takes too long, weak lanes, the one-way delay, retraining, power states; and the
uplink, a burst received and one missed. -/
def Obligations.Link_lanes : Prop :=
  ∀ (s : State) (l : Fin 18),
    let st := s.nat (OD.LANE_STATE l.val)
    (∀ t0, st = 2 → (s.ser l.val).tr.fomSince = some t0 → s.past t0 (ms 1) = true →
      ∃ t, exec (.rxReady l) s = .next t ∧ (t.ser l.val).tr.ready = true ∧
        t.nat (OD.LANE_STATE l.val) = (if (s.ser l.val).tr.peerReady then 4 else 3) ∧ s.Alters t [OD.LANE_STATE l.val]) ∧
    (st = 2 → (s.ser l.val).tr.asked = false → s.past (s.ser l.val).tr.adaptAt (ms 50) = true →
      ((s.ser l.val).tr.bestFom < s.nat (OD.FOM_MIN l.val) →
        ∃ t, exec (.adaptTimeout l) s = .next t ∧ t.nat (OD.LANE_STATE l.val) = 8 ∧ (t.ser l.val).weakAt = s.now ∧ s.Alters t [OD.LANE_STATE l.val]) ∧
      (s.nat (OD.FOM_MIN l.val) ≤ (s.ser l.val).tr.bestFom → (s.ser l.val).tr.mayAsk s.now = true →
        ∃ t, exec (.adaptTimeout l) s = .next t ∧ (t.ser l.val).tr = (s.ser l.val).tr.askBest ∧ t.dict = s.dict) ∧
      (s.nat (OD.FOM_MIN l.val) ≤ (s.ser l.val).tr.bestFom → (s.ser l.val).tr.mayAsk s.now = false → exec (.adaptTimeout l) s = .next s)) ∧
    (st = 8 → s.past (s.ser l.val).weakAt (sec 1) = true →
      ∃ t, exec (.weakRetry l) s = .next t ∧ t.nat (OD.LANE_STATE l.val) = 1 ∧ (t.ser l.val).rx = {} ∧ s.Alters t [OD.LANE_STATE l.val]) ∧
    ((s.ser l.val).exchanges.length = 16 →
      let o := oneway (s.ser l.val).exchanges (s.int (OD.ASYM_TRIM l.val))
      ∃ t, exec (.onewayMeasured l) s = .next t ∧ t.nat (OD.ONEWAY l.val) = (o % 65536).toNat ∧ (t.ser l.val).exchanges = [] ∧
        (t.ser l.val).trained = true ∧ (3125 < o → t.nat (OD.LANE_STATE l.val) = 8) ∧ (o ≤ 3125 → t.nat (OD.LANE_STATE l.val) = st)) ∧
    (st = 4 → ((s.ser l.val).rx.bundleLock = false ∨ s.nat OD.RETRAIN_UNCORR ≤ s.recentUncorr l.val) →
      ∃ t, exec (.linkRetrain l) s = .next t ∧ t.nat (OD.LANE_STATE l.val) = 7 ∧ (t.ser l.val).retrainAt = s.now ∧
        t.nat (OD.RETRAINS l.val) = Nat.min (s.nat (OD.RETRAINS l.val) + 1) 0xFFFFFFFF ∧ s.Alters t [OD.LANE_STATE l.val, OD.RETRAINS l.val]) ∧
    (∀ fom : Fin 256, st = 7 →
      (s.nat (OD.FOM_MIN l.val) ≤ fom.val → s.now ≤ (s.ser l.val).retrainAt + us 200 → (s.ser l.val).rx.bundleLock = true →
        ∃ t, exec (.fastRetrainDone l fom) s = .next t ∧ t.nat (OD.LANE_STATE l.val) = 4 ∧ t.nat (OD.FOM_RX l.val) = fom.val ∧
          s.Alters t [OD.LANE_STATE l.val, OD.FOM_RX l.val]) ∧
      (fom.val < s.nat (OD.FOM_MIN l.val) ∨ (s.ser l.val).retrainAt + us 200 < s.now ∨ (s.ser l.val).rx.bundleLock = false →
        ∃ t, exec (.fastRetrainDone l fom) s = .next t ∧ t.nat (OD.LANE_STATE l.val) = 1 ∧ (t.ser l.val).rx = {} ∧
          s.Alters t [OD.LANE_STATE l.val, OD.FOM_RX l.val])) ∧
    (∀ session : Nat, s.Serves → s.unlessBusy 4 (s.ownerRefusal session) = none →
      (∀ v, 2 < v → ∃ t, exec (.pstateReq session l v) s = .next t ∧ t.Answered session Reply.outOfRange ∧ s.Alters t []) ∧
      (st = 5 → ∃ t, exec (.pstateReq session l 0) s = .next t ∧ t.Answered session Reply.ok ∧ t.nat (OD.LANE_STATE l.val) = 4) ∧
      (∀ v, v = 1 ∨ v = 2 → st ≠ 4 → st ≠ v + 4 →
        ∃ t, exec (.pstateReq session l v) s = .next t ∧ t.Answered session Reply.wrongState ∧ t.nat (OD.PSTATE_REQ l.val) = 0 ∧
          s.Alters t [OD.PSTATE_REQ l.val]) ∧
      (∀ v, v = 1 ∨ v = 2 → st = 4 → s.laneEp l.val = none →
        ∃ t d, exec (.pstateReq session l v) s = .next t ∧ t.Answered session Reply.ok ∧ t.nat (OD.PSTATE_REQ l.val) = v ∧
          (t.ser l.val).powerDue = some (v, d) ∧ s.ltc + 6250 ≤ d ∧ t.nat (OD.LANE_STATE l.val) = 4)) ∧
    (∀ v d, (s.ser l.val).powerDue = some (v, d) → d ≤ s.ltc →
      ∃ t, exec (.pstateEntry l) s = .next t ∧ t.nat (OD.LANE_STATE l.val) = (if v = 0 then 4 else v + 4) ∧ (t.ser l.val).powerDue = none ∧
        s.Alters t [OD.LANE_STATE l.val]) ∧
    (∀ k : Fin 16, s.laneEp k.val = none →
      ∃ t, exec (.uplinkBurstReceive k) s = .next t ∧ (t.ser k.val).rx.buf = [] ∧ t.dict = s.dict) ∧
    (∀ (k : Fin 16) (e : Nat), s.laneEp k.val = some e → (s.ser k.val).rx.buf.isEmpty = false →
      ∃ t, exec (.uplinkBurstReceive k) s = .next t ∧
        t = (s.setSer k.val { s.ser k.val with rx := { (s.ser k.val).rx with buf := [] } }).uplinkBurst e (s.ser k.val).rx.buf) ∧
    (∀ e : Fin 16, s.epUsed e.val = true → (s.view e.val).seen = false → (s.view e.val).lost = false → s.pairOn = false →
      s.nat (OD.EP_LANE e.val) ≤ 15 →
      (s.running = false →
        ∃ t, exec (.uplinkLost e) s = .next t ∧ t.view e.val = { s.view e.val with lost := true, silent := 0 } ∧
          t.nat (OD.UL_MISSED (s.nat (OD.EP_LANE e.val))) = Nat.min (s.nat (OD.UL_MISSED (s.nat (OD.EP_LANE e.val))) + 1) 0xFFFFFFFF ∧
          s.Alters t [OD.UL_MISSED (s.nat (OD.EP_LANE e.val))]) ∧
      (s.running = true → s.nat (OD.BRIDGE_N e.val) ≤ (s.view e.val).silent + 1 →
        ∃ t, exec (.uplinkLost e) s = .next t ∧ s.FaultStop t Ev.UPLINK_LOST))

/-- R240–R250: what an endpoint does by itself. Every such command changes that endpoint alone. -/
def Obligations.Endpoints : Prop :=
  ∀ (s : State) (e : Fin 16),
    let x := s.ep e.val
    let alone (t : State) : Prop := t.dict = s.dict ∧ t.pwm = s.pwm ∧ ∀ e' : Fin 16, e' ≠ e → t.ep e'.val = s.ep e'.val
    (∀ k : Fin 2, (x.port k.val).rx.bundleLock = false → s.past (x.port k.val).dwellAt (ms 20) = true →
      ∃ t, exec (.epRateScan e k) s = .next t ∧ alone t ∧
        ((t.ep e.val).port k.val).rate = ((x.port k.val).rate + 2) % 3 ∧ ((t.ep e.val).port k.val).dwellAt = s.now ∧
        ((t.ep e.val).port k.val).rx = {} ∧ ((t.ep e.val).port k.val).lane = 1) ∧
    (∀ (p : Fin 24) (c : EpCfg) (q : EpPairCfg), x.cfg = some c → (c.pairs.find? fun r => decide (r.pair = p.val)) = some q → x.executes = true →
      x.legsOff.contains (q.stack, q.phase) = false →
      let r := q.reload (x.ltc s.now)
      ((x.sets.find? fun z => decide (z.pair = p.val) && decide (z.start = r.1 % 2 ^ 32)) = none →
        (x.lastSets.find? fun z => decide (z.pair = p.val) && decide (z.down = r.2)) = none →
        ∃ t, exec (.epEdgeExecute e p) s = .next t ∧ alone t ∧ t.ep e.val = { x with late := (x.late + 1) % 256 }) ∧
      (∀ z, (x.sets.find? fun z => decide (z.pair = p.val) && decide (z.start = r.1 % 2 ^ 32)) = some z → z.forceOff = true →
        ∃ t, exec (.epEdgeExecute e p) s = .next t ∧ alone t ∧ (t.ep e.val).late = x.late ∧
          (vget {} (t.ep e.val).chans (2 * p.val)).level = false ∧ (vget {} (t.ep e.val).chans (2 * p.val)).plan = [] ∧
          (vget {} (t.ep e.val).chans (2 * p.val + 1)).level = false ∧ (vget {} (t.ep e.val).chans (2 * p.val + 1)).plan = [])) ∧
    (∀ (c : EpCfg) (tick : Nat) (arm : Fin 6) (part : Nat) (codes : List Nat), x.cfg = some c → x.executes = true →
      x.due = [(tick, arm.val, part, codes)] → tick ≤ x.ltc s.now → c.fullBridge = true → x.bypassed = [] →
      ∃ t, exec (.epInsertionApply e) s = .next t ∧ alone t ∧ (t.ep e.val).due = [] ∧
        (∀ j, 48 * part ≤ j → j < 48 * part + 48 → j < c.nSm →
          (vget [] (t.ep e.val).sub arm.val).getD j 3 = codes.getD (j - 48 * part) 0)) ∧
    (∀ k : Fin 2, findType 2 (x.port k.val).rx.buf = none →
      ∃ t, exec (.epBurstAccept e k) s = .next t ∧ alone t ∧
        t.ep e.val = x.setPort k.val { x.port k.val with rx := { (x.port k.val).rx with buf := [] } }) ∧
    (∀ (k : Fin 2) (cl y : BitVec 128) (u : Endpoint), findType 2 (x.port k.val).rx.buf = some cl → findType 1 (x.port k.val).rx.buf = some y →
      u = (let v := (x.setPort k.val { x.port k.val with rx := { (x.port k.val).rx with buf := [] } }).noteClaim k.val s.now cl
           v.setPort k.val { v.port k.val with frameNo := fld y 64 32 }) →
      (∀ g, u.cfg = some g → g.mode = fld cl 122 2) → u.obeyedPort (fld cl 122 2) s.now = some k.val → u.later (fld y 64 32) = true →
      ∃ t, exec (.epBurstAccept e k) s = .next t ∧ alone t ∧ (t.ep e.val).obeyed = some k.val ∧ (t.ep e.val).frameNo = fld y 64 32 ∧
        (t.ep e.val).t0 = fld y 0 64 ∧ (t.ep e.val).missed = 0) ∧
    (∀ t0, x.awaited = some t0 →
      t0 + x.fTicks + 1500 + (match x.obeyed with | some k => (x.port k).oneway | none => Nat.max (x.port 0).oneway (x.port 1).oneway) + 625 ≤ x.ltc s.now →
      ∃ t, exec (.epFrameMissed e) s = .next t ∧ alone t ∧ t.ep e.val =
        { x with missed := Nat.min (x.missed + 1) 255, awaited := some (t0 + x.fTicks), state := if x.state = 4 then 5 else x.state }) ∧
    (x.state = 5 → x.stop = none → x.bridgeN ≤ x.missed →
      ∃ t, exec (.epBridgeExpiry e) s = .next t ∧ alone t ∧ (t.ep e.val).state = 6 ∧ (t.ep e.val).stop.isSome = true ∧ (t.ep e.val).lastFrame = none ∧
        (t.ep e.val).sets = []) ∧
    (∀ (k : Fin 2) (t0 : Nat), (x.port k.val).freshUntil = some t0 → t0 ≤ s.now →
      ∃ t, exec (.epLeaseExpiry e k) s = .next t ∧ alone t ∧ ((t.ep e.val).port k.val).freshUntil = none ∧ (t.ep e.val).obeyed ≠ some k.val) ∧
    (∀ g, x.generation = some g → x.cfg ≠ some g →
      ∃ t, exec (.epCfg e) s = .next t ∧ alone t ∧ t.ep e.val = { x with cfg := some g, state := if x.state ≤ 2 then 3 else x.state }) ∧
    (∀ f : LocalFault,
      (f.kind = 4 ∨ f.kind = 5 →
        ∃ t, exec (.epLocalFault e f) s = .next t ∧ alone t ∧ (t.ep e.val).bypassed.contains (f.group, f.index) = true ∧
          (t.ep e.val).seq = (x.seq + 1) % 256 ∧ (t.ep e.val).stop = x.stop) ∧
      (f.kind = 3 → f.forces = false →
        ∃ t, exec (.epLocalFault e f) s = .next t ∧ alone t ∧ (t.ep e.val).state = x.state ∧ (t.ep e.val).seq = (x.seq + 1) % 256 ∧
          (t.ep e.val).faults.length = x.faults.length + 1)) ∧
    (∀ (volts : List (Nat × Nat × Nat)) (currents : List StackSample),
      (¬(x.ulStart s.now ≠ none ∧ x.ulStart s.now = x.ulSent) →
        ∃ t, exec (.epUplinkBurst e volts currents) s = .next t ∧ alone t ∧ (t.ep e.val).ulSent = x.ulStart s.now ∧ (t.ep e.val).state = x.state ∧
          ((∀ k : Fin 2, (x.port k.val).lane = 4 ∧ (x.port k.val).asleep (x.ltc s.now) = 0) →
            ∃ i j a b c d, t.out = .uplink e.val 1 j b d :: .uplink e.val 0 i a c :: s.out ∧
              a.head? = some (bushelEncode (x.statusParcel 0)) ∧ b.head? = some (bushelEncode (x.statusParcel 1))) ∧
          ((∀ k : Fin 2, (x.port k.val).lane ≠ 4) → t.out = s.out)) ∧
      (x.ulStart s.now ≠ none → x.ulStart s.now = x.ulSent → exec (.epUplinkBurst e volts currents) s = .next s))

/-! ### Lanes (chapter 11) -/

/-- R292, R294–R297: LANE_SWAP, LANE_REQUALIFY and LANE_TAKE_OUT: what each does to the lanes, and when it is refused. -/
def Obligations.Lane_commands : Prop :=
  ∀ (s : State) (session : Nat), s.Serves → s.ownerRefusal session = none →
    let framed (t : State) (keys : List Nat) : Prop := s.Alters t keys ∧ State.Recorded { s with lanes := t.lanes, hosts := t.hosts } t
    (∀ l : Lane, s.serving = some l →
      (s.laneSt l.other = 4 ∨ (s.laneSt l.other = 6 ∧ (s.lane l.other).skewRun = 0 ∧ s.past (s.lane l.other).shadowAt (sec (s.nat OD.SKEW_MIN_TIME)) = true) →
        ∃ t, exec (.laneSwap session) s = .next t ∧ t.Answered session Reply.ok ∧
          t.lanes = { s.lanes with swapTo := some l.other, rotateDue := false } ∧ framed t []) ∧
      (s.laneSt l.other ≠ 4 → s.laneSt l.other ≠ 6 →
        ∃ t, exec (.laneSwap session) s = .next t ∧ t.Answered session Reply.wrongState ∧ t.lanes = s.lanes ∧ framed t [])) ∧
    (∀ l : Lane,
      (s.laneSt l = 7 → ∃ t, exec (.laneRequalify session l) s = .next t ∧ t.Answered session Reply.ok ∧ t.laneSt l = 1 ∧
        t.lane l = { s.lane l with skewRun := 0 } ∧ t.lane l.other = s.lane l.other ∧
        framed t [laneKey l, OD.CLAIM_A, OD.CLAIM_B, OD.MODULE_CLAIM, OD.HEALTH_FLAGS]) ∧
      (s.laneSt l ≠ 7 → ∃ t, exec (.laneRequalify session l) s = .next t ∧ t.Answered session Reply.wrongState ∧ t.lanes = s.lanes ∧ framed t [])) ∧
    (∀ l : Lane, s.laneSt l ≠ 0 → s.serving ≠ some l →
      ∃ t, exec (.laneTakeOut session l) s = .next t ∧ t.Answered session Reply.ok ∧ t.laneSt l = 7 ∧ t.lanes = { s.lanes with swapTo := none } ∧
        framed t [laneKey l, OD.CLAIM_A, OD.CLAIM_B, OD.MODULE_CLAIM, OD.HEALTH_FLAGS]) ∧
    (∀ l : Lane, s.laneSt l ≠ 0 → s.serving = some l → s.laneSt l.other = 4 →
      ∃ t, exec (.laneTakeOut session l) s = .next t ∧ t.Answered session Reply.ok ∧ t.laneSt l = 7 ∧ t.laneSt l.other = 5 ∧ t.serving = some l.other ∧
        t.lane l = s.lane l ∧ t.lane l.other = { s.lane l.other with servedSince := s.now } ∧
        framed t [OD.LANE_STATE_A, OD.LANE_STATE_B, OD.SERVING_LANE, OD.CLAIM_A, OD.CLAIM_B, OD.MODULE_CLAIM, OD.HEALTH_FLAGS]) ∧
    (∀ l : Lane, (s.laneSt l = 0 ∨ (s.serving = some l ∧ s.laneSt l.other ≠ 4)) →
      ∃ t, exec (.laneTakeOut session l) s = .next t ∧ t.Answered session Reply.wrongState ∧ t.lanes = s.lanes ∧ framed t [])

/-- R281, R290–R294, R297, R300: a lane that has booted, passed or failed its march, qualified, or diverged in a skew; the turn of the serving lane; the loopback of a standby's spare
serial lanes; and the Eft's states. -/
def Obligations.Lane_events : Prop :=
  ∀ s : State,
    let framed (t : State) (keys : List Nat) : Prop := s.Alters t keys ∧ State.Recorded { s with lanes := t.lanes, hosts := t.hosts } t
    let claims : List Nat := [OD.CLAIM_A, OD.CLAIM_B, OD.MODULE_CLAIM, OD.HEALTH_FLAGS]
    (∀ (l : Lane) (version : Nat), s.laneSt l = 0 → s.domainOn (3 + l.num) = true →
      ((s.lane l).fenced = true →
        ∃ t, exec (.laneBootDone l version) s = .next t ∧ t.laneSt l = 7 ∧ t.lanes = s.lanes ∧ framed t (laneKey l :: claims)) ∧
      ((s.lane l).fenced = false → s.serving ≠ none →
        ∃ t, exec (.laneBootDone l version) s = .next t ∧ t.laneSt l = 2 ∧ (t.lane l).booted = true ∧ (t.lane l).version = version ∧
          (t.lane l).law = (s.lane l).law ∧ t.lane l.other = s.lane l.other ∧ framed t (laneKey l :: claims)) ∧
      ((s.lane l).fenced = false → s.serving = none → s.flag OD.BOOT_READY = true →
        ∃ t, exec (.laneBootDone l version) s = .next t ∧ t.laneSt l = 5 ∧ t.serving = some l ∧ (t.lane l).booted = true ∧ (t.lane l).law = {} ∧
          t.nat OD.FW_VERSION = version ∧ t.lane l.other = s.lane l.other ∧ framed t (laneKey l :: OD.SERVING_LANE :: OD.FW_VERSION :: claims))) ∧
    (∀ l : Lane, s.laneSt l = 1 → (s.lane l).fenced = false →
      ∃ t, exec (.laneRetestDone l true) s = .next t ∧ t.laneSt l = 2 ∧ t.lane l = { s.lane l with diagFail := false, slipRun := 0, stepCount := 0 } ∧
        t.lane l.other = s.lane l.other ∧ framed t (laneKey l :: claims)) ∧
    (∀ (l : Lane) (pass : Bool), s.laneSt l = 1 → (pass = false ∨ (s.lane l).fenced = true) →
      ∃ t, exec (.laneRetestDone l pass) s = .next t ∧ t.laneSt l = 7 ∧ t.lanes = s.lanes ∧ framed t (laneKey l :: claims)) ∧
    (∀ (l : Lane) (pass : Bool), s.laneSt l ≠ 1 → exec (.laneRetestDone l pass) s = .next s) ∧
    (∀ l : Lane, s.laneSt l = 3 → 256 ≤ (s.lane l).stepCount → s.laneSt l.other ≠ 3 → s.pairOn = false →
      ∃ t, exec .laneQualified s = .next t ∧ t.laneSt l = 4 ∧ t.lanes = s.lanes ∧ framed t (laneKey l :: claims)) ∧
    (∀ l : Lane, s.laneSt l = 6 → 16 ≤ (s.lane l).skewRun →
      ∃ t, exec (.skewDiverged false l) s = .next t ∧ t.laneSt l = 7 ∧ t.nat OD.UPDATE_STAGE = 3 ∧ t.lanes = s.lanes ∧
        framed t (laneKey l :: OD.UPDATE_STAGE :: claims)) ∧
    (∀ l : Lane, s.nat OD.PAIR_STATE = 8 → 16 ≤ s.pair.skewRun →
      ∃ t, exec (.skewDiverged true l) s = .next t ∧ t.nat OD.PAIR_STATE = 1 ∧ t.nat OD.UPDATE_STAGE = 3 ∧ t.lanes = s.lanes) ∧
    (∀ l : Lane, s.serving = some l → s.nat OD.ROTATE_INTERVAL ≠ 0 → s.past (s.lane l).servedSince (sec (3600 * s.nat OD.ROTATE_INTERVAL)) = true →
      exec .laneRotate s = .next { s with lanes := (if s.laneSt l.other = 4 then { s.lanes with swapTo := some l.other, rotateDue := false }
        else { s.lanes with rotateDue := true }) }) ∧
    (∀ pass : Vector Bool 18, s.pairOn = true → s.moduleRole = 2 →
      ∃ t, exec (.loopbackTest pass) s = .next t ∧ t = { s with lanes := { s.lanes with loopbackOk := t.lanes.loopbackOk } } ∧
        ∀ k : Fin 18, vget true t.lanes.loopbackOk k.val =
          (if s.flag (OD.LANE_EN k.val) = true ∧ s.laneEp k.val = none ∧ k.val < 16 then vget true pass k.val else vget true s.lanes.loopbackOk k.val)) ∧
    (s.nat OD.EFT_STATE = 1 → 32 ≤ s.lanes.eftWarm →
      ∃ t, exec .eftWarmingEnd s = .next t ∧ t.nat OD.EFT_STATE = 2 ∧ t.lanes = s.lanes ∧ framed t [OD.EFT_STATE]) ∧
    (s.nat OD.EFT_STATE = 2 → s.nat OD.EFT_DISAGREE_MAX ≤ s.lanes.eftDisagree →
      ∃ t, exec .eftFault s = .next t ∧ t.nat OD.EFT_STATE = 3 ∧ t.bit OD.HEALTH_FLAGS 5 = true ∧
        t.lanes = { s.lanes with eftNeedsRetest := true } ∧ framed t [OD.EFT_STATE, OD.HEALTH_FLAGS])

/-- R284, R285, R289, R291, R292, Table 11.3: what the comparison of the two lanes' outputs does (equal, stepping, diverged and attributed), and a lane's
health. -/
def Obligations.Lane_comparison : Prop :=
  ∀ s : State,
    (∀ (l : Lane) (c d : LaneCommit), s.serving = some l → s.laneSt l = 5 → (s.lane l).commit = some c → (s.lane l.other).commit = some d →
      d.frame = c.frame → c.slip = false → d.slip = false →
      (c.digest = d.digest → s.laneSt l.other = 3 ∨ s.laneSt l.other = 4 → s.nat OD.EFT_STATE ≠ 2 →
        ∃ t, exec .outputCompare s = .next t ∧ t.nat OD.CMP_EQUAL = (s.nat OD.CMP_EQUAL + 1) % 2 ^ 32 ∧
          t.lane l = { s.lane l with commit := none, diagFail := false } ∧
          t.lane l.other = { s.lane l.other with
            commit := none, diagFail := false
            stepCount := if s.laneSt l.other = 3 then Nat.min ((s.lane l.other).stepCount + 1) 256 else (s.lane l.other).stepCount } ∧
          s.Alters t [OD.CMP_EQUAL, OD.STEP_COUNT]) ∧
      (c.digest ≠ d.digest → s.laneSt l.other = 3 →
        ∃ t, exec .outputCompare s = .next t ∧ t.laneSt l.other = 2 ∧ (t.lane l.other).stepCount = 0 ∧ t.serving = some l ∧
          t.lane l = { s.lane l with commit := none } ∧
          t.nat OD.CMP_MISMATCH = Nat.min (s.nat OD.CMP_MISMATCH + 1) 0xFFFFFFFF ∧ t.nat OD.LAST_DIVERGE_FRAME = c.frame) ∧
      (c.digest ≠ d.digest → s.laneSt l.other = 4 → (s.lane l).diagFail = true → (s.lane l.other).diagFail = false → (s.lane l.other).frameBad = false →
        ∃ t, exec .outputCompare s = .next t ∧ t.laneSt l = 1 ∧ t.laneSt l.other = 5 ∧ t.serving = some l.other ∧
          t.nat OD.CMP_MISMATCH = Nat.min (s.nat OD.CMP_MISMATCH + 1) 0xFFFFFFFF ∧
          t.nat OD.DIVERGE_SELF = Nat.min (s.nat OD.DIVERGE_SELF + 1) 0xFFFFFFFF ∧ t.nat OD.DIVERGE_EFT = s.nat OD.DIVERGE_EFT ∧
          t.nat OD.DIVERGE_UNDIAG = s.nat OD.DIVERGE_UNDIAG ∧ (t.lane l).commit = none ∧ (t.lane l.other).commit = none) ∧
      (c.digest ≠ d.digest → s.laneSt l.other = 4 → (s.lane l.other).diagFail = true → (s.lane l).diagFail = false → (s.lane l).frameBad = false →
        ∃ t, exec .outputCompare s = .next t ∧ t.laneSt l = 5 ∧ t.laneSt l.other = 1 ∧ t.serving = some l ∧
          t.nat OD.DIVERGE_SELF = Nat.min (s.nat OD.DIVERGE_SELF + 1) 0xFFFFFFFF ∧ (t.lane l).commit = none ∧ (t.lane l.other).commit = none) ∧
      (c.digest ≠ d.digest → s.laneSt l.other = 4 → s.nat OD.EFT_STATE ≠ 2 → (s.lane l).diagFail = (s.lane l.other).diagFail →
        (s.lane l).frameBad = false → (s.lane l.other).frameBad = false →
        ∃ t, exec .outputCompare s = .next t ∧ t.nat OD.DIVERGE_UNDIAG = Nat.min (s.nat OD.DIVERGE_UNDIAG + 1) 0xFFFFFFFF ∧
          t.nat OD.DIVERGE_SELF = s.nat OD.DIVERGE_SELF ∧ t.bit OD.HEALTH_FLAGS 1 = true ∧ (t.lane l).commit = none ∧ (t.lane l.other).commit = none)) ∧
    (∀ kaA kaB : KaResult,
      let t := s.healthRecompute kaA kaB
      exec (.healthRecompute kaA kaB) s = .next t ∧ t.nat OD.HEALTH_A = t.healthScore .a ∧ t.nat OD.HEALTH_B = t.healthScore .b ∧
        t.bit OD.HEALTH_FLAGS 6 = (t.lanes.a.kaIncomplete || t.lanes.b.kaIncomplete) ∧
        t.bit OD.HEALTH_FLAGS 1 = (decide (0 < t.undiagRecent .a) || decide (0 < t.undiagRecent .b)) ∧
        (kaA ≠ .completed → kaB ≠ .completed → t.nat OD.KA_CYCLES = s.nat OD.KA_CYCLES) ∧
        (kaA = .failed → (t.lane .a).diagFail = true) ∧ (kaB = .failed → (t.lane .b).diagFail = true) ∧
        s.Alters t [OD.HEALTH_A, OD.HEALTH_B, OD.HEALTH_FLAGS, OD.KA_CYCLES, OD.KA_FAILS, OD.CLAIM_A, OD.CLAIM_B, OD.MODULE_CLAIM])

/-! ### The pair (chapter 11) -/

/-- R296, R298, R299, R301, R305–R307, R310: what a heartbeat, a cross-link run and their absence do to the pair, and how its role is resolved. -/
def Obligations.Pair_events : Prop :=
  ∀ s : State, s.pairOn = true →
    (∀ (x0 x1 : Option (BitVec 144)) (hb : BitVec 128) (serial : BitVec 32), crossPick x0 x1 = some hb → ptype hb = 0xD → fld hb 120 4 = 0 →
      ∃ t, exec (.heartbeatReceive x0 x1 serial) s = .next t ∧ t.nat OD.PARTNER_CLAIM = fld hb 104 16 ∧ t.nat OD.PARTNER_STATE = fld hb 36 4 ∧
        t.nat OD.PARTNER_SERIAL = serial.toNat ∧ t.pair.heard = true ∧ t.pair.hb = true ∧ t.pair.missRun = 0 ∧ t.pair.lastHbAt = s.now ∧
        t.pair.highEpoch = Nat.max s.pair.highEpoch (fld hb 72 32) ∧ t.bit OD.HEALTH_FLAGS 3 = false ∧
        t.nat OD.PAIR_TIEBREAK = tiebreak (s.nat OD.SERIAL) serial.toNat ∧
        (s.nat OD.PAIR_STATE = 7 → t.nat OD.PAIR_STATE = 2) ∧
        (s.nat OD.PAIR_STATE = 1 ∨ s.nat OD.PAIR_STATE = 2 ∨ s.nat OD.PAIR_STATE = 3 ∨ s.nat OD.PAIR_STATE = 5 ∨ s.nat OD.PAIR_STATE = 8 →
          t.nat OD.PAIR_STATE = s.nat OD.PAIR_STATE)) ∧
    (∀ (x0 x1 : Option (BitVec 144)) (serial : BitVec 32), (∀ hb, crossPick x0 x1 = some hb → ptype hb ≠ 0xD ∨ fld hb 120 4 ≠ 0) →
      ∃ t, exec (.heartbeatReceive x0 x1 serial) s = .next t ∧ t.pair = s.pair ∧
        s.Alters t [OD.PAR_CORR 16, OD.PAR_CORR 17, OD.PAR_UNCORR 16, OD.PAR_UNCORR 17]) ∧
    (∀ (h : BitVec 128) (raw : List (BitVec 128)) (ws : List (BitVec 144)), (∀ w ∈ ws, bushelDecode w = .clean) → ws.map bushelData = h :: raw →
      ptype h = 0xD → fld h 120 4 = 1 →
      (fld h 116 4 = 0 → raw.length = 10 → s.frame.block = none → s.nat OD.PAIR_STATE ≠ 6 →
        ∃ t, exec (.xlRunReceive ws []) s = .next t ∧ t.pair.block = some (blockOf raw) ∧ t.pair.blockIn = true ∧ t.pair.missRun = 0 ∧
          s.Alters t [OD.PARTNER_TIME_OFS, OD.HEALTH_FLAGS] ∧ State.Recorded { s with pair := t.pair } t) ∧
      (fld h 116 4 = 2 → s.nat OD.PAIR_STATE = 2 → s.nat OD.COPY_LEFT ≠ 0 →
        ∃ t, exec (.xlRunReceive ws []) s = .next t ∧ t.nat OD.COPY_LEFT = s.nat OD.COPY_LEFT - raw.length ∧ s.Alters t [OD.COPY_LEFT] ∧ s.Recorded t) ∧
      (∀ own : LaneCommit, fld h 116 4 = 3 → s.pair.own = some own → own.frame = fld h 52 32 → own.slip = false → fld h 42 1 = 0 →
        s.nat OD.PARTNER_STATE ≠ 8 →
        (own.digest = raw.getD 0 0 → s.nat OD.PAIR_STATE = 3 →
          ∃ t, exec (.xlRunReceive ws []) s = .next t ∧ t.nat OD.STEP_COUNT = Nat.min (s.nat OD.STEP_COUNT + 1) 256 ∧ t.pair.partner = none ∧
            t.pair.path = some (fld h 52 32, decide (fld h 43 1 = 1)) ∧ s.Alters t [OD.STEP_COUNT]) ∧
        (own.digest ≠ raw.getD 0 0 → s.nat OD.PAIR_STATE = 3 →
          ∃ t, exec (.xlRunReceive ws []) s = .next t ∧ t.nat OD.PAIR_STATE = 2 ∧ t.nat OD.STEP_COUNT = 0 ∧ t.pair.copyReq = true) ∧
        (own.digest ≠ raw.getD 0 0 → s.nat OD.PAIR_STATE = 4 ∨ s.nat OD.PAIR_STATE = 5 →
          ((s.lane .a).commit = none ∨ (s.lane .b).commit = none ∨ (s.lane .a).commit.map (·.digest) = (s.lane .b).commit.map (·.digest)) →
          ∃ t, exec (.xlRunReceive ws []) s = .next t ∧ t.nat OD.PAIR_DIVERGENCES = Nat.min (s.nat OD.PAIR_DIVERGENCES + 1) 0xFFFFFFFF ∧
            t.nat OD.PAIR_STATE = (if s.nat OD.PAIR_STATE = 4 then 2 else 5))) ∧
      (fld h 116 4 = 1 → s.nat OD.PAIR_STATE = 5 → exec (.xlRunReceive ws []) s = .next s)) ∧
    (∀ (w : BitVec 144) (ws : List (BitVec 144)) (h : BitVec 128), bushelDecode w = .clean → h = bushelData w → (∃ x ∈ ws, bushelGood x = none) →
      ptype h = 0xD → fld h 120 4 = 1 →
      (fld h 116 4 = 1 → s.nat OD.PAIR_STATE = 3 ∨ s.nat OD.PAIR_STATE = 4 ∨ s.nat OD.PAIR_STATE = 8 →
        ∃ t, exec (.xlRunReceive (w :: ws) []) s = .next t ∧ t.nat OD.PAIR_STATE = 2 ∧ t.pair.copyReq = true) ∧
      (fld h 116 4 ≠ 1 →
        ∃ t, exec (.xlRunReceive (w :: ws) []) s = .next t ∧ t.pair = s.pair ∧ s.Alters t [OD.PAR_CORR 16, OD.PAR_UNCORR 16])) ∧
    (s.nat OD.PAIR_STATE = 3 ∨ s.nat OD.PAIR_STATE = 4 ∨ s.nat OD.PAIR_STATE = 7 ∨ s.nat OD.PAIR_STATE = 8 → s.pair.blockIn = false →
      s.frame.begun = true → s.frame.t0 + 1500 + s.nat (OD.ONEWAY 16) ≤ s.ltc →
      ∃ t, exec .forwardedBlockMissing s = .next t ∧ t.nat OD.OWN_BLOCK_FRAMES = Nat.min (s.nat OD.OWN_BLOCK_FRAMES + 1) 0xFFFFFFFF ∧
        t.pair.ownUsed = true ∧ t.pair.blockIn = true ∧
        (∀ b, s.frame.block = some b → t.pair.block =
          some { b with samples := (List.range 32).map fun n => fadd (at0 b.samples n) (at0 s.pair.d n) }) ∧
        s.Alters t [OD.OWN_BLOCK_FRAMES] ∧ State.Recorded { s with pair := t.pair } t) ∧
    (∀ t0, s.pair.plausSince = some t0 → s.past t0 (sec 1) = true → s.bit OD.HEALTH_FLAGS 8 = false →
      ∃ t, exec .plausibility s = .next t ∧ t.bit OD.HEALTH_FLAGS 8 = true ∧ s.Alters t [OD.HEALTH_FLAGS] ∧ s.Recorded t) ∧
    (s.nat OD.PAIR_STATE = 1 → s.flag OD.BOOT_READY = true → s.nat OD.UPDATE_STAGE ≠ 3 →
      (s.witnessed = true ∨ (s.pair.heard = true ∧ (s.nat OD.PARTNER_CLAIM / 4096 = 3 ∨ s.uncappedClaim ≤ s.nat OD.PARTNER_CLAIM % 4096)) →
        ∃ t, exec .pairRoleResolve s = .next t ∧ t.nat OD.PAIR_STATE = 2 ∧ t.nat OD.STEP_COUNT = 0 ∧ t.pair.copyReq = true) ∧
      (s.witnessed = false → s.flag OD.PAIR_AUTO_START = false →
        ((s.pair.heard = true ∧ s.nat OD.PARTNER_CLAIM / 4096 ≠ 3 ∧ s.nat OD.PARTNER_CLAIM % 4096 < s.uncappedClaim) ∨
          (s.pair.heard = false ∧ s.past s.pair.startAt (sec 1) = true)) →
        ∃ t, exec .pairRoleResolve s = .next t ∧ t.nat OD.PAIR_STATE = 5 ∧ t.nat OD.LAW_STATE = 0) ∧
      (s.witnessed = false → s.pair.heard = false → s.past s.pair.startAt (sec 1) = false → exec .pairRoleResolve s = .next s)) ∧
    (∀ t0, s.pair.healthAhead = some t0 → s.past t0 (sec 10) = true → s.nat OD.HANDOVER_MARGIN ≠ 0 → s.handoverOk = true → s.pair.handover = none →
      exec .autoHandover s = .next { s with pair := { s.pair with
        healthAhead := none, handover := some ((s.frame.n + 1 + s.pair.switchDelta) % 2 ^ 32) } })

/-- R301, R307, R310: PAIR_HANDOVER and PAIR_REQUALIFY, obeyed and refused. -/
def Obligations.Pair_commands : Prop :=
  ∀ (s : State) (session : Nat), s.Serves → s.ownerRefusal session = none →
    let framed (t : State) : Prop := s.Alters t [] ∧ State.Recorded { s with pair := t.pair, hosts := t.hosts } t
    (s.handoverOk = true →
      ∃ t, exec (.pairHandover session) s = .next t ∧ t.Answered session Reply.ok ∧ framed t ∧
        t.pair = { s.pair with handover := some ((s.frame.n + 1 + s.pair.switchDelta) % 2 ^ 32) }) ∧
    (s.handoverOk = false →
      ∃ t, exec (.pairHandover session) s = .next t ∧ t.Answered session Reply.wrongState ∧ framed t ∧ t.pair = s.pair) ∧
    (s.nat OD.PAIR_STATE = 5 → s.pair.heard = true → s.pair.missRun < 2 →
      ∃ t, exec (.pairRequalify session) s = .next t ∧ t.Answered session Reply.ok ∧ framed t ∧
        t.pair = { s.pair with epochFrame := some ((s.frame.n + 1) % 2 ^ 32), shadowAt := s.now, skewRun := 0 }) ∧
    (s.nat OD.PAIR_STATE ≠ 5 ∨ s.pair.heard = false ∨ 2 ≤ s.pair.missRun →
      ∃ t, exec (.pairRequalify session) s = .next t ∧ t.Answered session Reply.wrongState ∧ framed t ∧ t.pair = s.pair)

/-! ### Ownership, commit and M (chapters 12 and 15) -/

/-- R327–R331: REQUEST, RELEASE and FORCE of ownership, by who owns, and the lease that runs out. -/
def Obligations.Ownership : Prop :=
  ∀ (s : State) (session : Nat), s.Serves → session ≠ 0xFF → 0 < s.nat OD.OWN_LEASE →
    let o := s.nat OD.OWNER_SESSION
    let framed (t : State) : Prop := s.Alters t [] ∧ State.Recorded { s with hosts := t.hosts } t
    let owns (t : State) (x : Nat) : Prop := t.nat OD.OWNER_SESSION = x ∧ t.nat OD.OWN_CHANGES = Nat.min (s.nat OD.OWN_CHANGES + 1) 0xFFFFFFFF
    (s.ownRefusal session = none →
      (o = 0xFF → s.hosts.reserve = none →
        ∃ t, exec (.ownRequest session) s = .next t ∧ t.Answered session Reply.ok ∧ owns t session ∧ t.int OD.OWNER_SINCE = s.tai80 ∧
          t.hosts.leaseAt = s.now ∧ framed t) ∧
      (∀ i t0, o = 0xFF → s.hosts.reserve = some (i, t0) → s.now < t0 → s.identityOf session ≠ some i →
        ∃ t, exec (.ownRequest session) s = .next t ∧ framed t ∧ t.nat OD.OWNER_SESSION = 0xFF ∧
          t.Answered session { code := 0x72, detail := 0xFF, time := timeField ((t0 - s.now + 624999) / 625000) }) ∧
      (o = session → s.leaseExpired = false →
        (∃ t, exec (.ownRequest session) s = .next t ∧ t.Answered session Reply.ok ∧ t.nat OD.OWNER_SESSION = o ∧ t.hosts.leaseAt = s.now ∧ framed t) ∧
        (∃ t, exec (.ownRelease session) s = .next t ∧ t.Answered session Reply.ok ∧ owns t 0xFF ∧ framed t)) ∧
      (o ≠ session → o ≠ 0xFF → s.leaseExpired = false →
        ∃ t, exec (.ownRequest session) s = .next t ∧ t.Answered session { code := 0x72, detail := o, time := timeField s.leaseLeft } ∧
          t.nat OD.OWNER_SESSION = o ∧ framed t) ∧
      (o ≠ session → (o = 0xFF ∨ s.leaseExpired = false) →
        ∃ t, exec (.ownRelease session) s = .next t ∧ t.Answered session { code := 0x70, detail := o } ∧ t.nat OD.OWNER_SESSION = o ∧ framed t)) ∧
    (s.forceRefusal session = none → o ≠ session → o ≠ 0xFF → s.leaseExpired = false →
      ∃ t, exec (.ownForce session) s = .next t ∧ t.Answered session Reply.ok ∧ owns t session ∧ t.hosts.leaseAt = s.now ∧ framed t ∧
        (s.isOpen o = true → t.out.tail.head? = some (.notice o 0x77 session))) ∧
    (o ≠ 0xFF → s.leaseExpired = true → s.nat OD.OWNER_LOSS_ACTION ≠ 1 →
      ∃ t, exec .ownershipLost s = .next t ∧ owns t 0xFF ∧ framed t ∧ (s.isOpen o = true → t.out.head? = some (.notice o 0x73 0xFF))) ∧
    (s.leaseExpired = false → exec .ownershipLost s = .next s)

/-- R333–R337, R454: DISCARD, and that the close of a session empties its staging set too but for a set in service; the switching
of a commit: what it records, and the stored copy that follows; and R463: M connected and disconnected. -/
def Obligations.Commit_discard_and_m : Prop :=
  ∀ s : State,
    (∀ session : Nat, s.Serves → s.commitRefusal session false = none →
      ∃ t, exec (.dictDiscard session) s = .next t ∧ t.Answered session Reply.ok ∧ (t.host session).staged = [] ∧
        (∀ x, sessIdx x ≠ sessIdx session → (t.host x).staged = (s.host x).staged) ∧ s.Alters t [] ∧ State.Recorded { s with hosts := t.hosts } t) ∧
    (∀ (c : CommitRun) (fails : List (Nat × Nat × Nat)), s.hosts.commit = some c →
      (s.standbyModule = true →
        ∃ t, exec (.configSwitch fails) s = .next t ∧ t.hosts.commit = none ∧ t.nat OD.LAST_COMMIT_RESULT = 0x7C ∧
          t.nat OD.CONFIG_GEN = s.nat OD.CONFIG_GEN ∧ s.Alters t [OD.LAST_COMMIT_RESULT]) ∧
      (s.standbyModule = false → s.switchDue c.loadedAt c.named = false → exec (.configSwitch fails) s = .next s) ∧
      (s.standbyModule = false → s.switchDue c.loadedAt c.named = true →
        ∃ t, exec (.configSwitch fails) s = .next t ∧
          t = ((((if c.answer then s.unstage c.session else s).setSwitches c.session c.set).commitEnds c { qty := s.switchFrame }).applySet c.set fails).storeConfig)) ∧
    (∀ (session : Nat) (set : List (Nat × Val)),
      let t := s.setSwitches session set
      t.nat OD.CONFIG_GEN = (s.nat OD.CONFIG_GEN + 1) % 2 ^ 32 ∧ t.nat OD.LAST_COMMIT_SESSION = session ∧ t.nat OD.LAST_COMMIT_FRAME = s.switchFrame ∧
      t.int OD.LAST_COMMIT_TIME = s.tai80 ∧ t.nat OD.LAST_COMMIT_RESULT = 0 ∧
      s.Alters t [OD.CONFIG_GEN, OD.LAST_COMMIT_SESSION, OD.LAST_COMMIT_FRAME, OD.LAST_COMMIT_TIME, OD.LAST_COMMIT_RESULT]) ∧
    (let t := s.storeConfig
     ∃ i, i < 2 ∧ s.newestCopy ≠ some i ∧ t.dict = s.dict ∧
      vget {} t.power.copies i =
        { gen := s.nat OD.CONFIG_GEN, crc := copyCrc (s.nat OD.CONFIG_GEN) s.configEntries, good := true, entries := s.configEntries } ∧
      ∀ j, j ≠ i → vget {} t.power.copies j = vget {} s.power.copies j) ∧
    (s.hosts.commit = none → s.pair.mirrorSet = none → ∀ fails : List (Nat × Nat × Nat), exec (.configSwitch fails) s = .next s) ∧
    (s.domainOn 1 = true → s.flag OD.M_CONNECTED = false → s.tb.tcxoFailed = false →
      ∃ t, exec (.mConnected true) s = .next t ∧ t.flag OD.M_CONNECTED = true ∧
        t.nat OD.M_ENUMERATIONS = Nat.min (s.nat OD.M_ENUMERATIONS + 1) 0xFFFFFFFF ∧ s.Alters t [OD.M_CONNECTED, OD.M_ENUMERATIONS] ∧ s.Recorded t) ∧
    (s.domainOn 1 = true → s.flag OD.M_CONNECTED = true →
      ∃ t, exec (.mConnected false) s = .next t ∧ t.flag OD.M_CONNECTED = false ∧ t.isOpen 0x40 = false ∧
        (s.isOpen 0x40 = false → s.Alters t [OD.M_CONNECTED] ∧ s.Recorded t)) ∧
    (∀ session : Nat, s.isOpen session = true →
      ((s.closeSession session).host session).staged = [] ∧ (s.closeSession session).hosts.commit.map (·.set) = s.hosts.commit.map (·.set))

/-! ### Transactions and sessions (chapter 12) -/

/-- R321, R337–R344: a request of an open session is answered from the reply cache, refused when the queue is full or the engine is reset, queued, or served at
once; one of a closed session is dropped. USDO_REQUEST completes (R347): the port's session opens with it, and the request is queued or served. -/
def Obligations.Requests_arrive : Prop :=
  ∀ s : State,
    let arrives (c : Instr) (q : Request) : Prop :=
      let r : Request := { q with at1 := s.now }
      (s.isOpen q.session = false → exec c s = .next s) ∧
      (s.isOpen q.session = true → s.bit OD.PR_BUSY 1 = true →
        ∃ t, exec c s = .next t ∧ t.hosts.queue = s.hosts.queue ∧ s.Alters t [] ∧
          t.out.head? = some (.reply q.session q.tag { Reply.busyReset with op := q.op + 0x80, index := q.index, sub := q.sub })) ∧
      (s.isOpen q.session = true → s.bit OD.PR_BUSY 1 = false →
        (∀ a, s.cached r = some a →
          ∃ t, exec c s = .next t ∧ t.out = .reply q.session q.tag a :: s.out ∧ t.hosts.queue = s.hosts.queue ∧ t.dict = s.dict) ∧
        (s.cached r = none → s.outstanding r = true → exec c s = .next (s.heard q.session).delayNotice) ∧
        (s.cached r = none → s.outstanding r = false →
          (s.queueFull q.session = true →
            ∃ t time, exec c s = .next t ∧ t.hosts.queue = s.hosts.queue ∧ s.Alters t [] ∧
              t.nat OD.REFUSED_TOTAL = Nat.min (s.nat OD.REFUSED_TOTAL + 1) 0xFFFFFFFF ∧
              t.out.head? = some (.reply q.session q.tag { code := 0x74, time := time, op := q.op + 0x80, index := q.index, sub := q.sub })) ∧
          (s.queueFull q.session = false → s.engineIdle = false ∨ s.waitsForCommit r = true →
            ∃ t, exec c s = .next t ∧ t.hosts.queue = s.hosts.queue ++ [r] ∧ t.out = s.out ∧ t.dict = s.dict ∧ State.Recorded { s with hosts := t.hosts } t) ∧
          (s.queueFull q.session = false → s.engineIdle = true → s.waitsForCommit r = false →
            exec c s = .next ((s.heard q.session).serveRequest r))))
    (∀ (session : Nat) (tag : BitVec 16), arrives (.dictClose session tag) { session := session, op := 2, tag := tag.toNat }) ∧
    (∀ (session : Nat) (tag : BitVec 16), arrives (.dictKeepalive session tag) { session := session, op := 5, tag := tag.toNat }) ∧
    (∀ (session : Nat) (tag index : BitVec 16) (sub : Byte) (offset : BitVec 32) (staged : Bool),
      arrives (.dictRead session tag index sub offset staged)
        { session := session, op := 3, tag := tag.toNat, index := index.toNat, sub := sub.toNat, offset := offset.toNat, readStaged := staged }) ∧
    (∀ (session : Nat) (tag index : BitVec 16) (sub : Byte) (offset : BitVec 32) (last : Bool) (data : List Byte),
      arrives (.dictWrite session tag index sub offset last data)
        { session := session, op := 4, tag := tag.toNat, index := index.toNat, sub := sub.toNat, offset := offset.toNat, last := last, data := data }) ∧
    (∀ (session : Nat) (tag : BitVec 16), s.isOpen session = true → s.bit OD.PR_BUSY 1 = false →
      (∀ q, (s.hosts.queue.find? (sameTag { session := session, op := 6, tag := tag.toNat })) = some q →
        ∃ t, exec (.dictAbort session tag) s = .next t ∧ t.hosts.queue = s.hosts.queue.erase q ∧ s.Alters t [] ∧
          t.out.head? = some (.reply session tag.toNat { qty := 1, op := 0x86 })) ∧
      ((s.hosts.queue.find? (sameTag { session := session, op := 6, tag := tag.toNat })) = none →
        ∃ t, exec (.dictAbort session tag) s = .next t ∧ t.hosts.queue = s.hosts.queue ∧ s.Alters t [] ∧
          t.out.head? = some (.reply session tag.toNat { op := 0x86 }))) ∧
    (∀ (k : Fin 2) (isWrite : Bool) (index : BitVec 16) (sub : Byte) (data : List Byte),
      let x := canSession k.val
      let q : Request := { session := x, op := if isWrite then 4 else 3, index := index.toNat, sub := sub.toNat, data := data, usdo := true,
                           tagged := false, at1 := s.now }
      (s.portServed (2 + k.val) = false → exec (.usdoRequest k isWrite index sub data) s = .next s) ∧
      (s.portServed (2 + k.val) = true → s.bit OD.PR_BUSY 1 = false → s.queueFull x = false →
        (s.isOpen x = true → s.engineIdle = true → s.waitsForCommit q = false →
          ∃ t, exec (.usdoRequest k isWrite index sub data) s = .next t ∧ t = (s.heard x).serveRequest q) ∧
        (s.engineIdle = false →
          ∃ t, exec (.usdoRequest k isWrite index sub data) s = .next t ∧ t.isOpen x = true ∧ t.hosts.queue = s.hosts.queue ++ [q] ∧
            (s.isOpen x = false → t.nat (OD.SESSION_ROLE (sessIdx x)) = s.nat (OD.ROLE_CEILING (2 + k.val))) ∧ s.Alters t [])) ∧
      (s.portServed (2 + k.val) = true → s.bit OD.PR_BUSY 1 = false → s.queueFull x = true →
        ∃ t, exec (.usdoRequest k isWrite index sub data) s = .next t ∧ t.isOpen x = true ∧ t.hosts.queue = s.hosts.queue ∧
          t.nat OD.REFUSED_TOTAL = Nat.min (s.nat OD.REFUSED_TOTAL + 1) 0xFFFFFFFF ∧ s.Alters t []))

/-- R317–R319, R332–R337, R344, R346: what a request does that is served at once: KEEPALIVE, CLOSE, READ and WRITE, staging, segments and refusals; and
COMMIT. -/
def Obligations.Requests_served : Prop :=
  ∀ s : State,
    let direct (q : Request) : Prop := s.isOpen q.session = true ∧ s.bit OD.PR_BUSY 1 = false ∧ s.cached q = none ∧ s.outstanding q = false ∧
      s.queueFull q.session = false ∧ s.engineIdle = true ∧ s.waitsForCommit q = false
    let u (q : Request) : State :=
      let v := (s.heard q.session).served q.session (s.classOf q)
      v.setHosts { v.hosts with busyUntil := s.now + serviceTicks }
    let tells (t : State) (q : Request) (r : Reply) : Prop :=
      t.out.head? = some (.reply q.session q.tag { r with op := q.op + 0x80, index := q.index, sub := q.sub })
    (∀ (session : Nat) (tag : BitVec 16),
      let q : Request := { session := session, op := 5, tag := tag.toNat, at1 := s.now }
      direct q →
        ∃ t, exec (.dictKeepalive session tag) s = .next t ∧ tells t q Reply.ok ∧ t.hosts.busyUntil = s.now + serviceTicks ∧
          (t.host session).replies.head? = some (q.tag, 5, { op := 0x85 }) ∧ s.Alters t [] ∧ State.Recorded { s with hosts := t.hosts } t) ∧
    (∀ (session : Nat) (tag : BitVec 16),
      let q : Request := { session := session, op := 2, tag := tag.toNat, at1 := s.now }
      direct q → session ≠ 0xFF →
        ∃ t, exec (.dictClose session tag) s = .next t ∧ Emit.reply session q.tag { op := 0x82 } ∈ t.out ∧ t.isOpen session = false ∧
          t.host session = {} ∧ t.nat OD.OWNER_SESSION ≠ session) ∧
    (∀ (session : Nat) (tag index : BitVec 16) (sub : Byte) (offset : BitVec 32) (staged : Bool),
      let q : Request :=
        { session := session, op := 3, tag := tag.toNat, index := index.toNat, sub := sub.toNat, offset := offset.toNat, readStaged := staged, at1 := s.now }
      direct q →
        (∀ r, s.entryAbsent q.index q.sub = some r →
          ∃ t, exec (.dictRead session tag index sub offset staged) s = .next t ∧ tells t q r ∧ s.Alters t []) ∧
        (s.entryAbsent q.index q.sub = none → entryAccess q.index q.sub = .WO →
          ∃ t, exec (.dictRead session tag index sub offset staged) s = .next t ∧ tells t q Reply.noAccess ∧ s.Alters t []) ∧
        (s.entryAbsent q.index q.sub = none → entryAccess q.index q.sub = .RWC → s.entryBarred q.index = false → s.entryBusy q.index = none →
          0x2000 ≤ q.index → q.index ≤ 0x6FFF →
          (∀ x, staged = true → ((s.host session).staged.find? fun x => decide (x.1 = OD.key q.index q.sub)) = some x →
            ∃ t, exec (.dictRead session tag index sub offset staged) s = .next t ∧ s.Alters t [] ∧
              tells t q { valReply (entryType q.index q.sub) x.2.val q.offset with detail := 1 }) ∧
          (staged = false →
            ∃ t, exec (.dictRead session tag index sub offset staged) s = .next t ∧ s.Alters t [] ∧
              tells t q (valReply (entryType q.index q.sub) ((u q).entryVal session (OD.key q.index q.sub)) q.offset)))) ∧
    (∀ (session : Nat) (tag index : BitVec 16) (sub : Byte) (offset : BitVec 32) (last : Bool) (data : List Byte),
      let q : Request :=
        { session := session, op := 4, tag := tag.toNat, index := index.toNat, sub := sub.toNat, offset := offset.toNat, last := last, data := data, at1 := s.now }
      let k := OD.key q.index q.sub
      direct q → s.boot.resetDue = none → data.length ≤ 1024 →
        (∀ r, (u q).writeRefusal session q.index q.sub = some r →
          ∃ t, exec (.dictWrite session tag index sub offset last data) s = .next t ∧ tells t q r ∧ s.Alters t []) ∧
        ((u q).writeRefusal session q.index q.sub = none → k ≠ OD.FW_IMAGE →
          (q.offset = 0 → last = false →
            ∃ t, exec (.dictWrite session tag index sub offset last data) s = .next t ∧ tells t q Reply.ok ∧ s.Alters t [] ∧
              t.segOf session k = some { key := k, tag := q.tag, size := data.length, data := data, at1 := s.now }) ∧
          (q.offset ≠ 0 → s.segOf session k = none →
            ∃ t, exec (.dictWrite session tag index sub offset last data) s = .next t ∧ tells t q (Reply.segmentError 0) ∧ s.Alters t []) ∧
          (∀ r, q.offset = 0 → last = true → checkVal q.index q.sub data = .error r →
            ∃ t, exec (.dictWrite session tag index sub offset last data) s = .next t ∧ tells t q r ∧ s.Alters t []) ∧
          (∀ v, q.offset = 0 → last = true → checkVal q.index q.sub data = .ok v →
            (entryAccess q.index q.sub = .RWC → s.stateLocked q.index q.sub v false = false →
              let set : List (Nat × Staged) :=
                (s.host session).staged.filter (fun x => decide (x.1 ≠ k)) ++ [(k, { val := v, gen := s.nat OD.CONFIG_GEN })]
              set.length ≤ 1024 → set.foldl (fun n x => n + valSize x.1 x.2.val) 0 ≤ 65536 →
              ∃ t, exec (.dictWrite session tag index sub offset last data) s = .next t ∧ tells t q Reply.ok ∧ (t.host session).staged = set ∧
                s.Alters t [] ∧ State.Recorded { s with hosts := t.hosts } t) ∧
            (entryAccess q.index q.sub = .RWC → s.stateLocked q.index q.sub v false = true →
              ∃ t, exec (.dictWrite session tag index sub offset last data) s = .next t ∧ tells t q Reply.wrongState ∧ s.Alters t []) ∧
            (entryAccess q.index q.sub ≠ .RWC → k ≠ OD.COMMIT → k ≠ OD.SAFETY_LOGIN →
              let x := ((u q).segEnd session k).effect session q.index q.sub v
              exec (.dictWrite session tag index sub offset last data) s = .next ((x.1.finish q x.2).writeAfter q))))) ∧
    (∀ session : Nat, s.Serves → s.commitRefusal session true = none → s.hosts.commit = none →
      let q := commitRequest session s.now
      let v := (s.heard session).served session (s.classOf q)
      ((s.host session).staged = [] →
        ∃ t, exec (.dictCommit session) s = .next t ∧ tells t q Reply.ok ∧ t.nat OD.LAST_COMMIT_RESULT = 0 ∧ t.hosts.commit = none ∧
          s.Alters t [OD.LAST_COMMIT_RESULT]) ∧
      (∀ r, (s.host session).staged ≠ [] → (v.commitChecks session).2 = some r →
        ∃ t, exec (.dictCommit session) s = .next t ∧ tells t q r ∧ t.nat OD.LAST_COMMIT_RESULT = r.code ∧ t.hosts.commit = none) ∧
      ((s.host session).staged ≠ [] → (v.commitChecks session).2 = none →
        ∃ t c, exec (.dictCommit session) s = .next t ∧ t.hosts.commit = some c ∧ c.session = session ∧ c.set = s.stagedVals session ∧ c.answer = true ∧
          c.named = false ∧ s.now ≤ c.loadedAt ∧ c.loadedAt < s.now + ms 50))

/-- R338–R343, R347, R348: the queue is served by class and budget; the window of the budgets; DELAYED notices; a request that waited too long; and a USDO client that
did. -/
def Obligations.Queue_of_requests : Prop :=
  ∀ s : State,
    (∀ q, s.bit OD.PR_BUSY 1 = false → s.past s.hosts.busyUntil 0 = true → s.pick s.turns = some q →
      q ∈ s.hosts.queue ∧ s.waitsForCommit q = false ∧
      exec .transactionServe s = .next (({ s with hosts := { s.hosts with queue := s.hosts.queue.erase q } }).serveRequest q)) ∧
    (s.bit OD.PR_BUSY 1 = true ∨ s.past s.hosts.busyUntil 0 = false ∨ s.pick s.turns = none → exec .transactionServe s = .next s) ∧
    (∀ q ∈ s.hosts.queue, s.waitsForCommit q = false → olderSame s.hosts.queue q = false →
      (s.classOf q = 1 → s.hosts.safetyUsed < 40 → ∃ x, s.pick s.turns = some x ∧ s.classOf x = 1) ∧
      ((s.pick s.turns).isSome = true) ∧
      (s.classOf q = 2 → s.hosts.ownerUsed < 120 → ∃ x, s.pick s.turns = some x ∧ s.classOf x ≤ 2)) ∧
    (s.past s.hosts.windowAt (ms 100) = true →
      ∃ t, exec .serviceWindow s = .next t ∧ t.hosts = { s.hosts with windowAt := s.now, safetyUsed := 0, ownerUsed := 0 } ∧
        (∀ p, p < 5 → t.nat (OD.PORT_USED p) = 0) ∧ s.Alters t [] ∧ State.Recorded { s with hosts := t.hosts } t) ∧
    (s.past s.hosts.windowAt (ms 100) = false → exec .serviceWindow s = .next s) ∧
    (∀ q, s.hosts.queue = [q] → s.noticeDue q = true → s.hosts.commit = none → s.safety.verifying = [] → sessIdx q.session < 11 →
      ∃ t, exec .delayNotice s = .next t ∧ t.hosts.queue = [{ q with noticeAt := s.now + ms 100 }] ∧
        t.nat OD.DELAYED_TOTAL = Nat.min (s.nat OD.DELAYED_TOTAL + 1) 0xFFFFFFFF ∧ s.Alters t [] ∧
        t.out.head? = some (.reply q.session q.tag
          { code := 1, position := Nat.min (s.position q) 65535, time := timeField (s.waitMs q), op := q.op + 0x80, index := q.index, sub := q.sub })) ∧
    (∀ q, s.hosts.queue = [q] → s.past q.at1 (ms (s.nat OD.QUEUE_MAX_WAIT)) = true → q.late = false → q.usdo = false →
      ∃ t, exec .queueExpired s = .next t ∧ t.hosts.queue = [] ∧ t.nat OD.EXPIRED_TOTAL = Nat.min (s.nat OD.EXPIRED_TOTAL + 1) 0xFFFFFFFF ∧
        t.out.head? = some (.reply q.session q.tag { code := 0x78, time := 1, op := q.op + 0x80, index := q.index, sub := q.sub }) ∧ s.Alters t []) ∧
    (∀ (k : Fin 2) (q : Request), s.hosts.queue = [q] → s.usdoLate (canSession k.val) q = true → s.hosts.commit = none → s.safety.verifying = [] →
      ∃ t, exec (.usdoWaitExpired k) s = .next t ∧ t.hosts.queue = [] ∧ t.out = .usdoAbort (canSession k.val) 0x08000020 :: s.out ∧
        t.nat (OD.LAST_RESULT (sessIdx (canSession k.val))) = 0x78 ∧ s.Alters t []) ∧
    (∀ (session : Nat) (x : SegXfer), s.isOpen session = true → (s.host session).segs = [x] → s.past x.at1 (ms (s.nat OD.SEG_TIMEOUT)) = true →
      s.security.load = none →
      ∃ t, exec (.segTimeout session) s = .next t ∧ (t.host session).segs = [] ∧ s.Alters t [] ∧
        t.out.head? = some (.reply session x.tag { Reply.segmentError x.size with op := 0x84, index := x.key / 256, sub := x.key % 256 }))

/-- R322–R326, R349, R472–R477: sessions open, close and time out; DTLS associations form, are refused and end; a USDO opens its port's session; and the TCXO's failure closes those
that depend on it. -/
def Obligations.Sessions : Prop :=
  ∀ s : State,
    (∀ (port : Fin 5) (assoc : Nat) (tag : BitVec 16) (role : Byte), (port.val < 2 ∨ port.val = 4) → s.portServed port.val = true →
      (port.val < 2 → (s.hosts.assocs.any fun a => decide (a.1 = assoc) && decide (a.2.1 = port.val)) = true) → s.bit OD.PR_BUSY 1 = false →
      s.sessionOf port.val assoc = none →
      (2 < role.toNat → ∃ t, exec (.dictOpen port assoc tag role) s = .next t ∧ t.hosts = s.hosts ∧ t.dict = s.dict ∧
        t.out = .reply 0xFF tag.toNat { Reply.outOfRange with op := 0x81 } :: s.out) ∧
      (∀ x, role.toNat ≤ 2 → (allSessions.find? fun x => decide (sessPort x = port.val) && !s.isOpen x) = some x →
        ∃ t, exec (.dictOpen port assoc tag role) s = .next t ∧ t.isOpen x = true ∧
          t.nat (OD.SESSION_ROLE (sessIdx x)) ≤ Nat.min role.toNat (s.nat (OD.ROLE_CEILING port.val)) ∧
          (t.host x).lastAt = s.now ∧ (t.host x).staged = [] ∧ (t.host x).assoc = (if port.val < 2 then some assoc else none) ∧
          t.out.head? = some (.reply x tag.toNat { detail := x, op := 0x81 }) ∧ s.Alters t []) ∧
      (role.toNat ≤ 2 → (allSessions.find? fun x => decide (sessPort x = port.val) && !s.isOpen x) = none →
        ∃ t, exec (.dictOpen port assoc tag role) s = .next t ∧ t.nat OD.REFUSED_TOTAL = Nat.min (s.nat OD.REFUSED_TOTAL + 1) 0xFFFFFFFF ∧
          t.out = .reply 0xFF tag.toNat { code := 0x75, time := 0x8001, op := 0x81 } :: s.out ∧ s.Alters t [])) ∧
    (∀ (port : Fin 5) (assoc : Nat) (tag : BitVec 16) (role : Byte), (port.val = 2 ∨ port.val = 3 ∨ s.portServed port.val = false) →
      exec (.dictOpen port assoc tag role) s = .next s) ∧
    (∀ session : Nat, session ≠ 0xFF → s.isOpen session = true → s.past (s.host session).lastAt (sec (s.nat OD.SESSION_TIMEOUT)) = true →
      ∃ t, exec (.sessionTimeout session) s = .next t ∧ t.isOpen session = false ∧ t.host session = {} ∧
        (∀ q ∈ t.hosts.queue, q.session ≠ session ∧ q ∈ s.hosts.queue) ∧ t.nat OD.OWNER_SESSION ≠ session ∧
        (s.nat OD.OWNER_SESSION ≠ session → t.nat OD.OWNER_SESSION = s.nat OD.OWNER_SESSION)) ∧
    (∀ session : Nat, s.past (s.host session).lastAt (sec (s.nat OD.SESSION_TIMEOUT)) = false → exec (.sessionTimeout session) s = .next s) ∧
    (∀ (k : Fin 2) (assoc : Nat) (peer : List Byte) (chain : CertChain), s.portServed k.val = true → s.nat OD.KEY_STATE = 1 →
      (s.chainOk chain = true → exec (.dtlsHandshake k assoc peer chain) s = .next { s with hosts := { s.hosts with
        assocs := s.hosts.assocs.filter (fun a => decide (a.1 ≠ assoc)) ++ [(assoc, k.val, chain, peer)] } }) ∧
      (s.chainOk chain = false → ∃ t, exec (.dtlsHandshake k assoc peer chain) s = .next t ∧ t.hosts = s.hosts ∧ s.Alters t [] ∧ s.Recorded t)) ∧
    (∀ (k : Fin 2) (assoc : Nat) (peer : List Byte) (chain : CertChain), s.portServed k.val = false ∨ s.nat OD.KEY_STATE ≠ 1 →
      exec (.dtlsHandshake k assoc peer chain) s = .next s) ∧
    (∀ assoc : Nat,
      ∃ t, exec (.dtlsAssociationEnd assoc) s = .next t ∧ t.hosts.assocs = s.hosts.assocs.filter (fun a => decide (a.1 ≠ assoc)) ∧
        ∀ x ∈ allSessions, x < 0x20 →
          ((s.host x).assoc = some assoc → t.isOpen x = false) ∧ ((s.host x).assoc ≠ some assoc → t.isOpen x = s.isOpen x ∧ t.host x = s.host x)) ∧
    (∀ (k : Fin 2) (isWrite : Bool) (index : BitVec 16) (sub : Byte) (data : List Byte),
      (s.portServed (2 + k.val) = false → exec (.usdoRequest k isWrite index sub data) s = .next s) ∧
      (s.portServed (2 + k.val) = true → s.bit OD.PR_BUSY 1 = false → s.engineIdle = true →
        s.entryAbsent index.toNat sub.toNat = some Reply.noEntry →
        isWrite = false →
        ∃ t, exec (.usdoRequest k isWrite index sub data) s = .next t ∧ t.isOpen (canSession k.val) = true ∧ s.Alters t [] ∧
          (s.isOpen (canSession k.val) = false → t.nat (OD.SESSION_ROLE (sessIdx (canSession k.val))) = s.nat (OD.ROLE_CEILING (2 + k.val))) ∧
          t.out.head? = some (.usdoAbort (canSession k.val) (if OD.hasIndex index.toNat then 0x06090011 else 0x06020000)))) ∧
    (s.tb.tcxoFailed = false →
      ∃ t, exec .tcxoFail s = .next t ∧ t.tb.tcxoFailed = true ∧ t.flag OD.SYS_LOCKED = false ∧ t.flag OD.M_CONNECTED = false ∧
        ∀ x ∈ allSessions, 0x20 ≤ x → t.isOpen x = false) ∧
    (s.tb.tcxoFailed = true →
      ∃ t, exec .tcxoRecover s = .next t ∧ t.tb.tcxoFailed = false ∧ t.flag OD.SYS_LOCKED = s.domainOn 1) ∧
    (s.tb.tcxoFailed = true → exec .tcxoFail s = .next s)

/-! ### CAN FD and its schedule (chapter 14) -/

/-- R376–R384, R390: a frame received and one sent, by how it ends; error counts, bus-off and recovery; objects withheld and retired; requests; the timestamp
pair; NMT and heartbeat. -/
def Obligations.Can_frames : Prop :=
  ∀ (s : State) (k : Fin 2),
    let tec := s.tec k.val
    let rc := s.rec' k.val
    let states := (List.range 32).map (OD.TX_STATE k.val)
    let port := [OD.TEC_REC k.val, OD.PORT_STATE k.val, OD.CAN_FLAGS k.val, OD.BUSOFF_COUNT k.val] ++ states
    (s.canOnBus k.val = true → tec ≤ 255 → rc ≤ 255 →
      (∀ (f : CanFrame) (held : Bool), f.fd = true → s.flag (OD.FD_EN k.val) = false →
        ∃ t, exec (.canRxFrame k f held) s = .next t ∧ t.nat (OD.TEC_REC k.val) = tec * 256 + Nat.min (rc + 1) 255 ∧
          t.nat (OD.PORT_STATE k.val) = (if 127 < tec ∨ 127 < rc + 1 then 3 else 2) ∧ s.Alters t [OD.TEC_REC k.val, OD.PORT_STATE k.val] ∧ s.Recorded t) ∧
      (∀ f : CanFrame, (f.fd = false ∨ s.flag (OD.FD_EN k.val) = true) → f.rtr = false →
        (∀ r, ((List.range 60).find? fun r => s.rxMatches k.val r f) = some r → vget none (s.canP k.val).shadow r = none →
          (s.bit (OD.RX_INFO k.val r) 3 = false →
            ∃ t, exec (.canRxFrame k f false) s = .next t ∧ t.octets (OD.RX_DATA k.val r) = f.data ∧ t.nat (OD.RX_STAMP k.val r) = f.stamp ∧
              t.nat (OD.RX_INFO k.val r) =
                f.dlc * 256 + 8 + (if f.esi then 4 else 0) + (if f.brs then 2 else 0) + (if f.fd then 1 else 0) ∧
              t.nat (OD.TEC_REC k.val) = tec * 256 + (if 127 < rc then 127 else rc - 1) ∧
              s.Alters t (port ++ [OD.RX_DATA k.val r, OD.RX_INFO k.val r, OD.RX_STAMP k.val r]) ∧ s.Recorded t) ∧
          (s.bit (OD.RX_INFO k.val r) 3 = true →
            ∃ t, exec (.canRxFrame k f false) s = .next t ∧ t.octets (OD.RX_DATA k.val r) = f.data ∧
              t.nat (OD.RX_OVERRUNS k.val r) = Nat.min (s.nat (OD.RX_OVERRUNS k.val r) + 1) 0xFFFFFFFF ∧ (t.canP k.val).overrun.contains r = true) ∧
          (∃ t, exec (.canRxFrame k f true) s = .next t ∧ vget none (t.canP k.val).shadow r = some f ∧
            t.octets (OD.RX_DATA k.val r) = s.octets (OD.RX_DATA k.val r) ∧ s.Alters t port)) ∧
        (∀ held : Bool, ((List.range 60).find? fun r => s.rxMatches k.val r f) = none → s.canOpenTakes k.val f = false →
          ∃ t, exec (.canRxFrame k f held) s = .next t ∧ t.nat (OD.RX_UNMATCHED k.val) = Nat.min (s.nat (OD.RX_UNMATCHED k.val) + 1) 0xFFFFFFFF ∧
            s.Alters t (OD.RX_UNMATCHED k.val :: port)))) ∧
    (∀ (f : CanFrame) (held : Bool), s.canOnBus k.val = false → exec (.canRxFrame k f held) s = .next s) ∧
    (∀ o : Fin 32, s.txActive k.val o.val = true → tec + 8 ≤ 255 → rc ≤ 255 →
      let x := s.canTx k.val o.val
      let errs (n : Nat) (t : State) : Prop :=
        t.nat (OD.TEC_REC k.val) = n * 256 + rc ∧ t.nat (OD.PORT_STATE k.val) = (if 127 < n ∨ 127 < rc then 3 else 2)
      (∀ stamp loop : Nat, s.nat (OD.TDC_MODE k.val) ≠ 1 →
        ∃ t, exec (.canTxDone k o (.sent stamp loop)) s = .next t ∧ errs (tec - 1) t ∧ t.bit (OD.TX_STATE k.val o.val) 1 = false ∧
          t.bit (OD.TX_STATE k.val o.val) 0 = true ∧ t.nat (OD.TX_STAMP k.val o.val) = stamp % 2 ^ 32 ∧
          t.canTx k.val o.val = { x with trig := false, bitErrs := 0, ackErrs := 0 } ∧
          Emit.can k.val (s.nat (OD.TX_ID k.val o.val) % 2 ^ 29) ((s.nat (OD.TX_ID k.val o.val)).testBit 31) (s.nat (OD.TX_FORMAT k.val o.val))
            (s.octets (OD.TX_DATA k.val o.val)) ∈ t.out ∧ s.Alters t (OD.TX_STAMP k.val o.val :: port)) ∧
      (∃ t, exec (.canTxDone k o .lost) s = .next t ∧ t.canTx k.val o.val = { x with trig := false } ∧ t.nat (OD.TEC_REC k.val) = s.nat (OD.TEC_REC k.val) ∧
        t.bit (OD.TX_STATE k.val o.val) 1 =
          (if x.trig = true ∨ s.flag (OD.TX_SINGLE k.val o.val) = true then false else s.bit (OD.TX_STATE k.val o.val) 1) ∧
        s.Alters t [OD.TX_STATE k.val o.val]) ∧
      (x.ackErrs + 1 < 256 → s.nat (OD.PORT_STATE k.val) = 2 →
        ∃ t, exec (.canTxDone k o .ackError) s = .next t ∧ errs (tec + 8) t ∧ (t.canTx k.val o.val).ackErrs = x.ackErrs + 1) ∧
      (x.ackErrs + 1 < 256 → s.nat (OD.PORT_STATE k.val) = 3 →
        ∃ t, exec (.canTxDone k o .ackError) s = .next t ∧ t.nat (OD.TEC_REC k.val) = s.nat (OD.TEC_REC k.val) ∧
          (t.canTx k.val o.val).ackErrs = x.ackErrs + 1) ∧
      (256 ≤ x.ackErrs + 1 →
        ∃ t, exec (.canTxDone k o .ackError) s = .next t ∧ t.bit (OD.TX_STATE k.val o.val) 3 = true ∧ t.bit (OD.TX_STATE k.val o.val) 1 = false ∧
          t.bit (OD.CAN_FLAGS k.val) 0 = true) ∧
      (x.bitErrs + 1 < 3 → ∃ t, exec (.canTxDone k o .bitError) s = .next t ∧ errs (tec + 8) t ∧ (t.canTx k.val o.val).bitErrs = x.bitErrs + 1) ∧
      (3 ≤ x.bitErrs + 1 →
        ∃ t, exec (.canTxDone k o .bitError) s = .next t ∧ errs (tec + 8) t ∧ t.bit (OD.TX_STATE k.val o.val) 2 = true ∧
          (t.canTx k.val o.val).backAt = some s.now) ∧
      (∃ t, exec (.canTxDone k o .otherError) s = .next t ∧ errs (tec + 8) t ∧ (t.canTx k.val o.val).bitErrs = x.bitErrs)) ∧
    (∀ o : Fin 32, s.txActive k.val o.val = true → 255 < tec + 8 →
      ∃ t, exec (.canTxDone k o .otherError) s = .next t ∧ t.nat (OD.PORT_STATE k.val) = 4 ∧ (t.canP k.val).busoffAt = s.now ∧
        t.nat (OD.BUSOFF_COUNT k.val) = Nat.min (s.nat (OD.BUSOFF_COUNT k.val) + 1) 0xFFFFFFFF) ∧
    (∀ (o : Fin 32) (res : CanOutcome), s.txActive k.val o.val = false → exec (.canTxDone k o res) s = .next s) ∧
    (∀ (o : Fin 32) (a : Nat), (s.canTx k.val o.val).backAt = some a → s.past a (ms (s.nat (OD.ID_BACKOFF k.val))) = true →
      ∃ t, exec (.canIdBackoffEnd k o) s = .next t ∧ (t.canTx k.val o.val).backAt = none ∧ t.bit (OD.TX_STATE k.val o.val) 2 = false ∧
        s.Alters t [OD.TX_STATE k.val o.val] ∧ State.Recorded { s with can := t.can } t) ∧
    (s.nat (OD.PORT_STATE k.val) = 4 →
      (s.flag (OD.BUSOFF_AUTO k.val) = true ∧ s.past (s.canP k.val).busoffAt (ms (s.nat (OD.BUSOFF_DELAY k.val))) = true ∨
        s.flag (OD.BUSOFF_AUTO k.val) = false ∧ (s.canP k.val).recoverAsked = true) →
      ∃ t, exec (.canBusoffRecover k) s = .next t ∧ t.nat (OD.PORT_STATE k.val) = 2 ∧ t.nat (OD.TEC_REC k.val) = 0 ∧
        (t.canP k.val).recoverAsked = false ∧ s.Alters t [OD.PORT_STATE k.val, OD.TEC_REC k.val, OD.CAN_FLAGS k.val]) ∧
    (∀ session : Nat, s.Serves → s.unlessBusy (6 + k.val) (s.roleRefusal session) = none →
      (s.nat (OD.PORT_STATE k.val) = 4 →
        ∃ t, exec (.busRecover session k) s = .next t ∧ t.Answered session Reply.ok ∧ (t.canP k.val).recoverAsked = true ∧ s.Alters t [] ∧
          State.Recorded { s with can := t.can, hosts := t.hosts } t) ∧
      (s.nat (OD.PORT_STATE k.val) ≠ 4 →
        ∃ t, exec (.busRecover session k) s = .next t ∧ t.Answered session Reply.wrongState ∧ t.can = s.can ∧ s.Alters t []) ∧
      (∀ o : Fin 32, o.val < 28 → s.bit (OD.TX_STATE k.val o.val) 3 = false → (s.nat (OD.TT_MODE k.val) = 0 ∨ s.triggered k.val o.val = false) →
        ∃ t, exec (.canTxReq session k o 1) s = .next t ∧ t.Answered session Reply.ok ∧ t.bit (OD.TX_STATE k.val o.val) 1 = true ∧
          s.Alters t [OD.TX_STATE k.val o.val] ∧ State.Recorded { s with hosts := t.hosts } t) ∧
      (∀ (o : Fin 32) (v : Nat), v ≠ 1 → ∃ t, exec (.canTxReq session k o v) s = .next t ∧ t.Answered session Reply.outOfRange ∧ s.Alters t []) ∧
      (∀ o : Fin 32, 28 ≤ o.val → ∃ t, exec (.canTxReq session k o 1) s = .next t ∧ t.Answered session Reply.wrongState ∧ s.Alters t [])) ∧
    (∀ counter : BitVec 32, s.canOnBus k.val = true →
      ∃ t, exec (.canTsPair k counter) s = .next t ∧ t.octets (OD.CAN_TS_PAIR k.val) = leBytes 4 counter.toNat ++ leBytes 8 s.ltc ∧
        s.Alters t [OD.CAN_TS_PAIR k.val] ∧ s.Recorded t) ∧
    (∀ cmd node : Nat, s.canOnBus k.val = true → s.canOpen k.val = true → (node = 0 ∨ node = s.nat (OD.NODE_ID k.val)) →
      ∃ t, exec (.canopenNmt k cmd node) s = .next t ∧ s.Alters t [OD.NMT_STATE k.val] ∧
        t.nat (OD.NMT_STATE k.val) =
          (if cmd = 1 then 5 else if cmd = 2 then 4 else if cmd = 128 ∨ cmd = 129 ∨ cmd = 130 then 127 else s.nat (OD.NMT_STATE k.val)) ∧
        ((cmd = 129 ∨ cmd = 130) → t.out.head? = some (.can k.val (0x700 + s.nat (OD.NODE_ID k.val)) false 0 [0]))) ∧
    (s.canOnBus k.val = true → s.canOpen k.val = true → s.nat (OD.HB_PERIOD k.val) ≠ 0 →
      s.past (s.canP k.val).hbAt (ms (s.nat (OD.HB_PERIOD k.val))) = true →
      ∃ t, exec (.canopenHeartbeat k) s = .next t ∧ (t.canP k.val).hbAt = s.now ∧ t.dict = s.dict ∧
        t.out = .can k.val (0x700 + s.nat (OD.NODE_ID k.val)) false 0 [BitVec.ofNat 8 (s.nat (OD.NMT_STATE k.val))] :: s.out)

/-- R385–R389: the reference of a time-triggered port, received or sent by its master; its loss; and a column that opens. -/
def Obligations.Can_schedule : Prop :=
  ∀ (s : State) (k : Fin 2),
    let c := s.canP k.val
    let framed (t : State) (keys : List Nat) : Prop := s.Alters t keys ∧ State.Recorded { s with can := t.can } t
    (∀ (prio : Fin 8) (cycle : Fin 64), s.nat (OD.TT_MODE k.val) ≠ 0 → s.canOnBus k.val = true →
      ∃ t, exec (.ttReference k prio cycle) s = .next t ∧ t.nat (OD.TT_STATE k.val) = 3 ∧ (t.canP k.val).prio = some prio.val ∧
        (t.canP k.val).refAt = s.now ∧ (t.canP k.val).refSeen = true ∧ (t.canP k.val).schedDue = false ∧
        t.nat (OD.CYCLE_COUNT k.val) = (if c.schedDue then 0 else cycle.val) ∧
        framed t [OD.TT_STATE k.val, OD.CAN_FLAGS k.val, OD.CYCLE_COUNT k.val]) ∧
    (∀ (prio : Fin 8) (cycle : Fin 64), (s.nat (OD.TT_MODE k.val) = 0 ∨ s.canOnBus k.val = false) → exec (.ttReference k prio cycle) s = .next s) ∧
    (s.nat (OD.TT_MODE k.val) = 1 → s.canOnBus k.val = true → s.standbyModule = false → s.refDue k.val = true →
      ∃ t, exec (.ttRefDue k true) s = .next t ∧ t.nat (OD.TT_STATE k.val) = 2 ∧ (t.canP k.val).refAt = s.now ∧ (t.canP k.val).schedDue = false ∧
        t.nat (OD.CYCLE_COUNT k.val) =
          (if s.nat (OD.TT_STATE k.val) = 2 ∧ c.schedDue = false then (s.nat (OD.CYCLE_COUNT k.val) + 1) % Nat.max c.sched.cycles 1 else 0) ∧
        t.out.head? = some (.can k.val (s.nat (OD.TT_REF_ID k.val)) false 0 [BitVec.ofNat 8 (t.nat (OD.CYCLE_COUNT k.val))]) ∧
        framed t [OD.TT_STATE k.val, OD.CAN_FLAGS k.val, OD.CYCLE_COUNT k.val]) ∧
    exec (.ttRefDue k false) s = .next s ∧
    (1 ≤ s.nat (OD.TT_STATE k.val) → s.nat (OD.TT_STATE k.val) ≤ 3 → c.sched.len ≠ 0 → s.past c.refAt (s.ntuTicks k.val (2 * c.sched.len)) = true →
      ∃ t, exec (.ttSyncLost k) s = .next t ∧ t.nat (OD.TT_STATE k.val) = 4 ∧ t.bit (OD.CAN_FLAGS k.val) 1 = true ∧ (t.canP k.val).arb = false ∧
        (∀ o : Fin 32, (t.canTx k.val o.val).trig = false) ∧ framed t [OD.TT_STATE k.val, OD.CAN_FLAGS k.val]) ∧
    (∀ w : Fin 32,
      let col := c.sched.cols.getD w.val 0
      let due := (c.sched.trigs.filter fun t => decide (trigCol t = w.val) && trigDue t (s.nat (OD.CYCLE_COUNT k.val))).map trigObj
      (s.nat (OD.TT_STATE k.val) = 2 ∨ s.nat (OD.TT_STATE k.val) = 3) → c.refSeen = true → s.past c.refAt (s.ntuTicks k.val (colStart col)) = true →
      s.standbyModule = false →
      (s.now ≤ c.refAt + s.ntuTicks k.val (colStart col + colTx col) → ∀ o, colType col = 2 → due.head? = some o →
        s.bit (OD.TX_STATE k.val o) 2 = false → (s.nat OD.FF_PORT ≠ k.val + 1 ∨ s.nat OD.FF_TX_OBJECT ≠ o ∨ s.nat OD.DC_MODE = 0) →
        ∃ t, exec (.ttColumnOpen k w) s = .next t ∧ (t.canTx k.val o).trig = true ∧ (∀ x : Fin 32, x.val ≠ o → (t.canTx k.val x.val).trig = false) ∧
          (t.canP k.val).arb = false ∧
          t.octets (OD.TX_DATA k.val o) =
            (if s.nat OD.FF_PORT = k.val + 1 ∧ s.nat OD.FF_TX_OBJECT = o then (s.ffLatest).getD (s.octets (OD.TX_DATA k.val o))
             else s.octets (OD.TX_DATA k.val o)) ∧ framed t [OD.TX_DATA k.val o]) ∧
      (c.refAt + s.ntuTicks k.val (colStart col + colTx col) < s.now → colType col = 2 ∨ colType col = 3 →
        ∃ t, exec (.ttColumnOpen k w) s = .next t ∧ (∀ x : Fin 32, (t.canTx k.val x.val).trig = false) ∧
          (t.canP k.val).arb = decide (colType col = 3) ∧ framed t []) ∧
      (s.now ≤ c.refAt + s.ntuTicks k.val (colStart col + colTx col) → colType col = 3 ∨ colType col = 4 →
        ∃ t, exec (.ttColumnOpen k w) s = .next t ∧ (∀ o ∈ due, s.bit (OD.TX_STATE k.val o) 2 = false → (t.canTx k.val o).trig = true) ∧
          (t.canP k.val).arb = (if colType col = 3 then true else c.arb) ∧ t.dict = s.dict ∧ framed t []) ∧
      (colType col = 0 → exec (.ttColumnOpen k w) s = .next s))

/-! ### The recorder and capture (chapter 15) -/

/-- R394–R407: an occurrence takes a token and enters the FIFO or is suppressed and counted; tokens and summaries; what is written next; reading, clearing,
freezing. -/
def Obligations.Event_recorder : Prop :=
  ∀ s : State,
    let special (code : Nat) : Prop := code = Ev.REC_CLEARED ∨ code = Ev.REC_OVERFLOW ∨ code = Ev.REC_FROZEN
    (∀ (code : Nat) (detail : BitVec 16) (set : Bool) (origin : Fin 4), ¬special code →
      let b := s.bucket code
      (b.used < s.burst code → s.recorder.frozen = false → s.recorder.fifo.length < 128 → code ≠ Ev.AUX_SUPPLY →
        ∃ t r, exec (.recOccurrence code detail set origin) s = .next t ∧ t.recorder.fifo = s.recorder.fifo ++ [r] ∧ r.code = code ∧
          r.detail = detail.toNat ∧ r.set = set ∧ r.origin = origin.val ∧ r.tai = s.taiNs ∧ r.epoch = s.nat OD.TIME_EPOCH ∧ r.summary = false ∧
          (set = false → r.severity = 0) ∧ r.snap.length ≤ 24 ∧ (t.bucket code).used = b.used + 1 ∧ s.Alters t [] ∧ s.Recorded t) ∧
      (s.burst code ≤ b.used →
        ∃ t, exec (.recOccurrence code detail set origin) s = .next t ∧ t.recorder.fifo = s.recorder.fifo ∧ (t.bucket code).pend = b.pend + 1 ∧
          (t.bucket code).used = b.used ∧ (t.bucket code).lastDetail = detail.toNat ∧
          t.nat (OD.REC_SUPPRESSED code) = Nat.min (s.nat (OD.REC_SUPPRESSED code) + 1) 0xFFFFFFFF ∧ t.out = s.out) ∧
      (b.used < s.burst code → s.recorder.frozen = true →
        ∃ t, exec (.recOccurrence code detail set origin) s = .next t ∧ t.recorder.fifo = s.recorder.fifo ∧
          t.nat OD.FROZEN_LOST = Nat.min (s.nat OD.FROZEN_LOST + 1) 0xFFFFFFFF ∧ t.out = s.out)) ∧
    (∀ code : Nat, 0 < (s.bucket code).used → s.past (s.bucket code).since (s.refill code) = true →
      ((s.bucket code).pend = 0 →
        ∃ t, exec (.recTokenRefill code) s = .next t ∧ (t.bucket code).used = (s.bucket code).used - 1 ∧
          (t.bucket code).since = (s.bucket code).since + s.refill code ∧ t.recorder.fifo = s.recorder.fifo ∧ t.dict = s.dict) ∧
      ((s.bucket code).pend ≠ 0 → s.recorder.frozen = false → s.recorder.fifo.length < 128 →
        ∃ t r, exec (.recTokenRefill code) s = .next t ∧ t.recorder.fifo = s.recorder.fifo ++ [r] ∧ r.code = code ∧ r.summary = true ∧
          r.count = (s.bucket code).pend ∧ r.detail = (s.bucket code).lastDetail % 65536 ∧ (t.bucket code).pend = 0)) ∧
    (∀ (r : Rec) (rest : List Rec), s.bit OD.PR_BUSY 2 = false → s.recorder.aux = none → s.recorder.fifo = r :: rest → s.recorder.lost = [] →
      (s.recorder.ring.map recWords).foldl (· + ·) 0 + recWords r ≤ 520192 - 32 * (vget {} s.power.banks 13).fenced.length →
      ∃ t, exec .recWrite s = .next t ∧ t.recorder.fifo = rest ∧
        t.recorder.ring = s.recorder.ring ++ [{ r with seq := s.recorder.nextSeq, seqWrap := s.recorder.nextWrap }] ∧
        t.recorder.nextSeq = (if s.recorder.nextSeq = 0xFFFFFFFF then 0 else s.recorder.nextSeq + 1) ∧ t.nat OD.NEWEST_SEQ = s.recorder.nextSeq ∧
        t.nat OD.REC_COUNT = s.recorder.ring.length + 1) ∧
    (∀ r : Rec, s.bit OD.PR_BUSY 2 = false → s.recorder.aux = some r →
      ∃ t, exec .recWrite s = .next t ∧ t.recorder.aux = none ∧ t.recorder.fifo = s.recorder.fifo) ∧
    (s.bit OD.PR_BUSY 2 = true → exec .recWrite s = .next s) ∧
    (∀ r : Rec, s.recorder.waiting = [r] → s.recorder.frozen = false → s.recorder.fifo.length < 128 →
      ∃ t, exec .recSummaryRetry s = .next t ∧ t.recorder.waiting = [] ∧ t.recorder.fifo = s.recorder.fifo ++ [s.restamp r]) ∧
    (∀ session : Nat, s.Serves → s.unlessBusy 2 none = none →
      (∃ t, exec (.recDataRead session 0) s = .next t ∧ s.Alters t [] ∧ t.recorder.ring = s.recorder.ring ∧
        t.Answered session (let d := fitRecords 1024 (s.recorder.ring.filter (recPasses (s.cursor session))); ({ qty := d.length, data := d } : Reply))) ∧
      (∀ offset : Nat, offset ≠ 0 →
        ∃ t, exec (.recDataRead session offset) s = .next t ∧ t.Answered session { code := 0x15 } ∧ s.Alters t []) ∧
      (s.recorder.frozen = true →
        ∃ t, exec (.recClear session) s = .next t ∧ t.Answered session Reply.wrongState ∧ t.recorder = s.recorder ∧ s.Alters t []) ∧
      (s.recorder.frozen = false → (vget {} s.power.banks 13).fenced = [] →
        ∃ t r, exec (.recClear session) s = .next t ∧ t.Answered session Reply.ok ∧ t.recorder.ring = [r] ∧ r.code = Ev.REC_CLEARED ∧
          r.session = session ∧ r.count = s.recorder.ring.length ∧ r.seq = s.recorder.nextSeq ∧ t.recorder.fifo = s.recorder.fifo ∧
          t.nat OD.CLEAR_COUNT = Nat.min (s.nat OD.CLEAR_COUNT + 1) 0xFFFFFFFF)) ∧
    (∀ session : Nat, s.Serves → s.unlessBusy 2 (s.roleRefusal session) = none →
      (s.recorder.frozen = false →
        ∃ t, exec (.recFreeze session) s = .next t ∧ t.Answered session Reply.ok ∧ t.recorder.frozen = true ∧ t.nat OD.REC_FREEZE = 1 ∧
          t.nat OD.FROZEN_LOST = 0 ∧ t.recorder.ring = s.recorder.ring) ∧
      (s.recorder.frozen = true →
        ∃ t, exec (.recFreeze session) s = .next t ∧ t.Answered session Reply.ok ∧ t.recorder = s.recorder ∧ s.Alters t []) ∧
      (s.recorder.frozen = true → s.nat OD.LC_STATE ≠ 2 → s.nat OD.LC_STATE ≠ 3 →
        ∃ t, exec (.recUnfreeze session) s = .next t ∧ t.Answered session Reply.ok ∧ t.recorder.frozen = false ∧ t.nat OD.REC_FREEZE = 0 ∧
          t.recorder.ring = s.recorder.ring) ∧
      (s.nat OD.LC_STATE = 2 ∨ s.nat OD.LC_STATE = 3 →
        ∃ t, exec (.recUnfreeze session) s = .next t ∧ t.Answered session Reply.wrongState ∧ t.recorder = s.recorder ∧ s.Alters t []))

/-- R408–R418: a stream armed, stopped, triggered, sampled, frozen, armed again, read, sent, paused and resumed, and its rate. -/
def Obligations.Capture_streams : Prop :=
  ∀ (s : State) (q : Fin 4),
    let x := s.strm q.val
    let st := s.nat (OD.STREAM_STATE q.val)
    let touched := [OD.STREAM_STATE q.val, OD.BACKLOG q.val, OD.DEC_EXP_NOW q.val]
    (∀ session : Nat, s.Serves → s.unlessBusy 3 (s.roleRefusal session) = none →
      (s.nat (OD.STREAM_MODE q.val) ≠ 0 → s.nSig q.val ≠ 0 → s.domainOn 15 = true → s.captFenced q.val = false →
        ∃ t, exec (.captArm session q) s = .next t ∧ t.Answered session Reply.ok ∧ (t.strm q.val).blocks = [] ∧ (t.strm q.val).idx = 0 ∧
          t.nat (OD.STREAM_STATE q.val) = (if s.nat (OD.STREAM_MODE q.val) = 3 then (if x.paused then 6 else 5) else 1) ∧
          t.nat (OD.BACKLOG q.val) = 0 ∧ t.nat (OD.DEC_EXP_NOW q.val) = s.nat (OD.DEC_EXP_MIN q.val) ∧ s.Alters t touched) ∧
      (s.nat (OD.STREAM_MODE q.val) = 0 ∨ s.nSig q.val = 0 ∨ s.domainOn 15 = false ∨ s.captFenced q.val = true →
        ∃ t, exec (.captArm session q) s = .next t ∧ t.Answered session Reply.wrongState ∧ t.streams = s.streams ∧ s.Alters t []) ∧
      (∃ t, exec (.captStop session q) s = .next t ∧ t.Answered session Reply.ok ∧ t.nat (OD.STREAM_STATE q.val) = 0 ∧ (t.strm q.val).blocks = [] ∧
        s.Alters t touched) ∧
      (st = 1 ∨ st = 5 ∨ st = 6 →
        ∃ t, exec (.trigNow session q) s = .next t ∧ t.Answered session Reply.ok ∧ t.nat (OD.STREAM_STATE q.val) = (if st = 1 then 2 else st) ∧
          t.nat (OD.TRIG_COUNT q.val) = Nat.min (s.nat (OD.TRIG_COUNT q.val) + 1) 0xFFFFFFFF ∧ t.int (OD.CAPT_T_TRIG q.val) = s.tai80 ∧
          (t.strm q.val).hold = some (s.now, 0) ∧ (t.strm q.val).postLeft = (if st = 1 then some (s.postBlocks q.val) else x.postLeft) ∧
          (t.strm q.val).blocks = x.blocks ∧ s.Alters t [OD.STREAM_STATE q.val, OD.TRIG_COUNT q.val, OD.CAPT_T_TRIG q.val]) ∧
      (st = 2 ∨ st = 3 →
        ∃ t, exec (.trigNow session q) s = .next t ∧ t.Answered session Reply.ok ∧ t.nat (OD.STREAM_STATE q.val) = st ∧
          t.nat (OD.TRIG_MISSED q.val) = Nat.min (s.nat (OD.TRIG_MISSED q.val) + 1) 0xFFFFFFFF ∧ s.Alters t [OD.TRIG_MISSED q.val]) ∧
      (st = 0 ∨ st = 4 →
        ∃ t, exec (.trigNow session q) s = .next t ∧ t.Answered session Reply.wrongState ∧ t.streams = s.streams ∧ s.Alters t [])) ∧
    (∀ (session offset : Nat), s.Serves → s.unlessBusy 3 none = none →
      let all := s.windowBytes q.val
      (all.length < offset →
        ∃ t, exec (.captDataRead session q offset) s = .next t ∧ t.Answered session { code := 0x15, qty := all.length } ∧ t.streams = s.streams ∧
          s.Alters t []) ∧
      (offset ≤ all.length →
        ∃ t, exec (.captDataRead session q offset) s = .next t ∧ t.Answered session { qty := all.length, data := (all.drop offset).take 1024 } ∧
          (all ≠ [] → all.length ≤ offset + 1024 → (t.strm q.val).readEnd = true) ∧ (t.strm q.val).blocks = x.blocks ∧ s.Alters t [])) ∧
    (∀ t0 n, x.hold = some (t0, n) →
      (s.nat (OD.HOLD_MODE q.val) = 0 → s.past t0 (us (s.nat (OD.HOLD_TIME q.val))) = true →
        ∃ t, exec (.captHoldoffEnd q) s = .next t ∧ t.strm q.val = { x with hold := none } ∧ t.dict = s.dict) ∧
      (s.nat (OD.HOLD_MODE q.val) ≠ 0 → s.nat (OD.HOLD_EVENTS q.val) ≤ n →
        ∃ t, exec (.captHoldoffEnd q) s = .next t ∧ t.strm q.val = { x with hold := none } ∧ t.dict = s.dict)) ∧
    (∀ g, s.domainOn 15 = true → s.gridInstant q.val = some g → g ≠ x.lastAt → (st = 1 ∨ st = 2 ∨ st = 5 ∨ st = 6) → x.decPending = none →
      s.derivedShed q.val = x.shedding → x.evTrig = [] →
      (∀ p, x.prev = some p → s.trigCond q.val p (s.blockValues q.val) = false) → (∀ m, m < 8 → s.flag (OD.MASK_EN m) = false) →
      ∃ t, exec (.captGridSample q) s = .next t ∧ (t.strm q.val).idx = x.idx + 1 ∧ (t.strm q.val).prev = some (s.blockValues q.val) ∧
        (t.strm q.val).lastAt = g ∧ (t.strm q.val).per = g - x.lastAt ∧ t.nat (OD.STREAM_STATE q.val) = st ∧
        (x.idx % 2 ^ x.dec = 0 → x.postLeft ≠ some 0 →
          (t.strm q.val).blocks = (x.blocks ++ [({ idx := x.idx, at1 := g, tai := nsOf g % 2 ^ 64, epoch := s.nat OD.TIME_EPOCH, dec := x.dec, invalid := s.derivedShed q.val, vals := s.blockValues q.val } : CapBlock)]).drop
            (x.blocks.length + 1 - (if st = 1 then s.preBlocks q.val else s.capBlocks q.val)) ∧
          (t.strm q.val).postLeft = x.postLeft.map (· - 1)) ∧
        (x.idx % 2 ^ x.dec ≠ 0 ∨ x.postLeft = some 0 → (t.strm q.val).blocks = x.blocks ∧ (t.strm q.val).postLeft = x.postLeft) ∧
        s.Alters t [OD.BACKLOG q.val, OD.DEC_EXP_NOW q.val, OD.BLOCKS_DROPPED q.val]) ∧
    (s.streamHears q.val = false ∨ s.domainOn 15 = false ∨ s.gridInstant q.val = none ∨ s.gridInstant q.val = some x.lastAt →
      exec (.captGridSample q) s = .next s) ∧
    (x.postLeft = some 0 →
      ∃ t, exec (.captFreeze q) s = .next t ∧ t.nat (OD.STREAM_STATE q.val) = (if x.byMask then 4 else 3) ∧ (t.strm q.val).postLeft = none ∧
        (t.strm q.val).blocks = x.blocks ∧ s.Alters t [OD.STREAM_STATE q.val]) ∧
    (s.nat (OD.STREAM_MODE q.val) = 2 → st = 3 → x.hold = none → (x.readEnd = true ∨ x.blocks.length ≤ x.sent) →
      ∃ t, exec (.captRearm q) s = .next t ∧ t.nat (OD.STREAM_STATE q.val) = 1 ∧ (t.strm q.val).blocks = [] ∧ s.Alters t touched) ∧
    (st = 5 ∨ st = 6 → (∀ c, x.changedAt = some c → s.past c (ms 10) = true) →
      let n := x.blocks.length * 4 * s.nSig q.val
      let cur := x.decPending.getD x.dec
      (12582912 < n → cur < 15 →
        ∃ t, exec (.streamRate q) s = .next t ∧ t.strm q.val = { x with decPending := some (cur + 1), changedAt := some s.now } ∧ t.dict = s.dict) ∧
      (n < 4194304 → s.nat (OD.DEC_EXP_MIN q.val) < cur →
        ∃ t, exec (.streamRate q) s = .next t ∧ t.strm q.val = { x with decPending := some (cur - 1), changedAt := some s.now } ∧ t.dict = s.dict) ∧
      (4194304 ≤ n → n ≤ 12582912 → exec (.streamRate q) s = .next s)) ∧
    (s.nat (OD.STREAM_ETH q.val) ≠ 0 → s.ethUp (s.nat (OD.STREAM_ETH q.val) - 1) = true → x.paused = false →
      (s.octets (OD.STREAM_DEST q.val)).any (· ≠ 0) = true → (st = 5 ∨ st = 3 ∨ st = 4 ∨ (st = 2 ∧ s.nat (OD.STREAM_MODE q.val) = 3)) → x.sent < x.blocks.length →
      x.sendAt ≤ s.now → s.launchGuard (s.nat (OD.STREAM_ETH q.val) - 1) = false →
      ∃ t payload, exec (.streamPacketSend q) s = .next t ∧ t.out.head? = some (.stream q.val payload) ∧
        t.nat (OD.PKT_SENT q.val) = (s.nat (OD.PKT_SENT q.val) + 1) % 2 ^ 32 ∧ (t.strm q.val).gap = 0 ∧ s.now ≤ (t.strm q.val).sendAt ∧
        (st = 3 ∨ st = 4 → (t.strm q.val).blocks = x.blocks) ∧
        s.Alters t [OD.PKT_SENT q.val, OD.TX_FRAMES (s.nat (OD.STREAM_ETH q.val) - 1), OD.BACKLOG q.val, OD.DEC_EXP_NOW q.val]) ∧
    (∀ (src : BitVec 128) (srcPort : BitVec 16),
      (s.nat (OD.STREAM_ETH q.val) ≠ 0 → s.octets (OD.STREAM_DEST q.val) = beBytes 16 src.toNat ++ beBytes 2 srcPort.toNat →
        (∃ t, exec (.streamPause q src srcPort) s = .next t ∧ (t.strm q.val).paused = true ∧
          t.nat (OD.STREAM_STATE q.val) = (if st = 5 then 6 else st) ∧ s.Alters t [OD.STREAM_STATE q.val]) ∧
        (∃ t, exec (.streamResume q src srcPort) s = .next t ∧ (t.strm q.val).paused = false ∧
          t.nat (OD.STREAM_STATE q.val) = (if st = 6 then 5 else st) ∧ s.Alters t [OD.STREAM_STATE q.val])) ∧
      (s.nat (OD.STREAM_ETH q.val) = 0 ∨ s.octets (OD.STREAM_DEST q.val) ≠ beBytes 16 src.toNat ++ beBytes 2 srcPort.toNat →
        exec (.streamPause q src srcPort) s = .next s ∧ exec (.streamResume q src srcPort) s = .next s))

/-! ### The safety island (chapter 16) -/

/-- R425–R434, R436–R439, R445: what ends the permission of the gates, how it is decided, and how it returns. -/
def Obligations.Safety_causes : Prop :=
  ∀ s : State, s.variant = .S →
    let demands (bit : Nat) (t : State) : Prop :=
      t.bit OD.SGB_CAUSE bit = true ∧ t.nat OD.SAFETY_STATE = t.safetyState ∧ t.safety.ended.testBit bit = false ∧
      (s.nat OD.SGB_CAUSE = 0 → t.nat OD.SGB_COUNT = Nat.min (s.nat OD.SGB_COUNT + 1) 0xFFFFFFFF ∧ t.int OD.SGB_TIME = s.tai80 ∧
        t.safety.gateAt = some s.now ∧ t.bit OD.TRIP_LATCH 8 = true) ∧
      (s.nat OD.SGB_CAUSE ≠ 0 → t.safety.gateAt = s.safety.gateAt ∧ t.pwm = s.pwm ∧
        s.Alters t [OD.SGB_CAUSE, OD.SAFETY_STATE, OD.SIN_LEVEL, OD.SOS_INPUT])
    let fault (cause code : Nat) (t : State) : Prop :=
      t.bit OD.SGB_CAUSE cause = true ∧ t.nat OD.SAFETY_STATE = 4 ∧ t.nat OD.OUT_LEVEL = 0 ∧ t.safety.gateAt = none ∧
      t.nat OD.DIAG_CODE = (if s.nat OD.DIAG_CODE = 0 then code else s.nat OD.DIAG_CODE)
    let ends (bit : Nat) (t : State) : Prop :=
      (s.bit OD.SGB_CAUSE bit = true → t.safety.ended.testBit bit = true ∧ t.nat OD.SAFETY_STATE = t.safetyState) ∧
      t.nat OD.SGB_CAUSE = s.nat OD.SGB_CAUSE ∧ s.Alters t [OD.SAFETY_STATE, OD.SIN_LEVEL, OD.SOS_INPUT]
    (s.nat OD.SAFETY_STATE ≠ 4 →
      (∀ (i : Fin 2) (chB : Bool), s.sinMode i.val ≠ 0 →
        (∃ t, exec (.sinDemand i chB) s = .next t ∧ demands (1 + i.val) t ∧ t.bit OD.SIN_LEVEL (2 * i.val + (if chB then 1 else 0)) = false ∧
          vget none t.safety.highSince i.val = none ∧
          (vget false s.safety.bothLow i.val = false → vget false t.safety.bothLow i.val =
            (!t.bit OD.SIN_LEVEL (2 * i.val) && !t.bit OD.SIN_LEVEL (2 * i.val + 1)))) ∧
        (∃ t, exec (.sinDiscrepancy i) s = .next t ∧ demands (5 + i.val) t ∧ vget false t.safety.bothLow i.val = false)) ∧
      (∀ i : Fin 2, s.sinMode i.val ≠ 0 ∨ s.bit OD.SGB_CAUSE (1 + i.val) = true →
        (∃ t, exec (.sinChannelsHigh i) s = .next t ∧ ends (1 + i.val) t ∧ t.bit OD.SIN_LEVEL (2 * i.val) = true ∧
          t.bit OD.SIN_LEVEL (2 * i.val + 1) = true ∧ vget none t.safety.highSince i.val = some ((vget none s.safety.highSince i.val).getD s.now))) ∧
      (∀ (i : Fin 2) (chB : Bool), s.sinMode i.val = 0 → exec (.sinDemand i chB) s = .next s ∧ exec (.sinDiscrepancy i) s = .next s ∧
        (s.bit OD.SGB_CAUSE (1 + i.val) = false → exec (.sinChannelsHigh i) s = .next s)) ∧
      (∀ i : Fin 2,
        (∀ t0, vget false s.safety.bothLow i.val = true → vget none s.safety.highSince i.val = some t0 → s.past t0 (ms 100) = true →
          ∃ t, exec (.sinFaultEnd i) s = .next t ∧ ends (5 + i.val) t) ∧
        (vget false s.safety.bothLow i.val = false ∨ vget none s.safety.highSince i.val = none → exec (.sinFaultEnd i) s = .next s)) ∧
      (∀ (i : Fin 2) (chB : Bool), s.sinMode i.val = 1 →
        let c := 2 * i.val + (if chB then 1 else 0)
        (vget false s.safety.pulseFail c = true → s.sinFaulty i.val = false → ∃ t, exec (.sinTestPulse i chB false) s = .next t ∧ demands (5 + i.val) t) ∧
        (vget false s.safety.pulseFail c = true → s.sinFaulty i.val = true →
          ∃ t, exec (.sinTestPulse i chB false) s = .next t ∧ vget false t.safety.bothLow i.val = false ∧ t.dict = s.dict) ∧
        (vget false s.safety.pulseFail c = false →
          ∃ t, exec (.sinTestPulse i chB false) s = .next t ∧ vget false t.safety.pulseFail c = true ∧ t.dict = s.dict) ∧
        (∃ t, exec (.sinTestPulse i chB true) s = .next t ∧ vget false t.safety.pulseFail c = false ∧ t.dict = s.dict)) ∧
      (∀ v : F32, s.flag OD.SOS_EN = true →
        (flt (s.f32 OD.SOS_THRESH) v = true → ∃ t, exec (.sos v) s = .next t ∧ demands 4 t ∧ t.f32 OD.SOS_INPUT = v) ∧
        (s.sosWireBad v = true → ∃ t, exec (.sosWireFault v) s = .next t ∧ demands 4 t ∧ t.f32 OD.SOS_INPUT = v) ∧
        (∃ t, exec (.sosTestInjection false) s = .next t ∧ fault 10 (7 * 256) t) ∧ exec (.sosTestInjection true) s = .next s) ∧
      (∀ v : F32, flt v (fsub (s.f32 OD.SOS_THRESH) (s.f32 OD.SOS_HYST)) = true → s.sosWireBad v = false →
        ∃ t, exec (.sosBelowHysteresis v) s = .next t ∧ ends 4 t ∧ t.f32 OD.SOS_INPUT = v)) ∧
    (∀ t0 (reaction : BitVec 16), s.safety.gateAt = some t0 → s.past t0 (us (s.nat OD.SGB_GATE_DELAY)) = true →
      ∃ t, exec (.sgbGateDelayExpired reaction) s = .next t ∧ t.nat OD.OUT_LEVEL = 0 ∧ t.nat OD.LAST_REACTION = reaction.toNat ∧
        t.safety = { s.safety with gateAt := none } ∧ s.Alters t [OD.OUT_LEVEL, OD.LAST_REACTION]) ∧
    (s.nat OD.SAFETY_STATE = 3 → s.nat OD.SGB_RESET_MODE = 1 → s.nat OD.SGB_CAUSE < 8 →
      (∀ i, i < 2 → s.sinMode i = 0 ∨ ∃ t0, vget none s.safety.highSince i = some t0 ∧ s.past t0 (ms 100) = true) →
      ∃ t, exec .sgbAutoRelease s = .next t ∧ t.nat OD.SGB_CAUSE = 0 ∧ t.nat OD.OUT_LEVEL = 7 ∧ t.nat OD.SAFETY_STATE = 1 ∧
        t.bit OD.TRIP_LATCH 8 = false ∧ t.safety = { s.safety with ended := 0, gateAt := none } ∧
        s.Alters t [OD.SGB_CAUSE, OD.OUT_LEVEL, OD.SAFETY_STATE, OD.TRIP_LATCH, OD.TRIP_FIRST]) ∧
    (s.nat OD.SGB_RESET_MODE ≠ 1 ∨ 8 ≤ s.nat OD.SGB_CAUSE → exec .sgbAutoRelease s = .next s) ∧
    (∀ (row : Nat) (detail : BitVec 8), 1 ≤ row → row ≤ 7 →
      ∃ t, exec (.safetyDiag row detail) s = .next t ∧ fault 10 (row * 256 + detail.toNat) t) ∧
    (∀ k : Fin 3,
      (∃ t, exec (.gateEnFault k) s = .next t ∧ fault 9 (8 * 256 + k.val) t) ∧
      (s.bit OD.OUT_LEVEL k.val = true → ∃ t, exec (.outputOffTest k false) s = .next t ∧ fault 9 (8 * 256 + k.val) t) ∧
      exec (.outputOffTest k true) s = .next s) ∧
    (s.nat OD.SAFETY_STATE = 0 → s.nat OD.SGB_CAUSE = 1 →
      (s.flag OD.PW_SET = true → s.nat OD.SCS_ACK = s.scs →
        ∃ t, exec .islandSelfTestDone s = .next t ∧ t.nat OD.SAFETY_STATE = 3 ∧ t.nat OD.SCS = s.scs ∧ t.nat OD.SGB_CAUSE = 1) ∧
      (s.flag OD.PW_SET = false →
        ∃ t, exec .islandSelfTestDone s = .next t ∧ t.nat OD.SCS = s.scs ∧ t.bit OD.SGB_CAUSE 8 = true ∧
          t.nat OD.SAFETY_STATE = 2))

/-- R440–R444, R483: safety logins, their passwords and lockouts; staged safety settings applied or discarded; the acknowledgement of SCS; and the test of
the gates. -/
def Obligations.Safety_sessions : Prop :=
  ∀ (s : State) (session : Nat), s.variant = .S → s.Serves →
    let p := sessPort session
    (∀ pw : List Byte, s.roleRefusal session = none →
      (∀ n, utf8Chars pw = some n → 12 ≤ n → n ≤ 64 → s.lockoutTicks p = 0 →
        ∃ t, exec (.safetyLogin session pw) s = .next t ∧ t.safety = { s.safety with verifying := s.safety.verifying ++ [(session, none, pw)] } ∧
          t.out = s.out ∧ s.Alters t []) ∧
      (∀ n, utf8Chars pw = some n → 12 ≤ n → n ≤ 64 → s.lockoutTicks p ≠ 0 →
        ∃ t, exec (.safetyLogin session pw) s = .next t ∧ t.safety = s.safety ∧ s.Alters t [] ∧
          t.Answered session { code := 0x62, time := timeField ((s.lockoutTicks p + 624999) / 625000) }) ∧
      (∀ n, utf8Chars pw = some n → n < 12 ∨ 64 < n →
        ∃ t, exec (.safetyLogin session pw) s = .next t ∧ t.safety = s.safety ∧ t.Answered session Reply.outOfRange ∧ s.Alters t [])) ∧
    (∀ pw : List Byte, p < 5 → (s.safety.verifying.find? fun x => decide (x.1 = session)) = some (session, none, pw) →
      (s.passwordOk pw = true →
        ∃ t, exec (.safetyLoginVerified session) s = .next t ∧ t.Answered session Reply.ok ∧ t.loggedIn session = true ∧ vget 0 t.safety.fails p = 0 ∧
          s.Alters t []) ∧
      (s.passwordOk pw = false → vget 0 s.safety.fails p + 1 < 5 →
        ∃ t, exec (.safetyLoginVerified session) s = .next t ∧ t.Answered session { code := 0x61, detail := vget 0 s.safety.fails p + 1 } ∧
          vget 0 t.safety.fails p = vget 0 s.safety.fails p + 1 ∧ t.safety.logins = s.safety.logins ∧ t.safety.lockUntil = s.safety.lockUntil ∧
          s.Alters t []) ∧
      (s.passwordOk pw = false → 5 ≤ vget 0 s.safety.fails p + 1 →
        ∃ t, exec (.safetyLoginVerified session) s = .next t ∧ t.Answered session { code := 0x61, detail := vget 0 s.safety.fails p + 1 } ∧
          vget none t.safety.lockUntil p =
            some (s.now + sec (60 * (if vget 0 s.safety.lockMin p = 0 then 10 else Nat.min (2 * vget 0 s.safety.lockMin p) 1440))) ∧
          t.safety.logins = s.safety.logins)) ∧
    (∀ (k : Fin 5) (t0 : Nat), vget none s.safety.lockUntil k.val = some t0 → t0 ≤ s.now →
      ∃ t, exec (.portLockoutEnd k) s = .next t ∧ vget none t.safety.lockUntil k.val = none ∧ t.dict = s.dict ∧
        State.Recorded { s with safety := t.safety } t) ∧
    ((s.safety.logins.any fun x => decide (x.1 = session) && s.past x.2 (sec 900)) = true →
      ∃ t, exec (.safetyLoginTimeout session) s = .next t ∧ t.loggedIn session = false ∧ t.safetyStaged session = [] ∧ t.dict = s.dict) ∧
    (s.roleRefusal session = none →
      (∃ t, exec (.safetyLogout session) s = .next t ∧ t.Answered session Reply.ok ∧ t.loggedIn session = false ∧ s.Alters t []) ∧
      (∃ t, exec (.safetyDiscard session) s = .next t ∧ t.Answered session Reply.ok ∧ t.safetyStaged session = [] ∧
        t.safety.logins = s.safety.logins ∧ s.Alters t []) ∧
      (∀ (pw : List Byte) (n : Nat), utf8Chars pw = some n →
        ((s.flag OD.PW_SET = false ∧ session = 0x40) ∨ (s.loggedIn session = true ∧ s.flag OD.PW_SET = true) → 12 ≤ n → n ≤ 64 → s.secretsBarred = false →
          ∃ t salt, exec (.safetyPwNew session pw) s = .next t ∧ t.Answered session Reply.ok ∧ t.flag OD.PW_SET = true ∧
            t.safety.hash = some (salt, Config.passwordHash salt pw) ∧ t.passwordOk pw = true) ∧
        ((s.flag OD.PW_SET = true ∨ session ≠ 0x40) → s.loggedIn session = false →
          ∃ t, exec (.safetyPwNew session pw) s = .next t ∧ t.Answered session { code := 0x60 } ∧ t.safety = s.safety ∧ s.Alters t []))) ∧
    (s.rwsRefusal session = none →
      (∀ v : BitVec 32,
        (v.toNat = s.nat OD.SCS →
          ∃ t, exec (.scsAck session v) s = .next t ∧ t.Answered session Reply.ok ∧ t.nat OD.SCS_ACK = v.toNat ∧
            s.Alters t [OD.SCS_ACK, OD.SAFETY_STATE, OD.LOG_NEXT, OD.LOG_COUNT, OD.LOG_FIRST]) ∧
        (v.toNat ≠ s.nat OD.SCS →
          ∃ t, exec (.scsAck session v) s = .next t ∧ t.Answered session Reply.outOfRange ∧ t.nat OD.SCS_ACK = s.nat OD.SCS_ACK ∧ s.Alters t [])) ∧
      (∃ t, exec (.sgbTest session) s = .next t ∧ t.Answered session Reply.ok ∧ t.bit OD.SGB_CAUSE 3 = true ∧ t.safety.ended.testBit 3 = true) ∧
      (s.secretsBarred = true ∨ s.nat OD.SGB_CAUSE = 0 ∨ s.nat OD.SAFETY_STATE = 4 →
        ∃ t, exec (.safetyApply session) s = .next t ∧ t.Answered session { code := 0x18, detail := 0x7011, qty := 1 } ∧ s.Alters t []) ∧
      (s.secretsBarred = false → s.nat OD.SGB_CAUSE ≠ 0 → s.nat OD.SAFETY_STATE ≠ 4 →
        ((s.safetyStaged session).all fun x => decide (s.od (OD.key 0x7010 x.1) = x.2)) = false →
        ∃ t, exec (.safetyApply session) s = .next t ∧ t.Answered session Reply.ok ∧ t.safetyStaged session = [] ∧ t.nat OD.SCS = t.scs ∧
          t.bit OD.SGB_CAUSE 7 = true))

/-! ### Security and life cycle (chapter 18) -/

/-- R471–R489: attestation, trust anchors and revocations, firmware images, tamper sources, life-cycle requests, and the vendor's tokens. -/
def Obligations.Security_commands : Prop :=
  ∀ (s : State) (session : Nat),
    let x := s.security
    (∀ challenge : List Byte, s.bit OD.PR_BUSY 1 = false → s.roleRefusal session = none →
      (challenge.length = 48 → s.nat OD.KEY_STATE = 1 →
        ∃ t, exec (.attestChallenge session challenge) s = .next t ∧ t.Answered session Reply.ok ∧ s.Alters t [] ∧
          (t.security.attest.find? fun a => decide (a.1 = session)) = some (session, signed (s.attestBody challenge))) ∧
      (challenge.length = 48 → s.nat OD.KEY_STATE ≠ 1 →
        ∃ t, exec (.attestChallenge session challenge) s = .next t ∧ t.Answered session Reply.wrongState ∧ t.security = x ∧ s.Alters t []) ∧
      (48 < challenge.length →
        ∃ t, exec (.attestChallenge session challenge) s = .next t ∧ t.Answered session Reply.typeMismatch ∧ t.security = x ∧ s.Alters t [])) ∧
    (∀ a, (x.attest.find? fun a => decide (a.1 = session)) = some a →
      ∃ t, exec (.attestResponseReady session) s = .next t ∧ (t.security.response.find? fun a => decide (a.1 = session)) = some a ∧
        (t.security.attest.find? fun a => decide (a.1 = session)) = none ∧ t.dict = s.dict) ∧
    (∀ (target : Fin 5) (data : List Byte), s.Serves → s.serviceRefusal session = none → s.secretsBarred = false →
      (target.val < 4 → data.length ≤ 1024 →
        ∃ t, exec (.certChange session target data) s = .next t ∧ t.Answered session Reply.ok ∧ t.octets (OD.ANCHOR target.val) = data ∧
          ∀ a ∈ t.hosts.assocs, a ∈ s.hosts.assocs ∧ t.chainOk a.2.2.1 = true) ∧
      (target.val = 4 → data.length ≤ 2304 → data.length % 36 = 0 →
        ∃ t, exec (.certChange session target data) s = .next t ∧ t.Answered session Reply.ok ∧ t.octets OD.REVOKED = data ∧
          t.nat OD.REVOKED_COUNT = data.length / 36 ∧ ∀ a ∈ t.hosts.assocs, a ∈ s.hosts.assocs ∧ t.chainOk a.2.2.1 = true) ∧
      ((if target.val < 4 then 1024 else 2304) < data.length →
        ∃ t, exec (.certChange session target data) s = .next t ∧ t.Answered session Reply.typeMismatch ∧ s.Alters t [])) ∧
    (s.bit OD.PR_BUSY 1 = false → s.imageRefusal session = none → s.nat OD.LC_STATE ≠ 4 →
      (∀ l : Lane, (s.lane l).booted = false ∨ vget 0 x.laneSlot l.num ≠ s.targetSlot) →
      (∀ (size : Nat) (found : ImageInfo), size ≤ 1024 →
        ∃ t, exec (.fwImageLoad session 0 size false found) s = .next t ∧ t.Answered session Reply.ok ∧ t.nat OD.FW_IMAGE_STATE = 1 ∧
          t.security.load = some (session, size) ∧ (t.slot s.targetSlot).valid = false ∧
          s.Alters t [OD.FW_IMAGE_STATE, OD.SLOT_VERSION, OD.SLOT_SVN]) ∧
      (∀ (n size : Nat) (found : ImageInfo), x.load = some (session, n) → n ≠ 0 → size ≤ 1024 → n + size ≤ 25165824 →
        (∃ t, exec (.fwImageLoad session n size false found) s = .next t ∧ t.Answered session Reply.ok ∧ t.security.load = some (session, n + size) ∧
          s.Alters t []) ∧
        (found.good = true → s.nat OD.SVN_FLOOR ≤ found.svn →
          ∃ t, exec (.fwImageLoad session n size true found) s = .next t ∧ t.Answered session Reply.ok ∧ t.nat OD.FW_IMAGE_STATE = 2 ∧
            t.security.load = none ∧ t.slot s.targetSlot =
              { valid := true, version := found.version, svn := found.svn, laneMin := found.laneMin, laneMax := found.laneMax }) ∧
        (found.good = false ∨ found.svn < s.nat OD.SVN_FLOOR →
          ∃ t, exec (.fwImageLoad session n size true found) s = .next t ∧ t.Answered session Reply.outOfRange ∧ t.nat OD.FW_IMAGE_STATE = 3 ∧
            (t.slot s.targetSlot).valid = false) ∧
        (∀ (offset : Nat) (last : Bool), offset ≠ 0 → offset ≠ n → offset + size ≤ 25165824 →
          ∃ t, exec (.fwImageLoad session offset size last found) s = .next t ∧ t.Answered session { code := 0x15, qty := n } ∧
            t.nat OD.FW_IMAGE_STATE = 4 ∧ t.security.load = none))) ∧
    (s.bit OD.PR_BUSY 1 = false → s.imageRefusal session = none → s.nat OD.LC_STATE ≠ 4 → s.boot.resetDue = none →
      (∀ l : Lane, (s.slot s.targetSlot).valid = true → (s.laneSt l = 4 ∨ s.laneSt l = 6 ∨ s.laneSt l = 7 ∨ s.laneSt l = 0) →
        s.serving = some l.other → (s.slot x.running).laneMin ≤ (s.slot s.targetSlot).version → (s.slot s.targetSlot).version ≤ (s.slot x.running).laneMax →
        ∃ t, exec (.fwActivateLane session l) s = .next t ∧ t.Answered session Reply.ok ∧ t.laneSt l = 0 ∧ (t.lane l).booted = false ∧
          vget 0 t.security.laneSlot l.num = s.targetSlot ∧ t.serving = some l.other) ∧
      (∀ l : Lane, (s.slot s.targetSlot).valid = false →
        ∃ t, exec (.fwActivateLane session l) s = .next t ∧ t.Answered session Reply.wrongState ∧ t.lanes = s.lanes ∧ s.Alters t []) ∧
      ((s.slot s.targetSlot).valid = true → s.tbValid = true → s.handoverOk = true →
        ∃ t, exec (.fwActivateModule session) s = .next t ∧ t.Answered session Reply.ok ∧ t.nat OD.FW_SLOT_PREF = s.targetSlot ∧
          t.boot.resetDue = some 5 ∧ t.pair.handover.isSome = true) ∧
      ((s.slot s.targetSlot).valid = true → s.nat OD.LAW_STATE = 0 → s.handoverOk = false → s.pair.handover = none →
        ∃ t, exec (.fwActivateModule session) s = .next t ∧ t.boot.running = true ∧ t.boot.tp = s.now ∧ t.boot.open_ = [3, 2] ∧
          t.nat OD.FW_SLOT_PREF = s.targetSlot) ∧
      ((s.slot s.targetSlot).valid = false →
        ∃ t, exec (.fwActivateModule session) s = .next t ∧ t.Answered session Reply.wrongState ∧ s.Alters t [])) ∧
    (s.bit OD.PR_BUSY 1 = false → s.serviceRefusal session = none → s.nat OD.LC_STATE ≠ 4 →
      let run (l : Lane) : Bool := (s.lane l).booted && decide (vget 0 x.laneSlot l.num = x.running)
      ((run .a && run .b) = true →
        ∃ t, exec (.fwAccept session) s = .next t ∧ t.Answered session Reply.ok ∧
          t.nat OD.SVN_FLOOR = Nat.max (s.nat OD.SVN_FLOOR) (s.slot x.running).svn ∧ s.Alters t [OD.SVN_FLOOR]) ∧
      ((run .a && run .b) = false →
        ∃ t, exec (.fwAccept session) s = .next t ∧ t.Answered session Reply.wrongState ∧ t.nat OD.SVN_FLOOR = s.nat OD.SVN_FLOOR)) ∧
    (∀ i : Fin 5,
      (∀ b : Bool, x.tamperPresent.testBit i.val = b → exec (.tamper i b) s = .next s) ∧
      (x.tamperPresent.testBit i.val = true →
        ∃ t, exec (.tamper i false) s = .next t ∧ t.security.tamperPresent.testBit i.val = false ∧ t.dict = s.dict) ∧
      (x.tamperPresent.testBit i.val = false → i.val ≠ 4 → s.bit OD.TAMPER_EN i.val = false →
        ∃ t, exec (.tamper i true) s = .next t ∧ t.security.tamperPresent.testBit i.val = true ∧ t.dict = s.dict) ∧
      (x.tamperPresent.testBit i.val = false → i.val ≠ 4 → s.bit OD.TAMPER_EN i.val = true → s.domainOn 1 = true →
        ∃ t, exec (.tamper i true) s = .next t ∧ t.security.tamperPresent.testBit i.val = true ∧ t.bit OD.TAMPER_LATCH i.val = true ∧
          t.nat OD.WIPE_COUNT = Nat.min (s.nat OD.WIPE_COUNT + 1) 0xFFFFFFFF ∧ t.nat OD.LAST_WIPE_CAUSE = 1 ∧
          t.security.tamperLog.getLast? = some (s.taiNs / 1000000000, s.nat OD.TIME_EPOCH, i.val) ∧
          (∀ a : Fin 4, t.octets (OD.ANCHOR a.val) = []) ∧ t.octets OD.REVOKED = [] ∧ (t.bank 15).cells = [] ∧ t.security.vaultKey.isSome = true) ∧
      (x.tamperPresent.testBit i.val = false → i.val ≠ 4 → s.bit OD.TAMPER_EN i.val = true → s.domainOn 1 = false →
        ∃ t, exec (.tamper i true) s = .next t ∧ t.bit OD.TAMPER_LATCH i.val = true ∧ t.security.vaultKey = none ∧
          t.security.wipeDue = some (x.wipeDue.getD 1) ∧ t.security.tamperDue = x.tamperDue ++ [i.val]) ∧
      (x.tamperPresent.testBit i.val = false → i.val = 4 → s.domainOn 1 = true → exec (.tamper i true) s = .next s) ∧
      (x.tamperPresent.testBit i.val = false → i.val = 4 → s.domainOn 1 = false →
        ∃ t, exec (.tamper i true) s = .next t ∧ t.security.vaultKey = none ∧ t.security.wipeDue = some (x.wipeDue.getD 4) ∧
          t.bit OD.VAULT_FLAGS 2 = false ∧ t.bit OD.VAULT_FLAGS 0 = true)) ∧
    (∀ mask : BitVec 8, s.Serves → s.serviceRefusal session = none →
      (mask.toNat ≤ 0x1F →
        ∃ t, exec (.tamperClear session mask) s = .next t ∧ t.Answered session Reply.ok ∧ s.Alters t [OD.TAMPER_LATCH] ∧
          ∀ i, i < 5 → t.bit OD.TAMPER_LATCH i = (s.bit OD.TAMPER_LATCH i && (!mask.toNat.testBit i || x.tamperPresent.testBit i))) ∧
      (0x1F < mask.toNat → ∃ t, exec (.tamperClear session mask) s = .next t ∧ t.Answered session Reply.outOfRange ∧ s.Alters t [])) ∧
    (∀ (c : Instr) (req : Nat), (c = .lcReqReturn session ∧ req = 1) ∨ (c = .lcReqSanitised session ∧ req = 2) ∨ (c = .lcReqRetired session ∧ req = 3) →
      s.Serves → s.lcRefusal req session = none →
      (s.lcAllowed req = true →
        ∃ t, exec c s = .next t ∧ t.Answered session Reply.ok ∧ t.security.lcReq = some (session, req, s.now) ∧ (t.octets OD.LC_NONCE).length = 16 ∧
          s.Alters t [OD.LC_NONCE]) ∧
      (s.lcAllowed req = false → ∃ t, exec c s = .next t ∧ t.Answered session Reply.wrongState ∧ t.security = x ∧ s.Alters t [])) ∧
    (∀ nonce : List Byte, s.Serves → s.serviceRefusal session = none → nonce.length = 16 →
      (∀ req at1, x.lcReq = some (session, req, at1) → nonce = s.octets OD.LC_NONCE → s.now ≤ at1 + sec 60 →
        ∃ t, exec (.lcConfirm session nonce) s = .next t ∧ t.Answered session Reply.ok ∧ t.nat OD.LC_STATE = req + 1 ∧ t.security.lcReq = none ∧
          t.nat OD.LC_TRANSITIONS = (if req = 3 then s.nat OD.LC_TRANSITIONS else s.nat OD.LC_TRANSITIONS + 1) ∧
          (∀ y ∈ allSessions, y ≠ 0x40 → t.isOpen y = false)) ∧
      (∀ who req at1, x.lcReq = some (who, req, at1) → who ≠ session ∨ nonce ≠ s.octets OD.LC_NONCE ∨ at1 + sec 60 < s.now →
        ∃ t, exec (.lcConfirm session nonce) s = .next t ∧ t.Answered session Reply.wrongState ∧ t.security = { x with lcReq := none } ∧ s.Alters t []) ∧
      (x.lcReq = none → ∃ t, exec (.lcConfirm session nonce) s = .next t ∧ t.Answered session Reply.wrongState ∧ t.security = x ∧ s.Alters t [])) ∧
    (∀ who req at1, x.lcReq = some (who, req, at1) →
      (at1 + sec 60 < s.now → exec .lcReqExpiry s = .next { s with security := { x with lcReq := none } }) ∧
      (s.now ≤ at1 + sec 60 → exec .lcReqExpiry s = .next s)) ∧
    (∀ (c : Instr) (token : List Byte) (good : Bool), (c = .vendorUnlock session token good ∨ c = .vendorRecommission session token good) →
      s.Serves → s.vendorRefusal session = none → token.length = 128 →
      (s.tokenOk token good = false →
        ∃ t, exec c s = .next t ∧ t.Answered session Reply.outOfRange ∧ t.security = x ∧ (t.octets OD.UNLOCK_NONCE).length = 16 ∧
          s.Alters t [OD.UNLOCK_NONCE]) ∧
      (s.tokenOk token good = true → s.nat OD.LC_STATE ≠ 2 → s.nat OD.LC_STATE ≠ 3 →
        ∃ t, exec c s = .next t ∧ t.Answered session Reply.wrongState ∧ t.security = x ∧ s.Alters t [OD.UNLOCK_NONCE]) ∧
      (s.tokenOk token good = true → s.nat OD.LC_STATE = 2 ∨ s.nat OD.LC_STATE = 3 →
        (tokenField token 240 8 = 1 →
          ∃ t, exec c s = .next t ∧ t.Answered session Reply.ok ∧ t.security = { x with vendorOpen := true } ∧ s.Alters t [OD.UNLOCK_NONCE]) ∧
        (tokenField token 240 8 = 2 → s.nat OD.LC_TRANSITIONS < 64 →
          ∃ t, exec c s = .next t ∧ t.Answered session Reply.ok ∧ t.nat OD.LC_STATE = 1 ∧
            t.nat OD.LC_TRANSITIONS = s.nat OD.LC_TRANSITIONS + 1 ∧ t.recorder.frozen = false) ∧
        (tokenField token 240 8 = 2 → 64 ≤ s.nat OD.LC_TRANSITIONS →
          ∃ t, exec c s = .next t ∧ t.Answered session Reply.wrongState ∧ t.security = x ∧ s.Alters t [OD.UNLOCK_NONCE])))

/-! ### Commands that are refused (chapter 12) -/

/-- R320, R324, R479, R501: every command of a session that is refused changes nothing but what its arrival and answer count: the dictionary engine in partial reset
answers BUSY_RESET, one that bars writes WRONG_STATE, and a refusal of the command's own is answered as it is. -/
def Obligations.Refused_commands : Prop :=
  ∀ (s : State) (session : Nat) (refusal : Option Reply) (act : State → State × Reply),
    let t := s.command session refusal act
    let kept : Prop := s.Alters t [] ∧ t = { s with dict := t.dict, hosts := t.hosts, out := t.out }
    (s.bit OD.PR_BUSY 1 = true → t.Answered session { code := 0x80, time := 20 } ∧ kept) ∧
    (s.bit OD.PR_BUSY 1 = false → s.writesBarred = true → t.Answered session Reply.wrongState ∧ kept) ∧
    (∀ r, s.Serves → refusal = some r → t.Answered session r ∧ kept) ∧
    (s.Serves → refusal = none → t = (act (s.atService session)).1.answer session 0 (act (s.atService session)).2) ∧
    (s.standbyModule = true → s.ownerRefusal session = some { code := 0x7C }) ∧
    (s.standbyModule = false → s.nat OD.OWNER_SESSION ≠ session → s.nat (OD.SESSION_ROLE (sessIdx session)) = 0 →
      s.ownerRefusal session = some Reply.roleDenied) ∧
    (s.standbyModule = false → s.nat OD.OWNER_SESSION ≠ session → s.nat (OD.SESSION_ROLE (sessIdx session)) ≠ 0 →
      s.ownerRefusal session = some { code := 0x70, detail := s.nat OD.OWNER_SESSION }) ∧
    (s.standbyModule = false → s.nat OD.OWNER_SESSION = session → sessIdx session < 11 → s.leaseExpired = false → s.ownerRefusal session = none)
end

