-- ==== Sys2Proof/Laws/Sparse.lean ====
section
/-!
SUPPORT. Laws/Sparse.lean: reads after writes of a sparse table, and that every operation keeps its canonical form.
-/
namespace Sys2Proof

variable {α : Type}

theorem sparseFind_insert_same (m : List (Nat × α)) (k : Nat) (v : α) : sparseFind (sparseInsert m k v) k = some v := by
  induction m with
  | nil => simp [sparseInsert, sparseFind]
  | cons x m ih =>
    obtain ⟨j, w⟩ := x
    simp only [sparseInsert]
    by_cases h1 : k < j
    · simp [h1, sparseFind]
    · by_cases h2 : k = j
      · simp [h2, sparseFind]
      · simp [h1, h2, sparseFind, ih, Ne.symm h2]

theorem sparseFind_insert_other (m : List (Nat × α)) (k j : Nat) (v : α) (h : j ≠ k) :
    sparseFind (sparseInsert m k v) j = sparseFind m j := by
  induction m with
  | nil => simp [sparseInsert, sparseFind, Ne.symm h]
  | cons x m ih =>
    obtain ⟨i, w⟩ := x
    simp only [sparseInsert]
    by_cases h1 : k < i
    · simp [h1, sparseFind, Ne.symm h]
    · by_cases h2 : k = i
      · subst h2; simp [sparseFind, Ne.symm h]
      · simp [h1, h2, sparseFind, ih]

theorem sparseFind_erase_same (m : List (Nat × α)) (k : Nat) : sparseFind (sparseErase m k) k = none := by
  induction m with
  | nil => rfl
  | cons x m ih =>
    obtain ⟨j, w⟩ := x
    by_cases h : j = k
    · simp [sparseErase, h, ih]
    · simp [sparseErase, h, sparseFind, ih]

theorem sparseFind_erase_other (m : List (Nat × α)) (k j : Nat) (h : j ≠ k) : sparseFind (sparseErase m k) j = sparseFind m j := by
  induction m with
  | nil => rfl
  | cons x m ih =>
    obtain ⟨i, w⟩ := x
    by_cases h1 : i = k
    · subst h1; simp [sparseErase, sparseFind, ih, Ne.symm h]
    · by_cases h2 : i = j
      · subst h2; simp [sparseErase, sparseFind, h1]
      · simp [sparseErase, h1, sparseFind, h2, ih]

/-- A read after a write of the same key gives the value written. -/
@[simp] theorem sparseGet_set_same [DecidableEq α] (d : Nat → α) (m : List (Nat × α)) (k : Nat) (v : α) :
    sparseGet d (sparseSet d m k v) k = v := by
  by_cases h : v = d k
  · simp [sparseSet, sparseGet, h, sparseFind_erase_same]
  · simp [sparseSet, sparseGet, h, sparseFind_insert_same]

/-- A write leaves every other key alone. -/
theorem sparseGet_set_other [DecidableEq α] (d : Nat → α) (m : List (Nat × α)) (k j : Nat) (v : α) (h : j ≠ k) :
    sparseGet d (sparseSet d m k v) j = sparseGet d m j := by
  by_cases hv : v = d k
  · simp [sparseSet, sparseGet, hv, sparseFind_erase_other _ _ _ h]
  · simp [sparseSet, sparseGet, hv, sparseFind_insert_other _ _ _ _ h]

theorem sparseAbove_trans {m : List (Nat × α)} {i k : Nat} (h : i ≤ k) (hm : sparseAbove k m = true) : sparseAbove i m = true := by
  cases m with
  | nil => rfl
  | cons x m => simp [sparseAbove] at *; omega

theorem sparseAbove_of_filter [DecidableEq α] (d : Nat → α) {m : List (Nat × α)} (p : Nat × α → Bool) :
    ∀ {k : Nat}, sparseWf d m = true → sparseAbove k m = true → sparseAbove k (m.filter p) = true := by
  induction m with
  | nil => intros; rfl
  | cons x m ih =>
    intro k hw ha
    simp [sparseWf] at hw
    by_cases hp : p x
    · simpa [hp, sparseAbove] using ha
    · simp [hp]; exact ih hw.2 (sparseAbove_trans (Nat.le_of_lt (by simpa [sparseAbove] using ha)) hw.1.1)

/-- Leaving entries out keeps the canonical form. -/
theorem sparseWf_filter [DecidableEq α] (d : Nat → α) {m : List (Nat × α)} (p : Nat × α → Bool) (h : sparseWf d m = true) :
    sparseWf d (m.filter p) = true := by
  induction m with
  | nil => rfl
  | cons x m ih =>
    have hw := h
    simp [sparseWf] at h
    by_cases hp : p x
    · simp [hp, sparseWf, ih h.2, h.1.2, sparseAbove_of_filter d p h.2 h.1.1]
    · simpa [hp] using ih h.2

theorem sparseErase_eq_filter (m : List (Nat × α)) (k : Nat) : sparseErase m k = m.filter fun x => decide (x.1 ≠ k) := by
  induction m with
  | nil => rfl
  | cons x m ih =>
    by_cases h : x.1 = k
    · simp [sparseErase, h, ih]
    · simp [sparseErase, h, ih]

theorem sparseAbove_insert {m : List (Nat × α)} {i k : Nat} {v : α} (h : i < k) (ha : sparseAbove i m = true) :
    sparseAbove i (sparseInsert m k v) = true := by
  cases m with
  | nil => simp [sparseInsert, sparseAbove, h]
  | cons x m =>
    simp [sparseAbove] at ha
    by_cases h1 : k < x.1
    · simp [sparseInsert, h1, sparseAbove, h]
    · by_cases h2 : k = x.1
      · simp [sparseInsert, h2, sparseAbove, ha]
      · simp [sparseInsert, h1, h2, sparseAbove, ha]

theorem sparseWf_insert [DecidableEq α] (d : Nat → α) {m : List (Nat × α)} {k : Nat} {v : α} (hv : v ≠ d k) (h : sparseWf d m = true) :
    sparseWf d (sparseInsert m k v) = true := by
  induction m with
  | nil => simp [sparseInsert, sparseWf, sparseAbove, hv]
  | cons x m ih =>
    simp [sparseWf] at h
    obtain ⟨⟨ha, hx⟩, hm⟩ := h
    by_cases h1 : k < x.1
    · simp [sparseInsert, h1, sparseWf, hv, ha, hx, hm]
      simpa [sparseAbove] using h1
    · by_cases h2 : k = x.1
      · subst h2; simp [sparseInsert, sparseWf, hv, ha, hm]
      · simp [sparseInsert, h1, h2, sparseWf, hx, ih hm]
        exact sparseAbove_insert (by omega) ha

/-- A write keeps the canonical form. -/
theorem sparseWf_set [DecidableEq α] (d : Nat → α) {m : List (Nat × α)} (k : Nat) (v : α) (h : sparseWf d m = true) :
    sparseWf d (sparseSet d m k v) = true := by
  by_cases hv : v = d k
  · simp [sparseSet, hv, sparseErase_eq_filter, sparseWf_filter d _ h]
  · simp [sparseSet, hv, sparseWf_insert d hv h]

end Sys2Proof
end

