-- ==== Sys2Proof/Laws/Keeps.lean ====
section
/-!
SUPPORT. Laws/Keeps.lean: `Keeps s t`: what every operation of the model preserves from `s` to `t`, and the rules by which it is shown for an
operation built of others. The files Keeps<Family> hold one lemma per operation.
-/
namespace Sys2Proof.Machine
open Sys2Proof

/-- The variant, the instant and the queue stay; the free-value counter does not fall; canonical forms stay canonical. -/
structure Keeps (s t : State) : Prop where
  variant : t.variant = s.variant
  now : t.now = s.now
  pending : t.pending = s.pending
  free : s.free ≤ t.free
  dict : sparseWf odDefault s.dict = true → sparseWf odDefault t.dict = true
  banks : (∀ b, Memory.wf (s.bank b).cells = true) → ∀ b, Memory.wf (t.bank b).cells = true

theorem Keeps.refl (s : State) : Keeps s s := ⟨rfl, rfl, rfl, Nat.le_refl _, id, id⟩

theorem Keeps.trans {s t u : State} (h : Keeps s t) (g : Keeps t u) : Keeps s u :=
  ⟨g.variant.trans h.variant, g.now.trans h.now, g.pending.trans h.pending, Nat.le_trans h.free g.free, g.dict ∘ h.dict, g.banks ∘ h.banks⟩

theorem Keeps.persists {s t : State} (h : Keeps s t) : s.Persists t := ⟨h.variant, h.now, h.pending, h.free⟩

theorem Keeps.canonical {s t : State} (h : Keeps s t) (hs : s.Canonical) : t.Canonical := ⟨h.dict hs.1, h.banks hs.2⟩

/-- A record update that touches none of it. -/
theorem Keeps.upd {s0 s t : State} (h : Keeps s0 s) (hv : t.variant = s.variant) (hn : t.now = s.now) (hp : t.pending = s.pending)
    (hf : t.free = s.free) (hd : t.dict = s.dict) (hb : t.power.banks = s.power.banks) : Keeps s0 t :=
  ⟨hv ▸ h.variant, hn ▸ h.now, hp ▸ h.pending, hf ▸ h.free, hd ▸ h.dict, fun hw b => by simpa [State.bank, hb] using h.banks hw b⟩

/-- A record update that leaves the kept fields alone. -/
theorem keeps_with {s0 s : State} (h : Keeps s0 s) {x_ltc : Nat}
    {x_recorder : Recorder}
    {x_arch : Arch}
    {x_power : Power}
    {x_tb : Timebase}
    {x_pwm : Pwm}
    {x_arms : Vector Arm 6}
    {x_ld : Vector LdChan 6}
    {x_sig : Signals}
    {x_streams : Vector Stream 4}
    {x_maskRun : Vector Nat 8}
    {x_lanes : Lanes}
    {x_frame : Frame}
    {x_sup : Super}
    {x_adc : Vector AdcCore 32}
    {x_adcUnit : AdcUnit}
    {x_chains : Vector Chain 32}
    {x_link : Link}
    {x_pair : PairRec}
    {x_servo : Servo}
    {x_safety : Safety}
    {x_security : Security}
    {x_hosts : Hosts}
    {x_boot : Boot}
    {x_can : Vector CanPort 2}
    {x_launchAt : Vector Nat 32}
    {x_launchBusy : Vector Nat 2}
    {x_ethWait : Vector (List EthKind) 2}
    {x_out : List Emit}
    (hb : x_power.banks = s.power.banks) :
    Keeps s0 { s with ltc := x_ltc, recorder := x_recorder, arch := x_arch, power := x_power, tb := x_tb, pwm := x_pwm, arms := x_arms, ld := x_ld, sig := x_sig, streams := x_streams, maskRun := x_maskRun, lanes := x_lanes, frame := x_frame, sup := x_sup, adc := x_adc, adcUnit := x_adcUnit, chains := x_chains, link := x_link, pair := x_pair, servo := x_servo, safety := x_safety, security := x_security, hosts := x_hosts, boot := x_boot, can := x_can, launchAt := x_launchAt, launchBusy := x_launchBusy, ethWait := x_ethWait, out := x_out } :=
  h.upd rfl rfl rfl rfl rfl hb

/-- The contents of a bank of a state reached so stay canonical. -/
theorem keeps_cells {s0 t : State} (h : Keeps s0 t) (b : Nat) : (∀ b, Memory.wf (s0.bank b).cells = true) → Memory.wf (t.bank b).cells = true :=
  fun hw => h.banks hw b

theorem keeps_empty {s0 : State} : (∀ b, Memory.wf (s0.bank b).cells = true) → Memory.wf [] = true := fun _ => rfl

theorem keeps_of_fst {β : Type} {s0 t : State} {r : β} {p : State × β} (he : p = (t, r)) (hp : Keeps s0 p.1) : Keeps s0 t := by
  subst he; exact hp

theorem keeps_cut {s0 z : State} {G : Prop} (hz : Keeps s0 z) (hb : Keeps s0 z → G) : G := hb hz

theorem keeps_ite {c : Prop} [Decidable c] {s0 a b : State} (ha : Keeps s0 a) (hb : Keeps s0 b) : Keeps s0 (if c then a else b) := by
  split <;> assumption

theorem keeps_ite_fst {β : Type} {c : Prop} [Decidable c] {s0 : State} {a b : State × β} (ha : Keeps s0 a.1) (hb : Keeps s0 b.1) :
    Keeps s0 (if c then a else b).1 := by
  split <;> assumption

theorem keeps_ite_snd {β : Type} {c : Prop} [Decidable c] {s0 : State} {a b : β × State} (ha : Keeps s0 a.2) (hb : Keeps s0 b.2) :
    Keeps s0 (if c then a else b).2 := by
  split <;> assumption

theorem keeps_foldl {α : Type} {s0 s : State} {f : State → α → State} {l : List α} (hs : Keeps s0 s)
    (hf : ∀ t x, Keeps s0 t → Keeps s0 (f t x)) : Keeps s0 (l.foldl f s) := by
  induction l generalizing s with
  | nil => exact hs
  | cons x l ih => exact ih (hf _ _ hs)

theorem keeps_foldl_snd {α β : Type} {s0 : State} {a : β × State} {f : β × State → α → β × State} {l : List α} (hs : Keeps s0 a.2)
    (hf : ∀ b x, Keeps s0 b.2 → Keeps s0 (f b x).2) : Keeps s0 (l.foldl f a).2 := by
  induction l generalizing a with
  | nil => exact hs
  | cons x l ih => exact ih (hf _ _ hs)

end Sys2Proof.Machine
end

