-- ==== Sys2Proof/Laws/KeepsFormed.lean ====
section
/-!
SUPPORT. Laws/KeepsFormed.lean: every operation of Machine/Formed.lean keeps what `Keeps` says.
-/
namespace Sys2Proof.Machine
open Sys2Proof

theorem State.put_keeps {s0 s : State} (h : Keeps s0 s) (k : Nat) (v : Val) : Keeps s0 (s.put k v) :=
  ⟨h.variant, h.now, h.pending, h.free, fun hd => sparseWf_set _ _ _ (h.dict hd), h.banks⟩

theorem State.putI_keeps {s0 s : State} (h : Keeps s0 s) (k : Nat) (n : Int) : Keeps s0 (State.putI s k n) := by
  unfold State.putI
  with_reducible repeat' first | assumption | apply State.put_keeps

theorem State.putN_keeps {s0 s : State} (h : Keeps s0 s) (k : Nat) (n : Nat) : Keeps s0 (State.putN s k n) := by
  unfold State.putN
  with_reducible repeat' first | assumption | apply State.put_keeps

theorem State.putF_keeps {s0 s : State} (h : Keeps s0 s) (k : Nat) (x : F32) : Keeps s0 (State.putF s k x) := by
  unfold State.putF
  with_reducible repeat' first | assumption | apply State.put_keeps

theorem State.putB_keeps {s0 s : State} (h : Keeps s0 s) (k : Nat) (b : Bool) : Keeps s0 (State.putB s k b) := by
  unfold State.putB
  with_reducible repeat' first | assumption | apply keeps_ite | apply State.put_keeps

theorem State.count_keeps {s0 s : State} (h : Keeps s0 s) (k : Nat) (n : Nat) : Keeps s0 (State.count s k n) := by
  unfold State.count
  with_reducible repeat' first | assumption | apply State.putN_keeps

theorem State.bump_keeps {s0 s : State} (h : Keeps s0 s) (k : Nat) : Keeps s0 (State.bump s k) := by
  unfold State.bump
  with_reducible repeat' first | assumption | apply State.count_keeps

theorem State.bumpW_keeps {s0 s : State} (h : Keeps s0 s) (k : Nat) : Keeps s0 (State.bumpW s k) := by
  unfold State.bumpW
  with_reducible repeat' first | assumption | apply State.putN_keeps

theorem State.putBit_keeps {s0 s : State} (h : Keeps s0 s) (k : Nat) (i : Nat) (b : Bool) : Keeps s0 (State.putBit s k i b) := by
  unfold State.putBit
  with_reducible repeat' first | assumption | apply State.putN_keeps

theorem State.emit_keeps {s0 s : State} (h : Keeps s0 s) (e : Emit) : Keeps s0 (State.emit s e) := by
  unfold State.emit
  with_reducible repeat' first | assumption | (apply keeps_with <;> first | rfl | assumption)

theorem State.draw_keeps {s0 s : State} (h : Keeps s0 s) : Keeps s0 s.draw.2 :=
  ⟨h.variant, h.now, h.pending, Nat.le_trans h.free (Nat.le_succ _), h.dict, h.banks⟩

theorem State.drawn_keeps {s0 s : State} (h : Keeps s0 s) (n : Nat) : Keeps s0 (s.drawn n) :=
  ⟨h.variant, h.now, h.pending, Nat.le_trans h.free (Nat.le_add_right _ _), h.dict, h.banks⟩

end Sys2Proof.Machine
end

