-- ==== Sys2Proof/Laws/KeepsOps.lean ====
section
/-!
SUPPORT. Laws/KeepsOps.lean: every operation of Machine/Ops.lean keeps what `Keeps` says.
-/
namespace Sys2Proof.Machine
open Sys2Proof

theorem State.emergency_keeps {s0 s : State} (h : Keeps s0 s) (r : Rec) : Keeps s0 (State.emergency s r) := by
  unfold State.emergency
  with_reducible repeat' first | assumption | apply keeps_ite | apply keeps_foldl | apply State.emit_keeps | (intro t x (ht : Keeps _ t))

theorem State.setRec_keeps {s0 s : State} (h : Keeps s0 s) (r : Recorder) : Keeps s0 (State.setRec s r) := by
  unfold State.setRec
  with_reducible repeat' first | assumption | (apply keeps_with <;> first | rfl | assumption)

theorem State.fifoPeak_keeps {s0 s : State} (h : Keeps s0 s) : Keeps s0 (State.fifoPeak s) := by
  unfold State.fifoPeak
  with_reducible repeat' first | assumption | apply State.putN_keeps

theorem State.enterFifo_keeps {s0 s : State} (h : Keeps s0 s) (r : Rec) : Keeps s0 (State.enterFifo s r) := by
  unfold State.enterFifo
  with_reducible repeat' first | assumption | apply keeps_ite | apply State.bump_keeps | apply State.setRec_keeps | apply State.fifoPeak_keeps | apply State.emergency_keeps

theorem State.bypass_keeps {s0 s : State} (h : Keeps s0 s) (r : Rec) : Keeps s0 (State.bypass s r) := by
  unfold State.bypass
  with_reducible repeat' first | assumption | apply keeps_ite | apply State.bump_keeps | apply State.setRec_keeps | apply State.fifoPeak_keeps | apply State.emergency_keeps

theorem State.putBucket_keeps {s0 s : State} (h : Keeps s0 s) (code : Nat) (b : Bucket) : Keeps s0 (State.putBucket s code b) := by
  unfold State.putBucket
  with_reducible repeat' first | assumption | apply State.setRec_keeps

theorem State.eventTriggers_keeps {s0 s : State} (h : Keeps s0 s) (code : Nat) : Keeps s0 (State.eventTriggers s code) := by
  unfold State.eventTriggers
  with_reducible repeat' first | assumption | apply keeps_ite | (apply keeps_with <;> first | rfl | assumption)

theorem State.occur_keeps {s0 s : State} (h : Keeps s0 s) (o : Occ) : Keeps s0 (State.occur s o) := by
  unfold State.occur
  with_reducible repeat' first | assumption | apply keeps_ite | apply State.eventTriggers_keeps | apply State.bypass_keeps | apply State.putBucket_keeps | apply State.enterFifo_keeps | apply State.bump_keeps

theorem State.note_keeps {s0 s : State} (h : Keeps s0 s) (code : Nat) (detail : Nat) (set : Bool) : Keeps s0 (State.note s code detail set) := by
  unfold State.note
  with_reducible repeat' first | assumption | apply State.occur_keeps

theorem State.endBridge_keeps {s0 s : State} (h : Keeps s0 s) : Keeps s0 (State.endBridge s) := by
  unfold State.endBridge
  with_reducible repeat' first | assumption | apply keeps_ite | apply State.putN_keeps | (apply keeps_with <;> first | rfl | assumption)

theorem State.rtHold_keeps {s0 s : State} (h : Keeps s0 s) : Keeps s0 (State.rtHold s) := by
  unfold State.rtHold
  with_reducible repeat' first | assumption | apply keeps_ite | apply State.putN_keeps | apply State.putF_keeps | apply State.note_keeps | (apply keeps_with <;> first | rfl | assumption)

theorem State.setOut_keeps {s0 s : State} (h : Keeps s0 s) (st : Nat) (cause : Nat) : Keeps s0 (State.setOut s st cause) := by
  unfold State.setOut
  with_reducible repeat' first | assumption | apply keeps_ite | apply State.putN_keeps | apply State.note_keeps

theorem State.armOutputs_keeps {s0 s : State} (h : Keeps s0 s) : Keeps s0 (State.armOutputs s) := by
  unfold State.armOutputs
  with_reducible repeat' first | assumption | apply State.setOut_keeps | (apply keeps_with <;> first | rfl | assumption)

theorem State.setLaw_keeps {s0 s : State} (h : Keeps s0 s) (st : Nat) (cause : Nat) : Keeps s0 (State.setLaw s st cause) := by
  unfold State.setLaw
  with_reducible repeat' first | assumption | apply keeps_ite | apply State.putN_keeps | apply State.note_keeps | apply State.rtHold_keeps | apply State.endBridge_keeps | apply State.armOutputs_keeps | (apply keeps_with <;> first | rfl | assumption | apply State.putN_keeps | apply State.note_keeps)

theorem State.openBlanking_keeps {s0 s : State} (h : Keeps s0 s) (p : Nat) : Keeps s0 (State.openBlanking s p) := by
  unfold State.openBlanking
  with_reducible repeat' first | assumption | apply keeps_ite | apply keeps_foldl | (apply keeps_with <;> first | rfl | assumption) | (intro t x (ht : Keeps _ t))

theorem State.chanSet_keeps {s0 s : State} (h : Keeps s0 s) (i : Nat) (level : Bool) : Keeps s0 (State.chanSet s i level) := by
  unfold State.chanSet
  with_reducible repeat' first | assumption | apply keeps_ite | apply State.openBlanking_keeps | (apply keeps_with <;> first | rfl | assumption)

theorem State.chanOff_keeps {s0 s : State} (h : Keeps s0 s) (i : Nat) : Keeps s0 (State.chanOff s i) := by
  unfold State.chanOff
  with_reducible repeat' first | assumption | apply State.chanSet_keeps

theorem State.chanOn_keeps {s0 s : State} (h : Keeps s0 s) (i : Nat) : Keeps s0 (State.chanOn s i) := by
  unfold State.chanOn
  with_reducible repeat' first | assumption | apply State.chanSet_keeps

theorem State.setLd_keeps {s0 s : State} (h : Keeps s0 s) (x : Nat) (c : LdChan) : Keeps s0 (State.setLd s x c) := by
  unfold State.setLd
  with_reducible repeat' first | assumption | (apply keeps_with <;> first | rfl | assumption)

theorem State.ldOff_keeps {s0 s : State} (h : Keeps s0 s) (x : Nat) : Keeps s0 (State.ldOff s x) := by
  unfold State.ldOff
  with_reducible repeat' first | assumption | apply keeps_ite | apply State.setLd_keeps | apply State.putN_keeps

theorem State.ldTripOff_keeps {s0 s : State} (h : Keeps s0 s) : Keeps s0 (State.ldTripOff s) := by
  unfold State.ldTripOff
  with_reducible repeat' first | assumption | apply keeps_ite | apply keeps_foldl | apply State.ldOff_keeps | apply State.putN_keeps | (intro t x (ht : Keeps _ t))

theorem State.seqStep1_keeps {s0 s : State} (h : Keeps s0 s) : Keeps s0 (State.seqStep1 s) := by
  unfold State.seqStep1
  with_reducible repeat' first | assumption | apply keeps_ite | apply keeps_foldl | apply State.chanOff_keeps | (apply keeps_with <;> first | rfl | assumption) | (intro t x (ht : Keeps _ t))

theorem State.benchLow_keeps {s0 s : State} (h : Keeps s0 s) : Keeps s0 (State.benchLow s) := by
  unfold State.benchLow
  with_reducible repeat' first | assumption | (apply keeps_with <;> first | rfl | assumption)

theorem State.endModulation_keeps {s0 s : State} (h : Keeps s0 s) (clamp : Bool) : Keeps s0 (State.endModulation s clamp) := by
  unfold State.endModulation
  with_reducible repeat' first | assumption | apply keeps_ite | apply keeps_foldl | apply State.putI_keeps | apply State.putB_keeps | (apply keeps_with <;> first | rfl | assumption | apply State.putI_keeps | apply State.putB_keeps) | (intro t x (ht : Keeps _ t))

theorem State.onWatchdog_keeps {s0 s : State} (h : Keeps s0 s) : Keeps s0 (State.onWatchdog s).2 := by
  unfold State.onWatchdog
  with_reducible repeat' first | assumption | apply State.draw_keeps

theorem State.seqOnWatchdog_keeps {s0 s : State} (h : Keeps s0 s) (q : StopSeq) (lost : Bool) : Keeps s0 (State.seqOnWatchdog s q lost).2 := by
  unfold State.seqOnWatchdog
  with_reducible repeat' first | assumption | apply keeps_ite | apply keeps_ite_fst | apply keeps_ite_snd | apply State.watchdog_keeps | apply State.onWatchdog_keeps

theorem State.setSeq_keeps {s0 s : State} (h : Keeps s0 s) (q : Option StopSeq) : Keeps s0 (State.setSeq s q) := by
  unfold State.setSeq
  with_reducible repeat' first | assumption | (apply keeps_with <;> first | rfl | assumption)

theorem State.stopAgain_keeps {s0 s : State} (h : Keeps s0 s) (q : StopSeq) (clamp : Bool) (endState : Nat) (cause : Nat) : Keeps s0 (State.stopAgain s q clamp endState cause) := by
  unfold State.stopAgain
  with_reducible repeat' first | assumption | apply keeps_ite | apply State.setSeq_keeps | apply State.setOut_keeps | (apply keeps_with <;> first | rfl | assumption)

theorem State.stopOutputs_keeps {s0 s : State} (h : Keeps s0 s) (clamp : Bool) (lost : Bool) (endState : Nat) (cause : Nat) : Keeps s0 (State.stopOutputs s clamp lost endState cause) := by
  unfold State.stopOutputs
  with_reducible repeat' first | assumption | apply keeps_ite | apply State.benchLow_keeps | apply State.seqOnWatchdog_keeps | apply State.stopAgain_keeps | apply State.seqStep1_keeps | apply State.endModulation_keeps | apply State.setOut_keeps | apply State.setSeq_keeps | split | (intro z; apply keeps_cut (z := z)) | (intro hz; clear_value z) | intro _ | lift_lets -underBinder

theorem State.endSequence_keeps {s0 s : State} (h : Keeps s0 s) : Keeps s0 (State.endSequence s) := by
  unfold State.endSequence
  with_reducible repeat' first | assumption | apply State.setOut_keeps | (apply keeps_with <;> first | rfl | assumption | apply State.setOut_keeps) | split

theorem State.withdraw_keeps {s0 s : State} (h : Keeps s0 s) (why : Nat) : Keeps s0 (State.withdraw s why) := by
  unfold State.withdraw
  with_reducible repeat' first | assumption | apply keeps_ite | apply State.putN_keeps | apply State.note_keeps | (apply keeps_with <;> first | rfl | assumption)

theorem State.protStop_keeps {s0 s : State} (h : Keeps s0 s) (code : Nat) (clamp : Bool) : Keeps s0 (State.protStop s code clamp) := by
  unfold State.protStop
  with_reducible repeat' first | assumption | apply keeps_ite | apply State.endBridge_keeps | apply State.withdraw_keeps | apply State.putN_keeps | apply State.setLaw_keeps | apply State.ldTripOff_keeps | apply State.stopOutputs_keeps | (apply keeps_with <;> first | rfl | assumption)

theorem State.latchTrip_keeps {s0 s : State} (h : Keeps s0 s) (bit : Nat) : Keeps s0 (State.latchTrip s bit) := by
  unfold State.latchTrip
  with_reducible repeat' first | assumption | apply keeps_ite | apply State.putN_keeps | apply State.putI_keeps | apply State.putBit_keeps | apply State.bump_keeps | apply State.note_keeps

theorem State.trip_keeps {s0 s : State} (h : Keeps s0 s) (bit : Nat) (clamp : Bool) : Keeps s0 (State.trip s bit clamp) := by
  unfold State.trip
  with_reducible repeat' first | assumption | apply State.latchTrip_keeps | apply State.protStop_keeps

theorem State.keepLast_keeps {s0 s : State} (h : Keeps s0 s) (session : Nat) (tag : Nat) (r : Reply) : Keeps s0 (State.keepLast s session tag r) := by
  unfold State.keepLast
  with_reducible repeat' first | assumption | apply keeps_ite | apply State.putN_keeps | apply State.bump_keeps

theorem State.answer_keeps {s0 s : State} (h : Keeps s0 s) (session : Nat) (tag : Nat) (r : Reply) : Keeps s0 (State.answer s session tag r) := by
  unfold State.answer
  with_reducible repeat' first | assumption | apply State.keepLast_keeps | apply State.emit_keeps

theorem State.setHosts_keeps {s0 s : State} (h : Keeps s0 s) (h : Hosts) : Keeps s0 (State.setHosts s h) := by
  unfold State.setHosts
  with_reducible repeat' first | assumption | (apply keeps_with <;> first | rfl | assumption)

theorem State.setHost_keeps {s0 s : State} (h : Keeps s0 s) (session : Nat) (h : HostSession) : Keeps s0 (State.setHost s session h) := by
  unfold State.setHost
  with_reducible repeat' first | assumption | apply State.setHosts_keeps

theorem State.finish_keeps {s0 s : State} (h : Keeps s0 s) (q : Request) (r : Reply) : Keeps s0 (State.finish s q r) := by
  unfold State.finish
  with_reducible repeat' first | assumption | apply keeps_ite | apply State.setHost_keeps | apply State.keepLast_keeps | apply State.answer_keeps | apply State.emit_keeps

theorem State.heard_keeps {s0 s : State} (h : Keeps s0 s) (session : Nat) : Keeps s0 (State.heard s session) := by
  unfold State.heard
  with_reducible repeat' first | assumption | apply keeps_ite | apply State.setHosts_keeps | apply State.setHost_keeps

theorem State.served_keeps {s0 s : State} (h : Keeps s0 s) (session : Nat) (cls : Nat) : Keeps s0 (State.served s session cls) := by
  unfold State.served
  with_reducible repeat' first | assumption | apply keeps_ite | apply State.bumpW_keeps | apply State.putN_keeps | apply State.setHosts_keeps

theorem State.serveCommand_keeps {s0 s : State} (h : Keeps s0 s) (cls : Nat) (session : Nat) (refusal : Option Reply) {act : State → State × Reply}
    (ha : ∀ t, Keeps s0 t → Keeps s0 (act t).1) : Keeps s0 (s.serveCommand cls session refusal act) := by
  unfold State.serveCommand
  have hh := State.heard_keeps h session
  refine keeps_ite (State.answer_keeps hh _ _ _) ?_
  cases refusal with
  | some r => exact State.answer_keeps (State.served_keeps hh _ _) _ _ _
  | none => exact State.answer_keeps (ha _ (State.served_keeps hh _ _)) _ _ _

theorem State.commandOf_keeps {s0 s : State} (h : Keeps s0 s) (cls : Nat) (session : Nat) (refusal : Option Reply) {act : State → State × Reply}
    (ha : ∀ t, Keeps s0 t → Keeps s0 (act t).1) : Keeps s0 (s.commandOf cls session refusal act) := State.serveCommand_keeps h _ _ _ ha

theorem State.command_keeps {s0 s : State} (h : Keeps s0 s) (session : Nat) (refusal : Option Reply) {act : State → State × Reply}
    (ha : ∀ t, Keeps s0 t → Keeps s0 (act t).1) : Keeps s0 (s.command session refusal act) := State.commandOf_keeps h _ _ _ ha

theorem State.bulkCommand_keeps {s0 s : State} (h : Keeps s0 s) (session offset : Nat) (refusal : Option Reply) {act : State → State × Reply}
    (ha : ∀ t, Keeps s0 t → Keeps s0 (act t).1) : Keeps s0 (s.bulkCommand session offset refusal act) := State.commandOf_keeps h _ _ _ ha

theorem State.safetyCommand_keeps {s0 s : State} (h : Keeps s0 s) (session : Nat) (refusal : Option Reply) {act : State → State × Reply}
    (ha : ∀ t, Keeps s0 t → Keeps s0 (act t).1) : Keeps s0 (s.safetyCommand session refusal act) := State.commandOf_keeps h _ _ _ ha

end Sys2Proof.Machine
end

