-- ==== Sys2Proof/Laws/KeepsFilter.lean ====
section
/-!
SUPPORT. Laws/KeepsFilter.lean: every operation of Machine/Filter.lean keeps what `Keeps` says.
-/
namespace Sys2Proof.Machine
open Sys2Proof

theorem State.setCore_keeps {s0 s : State} (h : Keeps s0 s) (c : Nat) (x : AdcCore) : Keeps s0 (State.setCore s c x) := by
  unfold State.setCore
  with_reducible repeat' first | assumption | (apply keeps_with <;> first | rfl | assumption)

theorem State.setChain_keeps {s0 s : State} (h : Keeps s0 s) (n : Nat) (x : Chain) : Keeps s0 (State.setChain s n x) := by
  unfold State.setChain
  with_reducible repeat' first | assumption | (apply keeps_with <;> first | rfl | assumption)

theorem State.refreshUnsettled_keeps {s0 s : State} (h : Keeps s0 s) (n : Nat) : Keeps s0 (State.refreshUnsettled s n) := by
  unfold State.refreshUnsettled
  with_reducible repeat' first | assumption | apply State.putBit_keeps

theorem State.stepStage_keeps {s0 s : State} (h : Keeps s0 s) (n : Nat) (stage : Nat) : Keeps s0 (State.stepStage s n stage) := by
  unfold State.stepStage
  with_reducible repeat' first | assumption | apply keeps_ite | apply State.stage_keeps | apply State.setChain_keeps | apply State.refreshUnsettled_keeps | apply State.note_keeps

theorem State.stepFrame_keeps {s0 s : State} (h : Keeps s0 s) (n : Nat) (k : Nat) : Keeps s0 (State.stepFrame s n k) := by
  unfold State.stepFrame
  with_reducible repeat' first | assumption | apply State.setChain_keeps | apply State.refreshUnsettled_keeps

theorem State.channelSwitch_keeps {s0 s : State} (h : Keeps s0 s) (n : Nat) : Keeps s0 (State.channelSwitch s n) := by
  unfold State.channelSwitch
  with_reducible repeat' first | assumption | apply keeps_ite | apply State.stepStage_keeps | apply State.stepFrame_keeps

theorem State.fallbackSwitch_keeps {s0 s : State} (h : Keeps s0 s) (n : Nat) : Keeps s0 (State.fallbackSwitch s n) := by
  unfold State.fallbackSwitch
  with_reducible repeat' first | assumption | apply State.setChain_keeps | apply State.stepStage_keeps | apply State.stepFrame_keeps

theorem State.stepAll_keeps {s0 s : State} (h : Keeps s0 s) : Keeps s0 (State.stepAll s) := by
  unfold State.stepAll
  with_reducible repeat' first | assumption | apply keeps_foldl | apply State.stepStage_keeps | apply State.stepFrame_keeps | (intro t x (ht : Keeps _ t))

theorem State.measOut_keeps {s0 s : State} (h : Keeps s0 s) (n : Nat) (v : F32) (instant : Int) (ovr : Bool) (subst : Bool) (bin : Nat) : Keeps s0 (State.measOut s n v instant ovr subst bin) := by
  unfold State.measOut
  with_reducible repeat' first | assumption | apply keeps_ite | apply State.setChain_keeps | apply State.putN_keeps | (apply keeps_with <;> first | rfl | assumption | apply State.setChain_keeps | apply State.putN_keeps)

theorem State.rsInput_keeps {s0 s : State} (h : Keeps s0 s) (n : Nat) (v : F32) (hold : Nat) (full : Bool) (ovr : Bool) (subst : Bool) : Keeps s0 (State.rsInput s n v hold full ovr subst) := by
  unfold State.rsInput
  with_reducible repeat' first | assumption | apply keeps_ite | apply State.setChain_keeps | apply State.measOut_keeps

theorem State.afterFir_keeps {s0 s : State} (h : Keeps s0 s) (n : Nat) (v : F32) (hold : Nat) (full : Bool) (ovr : Bool) (subst : Bool) : Keeps s0 (State.afterFir s n v hold full ovr subst) := by
  unfold State.afterFir
  with_reducible repeat' first | assumption | apply keeps_ite | apply State.rsInput_keeps | apply State.measOut_keeps

theorem State.firInput_keeps {s0 s : State} (h : Keeps s0 s) (n : Nat) (v : F32) (hold : Nat) (full : Bool) (ovr : Bool) (subst : Bool) : Keeps s0 (State.firInput s n v hold full ovr subst) := by
  unfold State.firInput
  with_reducible repeat' first | assumption | apply keeps_ite | apply State.setChain_keeps | apply State.afterFir_keeps

theorem State.feedMeas_keeps {s0 s : State} (h : Keeps s0 s) (n : Nat) (code : Int) (hold : Nat) (ovr : Bool) (subst : Bool) : Keeps s0 (State.feedMeas s n code hold ovr subst) := by
  unfold State.feedMeas
  with_reducible repeat' first | assumption | apply keeps_ite | apply State.setChain_keeps | apply State.firInput_keeps

theorem State.blockMissed_keeps {s0 s : State} (h : Keeps s0 s) : Keeps s0 (State.blockMissed s) := by
  unfold State.blockMissed
  with_reducible repeat' first | assumption | apply keeps_ite | apply State.bump_keeps | apply State.note_keeps | (apply keeps_with <;> first | rfl | assumption)

theorem State.fpBlockRelease_keeps {s0 s : State} (h : Keeps s0 s) : Keeps s0 (State.fpBlockRelease s) := by
  unfold State.fpBlockRelease
  with_reducible repeat' first | assumption | apply keeps_ite | apply keeps_foldl | apply State.setChain_keeps | apply State.refreshUnsettled_keeps | apply State.blockMissed_keeps | (apply keeps_with <;> first | rfl | assumption | apply State.setChain_keeps | apply State.refreshUnsettled_keeps | apply State.blockMissed_keeps) | (intro t x (ht : Keeps _ t)) | (intro z; apply keeps_cut (z := z)) | (intro hz; clear_value z) | intro _ | lift_lets -underBinder

theorem State.fcSettled_keeps {s0 s : State} (h : Keeps s0 s) (n : Nat) : Keeps s0 (State.fcSettled s n) := by
  unfold State.fcSettled
  with_reducible repeat' first | assumption | apply keeps_ite | apply State.setChain_keeps | apply State.refreshUnsettled_keeps | apply State.note_keeps

theorem execFcSettled_keeps {s s' : State} (n : Fin 32) (h : execFcSettled n s = .next s') : Keeps s s' := by
  have hs := Keeps.refl s
  unfold execFcSettled at h
  injection h with h
  subst h
  with_reducible repeat' first | assumption | apply State.fcSettled_keeps

theorem State.setGridsync_keeps {s0 s : State} (h : Keeps s0 s) (n : Nat) (b : Bool) : Keeps s0 (State.setGridsync s n b) := by
  unfold State.setGridsync
  with_reducible repeat' first | assumption | apply keeps_ite | apply State.setChain_keeps | apply State.putBit_keeps | apply State.note_keeps

theorem State.setClamped_keeps {s0 s : State} (h : Keeps s0 s) (n : Nat) (b : Bool) : Keeps s0 (State.setClamped s n b) := by
  unfold State.setClamped
  with_reducible repeat' first | assumption | apply keeps_ite | apply State.setChain_keeps | apply State.putBit_keeps | apply State.note_keeps

theorem State.rsUpdate_keeps {s0 s : State} (h : Keeps s0 s) (n : Nat) (f : F32) (fnom : F32) (at1 : Nat) (angle : Option F32) : Keeps s0 (State.rsUpdate s n f fnom at1 angle) := by
  unfold State.rsUpdate
  with_reducible repeat' first | assumption | apply keeps_ite | apply State.setChain_keeps | apply State.setClamped_keeps | apply State.setGridsync_keeps | split

theorem State.rsLeaves_keeps {s0 s : State} (h : Keeps s0 s) (n : Nat) : Keeps s0 (State.rsLeaves s n) := by
  unfold State.rsLeaves
  with_reducible repeat' first | assumption | apply keeps_ite | apply State.setChain_keeps | apply State.setClamped_keeps | apply State.setGridsync_keeps

theorem State.rsGridsync_keeps {s0 s : State} (h : Keeps s0 s) (n : Nat) : Keeps s0 (State.rsGridsync s n) := by
  unfold State.rsGridsync
  with_reducible repeat' first | assumption | apply keeps_ite | apply State.setGridsync_keeps | split

theorem execRsGridsync_keeps {s s' : State} (n : Fin 32) (h : execRsGridsync n s = .next s') : Keeps s s' := by
  have hs := Keeps.refl s
  unfold execRsGridsync at h
  injection h with h
  subst h
  with_reducible repeat' first | assumption | apply State.rsGridsync_keeps

end Sys2Proof.Machine
end

