-- ==== Sys2Proof/Laws/KeepsIslandOps.lean ====
section
/-!
SUPPORT. Laws/KeepsIslandOps.lean: every operation of Machine/IslandOps.lean keeps what `Keeps` says.
-/
namespace Sys2Proof.Machine
open Sys2Proof

theorem State.setSafety_keeps {s0 s : State} (h : Keeps s0 s) (x : Safety) : Keeps s0 (State.setSafety s x) := by
  unfold State.setSafety
  with_reducible repeat' first | assumption | (apply keeps_with <;> first | rfl | assumption)

theorem State.islandNote_keeps {s0 s : State} (h : Keeps s0 s) (code : Nat) (detail : Nat) (set : Bool) (session : Nat) : Keeps s0 (State.islandNote s code detail set session) := by
  unfold State.islandNote
  with_reducible repeat' first | assumption | apply State.occur_keeps

theorem State.refreshSafety_keeps {s0 s : State} (h : Keeps s0 s) : Keeps s0 (State.refreshSafety s) := by
  unfold State.refreshSafety
  with_reducible repeat' first | assumption | apply State.putN_keeps

theorem State.sgbRelease_keeps {s0 s : State} (h : Keeps s0 s) : Keeps s0 (State.sgbRelease s) := by
  unfold State.sgbRelease
  with_reducible repeat' first | assumption | apply keeps_ite | apply State.islandNote_keeps | apply State.setSafety_keeps | apply State.putN_keeps | apply State.putBit_keeps | apply State.refreshSafety_keeps

end Sys2Proof.Machine
end

