-- ==== Sys2Proof/Laws/KeepsLaneOps.lean ====
section
/-!
SUPPORT. Laws/KeepsLaneOps.lean: every operation of Machine/LaneOps.lean keeps what `Keeps` says.
-/
namespace Sys2Proof.Machine
open Sys2Proof

theorem State.setLaneRec_keeps {s0 s : State} (h : Keeps s0 s) (l : Lane) (r : LaneRec) : Keeps s0 (State.setLaneRec s l r) := by
  unfold State.setLaneRec
  with_reducible repeat' first | assumption | (apply keeps_with <;> first | rfl | assumption) | split

theorem State.refreshClaims_keeps {s0 s : State} (h : Keeps s0 s) : Keeps s0 (State.refreshClaims s) := by
  unfold State.refreshClaims
  with_reducible repeat' first | assumption | apply State.putN_keeps | apply State.putBit_keeps | split | (intro z; apply keeps_cut (z := z)) | (intro hz; clear_value z) | intro _ | lift_lets -underBinder

theorem State.setLane_keeps {s0 s : State} (h : Keeps s0 s) (l : Lane) (st : Nat) (cause : Nat) : Keeps s0 (State.setLane s l st cause) := by
  unfold State.setLane
  with_reducible repeat' first | assumption | apply keeps_ite | apply State.putN_keeps | apply State.note_keeps | apply State.refreshClaims_keeps

theorem State.actOnMark_keeps {s0 s : State} (h : Keeps s0 s) (q : Request) : Keeps s0 (State.actOnMark s q) := by
  unfold State.actOnMark
  with_reducible repeat' first | assumption | apply State.applied_keeps | apply State.emit_keeps | (apply keeps_with <;> first | rfl | assumption | apply State.applied_keeps | apply State.emit_keeps) | split

theorem State.actOnMarks_keeps {s0 s : State} (h : Keeps s0 s) : Keeps s0 (State.actOnMarks s) := by
  unfold State.actOnMarks
  with_reducible repeat' first | assumption | apply keeps_foldl | apply State.actOnMark_keeps | (apply keeps_with <;> first | rfl | assumption) | (intro t x (ht : Keeps _ t))

theorem State.serve_keeps {s0 s : State} (h : Keeps s0 s) (l : Lane) (cause : Nat) : Keeps s0 (State.serve s l cause) := by
  unfold State.serve
  with_reducible repeat' first | assumption | apply State.actOnMarks_keeps | apply State.putN_keeps | apply State.setLane_keeps | apply State.setLaneRec_keeps | apply State.refreshClaims_keeps

theorem State.diagFailed_keeps {s0 s : State} (h : Keeps s0 s) (l : Lane) : Keeps s0 (State.diagFailed s l) := by
  unfold State.diagFailed
  with_reducible repeat' first | assumption | apply State.setLaneRec_keeps

theorem State.lanePoison_keeps {s0 s : State} (h : Keeps s0 s) (l : Lane) : Keeps s0 (State.lanePoison s l) := by
  unfold State.lanePoison
  with_reducible repeat' first | assumption | apply State.setLaneRec_keeps

theorem State.frameInvalid_keeps {s0 s : State} (h : Keeps s0 s) (l : Lane) : Keeps s0 (State.frameInvalid s l) := by
  unfold State.frameInvalid
  with_reducible repeat' first | assumption | apply keeps_ite | apply State.bump_keeps | apply State.setLaneRec_keeps

theorem State.tilePoison_keeps {s0 s : State} (h : Keeps s0 s) (l : Lane) : Keeps s0 (State.tilePoison s l) := by
  unfold State.tilePoison
  with_reducible repeat' first | assumption | apply State.lanePoison_keeps | apply State.frameInvalid_keeps

theorem State.houseTrap_keeps {s0 s : State} (h : Keeps s0 s) (l : Lane) : Keeps s0 (State.houseTrap s l) := by
  unfold State.houseTrap
  with_reducible repeat' first | assumption | apply State.bump_keeps | apply State.lanePoison_keeps

theorem State.demote_keeps {s0 s : State} (h : Keeps s0 s) (l : Lane) (cause : Nat) : Keeps s0 (State.demote s l cause) := by
  unfold State.demote
  with_reducible repeat' first | assumption | apply keeps_ite | apply State.served_keeps | apply State.bump_keeps | apply State.setLane_keeps | apply State.setLaneRec_keeps | apply State.commit_keeps | apply State.serve_keeps | apply State.putN_keeps | apply State.refreshClaims_keeps

end Sys2Proof.Machine
end

