-- ==== Sys2Proof/Laws/KeepsPwm.lean ====
section
/-!
SUPPORT. Laws/KeepsPwm.lean: every operation of Machine/Pwm.lean keeps what `Keeps` says.
-/
namespace Sys2Proof.Machine
open Sys2Proof

theorem State.setCarrier_keeps {s0 s : State} (h : Keeps s0 s) (c : Nat) (x : Carrier) : Keeps s0 (State.setCarrier s c x) := by
  unfold State.setCarrier
  with_reducible repeat' first | assumption | (apply keeps_with <;> first | rfl | assumption)

theorem State.setPair_keeps {s0 s : State} (h : Keeps s0 s) (p : Nat) (x : Pair) : Keeps s0 (State.setPair s p x) := by
  unfold State.setPair
  with_reducible repeat' first | assumption | (apply keeps_with <;> first | rfl | assumption)

theorem State.refreshPulls_keeps {s0 s : State} (h : Keeps s0 s) : Keeps s0 (State.refreshPulls s) := by
  unfold State.refreshPulls
  with_reducible repeat' first | assumption | apply keeps_ite | apply keeps_foldl | apply State.putI_keeps | apply State.putB_keeps | (intro t x (ht : Keeps _ t))

theorem State.carrierPull_keeps {s0 s : State} (h : Keeps s0 s) (c : Nat) : Keeps s0 (State.carrierPull s c) := by
  unfold State.carrierPull
  with_reducible repeat' first | assumption | apply keeps_ite | apply State.setCarrier_keeps

theorem execCarrierPull_keeps {s s' : State} (c : Fin 8) (h : execCarrierPull c s = .next s') : Keeps s s' := by
  have hs := Keeps.refl s
  unfold execCarrierPull at h
  injection h with h
  subst h
  with_reducible repeat' first | assumption | apply State.carrierPull_keeps

theorem State.reloadPair_keeps {s0 s : State} (h : Keeps s0 s) (c : Nat) (p : Nat) : Keeps s0 (State.reloadPair s c p) := by
  unfold State.reloadPair
  with_reducible repeat' first | assumption | apply keeps_ite | apply State.setPair_keeps | apply State.putN_keeps | apply State.chanOff_keeps | split | intro _ | lift_lets -underBinder

theorem State.halfBegins_keeps {s0 s : State} (h : Keeps s0 s) (c : Nat) : Keeps s0 (State.halfBegins s c) := by
  unfold State.halfBegins
  with_reducible repeat' first | assumption | apply keeps_ite | apply State.setCarrier_keeps | apply State.refreshPulls_keeps

theorem State.carrierReload_keeps {s0 s : State} (h : Keeps s0 s) (c : Nat) : Keeps s0 (State.carrierReload s c) := by
  unfold State.carrierReload
  with_reducible repeat' first | assumption | apply keeps_ite | apply keeps_foldl | apply State.reloadPair_keeps | apply State.halfBegins_keeps | apply State.setOut_keeps | (intro t x (ht : Keeps _ t))

theorem execCarrierReload_keeps {s s' : State} (c : Fin 8) (h : execCarrierReload c s = .next s') : Keeps s s' := by
  have hs := Keeps.refl s
  unfold execCarrierReload at h
  injection h with h
  subst h
  with_reducible repeat' first | assumption | apply State.carrierReload_keeps

theorem State.loadAll_keeps {s0 s : State} (h : Keeps s0 s) : Keeps s0 (State.loadAll s) := by
  unfold State.loadAll
  with_reducible repeat' first | assumption | apply keeps_ite | apply keeps_foldl | apply State.bumpW_keeps | apply State.setCarrier_keeps | apply State.putBit_keeps | apply State.bump_keeps | apply State.note_keeps | apply State.setPair_keeps | (apply keeps_with <;> first | rfl | assumption | apply State.bumpW_keeps) | (intro t x (ht : Keeps _ t))

theorem State.scheduleOn_keeps {s0 s : State} (h : Keeps s0 s) (i : Nat) (t : Nat) (moved : Bool) (stretched : Bool) : Keeps s0 (State.scheduleOn s i t moved stretched) := by
  unfold State.scheduleOn
  with_reducible repeat' first | assumption | (apply keeps_with <;> first | rfl | assumption)

theorem State.orderFix_keeps {s0 s : State} (h : Keeps s0 s) (p : Nat) : Keeps s0 (State.orderFix s p) := by
  unfold State.orderFix
  with_reducible repeat' first | assumption | apply State.bump_keeps | apply State.note_keeps

theorem State.issueEdge_keeps {s0 s : State} (h : Keeps s0 s) (p : Nat) (highActive : Bool) : Keeps s0 (State.issueEdge s p highActive) := by
  unfold State.issueEdge
  with_reducible repeat' first | assumption | apply keeps_ite | apply State.chanOff_keeps | apply State.setPair_keeps | apply State.orderFix_keeps | apply State.bump_keeps | apply State.scheduleOn_keeps

theorem State.heldEdge_keeps {s0 s : State} (h : Keeps s0 s) (p : Nat) (h : HeldEdge) : Keeps s0 (State.heldEdge s p h) := by
  unfold State.heldEdge
  with_reducible repeat' first | assumption | apply keeps_ite | apply State.setPair_keeps | apply State.issueEdge_keeps

theorem State.newEdge_keeps {s0 s : State} (h : Keeps s0 s) (p : Nat) (highActive : Bool) : Keeps s0 (State.newEdge s p highActive) := by
  unfold State.newEdge
  with_reducible repeat' first | assumption | apply keeps_ite | apply State.setPair_keeps | apply State.orderFix_keeps | apply State.bump_keeps | apply State.issueEdge_keeps | apply State.chanOff_keeps

theorem State.compareEdge_keeps {s0 s : State} (h : Keeps s0 s) (p : Nat) (highActive : Bool) : Keeps s0 (State.compareEdge s p highActive) := by
  unfold State.compareEdge
  with_reducible repeat' first | assumption | apply keeps_ite | apply State.heldEdge_keeps | apply State.setPair_keeps | apply State.bump_keeps | apply State.newEdge_keeps | split

theorem execCompareEdge_keeps {s s' : State} (p : Fin 24) (highActive : Bool) (h : execCompareEdge p highActive s = .next s') : Keeps s s' := by
  have hs := Keeps.refl s
  unfold execCompareEdge at h
  injection h with h
  subst h
  with_reducible repeat' first | assumption | apply State.compareEdge_keeps

theorem State.deadTimeTurnOn_keeps {s0 s : State} (h : Keeps s0 s) (i : Nat) : Keeps s0 (State.deadTimeTurnOn s i) := by
  unfold State.deadTimeTurnOn
  with_reducible repeat' first | assumption | apply keeps_ite | apply State.orderFix_keeps | apply State.scheduleOn_keeps | apply State.chanOn_keeps | split

theorem execDeadTimeTurnOn_keeps {s s' : State} (ch : Fin 48) (h : execDeadTimeTurnOn ch s = .next s') : Keeps s s' := by
  have hs := Keeps.refl s
  unfold execDeadTimeTurnOn at h
  injection h with h
  subst h
  with_reducible repeat' first | assumption | apply State.deadTimeTurnOn_keeps

theorem State.clampOn_keeps {s0 s : State} (h : Keeps s0 s) (i : Nat) : Keeps s0 (State.clampOn s i) := by
  unfold State.clampOn
  with_reducible repeat' first | assumption | apply keeps_ite | apply State.chanOn_keeps | apply State.scheduleOn_keeps

theorem State.safeStep2_keeps {s0 s : State} (h : Keeps s0 s) : Keeps s0 (State.safeStep2 s) := by
  unfold State.safeStep2
  with_reducible repeat' first | assumption | apply keeps_ite | apply keeps_ite_fst | apply keeps_ite_snd | apply keeps_foldl | apply State.chanOff_keeps | apply State.clampOn_keeps | apply State.setOut_keeps | apply State.endSequence_keeps | (apply keeps_with <;> first | rfl | assumption | apply keeps_ite | apply keeps_ite_fst | apply keeps_ite_snd | apply keeps_foldl | apply State.chanOff_keeps | apply State.clampOn_keeps | apply State.setOut_keeps | apply State.endSequence_keeps) | split | (intro t x (ht : Keeps _ t))

theorem execSafeStep2_keeps {s s' : State}  (h : execSafeStep2 s = .next s') : Keeps s s' := by
  have hs := Keeps.refl s
  unfold execSafeStep2 at h
  injection h with h
  subst h
  with_reducible repeat' first | assumption | apply State.safeStep2_keeps

theorem State.clampTimeEnd_keeps {s0 s : State} (h : Keeps s0 s) : Keeps s0 (State.clampTimeEnd s) := by
  unfold State.clampTimeEnd
  with_reducible repeat' first | assumption | apply keeps_ite | apply keeps_ite_fst | apply keeps_ite_snd | apply keeps_foldl | apply State.chanOff_keeps | apply State.endSequence_keeps | (apply keeps_with <;> first | rfl | assumption | apply keeps_ite | apply keeps_ite_fst | apply keeps_ite_snd | apply keeps_foldl | apply State.chanOff_keeps | apply State.endSequence_keeps) | split | (intro t x (ht : Keeps _ t))

theorem execClampTimeEnd_keeps {s s' : State}  (h : execClampTimeEnd s = .next s') : Keeps s s' := by
  have hs := Keeps.refl s
  unfold execClampTimeEnd at h
  injection h with h
  subst h
  with_reducible repeat' first | assumption | apply State.clampTimeEnd_keeps

theorem State.debugHalt_keeps {s0 s : State} (h : Keeps s0 s) (l : Lane) (halt : Bool) : Keeps s0 (State.debugHalt s l halt) := by
  unfold State.debugHalt
  with_reducible repeat' first | assumption | apply keeps_ite | apply State.trip_keeps | (apply keeps_with <;> first | rfl | assumption | apply State.trip_keeps) | split

theorem execDebugHalt_keeps {s s' : State} (lane : Lane) (halt : Bool) (h : execDebugHalt lane halt s = .next s') : Keeps s s' := by
  have hs := Keeps.refl s
  unfold execDebugHalt at h
  injection h with h
  subst h
  with_reducible repeat' first | assumption | apply State.debugHalt_keeps

theorem State.setTripIn_keeps {s0 s : State} (h : Keeps s0 s) (i : Nat) (t : TripIn) : Keeps s0 (State.setTripIn s i t) := by
  unfold State.setTripIn
  with_reducible repeat' first | assumption | (apply keeps_with <;> first | rfl | assumption)

theorem State.tripActs_keeps {s0 s : State} (h : Keeps s0 s) (i : Nat) : Keeps s0 (State.tripActs s i) := by
  unfold State.tripActs
  with_reducible repeat' first | assumption | apply keeps_ite | apply State.trip_keeps

theorem State.tripInput_keeps {s0 s : State} (h : Keeps s0 s) (i : Nat) (level : Bool) : Keeps s0 (State.tripInput s i level) := by
  unfold State.tripInput
  with_reducible repeat' first | assumption | apply keeps_ite | apply State.setTripIn_keeps | apply State.putB_keeps | apply State.tripActs_keeps

theorem execTripInput_keeps {s s' : State} (i : Fin 4) (level : Bool) (h : execTripInput i level s = .next s') : Keeps s s' := by
  have hs := Keeps.refl s
  unfold execTripInput at h
  injection h with h
  subst h
  with_reducible repeat' first | assumption | apply State.tripInput_keeps

theorem State.blankWindowEnd_keeps {s0 s : State} (h : Keeps s0 s) (i : Nat) : Keeps s0 (State.blankWindowEnd s i) := by
  unfold State.blankWindowEnd
  with_reducible repeat' first | assumption | apply keeps_ite | apply State.setTripIn_keeps | apply State.tripActs_keeps | apply State.bump_keeps | apply State.note_keeps

theorem execBlankWindowEnd_keeps {s s' : State} (i : Fin 4) (h : execBlankWindowEnd i s = .next s') : Keeps s s' := by
  have hs := Keeps.refl s
  unfold execBlankWindowEnd at h
  injection h with h
  subst h
  with_reducible repeat' first | assumption | apply State.blankWindowEnd_keeps

theorem State.cmdTimeout_keeps {s0 s : State} (h : Keeps s0 s) : Keeps s0 (State.cmdTimeout s) := by
  unfold State.cmdTimeout
  with_reducible repeat' first | assumption | apply keeps_ite | apply State.trip_keeps

theorem execCmdTimeout_keeps {s s' : State}  (h : execCmdTimeout s = .next s') : Keeps s s' := by
  have hs := Keeps.refl s
  unfold execCmdTimeout at h
  injection h with h
  subst h
  with_reducible repeat' first | assumption | apply State.cmdTimeout_keeps

theorem State.tripClear_keeps {s0 s : State} (h : Keeps s0 s) (session : Nat) (mask : Nat) : Keeps s0 (State.tripClear s session mask).1 := by
  unfold State.tripClear
  with_reducible repeat' first | assumption | apply keeps_ite | apply keeps_ite_fst | apply State.occur_keeps | apply State.sgbRelease_keeps | apply State.putN_keeps

theorem execTripClear_keeps {s s' : State} (session : Nat) (mask : Nat) (h : execTripClear session mask s = .next s') : Keeps s s' := by
  have hs := Keeps.refl s
  unfold execTripClear at h
  injection h with h
  subst h
  with_reducible repeat' first | assumption | apply State.command_keeps | apply State.tripClear_keeps | (intro t x (ht : Keeps _ t)) | (intro t (ht : Keeps _ t))

theorem State.setArm_keeps {s0 s : State} (h : Keeps s0 s) (k : Nat) (a : Arm) : Keeps s0 (State.setArm s k a) := by
  unfold State.setArm
  with_reducible repeat' first | assumption | (apply keeps_with <;> first | rfl | assumption)

theorem State.mmcSort_keeps {s0 s : State} (h : Keeps s0 s) (k : Nat) : Keeps s0 (State.mmcSort s k) := by
  unfold State.mmcSort
  with_reducible repeat' first | assumption | apply keeps_ite | apply State.setArm_keeps | apply State.putN_keeps | apply State.note_keeps | apply State.protStop_keeps

theorem execMmcSort_keeps {s s' : State} (arm : Fin 6) (h : execMmcSort arm s = .next s') : Keeps s s' := by
  have hs := Keeps.refl s
  unfold execMmcSort at h
  injection h with h
  subst h
  with_reducible repeat' first | assumption | apply State.mmcSort_keeps

end Sys2Proof.Machine
end

