-- ==== Sys2Proof/Laws/KeepsAdc.lean ====
section
/-!
SUPPORT. Laws/KeepsAdc.lean: every operation of Machine/Adc.lean keeps what `Keeps` says.
-/
namespace Sys2Proof.Machine
open Sys2Proof

theorem State.writeResult_keeps {s0 s : State} (h : Keeps s0 s) (c : Nat) (e : Nat) (code : Int) (ovr : Bool) (subst : Bool) : Keeps s0 (State.writeResult s c e code ovr subst) := by
  unfold State.writeResult
  with_reducible repeat' first | assumption | apply keeps_ite | apply State.putN_keeps

theorem State.skipSlots_keeps {s0 s : State} (h : Keeps s0 s) : Keeps s0 (State.skipSlots s) := by
  unfold State.skipSlots
  with_reducible repeat' first | assumption | apply keeps_ite | apply keeps_foldl | apply State.setCore_keeps | (intro t x (ht : Keeps _ t))

theorem State.anchorCores_keeps {s0 s : State} (h : Keeps s0 s) : Keeps s0 (State.anchorCores s) := by
  unfold State.anchorCores
  with_reducible repeat' first | assumption | apply keeps_ite | apply keeps_foldl | apply State.setCore_keeps | (intro t x (ht : Keeps _ t))

theorem State.coreFault_keeps {s0 s : State} (h : Keeps s0 s) (c : Nat) : Keeps s0 (State.coreFault s c) := by
  unfold State.coreFault
  with_reducible repeat' first | assumption | apply keeps_ite | apply State.setCore_keeps | apply State.putBit_keeps | apply State.note_keeps | apply State.fallbackSwitch_keeps | apply State.channelSwitch_keeps

theorem State.coreReleased_keeps {s0 s : State} (h : Keeps s0 s) (c : Nat) : Keeps s0 (State.coreReleased s c) := by
  unfold State.coreReleased
  with_reducible repeat' first | assumption | apply keeps_ite | apply State.setCore_keeps | apply State.putBit_keeps | apply State.note_keeps | apply State.channelSwitch_keeps

theorem State.coreCalStart_keeps {s0 s : State} (h : Keeps s0 s) (c : Nat) : Keeps s0 (State.coreCalStart s c) := by
  unfold State.coreCalStart
  with_reducible repeat' first | assumption | apply State.putI_keeps | apply State.setCore_keeps

theorem State.coreSwitched_keeps {s0 s : State} (h : Keeps s0 s) (c : Nat) : Keeps s0 (State.coreSwitched s c) := by
  unfold State.coreSwitched
  with_reducible repeat' first | assumption | apply State.setCore_keeps

theorem State.coreTouched_keeps {s0 s : State} (h : Keeps s0 s) (c : Nat) (pairing : Bool) : Keeps s0 (State.coreTouched s c pairing) := by
  unfold State.coreTouched
  with_reducible repeat' first | assumption | apply keeps_ite | apply State.setCore_keeps | apply State.coreCalStart_keeps | apply State.coreReleased_keeps

theorem State.meanCode_keeps {s0 s : State} (h : Keeps s0 s) (a : Int) (b : Int) : Keeps s0 (State.meanCode s a b).2 := by
  unfold State.meanCode
  with_reducible repeat' first | assumption | apply keeps_ite | apply keeps_ite_fst | apply keeps_ite_snd | apply State.draw_keeps

theorem State.overrange_keeps {s0 s : State} (h : Keeps s0 s) (c : Nat) (b : Bool) : Keeps s0 (State.overrange s c b) := by
  unfold State.overrange
  with_reducible repeat' first | assumption | apply keeps_ite | apply State.setCore_keeps | apply State.note_keeps

theorem State.substitute_keeps {s0 s : State} (h : Keeps s0 s) (c : Nat) (prev : Int) (code : Int) (at1 : Nat) : Keeps s0 (State.substitute s c prev code at1) := by
  unfold State.substitute
  with_reducible repeat' first | assumption | apply State.meanCode_keeps | apply State.bump_keeps | apply State.writeResult_keeps | apply State.feedMeas_keeps

theorem State.primaryMeas_keeps {s0 s : State} (h : Keeps s0 s) (c : Nat) (code : Int) (hold2 : Nat) : Keeps s0 (State.primaryMeas s c code hold2) := by
  unfold State.primaryMeas
  with_reducible repeat' first | assumption | apply keeps_ite | apply State.feedMeas_keeps | apply State.substitute_keeps | apply State.setCore_keeps | split

theorem State.primaryDone_keeps {s0 s : State} (h : Keeps s0 s) (c : Nat) (k : Int) (code : Int) : Keeps s0 (State.primaryDone s c k code) := by
  unfold State.primaryDone
  with_reducible repeat' first | assumption | apply keeps_ite | apply State.setChain_keeps | apply State.primaryMeas_keeps | apply State.writeResult_keeps | apply State.overrange_keeps | apply State.setCore_keeps

theorem State.flightDone_keeps {s0 s : State} (h : Keeps s0 s) (c : Nat) (code : Int) : Keeps s0 (State.flightDone s c code) := by
  unfold State.flightDone
  with_reducible repeat' first | assumption | apply State.setCore_keeps | apply State.writeResult_keeps | apply State.overrange_keeps

theorem State.takeSlot_keeps {s0 s : State} (h : Keeps s0 s) (c : Nat) (hold2 : Nat) : Keeps s0 (State.takeSlot s c hold2) := by
  unfold State.takeSlot
  with_reducible repeat' first | assumption | apply keeps_ite | apply State.setCore_keeps | apply State.feedMeas_keeps | split

theorem State.dueSweep_keeps {s0 s : State} (h : Keeps s0 s) (c : Nat) : Keeps s0 (State.dueSweep s c) := by
  unfold State.dueSweep
  with_reducible repeat' first | assumption | apply keeps_foldl | apply State.setCore_keeps | apply State.bump_keeps | apply State.note_keeps | (intro t x (ht : Keeps _ t))

theorem State.moveCal_keeps {s0 s : State} (h : Keeps s0 s) (k : Nat) (lim : Nat) (bound : Int) : Keeps s0 (State.moveCal s k lim bound) := by
  unfold State.moveCal
  with_reducible repeat' first | assumption | apply keeps_ite | apply State.draw_keeps | apply State.putI_keeps

theorem State.setCal_keeps {s0 s : State} (h : Keeps s0 s) (c : Nat) : Keeps s0 (State.setCal s c) := by
  unfold State.setCal
  with_reducible repeat' first | assumption | apply State.draw_keeps | apply State.putI_keeps

theorem State.setIch_keeps {s0 s : State} (h : Keeps s0 s) (c : Nat) (i : Nat) (code : Int) : Keeps s0 (State.setIch s c i code) := by
  unfold State.setIch
  with_reducible repeat' first | assumption | (apply keeps_with <;> first | rfl | assumption)

theorem State.coreCalDone_keeps {s0 s : State} (h : Keeps s0 s) (c : Nat) : Keeps s0 (State.coreCalDone s c) := by
  unfold State.coreCalDone
  with_reducible repeat' first | assumption | apply keeps_ite | apply State.coreFault_keeps | apply State.setCore_keeps | apply State.setCal_keeps | apply State.coreReleased_keeps | apply State.stepStage_keeps | apply State.stepFrame_keeps

theorem State.calReading_keeps {s0 s : State} (h : Keeps s0 s) (c : Nat) (kind : Nat) (code : Int) : Keeps s0 (State.calReading s c kind code) := by
  unfold State.calReading
  with_reducible repeat' first | assumption | apply keeps_ite | apply State.setIch_keeps | apply State.setCore_keeps | apply State.coreFault_keeps | apply State.coreCalDone_keeps | apply State.putN_keeps | apply State.moveCal_keeps

theorem State.calConversion_keeps {s0 s : State} (h : Keeps s0 s) (c : Nat) (kind : Nat) (code : Int) : Keeps s0 (State.calConversion s c kind code) := by
  unfold State.calConversion
  with_reducible repeat' first | assumption | apply keeps_ite | apply State.setCore_keeps | apply State.calReading_keeps | apply State.takeSlot_keeps | split

theorem State.secondaryDone_keeps {s0 s : State} (h : Keeps s0 s) (c : Nat) (e : Nat) (code : Int) : Keeps s0 (State.secondaryDone s c e code) := by
  unfold State.secondaryDone
  with_reducible repeat' first | assumption | apply keeps_ite | apply State.setCore_keeps | apply State.writeResult_keeps | apply State.setIch_keeps | apply State.takeSlot_keeps | split

theorem State.conversionDone_keeps {s0 s : State} (h : Keeps s0 s) (c : Nat) (slot : Slot) (code : Int) : Keeps s0 (State.conversionDone s c slot code) := by
  unfold State.conversionDone
  with_reducible repeat' first | assumption | apply keeps_ite | apply State.dueSweep_keeps | apply State.flightDone_keeps | apply State.primaryDone_keeps | apply State.secondaryDone_keeps | apply State.calConversion_keeps | split

theorem execAdcConversionDone_keeps {s s' : State} (c : Fin 32) (slot : Slot) (code : Int) (h : execAdcConversionDone c slot code s = .next s') : Keeps s s' := by
  have hs := Keeps.refl s
  unfold execAdcConversionDone at h
  injection h with h
  subst h
  with_reducible repeat' first | assumption | apply State.conversionDone_keeps

theorem execAdcConversionTimeout_keeps {s s' : State} (c : Fin 32) (window : Bool) (h : execAdcConversionTimeout c window s = .next s') : Keeps s s' := by
  have hs := Keeps.refl s
  unfold execAdcConversionTimeout at h
  injection h with h
  subst h
  with_reducible repeat' first | assumption | apply keeps_ite | apply keeps_ite_fst | apply State.setChain_keeps | apply State.coreFault_keeps

theorem State.seqDue_keeps {s0 s : State} (h : Keeps s0 s) (n : Nat) : Keeps s0 (State.seqDue s n) := by
  unfold State.seqDue
  with_reducible repeat' first | assumption | apply keeps_ite | apply keeps_foldl | apply State.dueSweep_keeps | apply State.setCore_keeps | (intro t x (ht : Keeps _ t))

theorem State.startupCal_keeps {s0 s : State} (h : Keeps s0 s) : Keeps s0 (State.startupCal s) := by
  unfold State.startupCal
  with_reducible repeat' first | assumption | apply keeps_ite | apply keeps_ite_fst | apply keeps_ite_snd | apply keeps_foldl | apply State.coreCalStart_keeps | apply State.putN_keeps | (apply keeps_with <;> first | rfl | assumption | apply keeps_ite | apply keeps_ite_fst | apply keeps_ite_snd | apply keeps_foldl) | split | (intro t x (ht : Keeps _ t))

theorem execAdcStartupCal_keeps {s s' : State}  (h : execAdcStartupCal s = .next s') : Keeps s s' := by
  have hs := Keeps.refl s
  unfold execAdcStartupCal at h
  injection h with h
  subst h
  with_reducible repeat' first | assumption | apply State.startupCal_keeps

theorem State.adcCalDone_keeps {s0 s : State} (h : Keeps s0 s) : Keeps s0 (State.adcCalDone s) := by
  unfold State.adcCalDone
  with_reducible repeat' first | assumption | apply keeps_ite | apply State.putN_keeps | apply State.note_keeps

theorem execAdcCalDone_keeps {s s' : State}  (h : execAdcCalDone s = .next s') : Keeps s s' := by
  have hs := Keeps.refl s
  unfold execAdcCalDone at h
  injection h with h
  subst h
  with_reducible repeat' first | assumption | apply State.adcCalDone_keeps

theorem State.adcTbLost_keeps {s0 s : State} (h : Keeps s0 s) : Keeps s0 (State.adcTbLost s) := by
  unfold State.adcTbLost
  with_reducible repeat' first | assumption | apply keeps_ite | apply keeps_ite_fst | apply keeps_ite_snd | apply keeps_foldl | apply State.setCore_keeps | (apply keeps_with <;> first | rfl | assumption | apply keeps_ite | apply keeps_ite_fst | apply keeps_ite_snd | apply keeps_foldl) | split | (intro t x (ht : Keeps _ t))

theorem State.adcDomainOn_keeps {s0 s : State} (h : Keeps s0 s) : Keeps s0 (State.adcDomainOn s) := by
  unfold State.adcDomainOn
  with_reducible repeat' first | assumption | apply keeps_ite | apply keeps_ite_fst | apply keeps_ite_snd | apply keeps_foldl | apply State.coreCalStart_keeps | apply State.setCore_keeps | apply State.stepAll_keeps | (apply keeps_with <;> first | rfl | assumption | apply keeps_ite | apply keeps_ite_fst | apply keeps_ite_snd | apply keeps_foldl) | split | (intro t x (ht : Keeps _ t))

theorem State.divergeTo_keeps {s0 s : State} (h : Keeps s0 s) (lvl : Nat) : Keeps s0 (State.divergeTo s lvl) := by
  unfold State.divergeTo
  with_reducible repeat' first | assumption | (apply keeps_with <;> first | rfl | assumption)

theorem State.judgeDivergence_keeps {s0 s : State} (h : Keeps s0 s) : Keeps s0 (State.judgeDivergence s) := by
  unfold State.judgeDivergence
  with_reducible repeat' first | assumption | apply keeps_ite | apply State.divergeTo_keeps | apply State.note_keeps

theorem State.thermalWatch_keeps {s0 s : State} (h : Keeps s0 s) : Keeps s0 (State.thermalWatch s) := by
  unfold State.thermalWatch
  with_reducible repeat' first | assumption | apply keeps_ite | apply State.putF_keeps | apply State.putN_keeps | apply State.note_keeps | (apply keeps_with <;> first | rfl | assumption | apply State.putF_keeps)

theorem State.backupWatch_keeps {s0 s : State} (h : Keeps s0 s) : Keeps s0 (State.backupWatch s) := by
  unfold State.backupWatch
  with_reducible repeat' first | assumption | apply keeps_ite | apply State.putF_keeps | apply State.putBit_keeps | apply State.note_keeps

theorem State.ichUpdate_keeps {s0 s : State} (h : Keeps s0 s) : Keeps s0 (State.ichUpdate s) := by
  unfold State.ichUpdate
  with_reducible repeat' first | assumption | apply keeps_ite | apply keeps_ite_fst | apply keeps_ite_snd | apply keeps_foldl | apply State.putF_keeps | apply State.putI_keeps | apply State.judgeDivergence_keeps | apply State.thermalWatch_keeps | apply State.backupWatch_keeps | (apply keeps_with <;> first | rfl | assumption | apply keeps_ite | apply keeps_ite_fst | apply keeps_ite_snd | apply keeps_foldl | apply State.putF_keeps | apply State.putI_keeps | apply State.judgeDivergence_keeps | apply State.thermalWatch_keeps | apply State.backupWatch_keeps) | split | (intro t x (ht : Keeps _ t))

theorem execIchValueUpdate_keeps {s s' : State}  (h : execIchValueUpdate s = .next s') : Keeps s s' := by
  have hs := Keeps.refl s
  unfold execIchValueUpdate at h
  injection h with h
  subst h
  with_reducible repeat' first | assumption | apply State.ichUpdate_keeps

end Sys2Proof.Machine
end

