-- ==== Sys2Proof/Laws/KeepsArch.lean ====
section
/-!
SUPPORT. Laws/KeepsArch.lean: every operation of Machine/Arch.lean keeps what `Keeps` says.
-/
namespace Sys2Proof.Machine
open Sys2Proof

theorem State.consumerPoison_keeps {s0 s : State} (h : Keeps s0 s) (c : Consumer) : Keeps s0 (State.consumerPoison s c) := by
  unfold State.consumerPoison
  with_reducible repeat' first | assumption | apply State.tilePoison_keeps | apply State.houseTrap_keeps | (apply keeps_with <;> first | rfl | assumption | apply State.tilePoison_keeps | apply State.houseTrap_keeps) | split

theorem State.setLink_keeps {s0 s : State} (h : Keeps s0 s) (i : Nat) (f : FabLink) : Keeps s0 (State.setLink s i f) := by
  unfold State.setLink
  with_reducible repeat' first | assumption | (apply keeps_with <;> first | rfl | assumption)

theorem State.fabricArrival_keeps {s0 s : State} (h : Keeps s0 s) (link : Nat) (dest : Consumer) (sent : BitVec 144) (err : BitVec 144) : Keeps s0 (State.fabricArrival s link dest sent err) := by
  unfold State.fabricArrival
  with_reducible repeat' first | assumption | apply keeps_ite | apply State.setLink_keeps | apply State.bump_keeps | apply State.consumerPoison_keeps | split | intro _ | lift_lets -underBinder

theorem execFabricCodewordArrival_keeps {s s' : State} (link : Fin 3) (dest : Consumer) (sent : BitVec 144) (err : BitVec 144) (h : execFabricCodewordArrival link dest sent err s = .next s') : Keeps s s' := by
  have hs := Keeps.refl s
  unfold execFabricCodewordArrival at h
  injection h with h
  subst h
  with_reducible repeat' first | assumption | apply State.fabricArrival_keeps

theorem execHouseSupervisionMiss_keeps {s s' : State} (lane : Lane) (h : execHouseSupervisionMiss lane s = .next s') : Keeps s s' := by
  have hs := Keeps.refl s
  unfold execHouseSupervisionMiss at h
  injection h with h
  subst h
  with_reducible repeat' first | assumption | apply State.diagFailed_keeps

theorem State.setGauges_keeps {s0 s : State} (h : Keeps s0 s) (l : Lane) (g : Vector Gauge 6) : Keeps s0 (State.setGauges s l g) := by
  unfold State.setGauges
  with_reducible repeat' first | assumption | (apply keeps_with <;> first | rfl | assumption) | split

theorem State.refreshSi_keeps {s0 s : State} (h : Keeps s0 s) (l : Lane) : Keeps s0 (State.refreshSi s l) := by
  unfold State.refreshSi
  with_reducible repeat' first | assumption | apply keeps_ite | apply keeps_foldl | apply State.putN_keeps | apply State.diagFailed_keeps

theorem State.takeSamples_keeps {s0 s : State} (h : Keeps s0 s) (l : Lane) (vals : List (Option Nat)) : Keeps s0 (State.takeSamples s l vals) := by
  unfold State.takeSamples
  with_reducible repeat' first | assumption | apply State.setGauges_keeps

theorem State.judgeGauge_keeps {s0 s : State} (h : Keeps s0 s) (l : Lane) (med : Option Nat) (g : Nat) : Keeps s0 (State.judgeGauge s l med g) := by
  unfold State.judgeGauge
  with_reducible repeat' first | assumption | apply keeps_ite | apply State.setGauges_keeps | apply State.putN_keeps | apply State.putBit_keeps

theorem State.gaugeSample_keeps {s0 s : State} (h : Keeps s0 s) (l : Lane) (vals : List (Option Nat)) : Keeps s0 (State.gaugeSample s l vals) := by
  unfold State.gaugeSample
  with_reducible repeat' first | assumption | apply keeps_foldl | apply State.takeSamples_keeps | apply State.judgeGauge_keeps | apply State.refreshSi_keeps | (intro t x (ht : Keeps _ t))

theorem execGaugeSample_keeps {s s' : State} (lane : Lane) (vals : List (Option Nat)) (h : execGaugeSample lane vals s = .next s') : Keeps s s' := by
  have hs := Keeps.refl s
  unfold execGaugeSample at h
  injection h with h
  subst h
  with_reducible repeat' first | assumption | apply State.gaugeSample_keeps

theorem execGillRenewTimeout_keeps {s s' : State} (lane : Lane) (g : Fin 6) (h : execGillRenewTimeout lane g s = .next s') : Keeps s s' := by
  have hs := Keeps.refl s
  unfold execGillRenewTimeout at h
  injection h with h
  subst h
  with_reducible repeat' first | assumption | apply keeps_ite | apply keeps_ite_fst | apply State.setGauges_keeps | apply State.putBit_keeps | apply State.refreshSi_keeps

theorem execGaugeHealthyAgain_keeps {s s' : State} (lane : Lane) (g : Fin 6) (h : execGaugeHealthyAgain lane g s = .next s') : Keeps s s' := by
  have hs := Keeps.refl s
  unfold execGaugeHealthyAgain at h
  injection h with h
  subst h
  with_reducible repeat' first | assumption | apply keeps_ite | apply keeps_ite_fst | apply State.putBit_keeps | apply State.refreshSi_keeps

end Sys2Proof.Machine
end

