-- ==== Sys2Proof/Laws/KeepsLd.lean ====
section
/-!
SUPPORT. Laws/KeepsLd.lean: every operation of Machine/Ld.lean keeps what `Keeps` says.
-/
namespace Sys2Proof.Machine
open Sys2Proof

theorem State.setLdSt_keeps {s0 s : State} (h : Keeps s0 s) (x : Nat) (st : Nat) : Keeps s0 (State.setLdSt s x st) := by
  unfold State.setLdSt
  with_reducible repeat' first | assumption | apply State.putN_keeps

theorem State.ldFault_keeps {s0 s : State} (h : Keeps s0 s) (x : Nat) (i : Nat) (b : Bool) : Keeps s0 (State.ldFault s x i b) := by
  unfold State.ldFault
  with_reducible repeat' first | assumption | apply State.putBit_keeps

theorem State.ldLatchBit_keeps {s0 s : State} (h : Keeps s0 s) (x : Nat) (b : Bool) : Keeps s0 (State.ldLatchBit s x b) := by
  unfold State.ldLatchBit
  with_reducible repeat' first | assumption | apply State.putBit_keeps

theorem State.ldOn_keeps {s0 s : State} (h : Keeps s0 s) (x : Nat) : Keeps s0 (State.ldOn s x) := by
  unfold State.ldOn
  with_reducible repeat' first | assumption | apply keeps_ite | apply State.setLd_keeps

theorem State.ldPulseOff_keeps {s0 s : State} (h : Keeps s0 s) (x : Nat) : Keeps s0 (State.ldPulseOff s x) := by
  unfold State.ldPulseOff
  with_reducible repeat' first | assumption | apply keeps_ite | apply State.setLd_keeps

theorem State.ldPeriodStart_keeps {s0 s : State} (h : Keeps s0 s) (x : Nat) : Keeps s0 (State.ldPeriodStart s x) := by
  unfold State.ldPeriodStart
  with_reducible repeat' first | assumption | apply keeps_ite | apply State.setLd_keeps | apply State.setLdSt_keeps | apply State.ldPulseOff_keeps | apply State.bump_keeps | apply State.ldOn_keeps

theorem State.ldResume_keeps {s0 s : State} (h : Keeps s0 s) (x : Nat) : Keeps s0 (State.ldResume s x) := by
  unfold State.ldResume
  with_reducible repeat' first | assumption | apply keeps_ite | apply State.setLdSt_keeps | apply State.setLd_keeps | apply State.ldOn_keeps

theorem State.refreshLdConfig_keeps {s0 s : State} (h : Keeps s0 s) : Keeps s0 (State.refreshLdConfig s) := by
  unfold State.refreshLdConfig
  with_reducible repeat' first | assumption | apply keeps_ite | apply State.putN_keeps | apply State.note_keeps

theorem State.ldCmdOff_keeps {s0 s : State} (h : Keeps s0 s) (x : Nat) : Keeps s0 (State.ldCmdOff s x) := by
  unfold State.ldCmdOff
  with_reducible repeat' first | assumption | apply keeps_ite | apply State.ldOff_keeps | apply State.setLd_keeps

theorem State.bootEmptyEnds_keeps {s0 s : State} (h : Keeps s0 s) (x : Nat) : Keeps s0 (State.bootEmptyEnds s x) := by
  unfold State.bootEmptyEnds
  with_reducible repeat' first | assumption | apply keeps_ite | apply State.ldFault_keeps | apply State.setLd_keeps | apply State.setLdSt_keeps | split

theorem State.chopperGone_keeps {s0 s : State} (h : Keeps s0 s) (x : Nat) : Keeps s0 (State.chopperGone s x) := by
  unfold State.chopperGone
  with_reducible repeat' first | assumption | apply keeps_ite | apply State.setLd_keeps | apply State.note_keeps

theorem State.chopperBack_keeps {s0 s : State} (h : Keeps s0 s) (x : Nat) : Keeps s0 (State.chopperBack s x) := by
  unfold State.chopperBack
  with_reducible repeat' first | assumption | apply keeps_ite | apply State.setLd_keeps | apply State.note_keeps

theorem State.ldCmdOn_keeps {s0 s : State} (h : Keeps s0 s) (x : Nat) (v : Nat) : Keeps s0 (State.ldCmdOn s x v) := by
  unfold State.ldCmdOn
  with_reducible repeat' first | assumption | apply keeps_ite | apply State.ldFault_keeps | apply State.bootEmptyEnds_keeps | apply State.setLd_keeps | apply State.setLdSt_keeps | apply State.ldOn_keeps | apply State.putF_keeps | apply State.ldPeriodStart_keeps

theorem State.ldCmd_keeps {s0 s : State} (h : Keeps s0 s) (x : Nat) (v : Nat) : Keeps s0 (State.ldCmd s x v).1 := by
  unfold State.ldCmd
  with_reducible repeat' first | assumption | apply keeps_ite | apply keeps_ite_fst | apply State.putN_keeps | apply State.ldCmdOff_keeps | apply State.ldCmdOn_keeps | apply State.chopperBack_keeps | split

theorem execLdCmd_keeps {s s' : State} (session : Nat) (x : Fin 6) (v : Nat) (h : execLdCmd session x v s = .next s') : Keeps s s' := by
  have hs := Keeps.refl s
  unfold execLdCmd at h
  injection h with h
  subst h
  with_reducible repeat' first | assumption | apply State.command_keeps | apply State.ldCmd_keeps | (intro t x (ht : Keeps _ t)) | (intro t (ht : Keeps _ t))

theorem State.ldClearOne_keeps {s0 s : State} (h : Keeps s0 s) (x : Nat) : Keeps s0 (State.ldClearOne s x) := by
  unfold State.ldClearOne
  with_reducible repeat' first | assumption | apply keeps_ite | apply State.ldFault_keeps | apply State.putN_keeps | apply State.ldLatchBit_keeps | apply State.setLd_keeps | apply State.setLdSt_keeps | apply State.chopperBack_keeps

theorem State.ldClear_keeps {s0 s : State} (h : Keeps s0 s) (session : Nat) (mask : Nat) : Keeps s0 (State.ldClear s session mask).1 := by
  unfold State.ldClear
  with_reducible repeat' first | assumption | apply keeps_ite | apply keeps_ite_fst | apply keeps_foldl | apply State.occur_keeps | apply State.ldClearOne_keeps | split | (intro t x (ht : Keeps _ t))

theorem execLdClear_keeps {s s' : State} (session : Nat) (mask : Nat) (h : execLdClear session mask s = .next s') : Keeps s s' := by
  have hs := Keeps.refl s
  unfold execLdClear at h
  injection h with h
  subst h
  with_reducible repeat' first | assumption | apply State.command_keeps | apply State.ldClear_keeps | (intro t x (ht : Keeps _ t)) | (intro t (ht : Keeps _ t))

theorem State.takeDuty_keeps {s0 s : State} (h : Keeps s0 s) (x : Nat) : Keeps s0 (State.takeDuty s x) := by
  unfold State.takeDuty
  with_reducible repeat' first | assumption | apply State.setLd_keeps | apply State.putF_keeps | split | intro _ | lift_lets -underBinder

theorem State.bootEmptyPeriod_keeps {s0 s : State} (h : Keeps s0 s) (x : Nat) : Keeps s0 (State.bootEmptyPeriod s x) := by
  unfold State.bootEmptyPeriod
  with_reducible repeat' first | assumption | apply keeps_ite | apply State.ldFault_keeps | apply State.setLdSt_keeps | apply State.setLd_keeps

theorem State.chopperPeriodStart_keeps {s0 s : State} (h : Keeps s0 s) (x : Nat) : Keeps s0 (State.chopperPeriodStart s x) := by
  unfold State.chopperPeriodStart
  with_reducible repeat' first | assumption | apply keeps_ite | apply State.takeDuty_keeps | apply State.bootEmptyPeriod_keeps | apply State.chopperBack_keeps | apply State.ldPeriodStart_keeps

theorem execChopperPeriodStart_keeps {s s' : State} (x : Fin 6) (h : execChopperPeriodStart x s = .next s') : Keeps s s' := by
  have hs := Keeps.refl s
  unfold execChopperPeriodStart at h
  injection h with h
  subst h
  with_reducible repeat' first | assumption | apply State.chopperPeriodStart_keeps

theorem State.ldPulseEdge_keeps {s0 s : State} (h : Keeps s0 s) (x : Nat) : Keeps s0 (State.ldPulseEdge s x) := by
  unfold State.ldPulseEdge
  with_reducible repeat' first | assumption | apply keeps_ite | apply State.setLd_keeps | apply State.ldOn_keeps | apply State.putF_keeps | apply State.bootEmptyPeriod_keeps | apply State.ldPeriodStart_keeps | apply State.ldPulseOff_keeps | split | intro _ | lift_lets -underBinder

theorem execLdPulseEdge_keeps {s s' : State} (x : Fin 6) (h : execLdPulseEdge x s = .next s') : Keeps s s' := by
  have hs := Keeps.refl s
  unfold execLdPulseEdge at h
  injection h with h
  subst h
  with_reducible repeat' first | assumption | apply State.ldPulseEdge_keeps

theorem State.ldCommitDuty_keeps {s0 s : State} (h : Keeps s0 s) (x : Nat) (duty : F32) : Keeps s0 (State.ldCommitDuty s x duty) := by
  unfold State.ldCommitDuty
  with_reducible repeat' first | assumption | apply keeps_ite | apply State.chopperGone_keeps | apply State.setLd_keeps

theorem State.ldHoldExpired_keeps {s0 s : State} (h : Keeps s0 s) (x : Nat) : Keeps s0 (State.ldHoldExpired s x) := by
  unfold State.ldHoldExpired
  with_reducible repeat' first | assumption | apply keeps_ite | apply State.ldOff_keeps | apply State.setLd_keeps | apply State.note_keeps

theorem execLdHoldExpired_keeps {s s' : State} (x : Fin 6) (h : execLdHoldExpired x s = .next s') : Keeps s s' := by
  have hs := Keeps.refl s
  unfold execLdHoldExpired at h
  injection h with h
  subst h
  with_reducible repeat' first | assumption | apply State.ldHoldExpired_keeps

theorem State.ldPrechargeTimeout_keeps {s0 s : State} (h : Keeps s0 s) (x : Nat) : Keeps s0 (State.ldPrechargeTimeout s x) := by
  unfold State.ldPrechargeTimeout
  with_reducible repeat' first | assumption | apply keeps_ite | apply State.ldOff_keeps | apply State.putN_keeps | apply State.setLd_keeps | apply State.ldFault_keeps | apply State.note_keeps

theorem execLdPrechargeTimeout_keeps {s s' : State} (x : Fin 6) (h : execLdPrechargeTimeout x s = .next s') : Keeps s s' := by
  have hs := Keeps.refl s
  unfold execLdPrechargeTimeout at h
  injection h with h
  subst h
  with_reducible repeat' first | assumption | apply State.ldPrechargeTimeout_keeps

theorem State.ldSupplyMeasure_keeps {s0 s : State} (h : Keeps s0 s) (x : Nat) (vpos : F32) (vneg : F32) (senseHigh : Bool) : Keeps s0 (State.ldSupplyMeasure s x vpos vneg senseHigh) := by
  unfold State.ldSupplyMeasure
  with_reducible repeat' first | assumption | apply keeps_ite | apply State.putF_keeps | apply State.setLd_keeps

theorem execLdSupplyMeasure_keeps {s s' : State} (x : Fin 6) (vpos : F32) (vneg : F32) (senseHigh : Bool) (h : execLdSupplyMeasure x vpos vneg senseHigh s = .next s') : Keeps s s' := by
  have hs := Keeps.refl s
  unfold execLdSupplyMeasure at h
  injection h with h
  subst h
  with_reducible repeat' first | assumption | apply State.ldSupplyMeasure_keeps

theorem State.ldUvlo_keeps {s0 s : State} (h : Keeps s0 s) (x : Nat) (vneg : Bool) : Keeps s0 (State.ldUvlo s x vneg) := by
  unfold State.ldUvlo
  with_reducible repeat' first | assumption | apply keeps_ite | apply State.setLd_keeps | apply State.ldOff_keeps | apply State.setLdSt_keeps | apply State.ldFault_keeps | apply State.note_keeps

theorem execLdUvlo_keeps {s s' : State} (x : Fin 6) (vneg : Bool) (h : execLdUvlo x vneg s = .next s') : Keeps s s' := by
  have hs := Keeps.refl s
  unfold execLdUvlo at h
  injection h with h
  subst h
  with_reducible repeat' first | assumption | apply State.ldUvlo_keeps

theorem State.shortFollow_keeps {s0 s : State} (h : Keeps s0 s) (x : Nat) : Keeps s0 (State.shortFollow s x) := by
  unfold State.shortFollow
  with_reducible repeat' first | assumption | apply keeps_ite | apply State.setLd_keeps | apply State.setLdSt_keeps | apply State.ldFault_keeps | apply State.ldLatchBit_keeps | apply State.note_keeps

theorem State.ldUvloRecover_keeps {s0 s : State} (h : Keeps s0 s) (x : Nat) : Keeps s0 (State.ldUvloRecover s x) := by
  unfold State.ldUvloRecover
  with_reducible repeat' first | assumption | apply keeps_ite | apply State.setLd_keeps | apply State.ldFault_keeps | apply State.note_keeps | apply State.setLdSt_keeps | apply State.shortFollow_keeps | apply State.ldResume_keeps | apply State.chopperBack_keeps | split

theorem execLdUvloRecover_keeps {s s' : State} (x : Fin 6) (h : execLdUvloRecover x s = .next s') : Keeps s s' := by
  have hs := Keeps.refl s
  unfold execLdUvloRecover at h
  injection h with h
  subst h
  with_reducible repeat' first | assumption | apply State.ldUvloRecover_keeps

theorem State.chopperUnavailable_keeps {s0 s : State} (h : Keeps s0 s) (x : Nat) : Keeps s0 (State.chopperUnavailable s x) := by
  unfold State.chopperUnavailable
  with_reducible repeat' first | assumption | apply keeps_ite | apply State.chopperGone_keeps | split

theorem execChopperUnavailable_keeps {s s' : State} (x : Fin 6) (h : execChopperUnavailable x s = .next s') : Keeps s s' := by
  have hs := Keeps.refl s
  unfold execChopperUnavailable at h
  injection h with h
  subst h
  with_reducible repeat' first | assumption | apply State.chopperUnavailable_keeps

theorem State.commonShort_keeps {s0 s : State} (h : Keeps s0 s) (x : Nat) : Keeps s0 (State.commonShort s x) := by
  unfold State.commonShort
  with_reducible repeat' first | assumption | apply keeps_ite | apply State.setLd_keeps | apply State.setLdSt_keeps | apply State.ldFault_keeps | apply State.ldLatchBit_keeps

theorem State.ldShort_keeps {s0 s : State} (h : Keeps s0 s) (x : Nat) (hard : Bool) : Keeps s0 (State.ldShort s x hard) := by
  unfold State.ldShort
  with_reducible repeat' first | assumption | apply keeps_ite | apply keeps_foldl | apply State.setLd_keeps | apply State.setLdSt_keeps | apply State.ldFault_keeps | apply State.bump_keeps | apply State.note_keeps | apply State.commonShort_keeps | split | (intro t x (ht : Keeps _ t)) | (intro z; apply keeps_cut (z := z)) | (intro hz; clear_value z) | intro _ | lift_lets -underBinder

theorem execLdShort_keeps {s s' : State} (x : Fin 6) (hard : Bool) (h : execLdShort x hard s = .next s') : Keeps s s' := by
  have hs := Keeps.refl s
  unfold execLdShort at h
  injection h with h
  subst h
  with_reducible repeat' first | assumption | apply State.ldShort_keeps

theorem State.ldSoftOffDone_keeps {s0 s : State} (h : Keeps s0 s) (x : Nat) : Keeps s0 (State.ldSoftOffDone s x) := by
  unfold State.ldSoftOffDone
  with_reducible repeat' first | assumption | apply keeps_ite | apply State.setLd_keeps | apply State.setLdSt_keeps | apply State.shortFollow_keeps | apply State.ldResume_keeps | split

theorem execLdSoftOffDone_keeps {s s' : State} (x : Fin 6) (h : execLdSoftOffDone x s = .next s') : Keeps s s' := by
  have hs := Keeps.refl s
  unfold execLdSoftOffDone at h
  injection h with h
  subst h
  with_reducible repeat' first | assumption | apply State.ldSoftOffDone_keeps

theorem State.ldRetryWaitEnd_keeps {s0 s : State} (h : Keeps s0 s) (x : Nat) : Keeps s0 (State.ldRetryWaitEnd s x) := by
  unfold State.ldRetryWaitEnd
  with_reducible repeat' first | assumption | apply keeps_ite | apply State.putN_keeps | apply State.ldFault_keeps | apply State.setLd_keeps | apply State.ldResume_keeps | split

theorem execLdRetryWaitEnd_keeps {s s' : State} (x : Fin 6) (h : execLdRetryWaitEnd x s = .next s') : Keeps s s' := by
  have hs := Keeps.refl s
  unfold execLdRetryWaitEnd at h
  injection h with h
  subst h
  with_reducible repeat' first | assumption | apply State.ldRetryWaitEnd_keeps

theorem State.ldRetryReload_keeps {s0 s : State} (h : Keeps s0 s) (x : Nat) : Keeps s0 (State.ldRetryReload s x) := by
  unfold State.ldRetryReload
  with_reducible repeat' first | assumption | apply keeps_ite | apply State.putN_keeps

theorem execLdRetryReload_keeps {s s' : State} (x : Fin 6) (h : execLdRetryReload x s = .next s') : Keeps s s' := by
  have hs := Keeps.refl s
  unfold execLdRetryReload at h
  injection h with h
  subst h
  with_reducible repeat' first | assumption | apply State.ldRetryReload_keeps

theorem State.ldBootRefresh_keeps {s0 s : State} (h : Keeps s0 s) (x : Nat) : Keeps s0 (State.ldBootRefresh s x) := by
  unfold State.ldBootRefresh
  with_reducible repeat' first | assumption | apply keeps_ite | apply State.setLd_keeps | apply State.bumpW_keeps

theorem execLdBootRefresh_keeps {s s' : State} (x : Fin 6) (h : execLdBootRefresh x s = .next s') : Keeps s s' := by
  have hs := Keeps.refl s
  unfold execLdBootRefresh at h
  injection h with h
  subst h
  with_reducible repeat' first | assumption | apply State.ldBootRefresh_keeps

theorem State.ldSgb_keeps {s0 s : State} (h : Keeps s0 s) : Keeps s0 (State.ldSgb s) := by
  unfold State.ldSgb
  with_reducible repeat' first | assumption | apply keeps_foldl | apply State.ldOff_keeps | apply State.putN_keeps | apply State.setLd_keeps | (intro t x (ht : Keeps _ t))

theorem State.ldTbLost_keeps {s0 s : State} (h : Keeps s0 s) : Keeps s0 (State.ldTbLost s) := by
  unfold State.ldTbLost
  with_reducible repeat' first | assumption | apply keeps_foldl | apply State.ldOff_keeps | apply State.setLd_keeps | (intro t x (ht : Keeps _ t))

theorem State.ldIdle_keeps {s0 s : State} (h : Keeps s0 s) (x : Nat) : Keeps s0 (State.ldIdle s x) := by
  unfold State.ldIdle
  with_reducible repeat' first | assumption | apply keeps_ite | apply State.ldOff_keeps | apply State.putN_keeps | apply State.setLd_keeps | apply State.setLdSt_keeps

theorem State.ldDomainOff_keeps {s0 s : State} (h : Keeps s0 s) (d : Nat) : Keeps s0 (State.ldDomainOff s d) := by
  unfold State.ldDomainOff
  with_reducible repeat' first | assumption | apply keeps_ite | apply keeps_foldl | apply State.ldIdle_keeps | (intro t x (ht : Keeps _ t))

theorem State.ldFuncChanged_keeps {s0 s : State} (h : Keeps s0 s) (x : Nat) : Keeps s0 (State.ldFuncChanged s x) := by
  unfold State.ldFuncChanged
  with_reducible repeat' first | assumption | apply keeps_ite | apply State.ldIdle_keeps | apply State.setLdSt_keeps

end Sys2Proof.Machine
end

