-- ==== Sys2Proof/Laws/KeepsSupervise.lean ====
section
/-!
SUPPORT. Laws/KeepsSupervise.lean: every operation of Machine/Supervise.lean keeps what `Keeps` says.
-/
namespace Sys2Proof.Machine
open Sys2Proof

theorem State.follow_keeps {s0 s : State} (h : Keeps s0 s) (k : Nat) (v : Nat) (code : Option Nat) : Keeps s0 (State.follow s k v code) := by
  unfold State.follow
  with_reducible repeat' first | assumption | apply keeps_ite | apply State.putN_keeps | apply State.note_keeps | split

theorem State.refreshConfig_keeps {s0 s : State} (h : Keeps s0 s) : Keeps s0 (State.refreshConfig s) := by
  unfold State.refreshConfig
  with_reducible repeat' first | assumption | apply State.follow_keeps | apply State.refreshLdConfig_keeps

theorem State.curveStatus_keeps {s0 s : State} (h : Keeps s0 s) (k : Nat) (ok : Bool) : Keeps s0 (State.curveStatus s k ok) := by
  unfold State.curveStatus
  with_reducible repeat' first | assumption | apply keeps_ite | apply State.putN_keeps | apply State.note_keeps

theorem State.refreshCurves_keeps {s0 s : State} (h : Keeps s0 s) : Keeps s0 (State.refreshCurves s) := by
  unfold State.refreshCurves
  with_reducible repeat' first | assumption | apply keeps_ite | apply keeps_foldl | apply State.curveStatus_keeps | apply State.putN_keeps | apply State.note_keeps | (intro t x (ht : Keeps _ t))

theorem State.setLawOf_keeps {s0 s : State} (h : Keeps s0 s) (l : Lane) (x : Law) : Keeps s0 (State.setLawOf s l x) := by
  unfold State.setLawOf
  with_reducible repeat' first | assumption | apply State.setLaneRec_keeps

theorem State.mapLaws_keeps {s0 s : State} (h : Keeps s0 s) (f : Law → Law) : Keeps s0 (State.mapLaws s f) := by
  unfold State.mapLaws
  with_reducible repeat' first | assumption | apply State.setLaneRec_keeps

theorem State.cold_keeps {s0 s : State} (h : Keeps s0 s) (cause : Nat) : Keeps s0 (State.cold s cause) := by
  unfold State.cold
  with_reducible repeat' first | assumption | apply State.putN_keeps | apply State.note_keeps | (apply keeps_with <;> first | rfl | assumption)

theorem State.releaseGates_keeps {s0 s : State} (h : Keeps s0 s) (st : Nat) (cause : Nat) : Keeps s0 (State.releaseGates s st cause) := by
  unfold State.releaseGates
  with_reducible repeat' first | assumption | apply State.mapLaws_keeps | apply State.setLaw_keeps | apply State.cold_keeps

theorem State.enterEnergise_keeps {s0 s : State} (h : Keeps s0 s) (dead : Bool) (cause : Nat) : Keeps s0 (State.enterEnergise s dead cause) := by
  unfold State.enterEnergise
  with_reducible repeat' first | assumption | apply State.mapLaws_keeps | apply State.releaseGates_keeps | (apply keeps_with <;> first | rfl | assumption)

theorem State.lawStop_keeps {s0 s : State} (h : Keeps s0 s) (code : Nat) (clamp : Bool) : Keeps s0 (State.lawStop s code clamp) := by
  unfold State.lawStop
  with_reducible repeat' first | assumption | apply State.protStop_keeps | (apply keeps_with <;> first | rfl | assumption | apply State.protStop_keeps)

theorem State.startAccepted_keeps {s0 s : State} (h : Keeps s0 s) : Keeps s0 (State.startAccepted s) := by
  unfold State.startAccepted
  with_reducible repeat' first | assumption | apply keeps_ite | apply keeps_ite_fst | apply keeps_ite_snd | apply keeps_foldl | apply State.putN_keeps | apply State.mapLaws_keeps | apply State.setOut_keeps | apply State.benchLow_keeps | apply State.setLaw_keeps | (apply keeps_with <;> first | rfl | assumption | apply keeps_ite | apply keeps_ite_fst | apply keeps_ite_snd | apply keeps_foldl | apply State.putN_keeps | apply State.mapLaws_keeps | apply State.setOut_keeps | apply State.benchLow_keeps)

theorem State.lawStopCmd_keeps {s0 s : State} (h : Keeps s0 s) : Keeps s0 (State.lawStopCmd s) := by
  unfold State.lawStopCmd
  with_reducible repeat' first | assumption | apply keeps_ite | apply State.putN_keeps | apply State.setLaw_keeps | apply State.withdraw_keeps | apply State.ldTripOff_keeps | (apply keeps_with <;> first | rfl | assumption | apply State.putN_keeps | apply State.setLaw_keeps | apply State.withdraw_keeps)

theorem execLawStop_keeps {s s' : State} (session : Nat) (h : execLawStop session s = .next s') : Keeps s s' := by
  have hs := Keeps.refl s
  unfold execLawStop at h
  injection h with h
  subst h
  with_reducible repeat' first | assumption | apply State.command_keeps | apply State.lawStopCmd_keeps

theorem State.setpoint_keeps {s0 s : State} (h : Keeps s0 s) (k : Nat) (v : F32) : Keeps s0 (State.setpoint s k v).1 := by
  unfold State.setpoint
  with_reducible repeat' first | assumption | apply keeps_ite | apply keeps_ite_fst | apply State.putF_keeps

theorem execSetpointWrite_keeps {s s' : State} (session : Nat) (slot : Fin 10) (value : F32) (h : execSetpointWrite session slot value s = .next s') : Keeps s s' := by
  have hs := Keeps.refl s
  unfold execSetpointWrite at h
  injection h with h
  subst h
  with_reducible repeat' first | assumption | apply State.command_keeps | apply State.setpoint_keeps | (intro t x (ht : Keeps _ t)) | (intro t (ht : Keeps _ t))

theorem State.brkWrite_keeps {s0 s : State} (h : Keeps s0 s) (closed : Bool) : Keeps s0 (State.brkWrite s closed).1 := by
  unfold State.brkWrite
  with_reducible repeat' first | assumption | apply State.putB_keeps | (apply keeps_with <;> first | rfl | assumption | apply State.putB_keeps)

theorem execBrkClosedWrite_keeps {s s' : State} (session : Nat) (closed : Bool) (h : execBrkClosedWrite session closed s = .next s') : Keeps s s' := by
  have hs := Keeps.refl s
  unfold execBrkClosedWrite at h
  injection h with h
  subst h
  with_reducible repeat' first | assumption | apply State.command_keeps | apply State.brkWrite_keeps | (intro t x (ht : Keeps _ t)) | (intro t (ht : Keeps _ t))

theorem State.watchBus_keeps {s0 s : State} (h : Keeps s0 s) (l : Law) (settled : Bool) : Keeps s0 (State.watchBus s l settled) := by
  unfold State.watchBus
  with_reducible repeat' first | assumption | apply keeps_ite | (apply keeps_with <;> first | rfl | assumption)

theorem State.drawDelay_keeps {s0 s : State} (h : Keeps s0 s) : Keeps s0 (State.drawDelay s) := by
  unfold State.drawDelay
  with_reducible repeat' first | assumption | apply State.putN_keeps | (apply keeps_with <;> first | rfl | assumption | apply State.putN_keeps)

theorem State.livePath_keeps {s0 s : State} (h : Keeps s0 s) (cause : Nat) : Keeps s0 (State.livePath s cause) := by
  unfold State.livePath
  with_reducible repeat' first | assumption | apply keeps_ite | apply State.enterEnergise_keeps | apply State.setLaw_keeps

theorem State.sense_keeps {s0 s : State} (h : Keeps s0 s) : Keeps s0 (State.sense s) := by
  unfold State.sense
  with_reducible repeat' first | assumption | apply keeps_ite | apply State.putN_keeps | apply State.note_keeps | apply State.drawDelay_keeps | apply State.setLaw_keeps | apply State.livePath_keeps | (apply keeps_with <;> first | rfl | assumption | apply State.putN_keeps)

theorem State.bsDelay_keeps {s0 s : State} (h : Keeps s0 s) : Keeps s0 (State.bsDelay s) := by
  unfold State.bsDelay
  with_reducible repeat' first | assumption | apply keeps_ite | apply State.note_keeps | apply State.putN_keeps | apply State.setLaw_keeps | apply State.enterEnergise_keeps | apply State.livePath_keeps | (apply keeps_with <;> first | rfl | assumption | apply State.note_keeps)

theorem execBsDelay_keeps {s s' : State}  (h : execBsDelay s = .next s') : Keeps s s' := by
  have hs := Keeps.refl s
  unfold execBsDelay at h
  injection h with h
  subst h
  with_reducible repeat' first | assumption | apply State.bsDelay_keeps

theorem State.deadCloseTimeout_keeps {s0 s : State} (h : Keeps s0 s) : Keeps s0 (State.deadCloseTimeout s) := by
  unfold State.deadCloseTimeout
  with_reducible repeat' first | assumption | apply keeps_ite | apply State.withdraw_keeps | apply State.setLaw_keeps | (apply keeps_with <;> first | rfl | assumption | apply State.withdraw_keeps)

theorem execDeadCloseTimeout_keeps {s s' : State}  (h : execDeadCloseTimeout s = .next s') : Keeps s s' := by
  have hs := Keeps.refl s
  unfold execDeadCloseTimeout at h
  injection h with h
  subst h
  with_reducible repeat' first | assumption | apply State.deadCloseTimeout_keeps

theorem State.bsFailed_keeps {s0 s : State} (h : Keeps s0 s) : Keeps s0 (State.bsFailed s) := by
  unfold State.bsFailed
  with_reducible repeat' first | assumption | apply keeps_ite | apply State.note_keeps | apply State.lawStop_keeps

theorem execBsFailed_keeps {s s' : State}  (h : execBsFailed s = .next s') : Keeps s s' := by
  have hs := Keeps.refl s
  unfold execBsFailed at h
  injection h with h
  subst h
  with_reducible repeat' first | assumption | apply State.bsFailed_keeps

theorem State.energiseStep_keeps {s0 s : State} (h : Keeps s0 s) : Keeps s0 (State.energiseStep s) := by
  unfold State.energiseStep
  with_reducible repeat' first | assumption | apply keeps_ite | apply keeps_foldl | apply State.note_keeps | apply State.mapLaws_keeps | apply State.setLaw_keeps | (apply keeps_with <;> first | rfl | assumption)

theorem State.watchWindows_keeps {s0 s : State} (h : Keeps s0 s) : Keeps s0 (State.watchWindows s) := by
  unfold State.watchWindows
  with_reducible repeat' first | assumption | apply keeps_ite | apply State.putN_keeps | apply State.note_keeps | (apply keeps_with <;> first | rfl | assumption)

theorem State.syncOk_keeps {s0 s : State} (h : Keeps s0 s) : Keeps s0 (State.syncOk s) := by
  unfold State.syncOk
  with_reducible repeat' first | assumption | apply keeps_ite | apply State.putN_keeps | apply State.note_keeps | apply State.releaseGates_keeps | apply State.withdraw_keeps | (apply keeps_with <;> first | rfl | assumption | apply State.putN_keeps | apply State.note_keeps | apply State.releaseGates_keeps | apply State.withdraw_keeps) | split

theorem execSyncOk_keeps {s s' : State}  (h : execSyncOk s = .next s') : Keeps s s' := by
  have hs := Keeps.refl s
  unfold execSyncOk at h
  injection h with h
  subst h
  with_reducible repeat' first | assumption | apply State.syncOk_keeps

theorem State.syncOkWithdrawn_keeps {s0 s : State} (h : Keeps s0 s) : Keeps s0 (State.syncOkWithdrawn s) := by
  unfold State.syncOkWithdrawn
  with_reducible repeat' first | assumption | apply keeps_ite | apply State.withdraw_keeps

theorem execSyncOkWithdrawn_keeps {s s' : State}  (h : execSyncOkWithdrawn s = .next s') : Keeps s s' := by
  have hs := Keeps.refl s
  unfold execSyncOkWithdrawn at h
  injection h with h
  subst h
  with_reducible repeat' first | assumption | apply State.syncOkWithdrawn_keeps

theorem State.gatesOff_keeps {s0 s : State} (h : Keeps s0 s) : Keeps s0 (State.gatesOff s) := by
  unfold State.gatesOff
  with_reducible repeat' first | assumption | apply State.stopOutputs_keeps

theorem State.brkAct_keeps {s0 s : State} (h : Keeps s0 s) : Keeps s0 (State.brkAct s) := by
  unfold State.brkAct
  with_reducible repeat' first | assumption | apply keeps_ite | apply State.mapLaws_keeps | apply State.withdraw_keeps | apply State.enterEnergise_keeps | apply State.setLaw_keeps | apply State.note_keeps | apply State.gatesOff_keeps | (apply keeps_with <;> first | rfl | assumption | apply State.mapLaws_keeps | apply State.withdraw_keeps | apply State.enterEnergise_keeps | apply State.setLaw_keeps | apply State.note_keeps | apply State.gatesOff_keeps | (apply keeps_with <;> first | rfl | assumption)) | split

theorem State.watchQuiet_keeps {s0 s : State} (h : Keeps s0 s) : Keeps s0 (State.watchQuiet s) := by
  unfold State.watchQuiet
  with_reducible repeat' first | assumption | apply keeps_ite | (apply keeps_with <;> first | rfl | assumption)

theorem State.stopComplete_keeps {s0 s : State} (h : Keeps s0 s) : Keeps s0 (State.stopComplete s) := by
  unfold State.stopComplete
  with_reducible repeat' first | assumption | apply keeps_ite | apply State.setLaw_keeps | apply State.gatesOff_keeps

theorem execStopComplete_keeps {s s' : State}  (h : execStopComplete s = .next s') : Keeps s s' := by
  have hs := Keeps.refl s
  unfold execStopComplete at h
  injection h with h
  subst h
  with_reducible repeat' first | assumption | apply State.stopComplete_keeps

theorem State.refreshRt_keeps {s0 s : State} (h : Keeps s0 s) : Keeps s0 (State.refreshRt s) := by
  unfold State.refreshRt
  with_reducible repeat' first | assumption | apply keeps_ite | apply State.putN_keeps | apply State.putF_keeps

theorem State.rideThrough_keeps {s0 s : State} (h : Keeps s0 s) (l : Law) : Keeps s0 (State.rideThrough s l) := by
  unfold State.rideThrough
  with_reducible repeat' first | assumption | apply keeps_ite | apply keeps_foldl | apply State.note_keeps | apply State.refreshRt_keeps | apply State.lawStop_keeps | apply State.rtHold_keeps | (apply keeps_with <;> first | rfl | assumption)

theorem State.rtTimerReset_keeps {s0 s : State} (h : Keeps s0 s) (isOver : Bool) : Keeps s0 (State.rtTimerReset s isOver) := by
  unfold State.rtTimerReset
  with_reducible repeat' first | assumption | apply keeps_ite | apply State.refreshRt_keeps | apply State.note_keeps | (apply keeps_with <;> first | rfl | assumption | apply State.refreshRt_keeps | apply State.note_keeps) | split | intro _ | lift_lets -underBinder

theorem execRtTimerReset_keeps {s s' : State} (isOver : Bool) (h : execRtTimerReset isOver s = .next s') : Keeps s s' := by
  have hs := Keeps.refl s
  unfold execRtTimerReset at h
  injection h with h
  subst h
  with_reducible repeat' first | assumption | apply State.rtTimerReset_keeps

theorem State.protTrip_keeps {s0 s : State} (h : Keeps s0 s) (row : Nat) (place : Nat) (clamp : Bool) : Keeps s0 (State.protTrip s row place clamp) := by
  unfold State.protTrip
  with_reducible repeat' first | assumption | apply State.note_keeps | apply State.lawStop_keeps

theorem State.protNow_keeps {s0 s : State} (h : Keeps s0 s) (x : List F32) (act : List Nat) : Keeps s0 (State.protNow s x act) := by
  unfold State.protNow
  with_reducible repeat' first | assumption | apply keeps_ite | apply State.protTrip_keeps | split

theorem State.protWatch_keeps {s0 s : State} (h : Keeps s0 s) (l : Law) (x : List F32) (act : List Nat) : Keeps s0 (State.protWatch s l x act) := by
  unfold State.protWatch
  with_reducible repeat' first | assumption | apply keeps_ite | (apply keeps_with <;> first | rfl | assumption)

theorem State.protDelay_keeps {s0 s : State} (h : Keeps s0 s) (row : Nat) : Keeps s0 (State.protDelay s row) := by
  unfold State.protDelay
  with_reducible repeat' first | assumption | apply keeps_ite | apply State.protTrip_keeps

theorem execProtDelayExpired_keeps {s s' : State} (row : Fin 3) (h : execProtDelayExpired row s = .next s') : Keeps s s' := by
  have hs := Keeps.refl s
  unfold execProtDelayExpired at h
  injection h with h
  subst h
  with_reducible repeat' first | assumption | apply State.protDelay_keeps

theorem State.limExit_keeps {s0 s : State} (h : Keeps s0 s) : Keeps s0 (State.limExit s) := by
  unfold State.limExit
  with_reducible repeat' first | assumption | apply keeps_ite | apply State.mapLaws_keeps | apply State.putN_keeps | apply State.putF_keeps | apply State.note_keeps

theorem execLimExit_keeps {s s' : State}  (h : execLimExit s = .next s') : Keeps s s' := by
  have hs := Keeps.refl s
  unfold execLimExit at h
  injection h with h
  subst h
  with_reducible repeat' first | assumption | apply State.limExit_keeps

theorem State.rotorReleaseEnd_keeps {s0 s : State} (h : Keeps s0 s) : Keeps s0 (State.rotorReleaseEnd s) := by
  unfold State.rotorReleaseEnd
  with_reducible repeat' first | assumption | apply keeps_ite | apply State.mapLaws_keeps | apply State.putN_keeps | apply State.note_keeps | split

theorem execRotorReleaseEnd_keeps {s s' : State}  (h : execRotorReleaseEnd s = .next s') : Keeps s s' := by
  have hs := Keeps.refl s
  unfold execRotorReleaseEnd at h
  injection h with h
  subst h
  with_reducible repeat' first | assumption | apply State.rotorReleaseEnd_keeps

theorem State.degradedStop_keeps {s0 s : State} (h : Keeps s0 s) : Keeps s0 (State.degradedStop s) := by
  unfold State.degradedStop
  with_reducible repeat' first | assumption | apply keeps_ite | apply State.withdraw_keeps | apply State.note_keeps | apply State.lawStop_keeps | apply State.putN_keeps | apply State.setLaw_keeps | apply State.ldTripOff_keeps | (apply keeps_with <;> first | rfl | assumption | apply State.withdraw_keeps | apply State.note_keeps)

theorem State.degradedOff_keeps {s0 s : State} (h : Keeps s0 s) : Keeps s0 (State.degradedOff s) := by
  unfold State.degradedOff
  with_reducible repeat' first | assumption | apply State.endBridge_keeps | apply State.stopOutputs_keeps | (apply keeps_with <;> first | rfl | assumption)

theorem State.degradedStopEnd_keeps {s0 s : State} (h : Keeps s0 s) : Keeps s0 (State.degradedStopEnd s) := by
  unfold State.degradedStopEnd
  with_reducible repeat' first | assumption | apply keeps_ite | apply State.degradedOff_keeps | split

theorem execDegradedStopEnd_keeps {s s' : State}  (h : execDegradedStopEnd s = .next s') : Keeps s s' := by
  have hs := Keeps.refl s
  unfold execDegradedStopEnd at h
  injection h with h
  subst h
  with_reducible repeat' first | assumption | apply State.degradedStopEnd_keeps

theorem State.startBridge_keeps {s0 s : State} (h : Keeps s0 s) : Keeps s0 (State.startBridge s) := by
  unfold State.startBridge
  with_reducible repeat' first | assumption | apply keeps_ite | apply State.putN_keeps | apply State.note_keeps | (apply keeps_with <;> first | rfl | assumption)

theorem State.lossResponse_keeps {s0 s : State} (h : Keeps s0 s) (role : Nat) : Keeps s0 (State.lossResponse s role) := by
  unfold State.lossResponse
  with_reducible repeat' first | assumption | apply keeps_ite | apply State.degradedOff_keeps | apply State.lawStop_keeps | apply State.startBridge_keeps | apply State.degradedStop_keeps

theorem State.fbLoses_keeps {s0 s : State} (h : Keeps s0 s) (xs : List (Nat × Nat)) : Keeps s0 (State.fbLoses s xs) := by
  unfold State.fbLoses
  with_reducible repeat' first | assumption | apply keeps_foldl | apply State.putBit_keeps | apply State.putN_keeps | apply State.bump_keeps | apply State.note_keeps | apply State.lossResponse_keeps | (intro t x (ht : Keeps _ t))

theorem State.fbLost_keeps {s0 s : State} (h : Keeps s0 s) (n : Nat) : Keeps s0 (State.fbLost s n) := by
  unfold State.fbLost
  with_reducible repeat' first | assumption | apply State.fbLoses_keeps

theorem execFbLost_keeps {s s' : State} (c : Fin 32) (h : execFbLost c s = .next s') : Keeps s s' := by
  have hs := Keeps.refl s
  unfold execFbLost at h
  injection h with h
  subst h
  with_reducible repeat' first | assumption | apply State.fbLost_keeps

theorem State.fbRestored_keeps {s0 s : State} (h : Keeps s0 s) (n : Nat) : Keeps s0 (State.fbRestored s n) := by
  unfold State.fbRestored
  with_reducible repeat' first | assumption | apply keeps_ite | apply State.putBit_keeps | apply State.note_keeps | apply State.putN_keeps | (apply keeps_with <;> first | rfl | assumption | apply State.putBit_keeps | apply State.note_keeps)

theorem execFbRestored_keeps {s s' : State} (c : Fin 32) (h : execFbRestored c s = .next s') : Keeps s s' := by
  have hs := Keeps.refl s
  unfold execFbRestored at h
  injection h with h
  subst h
  with_reducible repeat' first | assumption | apply State.fbRestored_keeps

theorem State.obsReturnDone_keeps {s0 s : State} (h : Keeps s0 s) : Keeps s0 (State.obsReturnDone s) := by
  unfold State.obsReturnDone
  with_reducible repeat' first | assumption | apply keeps_ite | apply State.putN_keeps | apply State.note_keeps | (apply keeps_with <;> first | rfl | assumption | apply State.putN_keeps | apply State.note_keeps) | split

theorem execObsReturnDone_keeps {s s' : State}  (h : execObsReturnDone s = .next s') : Keeps s s' := by
  have hs := Keeps.refl s
  unfold execObsReturnDone at h
  injection h with h
  subst h
  with_reducible repeat' first | assumption | apply State.obsReturnDone_keeps

theorem State.obsBridgeExpiry_keeps {s0 s : State} (h : Keeps s0 s) : Keeps s0 (State.obsBridgeExpiry s) := by
  unfold State.obsBridgeExpiry
  with_reducible repeat' first | assumption | apply keeps_ite | apply State.putN_keeps | apply State.note_keeps | apply State.degradedStop_keeps

theorem execObsBridgeExpiry_keeps {s s' : State}  (h : execObsBridgeExpiry s = .next s') : Keeps s s' := by
  have hs := Keeps.refl s
  unfold execObsBridgeExpiry at h
  injection h with h
  subst h
  with_reducible repeat' first | assumption | apply State.obsBridgeExpiry_keeps

theorem State.fbCount_keeps {s0 s : State} (h : Keeps s0 s) (n : Nat) (x : F32) (nib : Nat) : Keeps s0 (State.fbCount s n x nib) := by
  unfold State.fbCount
  with_reducible repeat' first | assumption | apply keeps_ite | apply State.putBit_keeps | (apply keeps_with <;> first | rfl | assumption)

theorem State.fbCommit_keeps {s0 s : State} (h : Keeps s0 s) (b : FpBlock) : Keeps s0 (State.fbCommit s b) := by
  unfold State.fbCommit
  with_reducible repeat' first | assumption | apply keeps_ite | apply keeps_foldl | apply State.fbCount_keeps | apply State.fbLoses_keeps | (intro t x (ht : Keeps _ t))

theorem State.fbMissing_keeps {s0 s : State} (h : Keeps s0 s) : Keeps s0 (State.fbMissing s) := by
  unfold State.fbMissing
  with_reducible repeat' first | assumption | apply keeps_ite | apply keeps_foldl | (apply keeps_with <;> first | rfl | assumption) | (intro t x (ht : Keeps _ t))

theorem State.edge_keeps {s0 s : State} (h : Keeps s0 s) (was : Bool) (is' : Bool) (code : Nat) (detail : Nat) : Keeps s0 (State.edge s was is' code detail) := by
  unfold State.edge
  with_reducible repeat' first | assumption | apply keeps_ite | apply State.note_keeps

theorem State.publish_keeps {s0 s : State} (h : Keeps s0 s) (old : Law) (l : Law) : Keeps s0 (State.publish s old l) := by
  unfold State.publish
  with_reducible repeat' first | assumption | apply keeps_ite | apply keeps_foldl | apply State.putF_keeps | apply State.putN_keeps | apply State.putB_keeps | apply State.edge_keeps | apply State.bump_keeps | apply State.note_keeps | (apply keeps_with <;> first | rfl | assumption | apply State.putF_keeps | apply State.putN_keeps | apply State.putB_keeps | apply State.edge_keeps | apply State.bump_keeps | apply State.note_keeps) | (intro t x (ht : Keeps _ t)) | (intro z; apply keeps_cut (z := z)) | (intro hz; clear_value z) | intro _ | lift_lets -underBinder

theorem State.supervise_keeps {s0 s : State} (h : Keeps s0 s) (m : Law) (x : List F32) (act : List Nat) (settled : Bool) (senseOk : Bool) : Keeps s0 (State.supervise s m x act settled senseOk) := by
  unfold State.supervise
  with_reducible repeat' first | assumption | apply keeps_ite | apply State.watchBus_keeps | apply State.sense_keeps | apply State.putN_keeps | apply State.withdraw_keeps | apply State.enterEnergise_keeps | apply State.energiseStep_keeps | apply State.watchWindows_keeps | apply State.watchQuiet_keeps | apply State.protNow_keeps | apply State.rideThrough_keeps | apply State.protWatch_keeps | apply State.protDelay_keeps | (apply keeps_with <;> first | rfl | assumption | apply State.watchBus_keeps | apply State.sense_keeps | apply State.putN_keeps | apply State.withdraw_keeps | apply State.enterEnergise_keeps | apply State.energiseStep_keeps | apply State.watchWindows_keeps | apply State.watchQuiet_keeps | apply State.protNow_keeps | apply State.rideThrough_keeps | apply State.protWatch_keeps | apply State.protDelay_keeps) | split

end Sys2Proof.Machine
end

