-- ==== Sys2Proof/Laws/KeepsLink.lean ====
section
/-!
SUPPORT. Laws/KeepsLink.lean: every operation of Machine/Link.lean keeps what `Keeps` says.
-/
namespace Sys2Proof.Machine
open Sys2Proof

theorem State.setSer_keeps {s0 s : State} (h : Keeps s0 s) (l : Nat) (x : SerLane) : Keeps s0 (State.setSer s l x) := by
  unfold State.setSer
  with_reducible repeat' first | assumption | (apply keeps_with <;> first | rfl | assumption)

theorem State.setView_keeps {s0 s : State} (h : Keeps s0 s) (e : Nat) (x : EpView) : Keeps s0 (State.setView s e x) := by
  unfold State.setView
  with_reducible repeat' first | assumption | (apply keeps_with <;> first | rfl | assumption)

theorem State.setEp_keeps {s0 s : State} (h : Keeps s0 s) (e : Nat) (x : Endpoint) : Keeps s0 (State.setEp s e x) := by
  unfold State.setEp
  with_reducible repeat' first | assumption | (apply keeps_with <;> first | rfl | assumption)

theorem State.setRx_keeps {s0 s : State} (h : Keeps s0 s) (r : RxPort) (x : Rx) : Keeps s0 (State.setRx s r x) := by
  unfold State.setRx
  with_reducible repeat' first | assumption | apply State.setSer_keeps | apply State.setEp_keeps | apply State.setPort_keeps | split

theorem State.refreshLoads_keeps {s0 s : State} (h : Keeps s0 s) : Keeps s0 (State.refreshLoads s) := by
  unfold State.refreshLoads
  with_reducible repeat' first | assumption | apply keeps_ite | apply keeps_foldl | apply State.putN_keeps | split | (intro t x (ht : Keeps _ t))

theorem State.refreshReady_keeps {s0 s : State} (h : Keeps s0 s) : Keeps s0 (State.refreshReady s) := by
  unfold State.refreshReady
  with_reducible repeat' first | assumption | apply keeps_ite | apply keeps_foldl | apply State.putN_keeps

theorem State.laneSend_keeps {s0 s : State} (h : Keeps s0 s) (l : Nat) (ps : List (BitVec 128)) : Keeps s0 (State.laneSend s l ps).2 := by
  unfold State.laneSend
  with_reducible repeat' first | assumption | apply State.setSer_keeps

theorem State.freshTx_keeps {s0 s : State} (h : Keeps s0 s) (l : Nat) : Keeps s0 (State.freshTx s l) := by
  unfold State.freshTx
  with_reducible repeat' first | assumption | apply State.draw_keeps | apply State.setSer_keeps

theorem State.sendTraining_keeps {s0 s : State} (h : Keeps s0 s) (l : Nat) (n : Nat) : Keeps s0 (State.sendTraining s l n) := by
  unfold State.sendTraining
  with_reducible repeat' first | assumption | apply State.freshTx_keeps | apply State.setSer_keeps | apply State.emit_keeps

theorem State.epTraining_keeps {s0 s : State} (h : Keeps s0 s) (e : Nat) (k : Nat) (n : Nat) : Keeps s0 (State.epTraining s e k n) := by
  unfold State.epTraining
  with_reducible repeat' first | assumption | apply State.draw_keeps | apply State.setEp_keeps | apply State.setPort_keeps | apply State.emit_keeps

theorem State.sendControl_keeps {s0 s : State} (h : Keeps s0 s) (l : Nat) : Keeps s0 (State.sendControl s l) := by
  unfold State.sendControl
  with_reducible repeat' first | assumption | apply State.setSer_keeps | apply State.emit_keeps

theorem State.sendCross_keeps {s0 s : State} (h : Keeps s0 s) (ps : List (BitVec 128)) : Keeps s0 (State.sendCross s ps) := by
  unfold State.sendCross
  with_reducible repeat' first | assumption | apply keeps_ite | apply keeps_foldl | apply State.laneSend_keeps | apply State.emit_keeps | (intro t x (ht : Keeps _ t))

theorem State.sendCopy_keeps {s0 s : State} (h : Keeps s0 s) (runs : List (List (BitVec 128))) : Keeps s0 (State.sendCopy s runs) := by
  unfold State.sendCopy
  with_reducible repeat' first | assumption | apply keeps_ite | apply keeps_foldl | apply State.laneSend_keeps | apply State.emit_keeps | (intro t x (ht : Keeps _ t))

theorem State.linkRefresh_keeps {s0 s : State} (h : Keeps s0 s) : Keeps s0 (State.linkRefresh s) := by
  unfold State.linkRefresh
  with_reducible repeat' first | assumption | apply keeps_ite | apply keeps_foldl | apply State.setSer_keeps | apply State.putN_keeps | apply State.sendTraining_keeps | (intro t x (ht : Keeps _ t))

theorem State.refreshLink_keeps {s0 s : State} (h : Keeps s0 s) (itemsChanged : Bool) : Keeps s0 (State.refreshLink s itemsChanged) := by
  unfold State.refreshLink
  with_reducible repeat' first | assumption | apply keeps_ite | apply State.putN_keeps | apply State.refreshLoads_keeps | apply State.linkRefresh_keeps | apply State.refreshReady_keeps

theorem State.parcelCorrected_keeps {s0 s : State} (h : Keeps s0 s) (r : RxPort) : Keeps s0 (State.parcelCorrected s r) := by
  unfold State.parcelCorrected
  with_reducible repeat' first | assumption | apply State.bump_keeps | apply State.setEp_keeps | apply State.setPort_keeps | split

theorem State.parcelBad_keeps {s0 s : State} (h : Keeps s0 s) (r : RxPort) : Keeps s0 (State.parcelBad s r) := by
  unfold State.parcelBad
  with_reducible repeat' first | assumption | apply State.bump_keeps | apply State.setSer_keeps | apply State.note_keeps | apply State.setEp_keeps | apply State.setPort_keeps | split

theorem State.parcelGood_keeps {s0 s : State} (h : Keeps s0 s) (r : RxPort) (d : BitVec 128) : Keeps s0 (State.parcelGood s r d) := by
  unfold State.parcelGood
  with_reducible repeat' first | assumption | apply keeps_ite | apply State.setRx_keeps | apply State.parcelBad_keeps

theorem State.portWakes_keeps {s0 s : State} (h : Keeps s0 s) (r : RxPort) : Keeps s0 (State.portWakes s r) := by
  unfold State.portWakes
  with_reducible repeat' first | assumption | apply keeps_ite | apply State.setEp_keeps | apply State.setPort_keeps | split

theorem State.parcelReceive_keeps {s0 s : State} (h : Keeps s0 s) (r : RxPort) (w : BitVec 144) : Keeps s0 (State.parcelReceive s r w) := by
  unfold State.parcelReceive
  with_reducible repeat' first | assumption | apply State.portWakes_keeps | apply State.parcelGood_keeps | apply State.parcelCorrected_keeps | apply State.parcelBad_keeps | split

theorem execParcelReceive_keeps {s s' : State} (rx : RxPort) (w : BitVec 144) (h : execParcelReceive rx w s = .next s') : Keeps s s' := by
  have hs := Keeps.refl s
  unfold execParcelReceive at h
  injection h with h
  subst h
  with_reducible repeat' first | assumption | apply State.parcelReceive_keeps

theorem State.lockLost_keeps {s0 s : State} (h : Keeps s0 s) (r : RxPort) : Keeps s0 (State.lockLost s r) := by
  unfold State.lockLost
  with_reducible repeat' first | assumption | apply keeps_ite | apply State.setEp_keeps | apply State.setPort_keeps | apply State.epTraining_keeps | split

theorem State.blockWindow_keeps {s0 s : State} (h : Keeps s0 s) (r : RxPort) (invalid : Nat) : Keeps s0 (State.blockWindow s r invalid) := by
  unfold State.blockWindow
  with_reducible repeat' first | assumption | apply keeps_ite | apply State.setRx_keeps | apply State.bundleLock_keeps | apply State.lockLost_keeps

theorem execBlockLockLost_keeps {s s' : State} (rx : RxPort) (invalid : Fin 65) (h : execBlockLockLost rx invalid s = .next s') : Keeps s s' := by
  have hs := Keeps.refl s
  unfold execBlockLockLost at h
  injection h with h
  subst h
  with_reducible repeat' first | assumption | apply State.blockWindow_keeps

theorem State.locked_keeps {s0 s : State} (h : Keeps s0 s) (r : RxPort) : Keeps s0 (State.locked s r) := by
  unfold State.locked
  with_reducible repeat' first | assumption | apply keeps_ite | apply State.setSer_keeps | apply State.putN_keeps | apply State.setEp_keeps | apply State.setPort_keeps | split

theorem State.bundleLock_keeps {s0 s : State} (h : Keeps s0 s) (r : RxPort) (offset : Nat) (clean : Bool) : Keeps s0 (State.bundleLock s r offset clean) := by
  unfold State.bundleLock
  with_reducible repeat' first | assumption | apply keeps_ite | apply State.setRx_keeps | apply State.locked_keeps | apply State.lockLost_keeps

theorem execBundleLock_keeps {s s' : State} (rx : RxPort) (offset : Fin 9) (clean : Bool) (h : execBundleLock rx offset clean s = .next s') : Keeps s s' := by
  have hs := Keeps.refl s
  unfold execBundleLock at h
  injection h with h
  subst h
  with_reducible repeat' first | assumption | apply State.bundleLock_keeps

theorem State.receiverReady_keeps {s0 s : State} (h : Keeps s0 s) (l : Nat) : Keeps s0 (State.receiverReady s l) := by
  unfold State.receiverReady
  with_reducible repeat' first | assumption | apply keeps_ite | apply State.setSer_keeps | apply State.ready_keeps | apply State.putN_keeps

theorem State.markWeak_keeps {s0 s : State} (h : Keeps s0 s) (l : Nat) : Keeps s0 (State.markWeak s l) := by
  unfold State.markWeak
  with_reducible repeat' first | assumption | apply State.setSer_keeps | apply State.ready_keeps | apply State.putN_keeps | apply State.note_keeps | apply State.sendTraining_keeps

theorem State.enterP0_keeps {s0 s : State} (h : Keeps s0 s) (l : Nat) (n : Nat) : Keeps s0 (State.enterP0 s l n) := by
  unfold State.enterP0
  with_reducible repeat' first | assumption | apply State.setSer_keeps | apply State.putN_keeps | apply State.note_keeps | apply State.sendTraining_keeps

theorem State.tryP0_keeps {s0 s : State} (h : Keeps s0 s) (l : Nat) : Keeps s0 (State.tryP0 s l) := by
  unfold State.tryP0
  with_reducible repeat' first | assumption | apply keeps_ite | apply State.ready_keeps | apply State.enterP0_keeps

theorem State.steer_keeps {s0 s : State} (h : Keeps s0 s) (l : Nat) : Keeps s0 (State.steer s l) := by
  unfold State.steer
  with_reducible repeat' first | assumption | apply keeps_ite | apply State.draw_keeps | apply State.setSer_keeps

theorem State.trainLane_keeps {s0 s : State} (h : Keeps s0 s) (l : Nat) (w : BitVec 128) (fom : Nat) : Keeps s0 (State.trainLane s l w fom) := by
  unfold State.trainLane
  with_reducible repeat' first | assumption | apply keeps_ite | apply State.putN_keeps | apply State.setSer_keeps | apply State.markWeak_keeps | apply State.ready_keeps | apply State.receiverReady_keeps | apply State.steer_keeps | apply State.tryP0_keeps | apply State.sendTraining_keeps

theorem State.trainEp_keeps {s0 s : State} (h : Keeps s0 s) (e : Nat) (k : Nat) (w : BitVec 128) (fom : Nat) : Keeps s0 (State.trainEp s e k w fom) := by
  unfold State.trainEp
  with_reducible repeat' first | assumption | apply keeps_ite | apply State.draw_keeps | apply State.heard_keeps | apply State.steer_keeps | apply State.setEp_keeps | apply State.setPort_keeps | apply State.epTraining_keeps

theorem State.trainingBundle_keeps {s0 s : State} (h : Keeps s0 s) (r : RxPort) (b : BitVec 576) (fom : Nat) : Keeps s0 (State.trainingBundle s r b fom) := by
  unfold State.trainingBundle
  with_reducible repeat' first | assumption | apply keeps_foldl | apply State.parcelCorrected_keeps | apply State.parcelBad_keeps | apply State.trainLane_keeps | apply State.trainEp_keeps | split | (intro t x (ht : Keeps _ t)) | intro _ | lift_lets -underBinder

theorem execTrainingBundleReceive_keeps {s s' : State} (rx : RxPort) (bundle : BitVec 576) (height : Fin 256) (width : Fin 256) (h : execTrainingBundleReceive rx bundle height width s = .next s') : Keeps s s' := by
  have hs := Keeps.refl s
  unfold execTrainingBundleReceive at h
  injection h with h
  subst h
  with_reducible repeat' first | assumption | apply State.trainingBundle_keeps

theorem State.rxReady_keeps {s0 s : State} (h : Keeps s0 s) (l : Nat) : Keeps s0 (State.rxReady s l) := by
  unfold State.rxReady
  with_reducible repeat' first | assumption | apply keeps_ite | apply State.receiverReady_keeps | apply State.tryP0_keeps | split

theorem execRxReady_keeps {s s' : State} (l : Fin 18) (h : execRxReady l s = .next s') : Keeps s s' := by
  have hs := Keeps.refl s
  unfold execRxReady at h
  injection h with h
  subst h
  with_reducible repeat' first | assumption | apply State.rxReady_keeps

theorem State.adaptTimeout_keeps {s0 s : State} (h : Keeps s0 s) (l : Nat) : Keeps s0 (State.adaptTimeout s l) := by
  unfold State.adaptTimeout
  with_reducible repeat' first | assumption | apply keeps_ite | apply State.markWeak_keeps | apply State.setSer_keeps | apply State.sendTraining_keeps

theorem execAdaptTimeout_keeps {s s' : State} (l : Fin 18) (h : execAdaptTimeout l s = .next s') : Keeps s s' := by
  have hs := Keeps.refl s
  unfold execAdaptTimeout at h
  injection h with h
  subst h
  with_reducible repeat' first | assumption | apply State.adaptTimeout_keeps

theorem State.weakRetry_keeps {s0 s : State} (h : Keeps s0 s) (l : Nat) : Keeps s0 (State.weakRetry s l) := by
  unfold State.weakRetry
  with_reducible repeat' first | assumption | apply keeps_ite | apply State.setSer_keeps | apply State.putN_keeps | apply State.sendTraining_keeps

theorem execWeakRetry_keeps {s s' : State} (l : Fin 18) (h : execWeakRetry l s = .next s') : Keeps s s' := by
  have hs := Keeps.refl s
  unfold execWeakRetry at h
  injection h with h
  subst h
  with_reducible repeat' first | assumption | apply State.weakRetry_keeps

theorem State.onewayMeasured_keeps {s0 s : State} (h : Keeps s0 s) (l : Nat) : Keeps s0 (State.onewayMeasured s l) := by
  unfold State.onewayMeasured
  with_reducible repeat' first | assumption | apply keeps_ite | apply State.putN_keeps | apply State.setSer_keeps | apply State.refreshLoads_keeps | apply State.markWeak_keeps

theorem execOnewayMeasured_keeps {s s' : State} (l : Fin 18) (h : execOnewayMeasured l s = .next s') : Keeps s s' := by
  have hs := Keeps.refl s
  unfold execOnewayMeasured at h
  injection h with h
  subst h
  with_reducible repeat' first | assumption | apply State.onewayMeasured_keeps

theorem State.linkRetrain_keeps {s0 s : State} (h : Keeps s0 s) (l : Nat) : Keeps s0 (State.linkRetrain s l) := by
  unfold State.linkRetrain
  with_reducible repeat' first | assumption | apply keeps_ite | apply State.bundleLock_keeps | apply State.setSer_keeps | apply State.putN_keeps | apply State.bump_keeps | apply State.note_keeps | apply State.sendTraining_keeps

theorem execLinkRetrain_keeps {s s' : State} (l : Fin 18) (h : execLinkRetrain l s = .next s') : Keeps s s' := by
  have hs := Keeps.refl s
  unfold execLinkRetrain at h
  injection h with h
  subst h
  with_reducible repeat' first | assumption | apply State.linkRetrain_keeps

theorem State.fastRetrainDone_keeps {s0 s : State} (h : Keeps s0 s) (l : Nat) (fom : Nat) : Keeps s0 (State.fastRetrainDone s l fom) := by
  unfold State.fastRetrainDone
  with_reducible repeat' first | assumption | apply keeps_ite | apply State.putN_keeps | apply State.bundleLock_keeps | apply State.enterP0_keeps | apply State.setSer_keeps | apply State.sendTraining_keeps

theorem execFastRetrainDone_keeps {s s' : State} (l : Fin 18) (fom : Fin 256) (h : execFastRetrainDone l fom s = .next s') : Keeps s s' := by
  have hs := Keeps.refl s
  unfold execFastRetrainDone at h
  injection h with h
  subst h
  with_reducible repeat' first | assumption | apply State.fastRetrainDone_keeps

theorem State.wakeLane_keeps {s0 s : State} (h : Keeps s0 s) (l : Nat) : Keeps s0 (State.wakeLane s l) := by
  unfold State.wakeLane
  with_reducible repeat' first | assumption | apply keeps_ite | apply State.putN_keeps | apply State.setSer_keeps | apply State.enterP0_keeps | apply State.note_keeps | apply State.sendTraining_keeps

theorem State.pstateReq_keeps {s0 s : State} (h : Keeps s0 s) (l : Nat) (v : Nat) : Keeps s0 (State.pstateReq s l v).1 := by
  unfold State.pstateReq
  with_reducible repeat' first | assumption | apply keeps_ite | apply keeps_ite_fst | apply State.wakeLane_keeps | apply State.putN_keeps | apply State.note_keeps | apply State.draw_keeps | apply State.setSer_keeps | split | (intro z; apply keeps_cut (z := z)) | (intro hz; clear_value z) | intro _ | lift_lets -underBinder

theorem execPstateReq_keeps {s s' : State} (session : Nat) (l : Fin 18) (v : Nat) (h : execPstateReq session l v s = .next s') : Keeps s s' := by
  have hs := Keeps.refl s
  unfold execPstateReq at h
  injection h with h
  subst h
  with_reducible repeat' first | assumption | apply State.command_keeps | apply State.pstateReq_keeps | (intro t x (ht : Keeps _ t)) | (intro t (ht : Keeps _ t))

theorem State.pstateEntry_keeps {s0 s : State} (h : Keeps s0 s) (l : Nat) : Keeps s0 (State.pstateEntry s l) := by
  unfold State.pstateEntry
  with_reducible repeat' first | assumption | apply keeps_ite | apply State.setSer_keeps | apply State.putN_keeps | apply State.note_keeps | apply State.sendControl_keeps | split

theorem execPstateEntry_keeps {s s' : State} (l : Fin 18) (h : execPstateEntry l s = .next s') : Keeps s s' := by
  have hs := Keeps.refl s
  unfold execPstateEntry at h
  injection h with h
  subst h
  with_reducible repeat' first | assumption | apply State.pstateEntry_keeps

end Sys2Proof.Machine
end

