-- ==== Sys2Proof/Laws/KeepsBurst.lean ====
section
/-!
SUPPORT. Laws/KeepsBurst.lean: every operation of Machine/Burst.lean keeps what `Keeps` says.
-/
namespace Sys2Proof.Machine
open Sys2Proof

theorem State.planSets_keeps {s0 s : State} (h : Keeps s0 s) (hs : List (Nat × Half)) : Keeps s0 (State.planSets s hs) := by
  unfold State.planSets
  with_reducible repeat' first | assumption | (apply keeps_with <;> first | rfl | assumption)

theorem State.settleSet_keeps {s0 s : State} (h : Keeps s0 s) (x : HubSet) : Keeps s0 (State.settleSet s x) := by
  unfold State.settleSet
  with_reducible repeat' first | assumption | apply keeps_ite | apply State.count_keeps | apply State.note_keeps | (apply keeps_with <;> first | rfl | assumption)

theorem State.settleSets_keeps {s0 s : State} (h : Keeps s0 s) (ps : List Nat) (t : Nat) : Keeps s0 (State.settleSets s ps t) := by
  unfold State.settleSets
  with_reducible repeat' first | assumption | apply keeps_foldl | apply State.settleSet_keeps | (apply keeps_with <;> first | rfl | assumption) | (intro t x (ht : Keeps _ t))

theorem State.edgeSets_keeps {s0 s : State} (h : Keeps s0 s) (e : Nat) (q : Nat) (t0 : Nat) : Keeps s0 (State.edgeSets s e q t0).2 := by
  unfold State.edgeSets
  with_reducible repeat' first | assumption | apply keeps_foldl | apply State.settleSets_keeps | apply State.count_keeps | apply State.planSets_keeps | (intro t x (ht : Keeps _ t))

theorem State.freshCommands_keeps {s0 s : State} (h : Keeps s0 s) (e : Nat) (q : Nat) : Keeps s0 (State.freshCommands s e q).2 := by
  unfold State.freshCommands
  with_reducible repeat' first | assumption | apply State.edgeSets_keeps

theorem State.sendBurst_keeps {s0 s : State} (h : Keeps s0 s) (e : Nat) (l : Nat) (held : Bool) (n : Nat) (t0 : Nat) : Keeps s0 (State.sendBurst s e l held n t0) := by
  unfold State.sendBurst
  with_reducible repeat' first | assumption | apply keeps_ite | apply State.freshCommands_keeps | apply State.laneSend_keeps | apply State.emit_keeps | apply State.setSer_keeps | split

theorem State.sendBurstsOf_keeps {s0 s : State} (h : Keeps s0 s) (held : Bool) (n : Nat) (t0 : Nat) : Keeps s0 (State.sendBurstsOf s held n t0) := by
  unfold State.sendBurstsOf
  with_reducible repeat' first | assumption | apply keeps_ite | apply keeps_foldl | apply State.sendBurst_keeps | split | (intro t x (ht : Keeps _ t))

theorem State.sendBursts_keeps {s0 s : State} (h : Keeps s0 s) (held : Bool) : Keeps s0 (State.sendBursts s held) := by
  unfold State.sendBursts
  with_reducible repeat' first | assumption | apply keeps_ite | apply State.sendBurstsOf_keeps | (apply keeps_with <;> first | rfl | assumption)

theorem State.stopBursts_keeps {s0 s : State} (h : Keeps s0 s) : Keeps s0 (State.stopBursts s) := by
  unfold State.stopBursts
  with_reducible repeat' first | assumption | apply keeps_ite | apply State.sendBursts_keeps

theorem State.oweBursts_keeps {s0 s : State} (h : Keeps s0 s) : Keeps s0 (State.oweBursts s) := by
  unfold State.oweBursts
  with_reducible repeat' first | assumption | apply keeps_ite | apply State.stopBursts_keeps | (apply keeps_with <;> first | rfl | assumption)

theorem State.owedBursts_keeps {s0 s : State} (h : Keeps s0 s) : Keeps s0 (State.owedBursts s) := by
  unfold State.owedBursts
  with_reducible repeat' first | assumption | apply keeps_ite | apply State.sendBurstsOf_keeps | (apply keeps_with <;> first | rfl | assumption | apply State.sendBurstsOf_keeps) | split

end Sys2Proof.Machine
end

