-- ==== Sys2Proof/Laws/KeepsStart.lean ====
section
/-!
SUPPORT. Laws/KeepsStart.lean: every operation of Machine/Start.lean keeps what `Keeps` says.
-/
namespace Sys2Proof.Machine
open Sys2Proof

theorem State.eftStart_keeps {s0 s : State} (h : Keeps s0 s) : Keeps s0 (State.eftStart s) := by
  unfold State.eftStart
  with_reducible repeat' first | assumption | apply keeps_ite | apply State.putN_keeps | apply State.putBit_keeps | (apply keeps_with <;> first | rfl | assumption)

theorem State.lawStart_keeps {s0 s : State} (h : Keeps s0 s) : Keeps s0 (State.lawStart s).1 := by
  unfold State.lawStart
  with_reducible repeat' first | assumption | apply keeps_ite | apply keeps_ite_fst | apply keeps_foldl | apply State.refreshConfig_keeps | apply State.putN_keeps | apply State.wakeLane_keeps | apply State.startAccepted_keeps | apply State.eftStart_keeps | split | (intro t x (ht : Keeps _ t))

theorem execLawStart_keeps {s s' : State} (session : Nat) (h : execLawStart session s = .next s') : Keeps s s' := by
  have hs := Keeps.refl s
  unfold execLawStart at h
  injection h with h
  subst h
  with_reducible repeat' first | assumption | apply State.command_keeps | apply State.lawStart_keeps

end Sys2Proof.Machine
end

