-- ==== Sys2Proof/Laws/KeepsPair.lean ====
section
/-!
SUPPORT. Laws/KeepsPair.lean: every operation of Machine/Pair.lean keeps what `Keeps` says.
-/
namespace Sys2Proof.Machine
open Sys2Proof

theorem State.setPr_keeps {s0 s : State} (h : Keeps s0 s) (x : PairRec) : Keeps s0 (State.setPr s x) := by
  unfold State.setPr
  with_reducible repeat' first | assumption | (apply keeps_with <;> first | rfl | assumption)

theorem State.ldByRole_keeps {s0 s : State} (h : Keeps s0 s) (was : Nat) : Keeps s0 (State.ldByRole s was) := by
  unfold State.ldByRole
  with_reducible repeat' first | assumption | apply keeps_ite | apply keeps_foldl | apply State.ldOff_keeps | apply State.setLd_keeps | apply State.ldResume_keeps | (intro t x (ht : Keeps _ t))

theorem State.setPairState_keeps {s0 s : State} (h : Keeps s0 s) (st : Nat) : Keeps s0 (State.setPairState s st) := by
  unfold State.setPairState
  with_reducible repeat' first | assumption | apply keeps_ite | apply State.putN_keeps | apply State.note_keeps | apply State.refreshClaims_keeps | apply State.ldByRole_keeps

theorem State.refreshTie_keeps {s0 s : State} (h : Keeps s0 s) : Keeps s0 (State.refreshTie s) := by
  unfold State.refreshTie
  with_reducible repeat' first | assumption | apply State.putN_keeps | apply State.refreshClaims_keeps

theorem State.newEpoch_keeps {s0 s : State} (h : Keeps s0 s) : Keeps s0 (State.newEpoch s) := by
  unfold State.newEpoch
  with_reducible repeat' first | assumption | apply State.putN_keeps | apply State.setPr_keeps

theorem State.becomeActive_keeps {s0 s : State} (h : Keeps s0 s) (taking : Bool) : Keeps s0 (State.becomeActive s taking) := by
  unfold State.becomeActive
  with_reducible repeat' first | assumption | apply keeps_ite | apply State.newEpoch_keeps | apply State.setPr_keeps | apply State.setHosts_keeps | apply State.actOnMarks_keeps | apply State.setPairState_keeps

theorem State.enterCopy_keeps {s0 s : State} (h : Keeps s0 s) : Keeps s0 (State.enterCopy s) := by
  unfold State.enterCopy
  with_reducible repeat' first | assumption | apply keeps_ite | apply State.bump_keeps | apply State.note_keeps | apply State.draw_keeps | apply State.setPr_keeps | apply State.autoStart_keeps | apply State.putN_keeps | apply State.setPairState_keeps

theorem State.pairModeChanged_keeps {s0 s : State} (h : Keeps s0 s) : Keeps s0 (State.pairModeChanged s) := by
  unfold State.pairModeChanged
  with_reducible repeat' first | assumption | apply keeps_ite | apply State.setHosts_keeps | apply State.setPr_keeps | apply State.setPairState_keeps | apply State.refreshTie_keeps

theorem State.crosslinkLost_keeps {s0 s : State} (h : Keeps s0 s) (b : Bool) : Keeps s0 (State.crosslinkLost s b) := by
  unfold State.crosslinkLost
  with_reducible repeat' first | assumption | apply keeps_ite | apply State.putBit_keeps | apply State.note_keeps | apply State.bump_keeps

theorem State.activeEchoes_keeps {s0 s : State} (h : Keeps s0 s) : Keeps s0 (State.activeEchoes s) := by
  unfold State.activeEchoes
  with_reducible repeat' first | assumption | apply keeps_ite | apply State.setPr_keeps | apply State.setPairState_keeps | apply State.note_keeps | apply State.refreshClaims_keeps

theorem State.standbyEchoes_keeps {s0 s : State} (h : Keeps s0 s) : Keeps s0 (State.standbyEchoes s) := by
  unfold State.standbyEchoes
  with_reducible repeat' first | assumption | apply keeps_ite | apply State.crosslinkLost_keeps | apply State.setPairState_keeps | apply State.setPr_keeps

theorem State.judgeEchoes_keeps {s0 s : State} (h : Keeps s0 s) : Keeps s0 (State.judgeEchoes s) := by
  unfold State.judgeEchoes
  with_reducible repeat' first | assumption | apply keeps_ite | apply State.activeEchoes_keeps | apply State.standbyEchoes_keeps

theorem State.pairRoles_keeps {s0 s : State} (h : Keeps s0 s) : Keeps s0 (State.pairRoles s) := by
  unfold State.pairRoles
  with_reducible repeat' first | assumption | apply keeps_ite | apply State.becomeActive_keeps | apply State.bump_keeps | apply State.note_keeps | apply State.setPr_keeps | apply State.setPairState_keeps | split | intro _ | lift_lets -underBinder

theorem State.survivor_keeps {s0 s : State} (h : Keeps s0 s) : Keeps s0 (State.survivor s) := by
  unfold State.survivor
  with_reducible repeat' first | assumption | apply keeps_ite | apply State.setPr_keeps | apply State.heard_keeps | apply State.autoStart_keeps | apply State.setPairState_keeps

theorem State.pairBoundary_keeps {s0 s : State} (h : Keeps s0 s) : Keeps s0 (State.pairBoundary s) := by
  unfold State.pairBoundary
  with_reducible repeat' first | assumption | apply keeps_ite | apply keeps_foldl | apply State.pairRoles_keeps | apply State.heard_keeps | apply State.setPr_keeps | apply State.crosslinkLost_keeps | apply State.survivor_keeps | apply State.setView_keeps | (intro t x (ht : Keeps _ t))

theorem State.sendBlock_keeps {s0 s : State} (h : Keeps s0 s) : Keeps s0 (State.sendBlock s) := by
  unfold State.sendBlock
  with_reducible repeat' first | assumption | apply keeps_ite | apply State.sendCross_keeps | split

theorem State.sendDigest_keeps {s0 s : State} (h : Keeps s0 s) (c : LaneCommit) (delta : Bool) : Keeps s0 (State.sendDigest s c delta) := by
  unfold State.sendDigest
  with_reducible repeat' first | assumption | apply keeps_ite | apply State.sendCross_keeps

theorem State.pairCompare_keeps {s0 s : State} (h : Keeps s0 s) : Keeps s0 (State.pairCompare s) := by
  unfold State.pairCompare
  with_reducible repeat' first | assumption | apply keeps_ite | apply State.commit_keeps | apply State.slip_keeps | apply State.setPr_keeps | apply State.enterCopy_keeps | apply State.putN_keeps | apply State.bump_keeps | apply State.note_keeps | split

theorem State.ownCommit_keeps {s0 s : State} (h : Keeps s0 s) (c : LaneCommit) : Keeps s0 (State.ownCommit s c) := by
  unfold State.ownCommit
  with_reducible repeat' first | assumption | apply State.setPr_keeps | apply State.pairCompare_keeps

theorem State.partnerFlag_keeps {s0 s : State} (h : Keeps s0 s) : Keeps s0 (State.partnerFlag s) := by
  unfold State.partnerFlag
  with_reducible repeat' first | assumption | apply State.putBit_keeps

theorem State.heartbeatReceive_keeps {s0 s : State} (h : Keeps s0 s) (w : BitVec 128) (serial : Nat) : Keeps s0 (State.heartbeatReceive s w serial) := by
  unfold State.heartbeatReceive
  with_reducible repeat' first | assumption | apply keeps_ite | apply State.putN_keeps | apply State.setPr_keeps | apply State.heard_keeps | apply State.refreshTie_keeps | apply State.crosslinkLost_keeps | apply State.enterCopy_keeps | apply State.partnerFlag_keeps

theorem State.crossWord_keeps {s0 s : State} (h : Keeps s0 s) (l : Fin 18) (w : BitVec 144) : Keeps s0 (State.crossWord s l w) := by
  unfold State.crossWord
  with_reducible repeat' first | assumption | apply State.parcelCorrected_keeps | apply State.parcelBad_keeps | split

theorem execHeartbeatReceive_keeps {s s' : State} (x0 : Option (BitVec 144)) (x1 : Option (BitVec 144)) (serial : BitVec 32) (h : execHeartbeatReceive x0 x1 serial s = .next s') : Keeps s s' := by
  have hs := Keeps.refl s
  unfold execHeartbeatReceive at h
  injection h with h
  subst h
  with_reducible repeat' first | assumption | apply keeps_foldl | apply State.crossWord_keeps | apply State.heartbeatReceive_keeps | split | (intro t x (ht : Keeps _ t))

theorem State.skewOf_keeps {s0 s : State} (h : Keeps s0 s) (b : FpBlock) : Keeps s0 (State.skewOf s b) := by
  unfold State.skewOf
  with_reducible repeat' first | assumption | apply keeps_ite | apply State.putI_keeps | apply State.setPr_keeps | apply State.putBit_keeps | apply State.note_keeps

theorem State.trackDiff_keeps {s0 s : State} (h : Keeps s0 s) (f : FpBlock) (own : FpBlock) : Keeps s0 (State.trackDiff s f own) := by
  unfold State.trackDiff
  with_reducible repeat' first | assumption | apply keeps_ite | apply keeps_foldl | apply State.setPr_keeps | apply State.putBit_keeps | apply State.note_keeps

theorem State.forwarded_keeps {s0 s : State} (h : Keeps s0 s) (b : FpBlock) : Keeps s0 (State.forwarded s b) := by
  unfold State.forwarded
  with_reducible repeat' first | assumption | apply keeps_ite | apply State.skewOf_keeps | apply State.setPr_keeps | apply State.trackDiff_keeps | apply State.setPairState_keeps | split

theorem State.reducedCoverage_keeps {s0 s : State} (h : Keeps s0 s) (b : Bool) : Keeps s0 (State.reducedCoverage s b) := by
  unfold State.reducedCoverage
  with_reducible repeat' first | assumption | apply keeps_ite | apply State.putBit_keeps | apply State.note_keeps

theorem State.beginShadow_keeps {s0 s : State} (h : Keeps s0 s) : Keeps s0 (State.beginShadow s) := by
  unfold State.beginShadow
  with_reducible repeat' first | assumption | apply State.setPr_keeps | apply State.putN_keeps | apply State.reducedCoverage_keeps

theorem State.takeState_keeps {s0 s : State} (h : Keeps s0 s) (raw : List (BitVec 128)) : Keeps s0 (State.takeState s raw) := by
  unfold State.takeState
  with_reducible repeat' first | assumption | apply keeps_foldl | apply State.putN_keeps | split | (intro t x (ht : Keeps _ t))

theorem State.copyRun_keeps {s0 s : State} (h : Keeps s0 s) (frame : Nat) (raw : List (BitVec 128)) : Keeps s0 (State.copyRun s frame raw) := by
  unfold State.copyRun
  with_reducible repeat' first | assumption | apply keeps_ite | apply State.putN_keeps | apply State.setPr_keeps | apply State.mapLaws_keeps | apply State.takeState_keeps | apply State.setPairState_keeps | apply State.beginShadow_keeps

theorem State.takeMarks_keeps {s0 s : State} (h : Keeps s0 s) (qs : List Request) : Keeps s0 (State.takeMarks s qs) := by
  unfold State.takeMarks
  with_reducible repeat' first | assumption | apply State.setHosts_keeps

theorem State.mirrorRun_keeps {s0 s : State} (h : Keeps s0 s) (raw : List (BitVec 128)) : Keeps s0 (State.mirrorRun s raw) := by
  unfold State.mirrorRun
  with_reducible repeat' first | assumption | apply keeps_ite | apply State.mapLaws_keeps | apply State.takeState_keeps | apply State.takeMarks_keeps | apply State.setPr_keeps | split

theorem State.xlRun_keeps {s0 s : State} (h : Keeps s0 s) (h : BitVec 128) (raw : List (BitVec 128)) (clean : Bool) : Keeps s0 (State.xlRun s h raw clean) := by
  unfold State.xlRun
  with_reducible repeat' first | assumption | apply keeps_ite | apply State.enterCopy_keeps | apply State.mirrorRun_keeps | apply State.forwarded_keeps | apply State.copyRun_keeps | apply State.setPr_keeps | apply State.slip_keeps | apply State.pairCompare_keeps

theorem State.xlRunWords_keeps {s0 s : State} (h : Keeps s0 s) (x0 : List (BitVec 144)) (x1 : List (BitVec 144)) : Keeps s0 (State.xlRunWords s x0 x1) := by
  unfold State.xlRunWords
  with_reducible repeat' first | assumption | apply keeps_foldl | apply State.crossWord_keeps | apply State.xlRun_keeps | (intro t x (ht : Keeps _ t))

theorem execXlRunReceive_keeps {s s' : State} (x0 : List (BitVec 144)) (x1 : List (BitVec 144)) (h : execXlRunReceive x0 x1 s = .next s') : Keeps s s' := by
  have hs := Keeps.refl s
  unfold execXlRunReceive at h
  injection h with h
  subst h
  with_reducible repeat' first | assumption | apply State.xlRunWords_keeps

theorem State.forwardedMissing_keeps {s0 s : State} (h : Keeps s0 s) : Keeps s0 (State.forwardedMissing s) := by
  unfold State.forwardedMissing
  with_reducible repeat' first | assumption | apply keeps_ite | apply State.bump_keeps | apply State.setPr_keeps | split | (intro z; apply keeps_cut (z := z)) | (intro hz; clear_value z) | intro _ | lift_lets -underBinder

theorem execForwardedBlockMissing_keeps {s s' : State}  (h : execForwardedBlockMissing s = .next s') : Keeps s s' := by
  have hs := Keeps.refl s
  unfold execForwardedBlockMissing at h
  injection h with h
  subst h
  with_reducible repeat' first | assumption | apply State.forwardedMissing_keeps

theorem State.plausibility_keeps {s0 s : State} (h : Keeps s0 s) : Keeps s0 (State.plausibility s) := by
  unfold State.plausibility
  with_reducible repeat' first | assumption | apply keeps_ite | apply State.putBit_keeps | apply State.note_keeps | split

theorem execPlausibility_keeps {s s' : State}  (h : execPlausibility s = .next s') : Keeps s s' := by
  have hs := Keeps.refl s
  unfold execPlausibility at h
  injection h with h
  subst h
  with_reducible repeat' first | assumption | apply State.plausibility_keeps

theorem State.autoStart_keeps {s0 s : State} (h : Keeps s0 s) : Keeps s0 (State.autoStart s) := by
  unfold State.autoStart
  with_reducible repeat' first | assumption | apply keeps_ite | apply State.setPr_keeps | apply State.lawStart_keeps

theorem State.lawOff_keeps {s0 s : State} (h : Keeps s0 s) : Keeps s0 (State.lawOff s) := by
  unfold State.lawOff
  with_reducible repeat' first | assumption | apply keeps_ite | apply State.endModulation_keeps | apply State.setOut_keeps | apply State.setLaw_keeps

theorem State.resolvedActive_keeps {s0 s : State} (h : Keeps s0 s) : Keeps s0 (State.resolvedActive s) := by
  unfold State.resolvedActive
  with_reducible repeat' first | assumption | apply State.lawOff_keeps | apply State.becomeActive_keeps | apply State.autoStart_keeps

theorem State.pairRoleResolve_keeps {s0 s : State} (h : Keeps s0 s) : Keeps s0 (State.pairRoleResolve s) := by
  unfold State.pairRoleResolve
  with_reducible repeat' first | assumption | apply keeps_ite | apply State.enterCopy_keeps | apply State.heard_keeps | apply State.resolvedActive_keeps

theorem execPairRoleResolve_keeps {s s' : State}  (h : execPairRoleResolve s = .next s') : Keeps s s' := by
  have hs := Keeps.refl s
  unfold execPairRoleResolve at h
  injection h with h
  subst h
  with_reducible repeat' first | assumption | apply State.pairRoleResolve_keeps

theorem State.announceHandover_keeps {s0 s : State} (h : Keeps s0 s) : Keeps s0 (State.announceHandover s) := by
  unfold State.announceHandover
  with_reducible repeat' first | assumption | apply State.setPr_keeps

theorem State.pairHandover_keeps {s0 s : State} (h : Keeps s0 s) : Keeps s0 (State.pairHandover s).1 := by
  unfold State.pairHandover
  with_reducible repeat' first | assumption | apply keeps_ite | apply keeps_ite_fst | apply State.announceHandover_keeps

theorem execPairHandover_keeps {s s' : State} (session : Nat) (h : execPairHandover session s = .next s') : Keeps s s' := by
  have hs := Keeps.refl s
  unfold execPairHandover at h
  injection h with h
  subst h
  with_reducible repeat' first | assumption | apply State.command_keeps | apply State.pairHandover_keeps

theorem State.pairRequalify_keeps {s0 s : State} (h : Keeps s0 s) : Keeps s0 (State.pairRequalify s).1 := by
  unfold State.pairRequalify
  with_reducible repeat' first | assumption | apply keeps_ite | apply keeps_ite_fst | apply State.heard_keeps | apply State.setPr_keeps

theorem execPairRequalify_keeps {s s' : State} (session : Nat) (h : execPairRequalify session s = .next s') : Keeps s s' := by
  have hs := Keeps.refl s
  unfold execPairRequalify at h
  injection h with h
  subst h
  with_reducible repeat' first | assumption | apply State.command_keeps | apply State.pairRequalify_keeps

theorem State.autoHandover_keeps {s0 s : State} (h : Keeps s0 s) : Keeps s0 (State.autoHandover s) := by
  unfold State.autoHandover
  with_reducible repeat' first | assumption | apply keeps_ite | apply State.setPr_keeps | apply State.announceHandover_keeps | split

theorem execAutoHandover_keeps {s s' : State}  (h : execAutoHandover s = .next s') : Keeps s s' := by
  have hs := Keeps.refl s
  unfold execAutoHandover at h
  injection h with h
  subst h
  with_reducible repeat' first | assumption | apply State.autoHandover_keeps

end Sys2Proof.Machine
end

