-- ==== Sys2Proof/Laws/KeepsUplink.lean ====
section
/-!
SUPPORT. Laws/KeepsUplink.lean: every operation of Machine/Uplink.lean keeps what `Keeps` says.
-/
namespace Sys2Proof.Machine
open Sys2Proof

theorem State.change_keeps {s0 s : State} (h : Keeps s0 s) (was : Bool) (is' : Bool) (code : Nat) (detail : Nat) : Keeps s0 (State.change s was is' code detail) := by
  unfold State.change
  with_reducible repeat' first | assumption | apply keeps_ite | apply State.note_keeps

theorem State.upStatus_keeps {s0 s : State} (h : Keeps s0 s) (e : Nat) (w : BitVec 128) : Keeps s0 (State.upStatus s e w) := by
  unfold State.upStatus
  with_reducible repeat' first | assumption | apply keeps_ite | apply State.change_keeps | apply State.note_keeps | apply State.count_keeps | apply State.putN_keeps | apply State.setView_keeps

theorem State.upEcho_keeps {s0 s : State} (h : Keeps s0 s) (e : Nat) (w : BitVec 128) : Keeps s0 (State.upEcho s e w) := by
  unfold State.upEcho
  with_reducible repeat' first | assumption | apply keeps_ite | apply State.setView_keeps | apply State.putN_keeps | apply State.setPr_keeps | apply State.note_keeps

theorem State.upVolt_keeps {s0 s : State} (h : Keeps s0 s) (k : Nat) (j : Nat) (code : Nat) : Keeps s0 (State.upVolt s k j code) := by
  unfold State.upVolt
  with_reducible repeat' first | assumption | apply keeps_ite | apply State.setArm_keeps | apply State.putBit_keeps

theorem State.upVolts_keeps {s0 s : State} (h : Keeps s0 s) (w : BitVec 128) : Keeps s0 (State.upVolts s w) := by
  unfold State.upVolts
  with_reducible repeat' first | assumption | apply keeps_ite | apply keeps_foldl | apply State.upVolt_keeps | (intro t x (ht : Keeps _ t))

theorem State.upStack_keeps {s0 s : State} (h : Keeps s0 s) (w : BitVec 128) : Keeps s0 (State.upStack s w) := by
  unfold State.upStack
  with_reducible repeat' first | assumption | (apply keeps_with <;> first | rfl | assumption)

theorem State.epFaultResponse_keeps {s0 s : State} (h : Keeps s0 s) (e : Nat) (kind : Nat) (index : Nat) (action : Nat) : Keeps s0 (State.epFaultResponse s e kind index action) := by
  unfold State.epFaultResponse
  with_reducible repeat' first | assumption | apply keeps_ite | apply State.lawStop_keeps

theorem State.upFault_keeps {s0 s : State} (h : Keeps s0 s) (e : Nat) (w : BitVec 128) : Keeps s0 (State.upFault s e w) := by
  unfold State.upFault
  with_reducible repeat' first | assumption | apply keeps_ite | apply State.bump_keeps | apply State.note_keeps | apply State.epFaultResponse_keeps

theorem State.uplinkBurst_keeps {s0 s : State} (h : Keeps s0 s) (e : Nat) (ps : List (BitVec 128)) : Keeps s0 (State.uplinkBurst s e ps) := by
  unfold State.uplinkBurst
  with_reducible repeat' first | assumption | apply keeps_ite | apply keeps_foldl | apply State.upStatus_keeps | apply State.upEcho_keeps | apply State.upVolts_keeps | apply State.upStack_keeps | apply State.upFault_keeps | apply State.setView_keeps | apply State.refreshReady_keeps | apply State.judgeEchoes_keeps | apply State.autoStart_keeps | split | (intro t x (ht : Keeps _ t))

theorem State.uplinkReceive_keeps {s0 s : State} (h : Keeps s0 s) (l : Nat) : Keeps s0 (State.uplinkReceive s l) := by
  unfold State.uplinkReceive
  with_reducible repeat' first | assumption | apply keeps_ite | apply State.setSer_keeps | apply State.uplinkBurst_keeps | split

theorem execUplinkBurstReceive_keeps {s s' : State} (l : Fin 16) (h : execUplinkBurstReceive l s = .next s') : Keeps s s' := by
  have hs := Keeps.refl s
  unfold execUplinkBurstReceive at h
  injection h with h
  subst h
  with_reducible repeat' first | assumption | apply State.uplinkReceive_keeps

theorem State.uplinkLost_keeps {s0 s : State} (h : Keeps s0 s) (e : Nat) : Keeps s0 (State.uplinkLost s e) := by
  unfold State.uplinkLost
  with_reducible repeat' first | assumption | apply keeps_ite | apply State.setView_keeps | apply State.bump_keeps | apply State.note_keeps | apply State.lawStop_keeps | apply State.judgeEchoes_keeps

theorem execUplinkLost_keeps {s s' : State} (e : Fin 16) (h : execUplinkLost e s = .next s') : Keeps s s' := by
  have hs := Keeps.refl s
  unfold execUplinkLost at h
  injection h with h
  subst h
  with_reducible repeat' first | assumption | apply State.uplinkLost_keeps

end Sys2Proof.Machine
end

