-- ==== Sys2Proof/Laws/KeepsLanes.lean ====
section
/-!
SUPPORT. Laws/KeepsLanes.lean: every operation of Machine/Lanes.lean keeps what `Keeps` says.
-/
namespace Sys2Proof.Machine
open Sys2Proof

theorem State.eftEstimate_keeps {s0 s : State} (h : Keeps s0 s) : Keeps s0 (State.eftEstimate s).2 := by
  unfold State.eftEstimate
  with_reducible repeat' first | assumption | apply State.drawn_keeps

theorem State.divergence_keeps {s0 s : State} (h : Keeps s0 s) (k : Nat) (l : Lane) : Keeps s0 (State.divergence s k l) := by
  unfold State.divergence
  with_reducible repeat' first | assumption | apply keeps_ite | apply keeps_ite_fst | apply keeps_ite_snd | apply keeps_foldl | apply State.bump_keeps | apply State.note_keeps | apply State.setLaneRec_keeps | apply State.putBit_keeps | apply State.demote_keeps | apply State.setLane_keeps | (apply keeps_with <;> first | rfl | assumption | apply keeps_ite)

theorem State.attribute_keeps {s0 s : State} (h : Keeps s0 s) (est : List F32) : Keeps s0 (State.attribute s est) := by
  unfold State.attribute
  with_reducible repeat' first | assumption | apply keeps_ite | apply State.commit_keeps | apply State.ready_keeps | apply State.divergence_keeps

theorem State.equalFrame_keeps {s0 s : State} (h : Keeps s0 s) (est : List F32) (sum : List F32) : Keeps s0 (State.equalFrame s est sum) := by
  unfold State.equalFrame
  with_reducible repeat' first | assumption | apply keeps_ite | apply keeps_ite_fst | apply keeps_ite_snd | apply keeps_foldl | apply State.bumpW_keeps | apply State.setLaneRec_keeps | apply State.putN_keeps | (apply keeps_with <;> first | rfl | assumption | apply keeps_ite)

theorem State.resync_keeps {s0 s : State} (h : Keeps s0 s) (l : Lane) (cause : Nat) : Keeps s0 (State.resync s l cause) := by
  unfold State.resync
  with_reducible repeat' first | assumption | apply keeps_ite | apply State.bump_keeps | apply State.note_keeps | apply State.setLaneRec_keeps | apply State.setLane_keeps

theorem State.outputCompare_keeps {s0 s : State} (h : Keeps s0 s) : Keeps s0 (State.outputCompare s) := by
  unfold State.outputCompare
  with_reducible repeat' first | assumption | apply keeps_ite | apply State.commit_keeps | apply State.resync_keeps | apply State.setLaneRec_keeps | apply State.slip_keeps | apply State.eftEstimate_keeps | apply State.equalFrame_keeps | apply State.bump_keeps | apply State.putN_keeps | apply State.attribute_keeps | split

theorem execOutputCompare_keeps {s s' : State}  (h : execOutputCompare s = .next s') : Keeps s s' := by
  have hs := Keeps.refl s
  unfold execOutputCompare at h
  injection h with h
  subst h
  with_reducible repeat' first | assumption | apply State.outputCompare_keeps

theorem State.eftFault_keeps {s0 s : State} (h : Keeps s0 s) : Keeps s0 (State.eftFault s) := by
  unfold State.eftFault
  with_reducible repeat' first | assumption | apply keeps_ite | apply State.putN_keeps | apply State.putBit_keeps | apply State.note_keeps | (apply keeps_with <;> first | rfl | assumption)

theorem execEftFault_keeps {s s' : State}  (h : execEftFault s = .next s') : Keeps s s' := by
  have hs := Keeps.refl s
  unfold execEftFault at h
  injection h with h
  subst h
  with_reducible repeat' first | assumption | apply State.eftFault_keeps

theorem State.eftWarmingEnd_keeps {s0 s : State} (h : Keeps s0 s) : Keeps s0 (State.eftWarmingEnd s) := by
  unfold State.eftWarmingEnd
  with_reducible repeat' first | assumption | apply keeps_ite | apply State.putN_keeps

theorem execEftWarmingEnd_keeps {s s' : State}  (h : execEftWarmingEnd s = .next s') : Keeps s s' := by
  have hs := Keeps.refl s
  unfold execEftWarmingEnd at h
  injection h with h
  subst h
  with_reducible repeat' first | assumption | apply State.eftWarmingEnd_keeps

theorem State.retestDone_keeps {s0 s : State} (h : Keeps s0 s) (l : Lane) (pass : Bool) : Keeps s0 (State.retestDone s l pass) := by
  unfold State.retestDone
  with_reducible repeat' first | assumption | apply keeps_ite | apply State.setLaneRec_keeps | apply State.setLane_keeps

theorem execLaneRetestDone_keeps {s s' : State} (lane : Lane) (pass : Bool) (h : execLaneRetestDone lane pass s = .next s') : Keeps s s' := by
  have hs := Keeps.refl s
  unfold execLaneRetestDone at h
  injection h with h
  subst h
  with_reducible repeat' first | assumption | apply State.retestDone_keeps

theorem State.laneQualified_keeps {s0 s : State} (h : Keeps s0 s) : Keeps s0 (State.laneQualified s) := by
  unfold State.laneQualified
  with_reducible repeat' first | assumption | apply keeps_ite | apply State.setLane_keeps | apply State.note_keeps | apply State.setPairState_keeps

theorem execLaneQualified_keeps {s s' : State}  (h : execLaneQualified s = .next s') : Keeps s s' := by
  have hs := Keeps.refl s
  unfold execLaneQualified at h
  injection h with h
  subst h
  with_reducible repeat' first | assumption | apply State.laneQualified_keeps

theorem State.healthWatch_keeps {s0 s : State} (h : Keeps s0 s) (l : Lane) (ka : KaResult) : Keeps s0 (State.healthWatch s l ka) := by
  unfold State.healthWatch
  with_reducible repeat' first | assumption | apply keeps_ite | apply State.setLaneRec_keeps | apply State.bumpW_keeps | apply State.bump_keeps | apply State.note_keeps | apply State.diagFailed_keeps | split

theorem State.healthRecompute_keeps {s0 s : State} (h : Keeps s0 s) (kaA : KaResult) (kaB : KaResult) : Keeps s0 (State.healthRecompute s kaA kaB) := by
  unfold State.healthRecompute
  with_reducible repeat' first | assumption | apply State.healthWatch_keeps | apply State.putN_keeps | apply State.putBit_keeps | apply State.refreshClaims_keeps

theorem execHealthRecompute_keeps {s s' : State} (kaA : KaResult) (kaB : KaResult) (h : execHealthRecompute kaA kaB s = .next s') : Keeps s s' := by
  have hs := Keeps.refl s
  unfold execHealthRecompute at h
  injection h with h
  subst h
  with_reducible repeat' first | assumption | apply State.healthRecompute_keeps

theorem State.loopback_keeps {s0 s : State} (h : Keeps s0 s) (pass : Vector Bool 18) : Keeps s0 (State.loopback s pass) := by
  unfold State.loopback
  with_reducible repeat' first | assumption | apply keeps_ite | (apply keeps_with <;> first | rfl | assumption)

theorem execLoopbackTest_keeps {s s' : State} (pass : Vector Bool 18) (h : execLoopbackTest pass s = .next s') : Keeps s s' := by
  have hs := Keeps.refl s
  unfold execLoopbackTest at h
  injection h with h
  subst h
  with_reducible repeat' first | assumption | apply State.loopback_keeps

theorem State.announceSwap_keeps {s0 s : State} (h : Keeps s0 s) : Keeps s0 (State.announceSwap s) := by
  unfold State.announceSwap
  with_reducible repeat' first | assumption | (apply keeps_with <;> first | rfl | assumption) | split

theorem State.laneSwap_keeps {s0 s : State} (h : Keeps s0 s) : Keeps s0 (State.laneSwap s).1 := by
  unfold State.laneSwap
  with_reducible repeat' first | assumption | apply keeps_ite | apply keeps_ite_fst | apply State.announceSwap_keeps

theorem execLaneSwap_keeps {s s' : State} (session : Nat) (h : execLaneSwap session s = .next s') : Keeps s s' := by
  have hs := Keeps.refl s
  unfold execLaneSwap at h
  injection h with h
  subst h
  with_reducible repeat' first | assumption | apply State.command_keeps | apply State.laneSwap_keeps

theorem State.laneRotate_keeps {s0 s : State} (h : Keeps s0 s) : Keeps s0 (State.laneRotate s) := by
  unfold State.laneRotate
  with_reducible repeat' first | assumption | apply keeps_ite | apply State.announceSwap_keeps | (apply keeps_with <;> first | rfl | assumption | apply State.announceSwap_keeps) | split

theorem execLaneRotate_keeps {s s' : State}  (h : execLaneRotate s = .next s') : Keeps s s' := by
  have hs := Keeps.refl s
  unfold execLaneRotate at h
  injection h with h
  subst h
  with_reducible repeat' first | assumption | apply State.laneRotate_keeps

theorem State.eftAfterResync_keeps {s0 s : State} (h : Keeps s0 s) (l : Lane) : Keeps s0 (State.eftAfterResync s l) := by
  unfold State.eftAfterResync
  with_reducible repeat' first | assumption | apply keeps_ite | apply State.setLaneRec_keeps | apply State.eftStart_keeps

theorem State.retireEnds_keeps {s0 s : State} (h : Keeps s0 s) (l : Lane) : Keeps s0 (State.retireEnds s l) := by
  unfold State.retireEnds
  with_reducible repeat' first | assumption | apply keeps_ite | apply State.setLane_keeps | apply State.setLaneRec_keeps | apply State.putN_keeps

theorem State.takeSwap_keeps {s0 s : State} (h : Keeps s0 s) : Keeps s0 (State.takeSwap s) := by
  unfold State.takeSwap
  with_reducible repeat' first | assumption | apply keeps_ite | apply State.setLane_keeps | apply State.serve_keeps | apply State.note_keeps | apply State.putN_keeps | apply State.eftAfterResync_keeps | (apply keeps_with <;> first | rfl | assumption | apply State.setLane_keeps | apply State.serve_keeps | apply State.note_keeps | apply State.putN_keeps | apply State.eftAfterResync_keeps) | split

theorem State.installCopy_keeps {s0 s : State} (h : Keeps s0 s) (l : Lane) : Keeps s0 (State.installCopy s l) := by
  unfold State.installCopy
  with_reducible repeat' first | assumption | apply keeps_ite | apply State.setLaneRec_keeps | apply State.commit_keeps | apply State.setLane_keeps | apply State.putN_keeps | apply State.reducedCoverage_keeps

theorem State.coverageBack_keeps {s0 s : State} (h : Keeps s0 s) : Keeps s0 (State.coverageBack s) := by
  unfold State.coverageBack
  with_reducible repeat' first | assumption | apply keeps_ite | apply State.reducedCoverage_keeps | apply State.putN_keeps

theorem State.eftWarms_keeps {s0 s : State} (h : Keeps s0 s) : Keeps s0 (State.eftWarms s) := by
  unfold State.eftWarms
  with_reducible repeat' first | assumption | apply keeps_ite | (apply keeps_with <;> first | rfl | assumption)

theorem State.dropCommit_keeps {s0 s : State} (h : Keeps s0 s) (l : Lane) : Keeps s0 (State.dropCommit s l) := by
  unfold State.dropCommit
  with_reducible repeat' first | assumption | apply State.setLaneRec_keeps

theorem State.laneBoundary_keeps {s0 s : State} (h : Keeps s0 s) : Keeps s0 (State.laneBoundary s) := by
  unfold State.laneBoundary
  with_reducible repeat' first | assumption | apply keeps_ite | apply keeps_ite_fst | apply keeps_ite_snd | apply keeps_foldl | apply State.retireEnds_keeps | apply State.takeSwap_keeps | apply State.announceSwap_keeps | apply State.installCopy_keeps | apply State.eftWarms_keeps | apply State.coverageBack_keeps | apply State.dropCommit_keeps

theorem State.laneRequalify_keeps {s0 s : State} (h : Keeps s0 s) (l : Lane) : Keeps s0 (State.laneRequalify s l).1 := by
  unfold State.laneRequalify
  with_reducible repeat' first | assumption | apply keeps_ite | apply keeps_ite_fst | apply State.setLaneRec_keeps | apply State.setLane_keeps

theorem execLaneRequalify_keeps {s s' : State} (session : Nat) (lane : Lane) (h : execLaneRequalify session lane s = .next s') : Keeps s s' := by
  have hs := Keeps.refl s
  unfold execLaneRequalify at h
  injection h with h
  subst h
  with_reducible repeat' first | assumption | apply State.command_keeps | apply State.laneRequalify_keeps | (intro t x (ht : Keeps _ t)) | (intro t (ht : Keeps _ t))

theorem State.laneTakeOut_keeps {s0 s : State} (h : Keeps s0 s) (l : Lane) : Keeps s0 (State.laneTakeOut s l).1 := by
  unfold State.laneTakeOut
  with_reducible repeat' first | assumption | apply keeps_ite | apply keeps_ite_fst | apply State.setLane_keeps | apply State.serve_keeps | (apply keeps_with <;> first | rfl | assumption)

theorem execLaneTakeOut_keeps {s s' : State} (session : Nat) (lane : Lane) (h : execLaneTakeOut session lane s = .next s') : Keeps s s' := by
  have hs := Keeps.refl s
  unfold execLaneTakeOut at h
  injection h with h
  subst h
  with_reducible repeat' first | assumption | apply State.command_keeps | apply State.laneTakeOut_keeps | (intro t x (ht : Keeps _ t)) | (intro t (ht : Keeps _ t))

theorem State.laneBooted_keeps {s0 s : State} (h : Keeps s0 s) (l : Lane) (version : Nat) : Keeps s0 (State.laneBooted s l version) := by
  unfold State.laneBooted
  with_reducible repeat' first | assumption | apply keeps_ite | apply State.setLane_keeps | apply State.occur_keeps | apply State.count_keeps | apply State.setLaneRec_keeps | apply State.commit_keeps | apply State.serve_keeps | apply State.putN_keeps | split | (intro z; apply keeps_cut (z := z)) | (intro hz; clear_value z) | intro _ | lift_lets -underBinder

theorem execLaneBootDone_keeps {s s' : State} (lane : Lane) (version : Nat) (h : execLaneBootDone lane version s = .next s') : Keeps s s' := by
  have hs := Keeps.refl s
  unfold execLaneBootDone at h
  injection h with h
  subst h
  with_reducible repeat' first | assumption | apply State.laneBooted_keeps

theorem State.skewDiverged_keeps {s0 s : State} (h : Keeps s0 s) (module : Bool) (l : Lane) : Keeps s0 (State.skewDiverged s module l) := by
  unfold State.skewDiverged
  with_reducible repeat' first | assumption | apply keeps_ite | apply State.setPairState_keeps | apply State.putN_keeps | apply State.note_keeps | apply State.setLane_keeps

theorem execSkewDiverged_keeps {s s' : State} (module : Bool) (lane : Lane) (h : execSkewDiverged module lane s = .next s') : Keeps s s' := by
  have hs := Keeps.refl s
  unfold execSkewDiverged at h
  injection h with h
  subst h
  with_reducible repeat' first | assumption | apply State.skewDiverged_keeps

end Sys2Proof.Machine
end

