-- ==== Sys2Proof/Laws/KeepsAdmission.lean ====
section
/-!
SUPPORT. Laws/KeepsAdmission.lean: every operation of Machine/Admission.lean keeps what `Keeps` says.
-/
namespace Sys2Proof.Machine
open Sys2Proof

theorem State.refreshAdmission_keeps {s0 s : State} (h : Keeps s0 s) : Keeps s0 (State.refreshAdmission s) := by
  unfold State.refreshAdmission
  with_reducible repeat' first | assumption | apply keeps_foldl | apply State.putN_keeps | (intro t x (ht : Keeps _ t))

theorem State.setShed_keeps {s0 s : State} (h : Keeps s0 s) (sh : List Nat) : Keeps s0 (State.setShed s sh) := by
  unfold State.setShed
  with_reducible repeat' first | assumption | apply keeps_ite | apply keeps_ite_fst | apply keeps_ite_snd | apply keeps_foldl | apply State.mapLaws_keeps | apply State.putN_keeps | apply State.count_keeps | apply State.note_keeps | (apply keeps_with <;> first | rfl | assumption | apply keeps_ite)

end Sys2Proof.Machine
end

