-- ==== Sys2Proof/Laws/KeepsFrame.lean ====
section
/-!
SUPPORT. Laws/KeepsFrame.lean: every operation of Machine/Frame.lean keeps what `Keeps` says.
-/
namespace Sys2Proof.Machine
open Sys2Proof

theorem State.setFrame_keeps {s0 s : State} (h : Keeps s0 s) (f : Frame) : Keeps s0 (State.setFrame s f) := by
  unfold State.setFrame
  with_reducible repeat' first | assumption | (apply keeps_with <;> first | rfl | assumption)

theorem State.setPath_keeps {s0 s : State} (h : Keeps s0 s) (delta : Bool) : Keeps s0 (State.setPath s delta) := by
  unfold State.setPath
  with_reducible repeat' first | assumption | apply State.setFrame_keeps

theorem State.takeHistory_keeps {s0 s : State} (h : Keeps s0 s) : Keeps s0 (State.takeHistory s) := by
  unfold State.takeHistory
  with_reducible repeat' first | assumption | apply keeps_ite | (apply keeps_with <;> first | rfl | assumption)

theorem State.speculate_keeps {s0 s : State} (h : Keeps s0 s) : Keeps s0 (State.speculate s) := by
  unfold State.speculate
  with_reducible repeat' first | assumption | apply keeps_ite | apply State.setLaneRec_keeps | apply State.setFrame_keeps

theorem execSpeculationStart_keeps {s s' : State}  (h : execSpeculationStart s = .next s') : Keeps s s' := by
  have hs := Keeps.refl s
  unfold execSpeculationStart at h
  injection h with h
  subst h
  with_reducible repeat' first | assumption | apply State.speculate_keeps

theorem State.squash_keeps {s0 s : State} (h : Keeps s0 s) (cause : Nat) : Keeps s0 (State.squash s cause) := by
  unfold State.squash
  with_reducible repeat' first | assumption | apply keeps_ite | apply State.bump_keeps | apply State.putN_keeps | apply State.setPath_keeps | apply State.cold_keeps | apply State.setFrame_keeps

theorem State.writeShadows_keeps {s0 s : State} (h : Keeps s0 s) (ds : List F32) : Keeps s0 (State.writeShadows s ds) := by
  unfold State.writeShadows
  with_reducible repeat' first | assumption | apply keeps_ite | apply keeps_foldl | apply State.setPair_keeps | apply State.bump_keeps | (intro t x (ht : Keeps _ t))

theorem State.insertArm_keeps {s0 s : State} (h : Keeps s0 s) (l : Law) (x : List F32) (k : Nat) : Keeps s0 (State.insertArm s l x k) := by
  unfold State.insertArm
  with_reducible repeat' first | assumption | apply keeps_ite | apply keeps_foldl | apply State.setArm_keeps | apply State.bump_keeps | apply State.putI_keeps | apply State.putN_keeps | apply State.putF_keeps

theorem State.insertArms_keeps {s0 s : State} (h : Keeps s0 s) (l : Law) (x : List F32) (ran : Bool) : Keeps s0 (State.insertArms s l x ran) := by
  unfold State.insertArms
  with_reducible repeat' first | assumption | apply keeps_ite | apply keeps_foldl | apply State.setArm_keeps | apply State.insertArm_keeps | (intro t x (ht : Keeps _ t))

theorem State.sendOutputs_keeps {s0 s : State} (h : Keeps s0 s) (l : Law) (ds : List F32) (x : List F32) (ran : Bool) : Keeps s0 (State.sendOutputs s l ds x ran) := by
  unfold State.sendOutputs
  with_reducible repeat' first | assumption | apply keeps_ite | apply State.writeShadows_keeps | apply State.insertArms_keeps | apply State.loadAll_keeps | apply State.setOut_keeps | apply State.ldCommitDuty_keeps | apply State.setFrame_keeps

theorem State.mirror_keeps {s0 s : State} (h : Keeps s0 s) (l : Lane) (writes : Nat) : Keeps s0 (State.mirror s l writes) := by
  unfold State.mirror
  with_reducible repeat' first | assumption | apply keeps_ite | apply State.putN_keeps | apply State.bump_keeps | apply State.note_keeps | apply State.enterCopy_keeps | apply State.resync_keeps | (apply keeps_with <;> first | rfl | assumption)

theorem State.epochSnapshot_keeps {s0 s : State} (h : Keeps s0 s) (l : Law) : Keeps s0 (State.epochSnapshot s l) := by
  unfold State.epochSnapshot
  with_reducible repeat' first | assumption | apply keeps_ite | apply State.sendCopy_keeps | apply State.setPr_keeps

theorem State.flip_keeps {s0 s : State} (h : Keeps s0 s) (l : Lane) (new : Law) (words : List (BitVec 128)) : Keeps s0 (State.flip s l new words) := by
  unfold State.flip
  with_reducible repeat' first | assumption | apply State.slip_keeps | apply State.setLaneRec_keeps

theorem State.fillSlot_keeps {s0 s : State} (h : Keeps s0 s) (o : Lane) (x : List F32) (delta : Bool) : Keeps s0 (State.fillSlot s o x delta) := by
  unfold State.fillSlot
  with_reducible repeat' first | assumption | apply keeps_ite | apply State.setLaneRec_keeps

theorem State.coldCount_keeps {s0 s : State} (h : Keeps s0 s) : Keeps s0 (State.coldCount s) := by
  unfold State.coldCount
  with_reducible repeat' first | assumption | apply keeps_ite | apply State.putN_keeps

theorem State.release_keeps {s0 s : State} (h : Keeps s0 s) (ds : List F32) (x : List F32) (ran : Bool) : Keeps s0 (State.release s ds x ran) := by
  unfold State.release
  with_reducible repeat' first | assumption | apply keeps_ite | apply State.setFrame_keeps | apply State.owedBursts_keeps | apply State.sendBursts_keeps | apply State.sendOutputs_keeps

theorem State.afterFlip_keeps {s0 s : State} (h : Keeps s0 s) (l : Lane) (old : Law) (new : Law) (b : FpBlock) (from' : Option (Law × List F32)) (m : Law) (ran : Bool) (writes : Nat) : Keeps s0 (State.afterFlip s l old new b from' m ran writes) := by
  unfold State.afterFlip
  with_reducible repeat' first | assumption | apply keeps_ite | apply State.bump_keeps | apply State.fbCommit_keeps | apply State.putN_keeps | apply State.publish_keeps | apply State.supervise_keeps | apply State.setFrame_keeps | apply State.coldCount_keeps | apply State.release_keeps | apply State.commit_keeps | apply State.sendDigest_keeps | apply State.ownCommit_keeps | apply State.epochSnapshot_keeps | apply State.mirror_keeps | (apply keeps_with <;> first | rfl | assumption | apply State.bump_keeps | apply State.fbCommit_keeps | apply State.putN_keeps | apply State.publish_keeps | apply State.supervise_keeps | apply State.setFrame_keeps | apply State.coldCount_keeps | apply State.release_keeps | apply State.commit_keeps | apply State.sendDigest_keeps | apply State.ownCommit_keeps | apply State.epochSnapshot_keeps | apply State.mirror_keeps) | split

theorem State.commitServing_keeps {s0 s : State} (h : Keeps s0 s) (l : Lane) (new : Law) (b : FpBlock) (x : List F32) (delta : Bool) (words : List (BitVec 128)) (writes : Nat) : Keeps s0 (State.commitServing s l new b x delta words writes) := by
  unfold State.commitServing
  with_reducible repeat' first | assumption | apply State.fillSlot_keeps | apply State.flip_keeps | apply State.afterFlip_keeps

theorem State.deltaCommit_keeps {s0 s : State} (h : Keeps s0 s) (l : Lane) (b : FpBlock) (words : List (BitVec 128)) (writes : Nat) : Keeps s0 (State.deltaCommit s l b words writes) := by
  unfold State.deltaCommit
  with_reducible repeat' first | assumption | apply keeps_ite | apply State.setPath_keeps | apply State.commitServing_keeps

theorem State.commitPhase_keeps {s0 s : State} (h : Keeps s0 s) (specDone : Bool) (words : List (BitVec 128)) (writes : Nat) : Keeps s0 (State.commitPhase s specDone words writes) := by
  unfold State.commitPhase
  with_reducible repeat' first | assumption | apply keeps_ite | apply State.setPath_keeps | apply State.deltaCommit_keeps | apply State.squash_keeps | split

theorem execCommitPhase_keeps {s s' : State} (specDone : Bool) (words : List (BitVec 128)) (writes : Nat) (h : execCommitPhase specDone words writes s = .next s') : Keeps s s' := by
  have hs := Keeps.refl s
  unfold execCommitPhase at h
  injection h with h
  subst h
  with_reducible repeat' first | assumption | apply State.commitPhase_keeps

theorem State.commitOther_keeps {s0 s : State} (h : Keeps s0 s) (o : Lane) (x : List F32) (delta : Bool) (words : List (BitVec 128)) : Keeps s0 (State.commitOther s o x delta words) := by
  unfold State.commitOther
  with_reducible repeat' first | assumption | apply keeps_ite | apply State.fillSlot_keeps | apply State.flip_keeps | apply State.setLaneRec_keeps | split | (intro z; apply keeps_cut (z := z)) | (intro hz; clear_value z) | intro _ | lift_lets -underBinder

theorem State.pathCodeword_keeps {s0 s : State} (h : Keeps s0 s) (words : List (BitVec 128)) : Keeps s0 (State.pathCodeword s words) := by
  unfold State.pathCodeword
  with_reducible repeat' first | assumption | apply keeps_ite | apply State.commitOther_keeps | apply State.setLaneRec_keeps | split

theorem execPathCodeword_keeps {s s' : State} (words : List (BitVec 128)) (h : execPathCodeword words s = .next s') : Keeps s s' := by
  have hs := Keeps.refl s
  unfold execPathCodeword at h
  injection h with h
  subst h
  with_reducible repeat' first | assumption | apply State.pathCodeword_keeps

theorem State.fullPathCommit_keeps {s0 s : State} (h : Keeps s0 s) (lane : Lane) (words : List (BitVec 128)) (writes : Nat) : Keeps s0 (State.fullPathCommit s lane words writes) := by
  unfold State.fullPathCommit
  with_reducible repeat' first | assumption | apply keeps_ite | apply State.setPath_keeps | apply State.commitServing_keeps | apply State.setLaneRec_keeps | apply State.commitOther_keeps | split

theorem execFullPathCommit_keeps {s s' : State} (lane : Lane) (words : List (BitVec 128)) (writes : Nat) (h : execFullPathCommit lane words writes s = .next s') : Keeps s s' := by
  have hs := Keeps.refl s
  unfold execFullPathCommit at h
  injection h with h
  subst h
  with_reducible repeat' first | assumption | apply State.fullPathCommit_keeps

theorem State.coldEnd_keeps {s0 s : State} (h : Keeps s0 s) : Keeps s0 (State.coldEnd s) := by
  unfold State.coldEnd
  with_reducible repeat' first | assumption | apply keeps_ite | apply State.putN_keeps

theorem execColdFramesEnd_keeps {s s' : State}  (h : execColdFramesEnd s = .next s') : Keeps s s' := by
  have hs := Keeps.refl s
  unfold execColdFramesEnd at h
  injection h with h
  subst h
  with_reducible repeat' first | assumption | apply State.coldEnd_keeps

theorem State.slipLane_keeps {s0 s : State} (h : Keeps s0 s) (l : Lane) (counts : Bool) : Keeps s0 (State.slipLane s l counts) := by
  unfold State.slipLane
  with_reducible repeat' first | assumption | apply keeps_ite | apply State.slip_keeps | apply State.setLaneRec_keeps | apply State.commit_keeps | apply State.bump_keeps

theorem State.slipStop_keeps {s0 s : State} (h : Keeps s0 s) : Keeps s0 (State.slipStop s) := by
  unfold State.slipStop
  with_reducible repeat' first | assumption | apply keeps_ite | apply State.setLaneRec_keeps | apply State.announceHandover_keeps | apply State.note_keeps | apply State.lawStop_keeps

theorem State.judgeSlips_keeps {s0 s : State} (h : Keeps s0 s) (l : Lane) : Keeps s0 (State.judgeSlips s l) := by
  unfold State.judgeSlips
  with_reducible repeat' first | assumption | apply keeps_ite | apply State.note_keeps | apply State.demote_keeps | apply State.slipStop_keeps

theorem State.slipHeld_keeps {s0 s : State} (h : Keeps s0 s) (l : Lane) : Keeps s0 (State.slipHeld s l) := by
  unfold State.slipHeld
  with_reducible repeat' first | assumption | apply State.setFrame_keeps | apply State.coldCount_keeps | apply State.oweBursts_keeps | apply State.owedBursts_keeps | apply State.commit_keeps | apply State.sendDigest_keeps | apply State.ownCommit_keeps | apply State.judgeSlips_keeps | split

theorem State.slip_keeps {s0 s : State} (h : Keeps s0 s) (row : Nat) (ls : List Lane) : Keeps s0 (State.slip s row ls) := by
  unfold State.slip
  with_reducible repeat' first | assumption | apply keeps_ite | apply keeps_foldl | apply State.note_keeps | apply State.bump_keeps | apply State.diagFailed_keeps | apply State.fbMissing_keeps | apply State.slipLane_keeps | apply State.slipHeld_keeps | apply State.lawStop_keeps | split | (intro t x (ht : Keeps _ t))

theorem State.frameSlip_keeps {s0 s : State} (h : Keeps s0 s) : Keeps s0 (State.frameSlip s) := by
  unfold State.frameSlip
  with_reducible repeat' first | assumption | apply keeps_ite | apply State.owedBursts_keeps | apply State.slip_keeps

theorem execFrameSlip_keeps {s s' : State}  (h : execFrameSlip s = .next s') : Keeps s s' := by
  have hs := Keeps.refl s
  unfold execFrameSlip at h
  injection h with h
  subst h
  with_reducible repeat' first | assumption | apply State.frameSlip_keeps

theorem State.setSpeedMargin_keeps {s0 s : State} (h : Keeps s0 s) (b : Bool) : Keeps s0 (State.setSpeedMargin s b) := by
  unfold State.setSpeedMargin
  with_reducible repeat' first | assumption | apply keeps_ite | apply State.putB_keeps | apply State.putBit_keeps | apply State.note_keeps

theorem State.speedBoundary_keeps {s0 s : State} (h : Keeps s0 s) : Keeps s0 (State.speedBoundary s) := by
  unfold State.speedBoundary
  with_reducible repeat' first | assumption | apply keeps_ite | apply State.demote_keeps | apply State.setSpeedMargin_keeps | apply State.setShed_keeps | apply State.setFrame_keeps

theorem State.speedMarginClear_keeps {s0 s : State} (h : Keeps s0 s) : Keeps s0 (State.speedMarginClear s) := by
  unfold State.speedMarginClear
  with_reducible repeat' first | assumption | apply keeps_ite | apply State.setSpeedMargin_keeps | split

theorem execSpeedMarginClear_keeps {s s' : State}  (h : execSpeedMarginClear s = .next s') : Keeps s s' := by
  have hs := Keeps.refl s
  unfold execSpeedMarginClear at h
  injection h with h
  subst h
  with_reducible repeat' first | assumption | apply State.speedMarginClear_keeps

theorem State.shedRestore_keeps {s0 s : State} (h : Keeps s0 s) : Keeps s0 (State.shedRestore s) := by
  unfold State.shedRestore
  with_reducible repeat' first | assumption | apply keeps_ite | apply State.setFrame_keeps | split

theorem execShedRestore_keeps {s s' : State}  (h : execShedRestore s = .next s') : Keeps s s' := by
  have hs := Keeps.refl s
  unfold execShedRestore at h
  injection h with h
  subst h
  with_reducible repeat' first | assumption | apply State.shedRestore_keeps

theorem State.nextFrame_keeps {s0 s : State} (h : Keeps s0 s) : Keeps s0 (State.nextFrame s) := by
  unfold State.nextFrame
  with_reducible repeat' first | assumption | apply keeps_ite | apply State.setFrame_keeps | apply State.setLaneRec_keeps | apply State.putN_keeps

theorem State.takeInputs_keeps {s0 s : State} (h : Keeps s0 s) : Keeps s0 (State.takeInputs s) := by
  unfold State.takeInputs
  with_reducible repeat' first | assumption | apply keeps_ite | apply keeps_foldl | apply State.setArm_keeps | apply State.rsUpdate_keeps | (apply keeps_with <;> first | rfl | assumption) | (intro t x (ht : Keeps _ t))

theorem State.heldStop_keeps {s0 s : State} (h : Keeps s0 s) : Keeps s0 (State.heldStop s) := by
  unfold State.heldStop
  with_reducible repeat' first | assumption | apply keeps_ite | apply State.setLaw_keeps | (apply keeps_with <;> first | rfl | assumption)

theorem State.drainMirror_keeps {s0 s : State} (h : Keeps s0 s) : Keeps s0 (State.drainMirror s) := by
  unfold State.drainMirror
  with_reducible repeat' first | assumption | apply keeps_ite | apply State.putN_keeps | (apply keeps_with <;> first | rfl | assumption)

theorem State.armLanes_keeps {s0 s : State} (h : Keeps s0 s) : Keeps s0 (State.armLanes s) := by
  unfold State.armLanes
  with_reducible repeat' first | assumption | apply State.setLaneRec_keeps | apply State.setFrame_keeps

theorem State.frameBoundary_keeps {s0 s : State} (h : Keeps s0 s) : Keeps s0 (State.frameBoundary s) := by
  unfold State.frameBoundary
  with_reducible repeat' first | assumption | apply keeps_ite | apply State.stopBursts_keeps | apply State.owedBursts_keeps | apply State.takeHistory_keeps | apply State.nextFrame_keeps | apply State.takeInputs_keeps | apply State.brkAct_keeps | apply State.heldStop_keeps | apply State.pairBoundary_keeps | apply State.laneBoundary_keeps | apply State.drainMirror_keeps | apply State.armLanes_keeps | apply State.anchorCores_keeps | apply State.skipSlots_keeps | apply State.seqDue_keeps | apply State.speedBoundary_keeps

theorem execFpBlockRelease_keeps {s s' : State}  (h : execFpBlockRelease s = .next s') : Keeps s s' := by
  have hs := Keeps.refl s
  unfold execFpBlockRelease at h
  injection h with h
  subst h
  with_reducible repeat' first | assumption | apply keeps_ite | apply keeps_ite_fst | apply State.fpBlockRelease_keeps | apply State.sendBlock_keeps

end Sys2Proof.Machine
end

