-- ==== Sys2Proof/Laws/KeepsTimebase.lean ====
section
/-!
SUPPORT. Laws/KeepsTimebase.lean: every operation of Machine/Timebase.lean keeps what `Keeps` says.
-/
namespace Sys2Proof.Machine
open Sys2Proof

theorem State.setTb_keeps {s0 s : State} (h : Keeps s0 s) (t : Timebase) : Keeps s0 (State.setTb s t) := by
  unfold State.setTb
  with_reducible repeat' first | assumption | (apply keeps_with <;> first | rfl | assumption)

theorem State.setServo_keeps {s0 s : State} (h : Keeps s0 s) (v : Servo) : Keeps s0 (State.setServo s v) := by
  unfold State.setServo
  with_reducible repeat' first | assumption | (apply keeps_with <;> first | rfl | assumption)

theorem State.refreshQuality_keeps {s0 s : State} (h : Keeps s0 s) : Keeps s0 (State.refreshQuality s) := by
  unfold State.refreshQuality
  with_reducible repeat' first | assumption | apply State.putN_keeps

theorem State.setServoState_keeps {s0 s : State} (h : Keeps s0 s) (st : Nat) : Keeps s0 (State.setServoState s st) := by
  unfold State.setServoState
  with_reducible repeat' first | assumption | apply keeps_ite | apply State.refreshQuality_keeps | apply State.setServo_keeps | apply State.putN_keeps | apply State.note_keeps | apply State.putB_keeps

theorem State.refreshPtpPorts_keeps {s0 s : State} (h : Keeps s0 s) : Keeps s0 (State.refreshPtpPorts s) := by
  unfold State.refreshPtpPorts
  with_reducible repeat' first | assumption | apply keeps_ite | apply keeps_foldl | apply State.putN_keeps | (intro t x (ht : Keeps _ t))

theorem State.nextEpoch_keeps {s0 s : State} (h : Keeps s0 s) : Keeps s0 (State.nextEpoch s) := by
  unfold State.nextEpoch
  with_reducible repeat' first | assumption | apply State.putN_keeps

theorem State.shiftLtc_keeps {s0 s : State} (h : Keeps s0 s) (d : Int) : Keeps s0 (State.shiftLtc s d) := by
  unfold State.shiftLtc
  exact keeps_foldl (h.upd rfl rfl rfl rfl rfl rfl) (fun t x ht => State.setArm_keeps ht _ _)

theorem State.ethStart_keeps {s0 s : State} (h : Keeps s0 s) (k : Nat) (kind : EthKind) : Keeps s0 (State.ethStart s k kind) := by
  unfold State.ethStart
  with_reducible repeat' first | assumption | apply State.bumpW_keeps | apply State.emit_keeps

theorem State.ethRelease_keeps {s0 s : State} (h : Keeps s0 s) (k : Nat) : Keeps s0 (State.ethRelease s k) := by
  unfold State.ethRelease
  with_reducible repeat' first | assumption | apply keeps_ite | apply keeps_foldl | apply State.ethStart_keeps | (apply keeps_with <;> first | rfl | assumption) | (intro t x (ht : Keeps _ t))

theorem State.disarmEpoch_keeps {s0 s : State} (h : Keeps s0 s) : Keeps s0 (State.disarmEpoch s) := by
  unfold State.disarmEpoch
  with_reducible repeat' first | assumption | apply keeps_ite | apply keeps_foldl | apply State.putN_keeps | apply State.note_keeps | apply State.ethRelease_keeps | (intro t x (ht : Keeps _ t))

theorem State.ltcStep_keeps {s0 s : State} (h : Keeps s0 s) (ns : Int) : Keeps s0 (State.ltcStep s ns) := by
  unfold State.ltcStep
  with_reducible repeat' first | assumption | apply keeps_ite | apply State.nextEpoch_keeps | apply State.disarmEpoch_keeps | apply State.shiftLtc_keeps | apply State.bump_keeps | apply State.putI_keeps | apply State.refreshPulls_keeps | apply State.note_keeps

theorem State.keepTcxo_keeps {s0 s : State} (h : Keeps s0 s) : Keeps s0 (State.keepTcxo s) := by
  unfold State.keepTcxo
  with_reducible repeat' first | assumption | apply keeps_ite | apply State.putI_keeps

theorem State.useRef_keeps {s0 s : State} (h : Keeps s0 s) (ref : Bool) : Keeps s0 (State.useRef s ref) := by
  unfold State.useRef
  with_reducible repeat' first | assumption | apply State.keepTcxo_keeps | apply State.putB_keeps

theorem State.acquire_keeps {s0 s : State} (h : Keeps s0 s) (afterLoss : Bool) : Keeps s0 (State.acquire s afterLoss) := by
  unfold State.acquire
  with_reducible repeat' first | assumption | apply State.setTb_keeps | apply State.putN_keeps | apply State.useRef_keeps

theorem State.refQualify_keeps {s0 s : State} (h : Keeps s0 s) : Keeps s0 (State.refQualify s) := by
  unfold State.refQualify
  with_reducible repeat' first | assumption | apply keeps_ite | apply State.setTb_keeps | apply State.useRef_keeps

theorem execRefclkQualified_keeps {s s' : State}  (h : execRefclkQualified s = .next s') : Keeps s s' := by
  have hs := Keeps.refl s
  unfold execRefclkQualified at h
  injection h with h
  subst h
  with_reducible repeat' first | assumption | apply State.refQualify_keeps

theorem State.freqDone_keeps {s0 s : State} (h : Keeps s0 s) : Keeps s0 (State.freqDone s) := by
  unfold State.freqDone
  with_reducible repeat' first | assumption | apply keeps_ite | apply State.setTb_keeps

theorem execFreqAcquisitionDone_keeps {s s' : State}  (h : execFreqAcquisitionDone s = .next s') : Keeps s s' := by
  have hs := Keeps.refl s
  unfold execFreqAcquisitionDone at h
  injection h with h
  subst h
  with_reducible repeat' first | assumption | apply State.freqDone_keeps

theorem State.lockStable_keeps {s0 s : State} (h : Keeps s0 s) : Keeps s0 (State.lockStable s) := by
  unfold State.lockStable
  with_reducible repeat' first | assumption | apply keeps_ite | apply State.putN_keeps

theorem execLockDetectStable_keeps {s s' : State}  (h : execLockDetectStable s = .next s') : Keeps s s' := by
  have hs := Keeps.refl s
  unfold execLockDetectStable at h
  injection h with h
  subst h
  with_reducible repeat' first | assumption | apply State.lockStable_keeps

theorem State.leaveHoldover_keeps {s0 s : State} (h : Keeps s0 s) : Keeps s0 (State.leaveHoldover s) := by
  unfold State.leaveHoldover
  with_reducible repeat' first | assumption | apply keeps_ite | apply State.putN_keeps | apply State.setTb_keeps

theorem State.enterLocked_keeps {s0 s : State} (h : Keeps s0 s) (detail : Nat) : Keeps s0 (State.enterLocked s detail) := by
  unfold State.enterLocked
  with_reducible repeat' first | assumption | apply keeps_ite | apply State.leaveHoldover_keeps | apply State.setTb_keeps | apply State.putN_keeps | apply State.bump_keeps | apply State.note_keeps | apply State.refreshQuality_keeps

theorem State.servoListen_keeps {s0 s : State} (h : Keeps s0 s) : Keeps s0 (State.servoListen s) := by
  unfold State.servoListen
  with_reducible repeat' first | assumption | apply keeps_ite | apply State.refreshPtpPorts_keeps | apply State.setServoState_keeps

theorem State.tbAlign_keeps {s0 s : State} (h : Keeps s0 s) (refOffset : Nat) : Keeps s0 (State.tbAlign s refOffset) := by
  unfold State.tbAlign
  with_reducible repeat' first | assumption | apply keeps_ite | apply State.bump_keeps | apply State.putN_keeps | apply State.enterLocked_keeps | apply State.servoListen_keeps | apply State.linkRefresh_keeps | (apply keeps_with <;> first | rfl | assumption)

theorem execTbAlign_keeps {s s' : State} (refOffset : Nat) (h : execTbAlign refOffset s = .next s') : Keeps s s' := by
  have hs := Keeps.refl s
  unfold execTbAlign at h
  injection h with h
  subst h
  with_reducible repeat' first | assumption | apply State.tbAlign_keeps

theorem State.refCommitted_keeps {s0 s : State} (h : Keeps s0 s) (freq : Bool) : Keeps s0 (State.refCommitted s freq) := by
  unfold State.refCommitted
  with_reducible repeat' first | assumption | apply keeps_ite | apply State.keepTcxo_keeps | apply State.setTb_keeps | apply State.useRef_keeps

theorem State.dcrMove_keeps {s0 s : State} (h : Keeps s0 s) : Keeps s0 (State.dcrMove s) := by
  unfold State.dcrMove
  with_reducible repeat' first | assumption | apply keeps_ite | apply State.setTb_keeps | apply State.useRef_keeps | apply State.note_keeps | apply State.enterLocked_keeps

theorem execDcrSourceMove_keeps {s s' : State}  (h : execDcrSourceMove s = .next s') : Keeps s s' := by
  have hs := Keeps.refl s
  unfold execDcrSourceMove at h
  injection h with h
  subst h
  with_reducible repeat' first | assumption | apply State.dcrMove_keeps

theorem State.dcrTune_keeps {s0 s : State} (h : Keeps s0 s) : Keeps s0 (State.dcrTune s) := by
  unfold State.dcrTune
  with_reducible repeat' first | assumption | apply keeps_ite | apply State.putI_keeps | split | intro _ | lift_lets -underBinder

theorem execDcrTuneWrite_keeps {s s' : State}  (h : execDcrTuneWrite s = .next s') : Keeps s s' := by
  have hs := Keeps.refl s
  unfold execDcrTuneWrite at h
  injection h with h
  subst h
  with_reducible repeat' first | assumption | apply State.dcrTune_keeps

theorem State.divCommitted_keeps {s0 s : State} (h : Keeps s0 s) : Keeps s0 (State.divCommitted s) := by
  unfold State.divCommitted
  with_reducible repeat' first | assumption | apply State.setTb_keeps | apply State.putB_keeps

theorem State.divApplied_keeps {s0 s : State} (h : Keeps s0 s) : Keeps s0 (State.divApplied s) := by
  unfold State.divApplied
  with_reducible repeat' first | assumption | apply keeps_ite | apply State.setTb_keeps | apply State.putB_keeps | apply State.note_keeps | apply State.refreshPulls_keeps | split

theorem execTbDivApplied_keeps {s s' : State}  (h : execTbDivApplied s = .next s') : Keeps s s' := by
  have hs := Keeps.refl s
  unfold execTbDivApplied at h
  injection h with h
  subst h
  with_reducible repeat' first | assumption | apply State.divApplied_keeps

theorem State.ssApply_keeps {s0 s : State} (h : Keeps s0 s) : Keeps s0 (State.ssApply s) := by
  unfold State.ssApply
  with_reducible repeat' first | assumption | apply keeps_ite | apply State.setTb_keeps

theorem execSsChangeApply_keeps {s s' : State}  (h : execSsChangeApply s = .next s') : Keeps s s' := by
  have hs := Keeps.refl s
  unfold execSsChangeApply at h
  injection h with h
  subst h
  with_reducible repeat' first | assumption | apply State.ssApply_keeps

theorem State.tbLost_keeps {s0 s : State} (h : Keeps s0 s) : Keeps s0 (State.tbLost s) := by
  unfold State.tbLost
  with_reducible repeat' first | assumption | apply keeps_ite | apply State.leaveHoldover_keeps | apply State.putN_keeps | apply State.note_keeps | apply State.latchTrip_keeps | apply State.withdraw_keeps | apply State.setLaw_keeps | apply State.ldTripOff_keeps | apply State.ldTbLost_keeps | apply State.stopOutputs_keeps | apply State.blockMissed_keeps | apply State.setFrame_keeps | apply State.stepAll_keeps | apply State.adcTbLost_keeps | apply State.setServo_keeps | apply State.count_keeps | apply State.setServoState_keeps | apply State.refreshPtpPorts_keeps | apply State.acquire_keeps

theorem execTbLost_keeps {s s' : State}  (h : execTbLost s = .next s') : Keeps s s' := by
  have hs := Keeps.refl s
  unfold execTbLost at h
  injection h with h
  subst h
  with_reducible repeat' first | assumption | apply keeps_ite | apply keeps_ite_fst | apply State.tbLost_keeps

theorem State.enterHoldover_keeps {s0 s : State} (h : Keeps s0 s) (cause : Nat) : Keeps s0 (State.enterHoldover s cause) := by
  unfold State.enterHoldover
  with_reducible repeat' first | assumption | apply State.setTb_keeps | apply State.putN_keeps | apply State.refreshQuality_keeps | apply State.note_keeps

theorem State.refLoss_keeps {s0 s : State} (h : Keeps s0 s) : Keeps s0 (State.refLoss s) := by
  unfold State.refLoss
  with_reducible repeat' first | assumption | apply keeps_ite | apply State.keepTcxo_keeps | apply State.setTb_keeps | apply State.enterHoldover_keeps | apply State.acquire_keeps

theorem execRefLoss_keeps {s s' : State}  (h : execRefLoss s = .next s') : Keeps s s' := by
  have hs := Keeps.refl s
  unfold execRefLoss at h
  injection h with h
  subst h
  with_reducible repeat' first | assumption | apply State.refLoss_keeps

theorem State.refFallback_keeps {s0 s : State} (h : Keeps s0 s) : Keeps s0 (State.refFallback s) := by
  unfold State.refFallback
  with_reducible repeat' first | assumption | apply keeps_ite | apply State.useRef_keeps | apply State.note_keeps | apply State.enterLocked_keeps

theorem execRefFallback_keeps {s s' : State}  (h : execRefFallback s = .next s') : Keeps s s' := by
  have hs := Keeps.refl s
  unfold execRefFallback at h
  injection h with h
  subst h
  with_reducible repeat' first | assumption | apply State.refFallback_keeps

theorem State.refReturn_keeps {s0 s : State} (h : Keeps s0 s) : Keeps s0 (State.refReturn s) := by
  unfold State.refReturn
  with_reducible repeat' first | assumption | apply keeps_ite | apply State.useRef_keeps | apply State.note_keeps

theorem execRefReturn_keeps {s s' : State}  (h : execRefReturn s = .next s') : Keeps s s' := by
  have hs := Keeps.refl s
  unfold execRefReturn at h
  injection h with h
  subst h
  with_reducible repeat' first | assumption | apply State.refReturn_keeps

theorem State.holdoverRelock_keeps {s0 s : State} (h : Keeps s0 s) (vcoInRange : Bool) : Keeps s0 (State.holdoverRelock s vcoInRange) := by
  unfold State.holdoverRelock
  with_reducible repeat' first | assumption | apply keeps_ite | apply State.useRef_keeps | apply State.enterLocked_keeps | apply State.tbLost_keeps

theorem execHoldoverRelock_keeps {s s' : State} (vcoInRange : Bool) (h : execHoldoverRelock vcoInRange s = .next s') : Keeps s s' := by
  have hs := Keeps.refl s
  unfold execHoldoverRelock at h
  injection h with h
  subst h
  with_reducible repeat' first | assumption | apply State.holdoverRelock_keeps

theorem State.holdoverExpired_keeps {s0 s : State} (h : Keeps s0 s) : Keeps s0 (State.holdoverExpired s) := by
  unfold State.holdoverExpired
  with_reducible repeat' first | assumption | apply keeps_ite | apply State.setTb_keeps | apply State.refreshQuality_keeps | apply State.note_keeps

theorem execTbHoldoverExpired_keeps {s s' : State}  (h : execTbHoldoverExpired s = .next s') : Keeps s s' := by
  have hs := Keeps.refl s
  unfold execTbHoldoverExpired at h
  injection h with h
  subst h
  with_reducible repeat' first | assumption | apply State.holdoverExpired_keeps

theorem State.lossOfLock_keeps {s0 s : State} (h : Keeps s0 s) (vcoInRange : Bool) : Keeps s0 (State.lossOfLock s vcoInRange) := by
  unfold State.lossOfLock
  with_reducible repeat' first | assumption | apply keeps_ite | apply State.enterHoldover_keeps | apply State.setTb_keeps | apply State.tbLost_keeps

theorem execLossOfLock_keeps {s s' : State} (vcoInRange : Bool) (h : execLossOfLock vcoInRange s = .next s') : Keeps s s' := by
  have hs := Keeps.refl s
  unfold execLossOfLock at h
  injection h with h
  subst h
  with_reducible repeat' first | assumption | apply State.lossOfLock_keeps

theorem State.relockDone_keeps {s0 s : State} (h : Keeps s0 s) : Keeps s0 (State.relockDone s) := by
  unfold State.relockDone
  with_reducible repeat' first | assumption | apply keeps_ite | apply State.enterLocked_keeps

theorem execRelockDone_keeps {s s' : State}  (h : execRelockDone s = .next s') : Keeps s s' := by
  have hs := Keeps.refl s
  unfold execRelockDone at h
  injection h with h
  subst h
  with_reducible repeat' first | assumption | apply State.relockDone_keeps

theorem State.tcxoLost_keeps {s0 s : State} (h : Keeps s0 s) : Keeps s0 (State.tcxoLost s) := by
  unfold State.tcxoLost
  with_reducible repeat' first | assumption | apply keeps_ite | apply keeps_foldl | apply State.keepTcxo_keeps | apply State.setTb_keeps | apply State.putB_keeps | apply State.note_keeps | apply State.emit_keeps | apply State.tbLost_keeps | (intro t x (ht : Keeps _ t))

theorem State.tcxoRecover_keeps {s0 s : State} (h : Keeps s0 s) : Keeps s0 (State.tcxoRecover s) := by
  unfold State.tcxoRecover
  with_reducible repeat' first | assumption | apply keeps_ite | apply State.setTb_keeps | apply State.putB_keeps | apply State.acquire_keeps

theorem State.divLoaded_keeps {s0 s : State} (h : Keeps s0 s) : Keeps s0 (State.divLoaded s) := by
  unfold State.divLoaded
  with_reducible repeat' first | assumption | apply State.setTb_keeps | apply State.putB_keeps

theorem State.tbPowerOn_keeps {s0 s : State} (h : Keeps s0 s) : Keeps s0 (State.tbPowerOn s) := by
  unfold State.tbPowerOn
  with_reducible repeat' first | assumption | apply State.setTb_keeps | apply State.acquire_keeps

theorem State.tbPowerOff_keeps {s0 s : State} (h : Keeps s0 s) : Keeps s0 (State.tbPowerOff s) := by
  unfold State.tbPowerOff
  with_reducible repeat' first | assumption | apply keeps_ite | apply State.leaveHoldover_keeps | apply State.blockMissed_keeps | apply State.setFrame_keeps | apply State.putN_keeps | apply State.refreshPtpPorts_keeps | apply State.refreshQuality_keeps

theorem State.interleaveWatch_keeps {s0 s : State} (h : Keeps s0 s) : Keeps s0 (State.interleaveWatch s) := by
  unfold State.interleaveWatch
  with_reducible repeat' first | assumption | apply keeps_ite | apply State.putN_keeps | apply State.putB_keeps | apply State.note_keeps

theorem execInterleaveDegraded_keeps {s s' : State}  (h : execInterleaveDegraded s = .next s') : Keeps s s' := by
  have hs := Keeps.refl s
  unfold execInterleaveDegraded at h
  injection h with h
  subst h
  with_reducible repeat' first | assumption | apply State.interleaveWatch_keeps

end Sys2Proof.Machine
end

