-- ==== Sys2Proof/Laws/KeepsTime.lean ====
section
/-!
SUPPORT. Laws/KeepsTime.lean: every operation of Machine/Time.lean keeps what `Keeps` says.
-/
namespace Sys2Proof.Machine
open Sys2Proof

theorem State.ethDrop_keeps {s0 s : State} (h : Keeps s0 s) (k : Nat) : Keeps s0 (State.ethDrop s k) := by
  unfold State.ethDrop
  with_reducible repeat' first | assumption | apply State.bump_keeps

theorem State.ethAnswer_keeps {s0 s : State} (h : Keeps s0 s) (k : Nat) (kind : EthKind) : Keeps s0 (State.ethAnswer s k kind) := by
  unfold State.ethAnswer
  with_reducible repeat' first | assumption | apply keeps_ite | apply State.ethStart_keeps | (apply keeps_with <;> first | rfl | assumption)

theorem State.ethFrame_keeps {s0 s : State} (h : Keeps s0 s) (k : Nat) (own : Bool) (ptp : Bool) (kind : EthKind) : Keeps s0 (State.ethFrame s k own ptp kind) := by
  unfold State.ethFrame
  with_reducible repeat' first | assumption | apply keeps_ite | apply State.ethAnswer_keeps | apply State.ethDrop_keeps | split

theorem State.ethReceive_keeps {s0 s : State} (h : Keeps s0 s) (k : Nat) (len : Nat) (fcsOk : Bool) (vlan : Nat) (kind : EthKind) : Keeps s0 (State.ethReceive s k len fcsOk vlan kind) := by
  unfold State.ethReceive
  with_reducible repeat' first | assumption | apply keeps_ite | apply State.bump_keeps | apply State.bumpW_keeps | apply State.ethFrame_keeps | apply State.ethDrop_keeps

theorem execEthFrameReceive_keeps {s s' : State} (k : Fin 2) (len : Nat) (fcsOk : Bool) (vlan : Nat) (kind : EthKind) (h : execEthFrameReceive k len fcsOk vlan kind s = .next s') : Keeps s s' := by
  have hs := Keeps.refl s
  unfold execEthFrameReceive at h
  injection h with h
  subst h
  with_reducible repeat' first | assumption | apply State.ethReceive_keeps

theorem State.takeCalendar_keeps {s0 s : State} (h : Keeps s0 s) (m : Announce) : Keeps s0 (State.takeCalendar s m) := by
  unfold State.takeCalendar
  with_reducible repeat' first | assumption | apply keeps_ite | apply State.putI_keeps | apply State.putN_keeps | apply State.setServo_keeps | (apply keeps_with <;> first | rfl | assumption | apply State.putI_keeps | apply State.putN_keeps | apply State.setServo_keeps) | split

theorem State.adopt_keeps {s0 s : State} (h : Keeps s0 s) (k : Nat) (m : Announce) : Keeps s0 (State.adopt s k m) := by
  unfold State.adopt
  with_reducible repeat' first | assumption | apply keeps_ite | apply State.put_keeps | apply State.putN_keeps | apply State.setServo_keeps | apply State.takeCalendar_keeps | apply State.refreshPtpPorts_keeps | apply State.note_keeps

theorem State.elect_keeps {s0 s : State} (h : Keeps s0 s) : Keeps s0 (State.elect s) := by
  unfold State.elect
  with_reducible repeat' first | assumption | apply State.adopt_keeps | split

theorem State.ignoreMaster_keeps {s0 s : State} (h : Keeps s0 s) (k : Nat) (m : Announce) : Keeps s0 (State.ignoreMaster s k m) := by
  unfold State.ignoreMaster
  with_reducible repeat' first | assumption | apply keeps_ite | apply State.note_keeps | apply State.setServo_keeps | apply State.elect_keeps | split | (intro z; apply keeps_cut (z := z)) | (intro hz; clear_value z) | intro _ | lift_lets -underBinder

theorem State.announce_keeps {s0 s : State} (h : Keeps s0 s) (k : Nat) (m : Announce) : Keeps s0 (State.announce s k m) := by
  unfold State.announce
  with_reducible repeat' first | assumption | apply keeps_ite | apply State.bump_keeps | apply State.ignoreMaster_keeps | apply State.setServo_keeps | apply State.elect_keeps

theorem execPtpAnnounceReceive_keeps {s s' : State} (k : Fin 2) (msg : Announce) (h : execPtpAnnounceReceive k msg s = .next s') : Keeps s s' := by
  have hs := Keeps.refl s
  unfold execPtpAnnounceReceive at h
  injection h with h
  subst h
  with_reducible repeat' first | assumption | apply State.announce_keeps

theorem State.announceTimeout_keeps {s0 s : State} (h : Keeps s0 s) : Keeps s0 (State.announceTimeout s) := by
  unfold State.announceTimeout
  with_reducible repeat' first | assumption | apply keeps_ite | apply keeps_foldl | apply State.setServo_keeps | apply State.adopt_keeps | apply State.putN_keeps | apply State.refreshPtpPorts_keeps | apply State.note_keeps | apply State.setServoState_keeps | split | (intro t x (ht : Keeps _ t)) | (intro z; apply keeps_cut (z := z)) | (intro hz; clear_value z) | intro _ | lift_lets -underBinder

theorem execAnnounceTimeout_keeps {s s' : State}  (h : execAnnounceTimeout s = .next s') : Keeps s s' := by
  have hs := Keeps.refl s
  unfold execAnnounceTimeout at h
  injection h with h
  subst h
  with_reducible repeat' first | assumption | apply State.announceTimeout_keeps

theorem State.ethLink_keeps {s0 s : State} (h : Keeps s0 s) (k : Nat) (up : Bool) : Keeps s0 (State.ethLink s k up) := by
  unfold State.ethLink
  with_reducible repeat' first | assumption | apply keeps_ite | apply State.putB_keeps | apply State.note_keeps | apply State.setServo_keeps | apply State.elect_keeps | apply State.refreshPtpPorts_keeps

theorem execEthLink_keeps {s s' : State} (k : Fin 2) (up : Bool) (h : execEthLink k up s = .next s') : Keeps s s' := by
  have hs := Keeps.refl s
  unfold execEthLink at h
  injection h with h
  subst h
  with_reducible repeat' first | assumption | apply State.ethLink_keeps

theorem State.delayExchange_keeps {s0 s : State} (h : Keeps s0 s) (k : Nat) (t1 : Int) (t2 : Int) (t3 : Int) (t4 : Int) : Keeps s0 (State.delayExchange s k t1 t2 t3 t4) := by
  unfold State.delayExchange
  with_reducible repeat' first | assumption | apply keeps_ite | apply State.putI_keeps | apply State.setServo_keeps | apply State.refreshPtpPorts_keeps

theorem execPtpDelayExchange_keeps {s s' : State} (k : Fin 2) (t1 : Int) (t2 : Int) (t3 : Int) (t4 : Int) (h : execPtpDelayExchange k t1 t2 t3 t4 s = .next s') : Keeps s s' := by
  have hs := Keeps.refl s
  unfold execPtpDelayExchange at h
  injection h with h
  subst h
  with_reducible repeat' first | assumption | apply State.delayExchange_keeps

theorem State.judgeLock_keeps {s0 s : State} (h : Keeps s0 s) (o : Int) : Keeps s0 (State.judgeLock s o) := by
  unfold State.judgeLock
  with_reducible repeat' first | assumption | apply keeps_ite | apply State.setServo_keeps | apply State.setServoState_keeps

theorem State.nativeRate_keeps {s0 s : State} (h : Keeps s0 s) (o : Int) (dt : Nat) : Keeps s0 (State.nativeRate s o dt) := by
  unfold State.nativeRate
  with_reducible repeat' first | assumption | apply State.setServo_keeps

theorem State.servoStep_keeps {s0 s : State} (h : Keeps s0 s) (ns : Int) : Keeps s0 (State.servoStep s ns) := by
  unfold State.servoStep
  with_reducible repeat' first | assumption | apply keeps_ite | apply State.ltcStep_keeps | apply State.nativeRate_keeps | apply State.setServo_keeps

theorem State.nativeRun_keeps {s0 s : State} (h : Keeps s0 s) (o : Int) (dt : Nat) : Keeps s0 (State.nativeRun s o dt) := by
  unfold State.nativeRun
  with_reducible repeat' first | assumption | apply keeps_ite | apply State.setServo_keeps | apply State.setServoState_keeps | apply State.putI_keeps | apply State.nativeRate_keeps | apply State.judgeLock_keeps

theorem State.nativeServo_keeps {s0 s : State} (h : Keeps s0 s) (o : Int) (before : Option Int) (dt : Nat) : Keeps s0 (State.nativeServo s o before dt) := by
  unfold State.nativeServo
  with_reducible repeat' first | assumption | apply keeps_ite | apply State.nativeRun_keeps | apply State.setServo_keeps | apply State.servoStep_keeps | apply State.refreshQuality_keeps | apply State.judgeLock_keeps | split

theorem State.svzServo_keeps {s0 s : State} (h : Keeps s0 s) (o : Int) : Keeps s0 (State.svzServo s o) := by
  unfold State.svzServo
  with_reducible repeat' first | assumption | apply keeps_ite | apply State.setServo_keeps | apply State.servoStep_keeps | apply State.refreshQuality_keeps | apply State.judgeLock_keeps

theorem State.servoHears_keeps {s0 s : State} (h : Keeps s0 s) (m : Announce) (measured : Bool) : Keeps s0 (State.servoHears s m measured) := by
  unfold State.servoHears
  with_reducible repeat' first | assumption | apply keeps_ite | apply State.setServoState_keeps | apply State.setServo_keeps

theorem State.keepOffset_keeps {s0 s : State} (h : Keeps s0 s) (o : Int) : Keeps s0 (State.keepOffset s o) := by
  unfold State.keepOffset
  with_reducible repeat' first | assumption | apply keeps_ite | apply State.setServo_keeps | apply State.count_keeps | apply State.putI_keeps | apply State.putN_keeps

theorem State.measure_keeps {s0 s : State} (h : Keeps s0 s) (k : Nat) (sent : Int) (received : Int) : Keeps s0 (State.measure s k sent received) := by
  unfold State.measure
  with_reducible repeat' first | assumption | apply keeps_ite | apply State.servoHears_keeps | apply State.count_keeps | apply State.keepOffset_keeps | apply State.nativeServo_keeps | apply State.svzServo_keeps | split

theorem execServoMeasurement_keeps {s s' : State} (k : Fin 2) (logInterval : Int) (sent : Int) (received : Int) (h : execServoMeasurement k logInterval sent received s = .next s') : Keeps s s' := by
  have hs := Keeps.refl s
  unfold execServoMeasurement at h
  injection h with h
  subst h
  with_reducible repeat' first | assumption | apply keeps_ite | apply keeps_ite_fst | apply State.measure_keeps | apply State.ethDrop_keeps

theorem State.forceStep_keeps {s0 s : State} (h : Keeps s0 s) : Keeps s0 (State.forceStep s).1 := by
  unfold State.forceStep
  with_reducible repeat' first | assumption | apply keeps_ite | apply keeps_ite_fst | apply keeps_foldl | apply State.announceTimeout_keeps | apply State.setServo_keeps | apply State.servoStep_keeps | apply State.setServoState_keeps

theorem execForceStep_keeps {s s' : State} (session : Nat) (h : execForceStep session s = .next s') : Keeps s s' := by
  have hs := Keeps.refl s
  unfold execForceStep at h
  injection h with h
  subst h
  with_reducible repeat' first | assumption | apply State.command_keeps | apply State.forceStep_keeps

theorem State.leapSecond_keeps {s0 s : State} (h : Keeps s0 s) : Keeps s0 (State.leapSecond s) := by
  unfold State.leapSecond
  with_reducible repeat' first | assumption | apply keeps_ite | apply State.setServo_keeps | apply State.putI_keeps | apply State.note_keeps | split

theorem execLeapSecond_keeps {s s' : State}  (h : execLeapSecond s = .next s') : Keeps s s' := by
  have hs := Keeps.refl s
  unfold execLeapSecond at h
  injection h with h
  subst h
  with_reducible repeat' first | assumption | apply State.leapSecond_keeps

theorem State.vaultCopy_keeps {s0 s : State} (h : Keeps s0 s) : Keeps s0 (State.vaultCopy s) := by
  unfold State.vaultCopy
  with_reducible repeat' first | assumption | apply keeps_ite | (apply keeps_with <;> first | rfl | assumption)

theorem execVaultTimeCopy_keeps {s s' : State}  (h : execVaultTimeCopy s = .next s') : Keeps s s' := by
  have hs := Keeps.refl s
  unfold execVaultTimeCopy at h
  injection h with h
  subst h
  with_reducible repeat' first | assumption | apply State.vaultCopy_keeps

theorem State.setLaunch_keeps {s0 s : State} (h : Keeps s0 s) (k : Nat) (i : Nat) (t : Nat) : Keeps s0 (State.setLaunch s k i t) := by
  unfold State.setLaunch
  with_reducible repeat' first | assumption | (apply keeps_with <;> first | rfl | assumption)

theorem State.launchSend_keeps {s0 s : State} (h : Keeps s0 s) (k : Nat) (i : Nat) : Keeps s0 (State.launchSend s k i) := by
  unfold State.launchSend
  with_reducible repeat' first | assumption | apply keeps_ite | apply State.putI_keeps | apply State.bumpW_keeps | apply State.emit_keeps | apply State.launch_keeps | apply State.putN_keeps | apply State.setLaunch_keeps | (apply keeps_with <;> first | rfl | assumption | apply State.putI_keeps | apply State.bumpW_keeps | apply State.emit_keeps)

theorem State.launchLate_keeps {s0 s : State} (h : Keeps s0 s) (k : Nat) (i : Nat) : Keeps s0 (State.launchLate s k i) := by
  unfold State.launchLate
  with_reducible repeat' first | assumption | apply keeps_ite | apply State.note_keeps | apply State.putN_keeps | apply State.launchSend_keeps

theorem State.launch_keeps {s0 s : State} (h : Keeps s0 s) (k : Nat) (i : Nat) : Keeps s0 (State.launch s k i) := by
  unfold State.launch
  with_reducible repeat' first | assumption | apply keeps_ite | apply State.putN_keeps | apply State.ethRelease_keeps | apply State.launchSend_keeps | apply State.launchLate_keeps

theorem execLaunch_keeps {s s' : State} (k : Fin 2) (slot : Fin 16) (h : execLaunch k slot s = .next s') : Keeps s s' := by
  have hs := Keeps.refl s
  unfold execLaunch at h
  injection h with h
  subst h
  with_reducible repeat' first | assumption | apply State.launch_keeps

theorem State.launchArm_keeps {s0 s : State} (h : Keeps s0 s) (k : Nat) (i : Nat) (v : Nat) : Keeps s0 (State.launchArm s k i v).1 := by
  unfold State.launchArm
  with_reducible repeat' first | assumption | apply keeps_ite | apply keeps_ite_fst | apply State.putN_keeps | apply State.ethRelease_keeps | apply State.setLaunch_keeps | apply State.launchLate_keeps

theorem execLaunchArm_keeps {s s' : State} (session : Nat) (k : Fin 2) (slot : Fin 16) (value : Nat) (h : execLaunchArm session k slot value s = .next s') : Keeps s s' := by
  have hs := Keeps.refl s
  unfold execLaunchArm at h
  injection h with h
  subst h
  with_reducible repeat' first | assumption | apply State.command_keeps | apply State.launchArm_keeps | (intro t x (ht : Keeps _ t)) | (intro t (ht : Keeps _ t))

theorem State.servoReconfigured_keeps {s0 s : State} (h : Keeps s0 s) : Keeps s0 (State.servoReconfigured s) := by
  unfold State.servoReconfigured
  with_reducible repeat' first | assumption | apply keeps_ite | apply State.setServo_keeps | apply State.setServoState_keeps | apply State.refreshPtpPorts_keeps

theorem State.servoModeChanged_keeps {s0 s : State} (h : Keeps s0 s) : Keeps s0 (State.servoModeChanged s) := by
  unfold State.servoModeChanged
  with_reducible repeat' first | assumption | apply keeps_ite | apply State.setServoState_keeps | apply State.servoListen_keeps

end Sys2Proof.Machine
end

