-- ==== Sys2Proof/Laws/KeepsFieldbus.lean ====
section
/-!
SUPPORT. Laws/KeepsFieldbus.lean: every operation of Machine/Fieldbus.lean keeps what `Keeps` says.
-/
namespace Sys2Proof.Machine
open Sys2Proof

theorem State.setCan_keeps {s0 s : State} (h : Keeps s0 s) (k : Nat) (c : CanPort) : Keeps s0 (State.setCan s k c) := by
  unfold State.setCan
  with_reducible repeat' first | assumption | (apply keeps_with <;> first | rfl | assumption)

theorem State.setTx_keeps {s0 s : State} (h : Keeps s0 s) (k : Nat) (t : Nat) (x : CanTx) : Keeps s0 (State.setTx s k t x) := by
  unfold State.setTx
  with_reducible repeat' first | assumption | apply State.setCan_keeps

theorem State.setPort_keeps {s0 s : State} (h : Keeps s0 s) (k : Nat) (st : Nat) : Keeps s0 (State.setPort s k st) := by
  unfold State.setPort
  with_reducible repeat' first | assumption | apply keeps_ite | apply State.putN_keeps | apply State.note_keeps

theorem State.setTt_keeps {s0 s : State} (h : Keeps s0 s) (k : Nat) (st : Nat) : Keeps s0 (State.setTt s k st) := by
  unfold State.setTt
  with_reducible repeat' first | assumption | apply keeps_ite | apply State.putN_keeps | apply State.putBit_keeps | apply State.note_keeps

theorem State.sendHeartbeat_keeps {s0 s : State} (h : Keeps s0 s) (k : Nat) (st : Nat) : Keeps s0 (State.sendHeartbeat s k st) := by
  unfold State.sendHeartbeat
  with_reducible repeat' first | assumption | apply State.emit_keeps

theorem State.nmtBoot_keeps {s0 s : State} (h : Keeps s0 s) (k : Nat) : Keeps s0 (State.nmtBoot s k) := by
  unfold State.nmtBoot
  with_reducible repeat' first | assumption | apply State.sendHeartbeat_keeps | apply State.putN_keeps | apply State.setCan_keeps

theorem State.refreshFfDegraded_keeps {s0 s : State} (h : Keeps s0 s) (k : Nat) : Keeps s0 (State.refreshFfDegraded s k) := by
  unfold State.refreshFfDegraded
  with_reducible repeat' first | assumption | apply keeps_ite | apply State.putBit_keeps | apply State.note_keeps

theorem State.canLeaves_keeps {s0 s : State} (h : Keeps s0 s) (k : Nat) : Keeps s0 (State.canLeaves s k) := by
  unfold State.canLeaves
  with_reducible repeat' first | assumption | apply State.setCan_keeps | apply State.setTt_keeps

theorem State.refreshPort_keeps {s0 s : State} (h : Keeps s0 s) (k : Nat) : Keeps s0 (State.refreshPort s k) := by
  unfold State.refreshPort
  with_reducible repeat' first | assumption | apply keeps_ite | apply State.setPort_keeps | apply State.canLeaves_keeps | apply State.putN_keeps | apply State.nmtBoot_keeps | apply State.setTt_keeps | apply State.setCan_keeps

theorem State.refreshCan_keeps {s0 s : State} (h : Keeps s0 s) : Keeps s0 (State.refreshCan s) := by
  unfold State.refreshCan
  with_reducible repeat' first | assumption | apply keeps_ite | apply keeps_foldl | apply State.putN_keeps | apply State.note_keeps | apply State.refreshPort_keeps | apply State.refreshFfDegraded_keeps | (intro t x (ht : Keeps _ t))

theorem State.setErrors_keeps {s0 s : State} (h : Keeps s0 s) (k : Nat) (tec : Nat) (rc : Nat) : Keeps s0 (State.setErrors s k tec rc) := by
  unfold State.setErrors
  with_reducible repeat' first | assumption | apply keeps_ite | apply State.putN_keeps | apply State.setPort_keeps | apply State.bump_keeps | apply State.setCan_keeps | apply State.refreshFfDegraded_keeps

theorem State.notAlone_keeps {s0 s : State} (h : Keeps s0 s) (k : Nat) : Keeps s0 (State.notAlone s k) := by
  unfold State.notAlone
  with_reducible repeat' first | assumption | apply keeps_ite | apply keeps_foldl | apply State.putBit_keeps | apply State.note_keeps | (intro t x (ht : Keeps _ t))

theorem State.rxPrimary_keeps {s0 s : State} (h : Keeps s0 s) (k : Nat) (r : Nat) (f : CanFrame) : Keeps s0 (State.rxPrimary s k r f) := by
  unfold State.rxPrimary
  with_reducible repeat' first | assumption | apply keeps_ite | apply State.put_keeps | apply State.putN_keeps

theorem State.rxOverrun_keeps {s0 s : State} (h : Keeps s0 s) (k : Nat) (r : Nat) : Keeps s0 (State.rxOverrun s k r) := by
  unfold State.rxOverrun
  with_reducible repeat' first | assumption | apply keeps_ite | apply State.bump_keeps | apply State.setCan_keeps | apply State.note_keeps

theorem State.rxPromote_keeps {s0 s : State} (h : Keeps s0 s) (k : Nat) (r : Nat) : Keeps s0 (State.rxPromote s k r) := by
  unfold State.rxPromote
  with_reducible repeat' first | assumption | apply State.setCan_keeps | apply State.rxPrimary_keeps | split

theorem State.rxRead_keeps {s0 s : State} (h : Keeps s0 s) (k : Nat) (r : Nat) (data : Bool) : Keeps s0 (State.rxRead s k r data) := by
  unfold State.rxRead
  with_reducible repeat' first | assumption | apply keeps_ite | apply State.rxPromote_keeps | apply State.putBit_keeps | apply State.setCan_keeps

theorem State.rxStore_keeps {s0 s : State} (h : Keeps s0 s) (k : Nat) (r : Nat) (f : CanFrame) (held : Bool) : Keeps s0 (State.rxStore s k r f held) := by
  unfold State.rxStore
  with_reducible repeat' first | assumption | apply keeps_ite | apply State.rxOverrun_keeps | apply State.setCan_keeps | apply State.rxPromote_keeps | apply State.rxPrimary_keeps

theorem State.canRx_keeps {s0 s : State} (h : Keeps s0 s) (k : Nat) (f : CanFrame) (held : Bool) : Keeps s0 (State.canRx s k f held) := by
  unfold State.canRx
  with_reducible repeat' first | assumption | apply keeps_ite | apply State.setErrors_keeps | apply State.notAlone_keeps | apply State.rxStore_keeps | apply State.bump_keeps | split

theorem execCanRxFrame_keeps {s s' : State} (k : Fin 2) (f : CanFrame) (held : Bool) (h : execCanRxFrame k f held s = .next s') : Keeps s s' := by
  have hs := Keeps.refl s
  unfold execCanRxFrame at h
  injection h with h
  subst h
  with_reducible repeat' first | assumption | apply State.canRx_keeps

theorem State.txReq_keeps {s0 s : State} (h : Keeps s0 s) (k : Nat) (t : Nat) (v : Nat) : Keeps s0 (State.txReq s k t v).1 := by
  unfold State.txReq
  with_reducible repeat' first | assumption | apply keeps_ite | apply keeps_ite_fst | apply State.putBit_keeps

theorem execCanTxReq_keeps {s s' : State} (session : Nat) (k : Fin 2) (t : Fin 32) (value : Nat) (h : execCanTxReq session k t value s = .next s') : Keeps s s' := by
  have hs := Keeps.refl s
  unfold execCanTxReq at h
  injection h with h
  subst h
  with_reducible repeat' first | assumption | apply State.command_keeps | apply State.txReq_keeps | (intro t x (ht : Keeps _ t)) | (intro t (ht : Keeps _ t))

theorem State.txFailed_keeps {s0 s : State} (h : Keeps s0 s) (k : Nat) (t : Nat) : Keeps s0 (State.txFailed s k t) := by
  unfold State.txFailed
  with_reducible repeat' first | assumption | apply keeps_ite | apply State.setTx_keeps | apply State.putBit_keeps

theorem State.idClash_keeps {s0 s : State} (h : Keeps s0 s) (k : Nat) (t : Nat) : Keeps s0 (State.idClash s k t) := by
  unfold State.idClash
  with_reducible repeat' first | assumption | apply State.setTx_keeps | apply State.putBit_keeps | apply State.note_keeps

theorem State.txRetire_keeps {s0 s : State} (h : Keeps s0 s) (k : Nat) (t : Nat) : Keeps s0 (State.txRetire s k t) := by
  unfold State.txRetire
  with_reducible repeat' first | assumption | apply keeps_ite | apply State.setTx_keeps | apply State.putBit_keeps | apply State.note_keeps

theorem State.txSent_keeps {s0 s : State} (h : Keeps s0 s) (k : Nat) (t : Nat) (stamp : Nat) : Keeps s0 (State.txSent s k t stamp) := by
  unfold State.txSent
  with_reducible repeat' first | assumption | apply State.emit_keeps | apply State.setTx_keeps | apply State.putN_keeps | apply State.putBit_keeps | apply State.setErrors_keeps | apply State.notAlone_keeps

theorem State.txBitError_keeps {s0 s : State} (h : Keeps s0 s) (k : Nat) (t : Nat) : Keeps s0 (State.txBitError s k t) := by
  unfold State.txBitError
  with_reducible repeat' first | assumption | apply keeps_ite | apply State.setTx_keeps | apply State.txFailed_keeps | apply State.idClash_keeps | apply State.setErrors_keeps

theorem State.txDone_keeps {s0 s : State} (h : Keeps s0 s) (k : Nat) (t : Nat) (res : CanOutcome) : Keeps s0 (State.txDone s k t res) := by
  unfold State.txDone
  with_reducible repeat' first | assumption | apply keeps_ite | apply State.putN_keeps | apply State.txBitError_keeps | apply State.txSent_keeps | apply State.txFailed_keeps | apply State.setTx_keeps | apply State.txRetire_keeps | apply State.setErrors_keeps | split

theorem execCanTxDone_keeps {s s' : State} (k : Fin 2) (t : Fin 32) (res : CanOutcome) (h : execCanTxDone k t res s = .next s') : Keeps s s' := by
  have hs := Keeps.refl s
  unfold execCanTxDone at h
  injection h with h
  subst h
  with_reducible repeat' first | assumption | apply State.txDone_keeps

theorem State.backoffEnd_keeps {s0 s : State} (h : Keeps s0 s) (k : Nat) (t : Nat) : Keeps s0 (State.backoffEnd s k t) := by
  unfold State.backoffEnd
  with_reducible repeat' first | assumption | apply keeps_ite | apply State.setTx_keeps | apply State.putBit_keeps | split

theorem execCanIdBackoffEnd_keeps {s s' : State} (k : Fin 2) (t : Fin 32) (h : execCanIdBackoffEnd k t s = .next s') : Keeps s s' := by
  have hs := Keeps.refl s
  unfold execCanIdBackoffEnd at h
  injection h with h
  subst h
  with_reducible repeat' first | assumption | apply State.backoffEnd_keeps

theorem State.busoffRecover_keeps {s0 s : State} (h : Keeps s0 s) (k : Nat) : Keeps s0 (State.busoffRecover s k) := by
  unfold State.busoffRecover
  with_reducible repeat' first | assumption | apply keeps_ite | apply State.setCan_keeps | apply State.setErrors_keeps | apply State.refreshFfDegraded_keeps

theorem execCanBusoffRecover_keeps {s s' : State} (k : Fin 2) (h : execCanBusoffRecover k s = .next s') : Keeps s s' := by
  have hs := Keeps.refl s
  unfold execCanBusoffRecover at h
  injection h with h
  subst h
  with_reducible repeat' first | assumption | apply State.busoffRecover_keeps

theorem State.busRecover_keeps {s0 s : State} (h : Keeps s0 s) (k : Nat) : Keeps s0 (State.busRecover s k).1 := by
  unfold State.busRecover
  with_reducible repeat' first | assumption | apply keeps_ite | apply keeps_ite_fst | apply State.setCan_keeps

theorem execBusRecover_keeps {s s' : State} (session : Nat) (k : Fin 2) (h : execBusRecover session k s = .next s') : Keeps s s' := by
  have hs := Keeps.refl s
  unfold execBusRecover at h
  injection h with h
  subst h
  with_reducible repeat' first | assumption | apply State.command_keeps | apply State.busRecover_keeps | (intro t x (ht : Keeps _ t)) | (intro t (ht : Keeps _ t))

theorem State.cycleStart_keeps {s0 s : State} (h : Keeps s0 s) (k : Nat) (cycle : Nat) : Keeps s0 (State.cycleStart s k cycle) := by
  unfold State.cycleStart
  with_reducible repeat' first | assumption | apply keeps_ite | apply State.setCan_keeps | apply State.putN_keeps

theorem State.ttReference_keeps {s0 s : State} (h : Keeps s0 s) (k : Nat) (prio : Nat) (cycle : Nat) : Keeps s0 (State.ttReference s k prio cycle) := by
  unfold State.ttReference
  with_reducible repeat' first | assumption | apply keeps_ite | apply State.cycleStart_keeps | apply State.setCan_keeps | apply State.setTt_keeps | apply State.note_keeps

theorem execTtReference_keeps {s s' : State} (k : Fin 2) (prio : Fin 8) (cycle : Fin 64) (h : execTtReference k prio cycle s = .next s') : Keeps s s' := by
  have hs := Keeps.refl s
  unfold execTtReference at h
  injection h with h
  subst h
  with_reducible repeat' first | assumption | apply State.ttReference_keeps

theorem State.ttRefDue_keeps {s0 s : State} (h : Keeps s0 s) (k : Nat) (won : Bool) : Keeps s0 (State.ttRefDue s k won) := by
  unfold State.ttRefDue
  with_reducible repeat' first | assumption | apply keeps_ite | apply State.cycleStart_keeps | apply State.setTt_keeps | apply State.emit_keeps

theorem execTtRefDue_keeps {s s' : State} (k : Fin 2) (won : Bool) (h : execTtRefDue k won s = .next s') : Keeps s s' := by
  have hs := Keeps.refl s
  unfold execTtRefDue at h
  injection h with h
  subst h
  with_reducible repeat' first | assumption | apply State.ttRefDue_keeps

theorem State.ttSyncLost_keeps {s0 s : State} (h : Keeps s0 s) (k : Nat) : Keeps s0 (State.ttSyncLost s k) := by
  unfold State.ttSyncLost
  with_reducible repeat' first | assumption | apply keeps_ite | apply State.setCan_keeps | apply State.setTt_keeps

theorem execTtSyncLost_keeps {s s' : State} (k : Fin 2) (h : execTtSyncLost k s = .next s') : Keeps s s' := by
  have hs := Keeps.refl s
  unfold execTtSyncLost at h
  injection h with h
  subst h
  with_reducible repeat' first | assumption | apply State.ttSyncLost_keeps

theorem State.trigStart_keeps {s0 s : State} (h : Keeps s0 s) (k : Nat) (t : Nat) (excl : Bool) (by' : Nat) : Keeps s0 (State.trigStart s k t excl by') := by
  unfold State.trigStart
  with_reducible repeat' first | assumption | apply keeps_ite | apply State.put_keeps | apply State.setTx_keeps | split

theorem State.columnOpen_keeps {s0 s : State} (h : Keeps s0 s) (k : Nat) (w : Nat) : Keeps s0 (State.columnOpen s k w) := by
  unfold State.columnOpen
  with_reducible repeat' first | assumption | apply keeps_ite | apply keeps_foldl | apply State.setCan_keeps | apply State.trigStart_keeps | split | (intro t x (ht : Keeps _ t))

theorem execTtColumnOpen_keeps {s s' : State} (k : Fin 2) (w : Fin 32) (h : execTtColumnOpen k w s = .next s') : Keeps s s' := by
  have hs := Keeps.refl s
  unfold execTtColumnOpen at h
  injection h with h
  subst h
  with_reducible repeat' first | assumption | apply State.columnOpen_keeps

theorem State.tsPair_keeps {s0 s : State} (h : Keeps s0 s) (k : Nat) (counter : BitVec 32) : Keeps s0 (State.tsPair s k counter) := by
  unfold State.tsPair
  with_reducible repeat' first | assumption | apply keeps_ite | apply State.put_keeps

theorem execCanTsPair_keeps {s s' : State} (k : Fin 2) (counter : BitVec 32) (h : execCanTsPair k counter s = .next s') : Keeps s s' := by
  have hs := Keeps.refl s
  unfold execCanTsPair at h
  injection h with h
  subst h
  with_reducible repeat' first | assumption | apply State.tsPair_keeps

theorem State.nmt_keeps {s0 s : State} (h : Keeps s0 s) (k : Nat) (cmd : Nat) (node : Nat) : Keeps s0 (State.nmt s k cmd node) := by
  unfold State.nmt
  with_reducible repeat' first | assumption | apply keeps_ite | apply State.putN_keeps | apply State.nmtBoot_keeps

theorem execCanopenNmt_keeps {s s' : State} (k : Fin 2) (cmd : Nat) (node : Nat) (h : execCanopenNmt k cmd node s = .next s') : Keeps s s' := by
  have hs := Keeps.refl s
  unfold execCanopenNmt at h
  injection h with h
  subst h
  with_reducible repeat' first | assumption | apply State.nmt_keeps

theorem State.canHeartbeat_keeps {s0 s : State} (h : Keeps s0 s) (k : Nat) : Keeps s0 (State.canHeartbeat s k) := by
  unfold State.canHeartbeat
  with_reducible repeat' first | assumption | apply keeps_ite | apply State.setCan_keeps | apply State.sendHeartbeat_keeps

theorem execCanopenHeartbeat_keeps {s s' : State} (k : Fin 2) (h : execCanopenHeartbeat k s = .next s') : Keeps s s' := by
  have hs := Keeps.refl s
  unfold execCanopenHeartbeat at h
  injection h with h
  subst h
  with_reducible repeat' first | assumption | apply State.canHeartbeat_keeps

end Sys2Proof.Machine
end

