-- ==== Sys2Proof/Laws/KeepsRecorder.lean ====
section
/-!
SUPPORT. Laws/KeepsRecorder.lean: every operation of Machine/Recorder.lean keeps what `Keeps` says.
-/
namespace Sys2Proof.Machine
open Sys2Proof

theorem State.refreshRing_keeps {s0 s : State} (h : Keeps s0 s) : Keeps s0 (State.refreshRing s) := by
  unfold State.refreshRing
  with_reducible repeat' first | assumption | apply State.putN_keeps | split | intro _ | lift_lets -underBinder

theorem State.storeRec_keeps {s0 s : State} (h : Keeps s0 s) (r : Rec) : Keeps s0 (State.storeRec s r) := by
  unfold State.storeRec
  with_reducible repeat' first | assumption | apply keeps_ite | apply State.setRec_keeps | apply State.refreshRing_keeps

theorem execRecOccurrence_keeps {s s' : State} (code : Nat) (detail : BitVec 16) (set : Bool) (origin : Fin 4) (h : execRecOccurrence code detail set origin s = .next s') : Keeps s s' := by
  have hs := Keeps.refl s
  unfold execRecOccurrence at h
  injection h with h
  subst h
  with_reducible repeat' first | assumption | apply State.occur_keeps

theorem State.tokenRefill_keeps {s0 s : State} (h : Keeps s0 s) (code : Nat) : Keeps s0 (State.tokenRefill s code) := by
  unfold State.tokenRefill
  with_reducible repeat' first | assumption | apply keeps_ite | apply State.putBucket_keeps | apply State.bypass_keeps

theorem execRecTokenRefill_keeps {s s' : State} (code : Nat) (h : execRecTokenRefill code s = .next s') : Keeps s s' := by
  have hs := Keeps.refl s
  unfold execRecTokenRefill at h
  injection h with h
  subst h
  with_reducible repeat' first | assumption | apply State.tokenRefill_keeps

theorem State.reportLost_keeps {s0 s : State} (h : Keeps s0 s) : Keeps s0 (State.reportLost s) := by
  unfold State.reportLost
  with_reducible repeat' first | assumption | apply keeps_ite | apply keeps_foldl | apply State.setRec_keeps | apply State.occur_keeps | apply State.count_keeps | (intro t x (ht : Keeps _ t))

theorem State.recWrite_keeps {s0 s : State} (h : Keeps s0 s) : Keeps s0 (State.recWrite s) := by
  unfold State.recWrite
  with_reducible repeat' first | assumption | apply keeps_ite | apply State.setRec_keeps | apply State.storeRec_keeps | apply State.reportLost_keeps | split

theorem execRecWrite_keeps {s s' : State}  (h : execRecWrite s = .next s') : Keeps s s' := by
  have hs := Keeps.refl s
  unfold execRecWrite at h
  injection h with h
  subst h
  with_reducible repeat' first | assumption | apply State.recWrite_keeps

theorem State.summaryRetry_keeps {s0 s : State} (h : Keeps s0 s) : Keeps s0 (State.summaryRetry s) := by
  unfold State.summaryRetry
  with_reducible repeat' first | assumption | apply keeps_foldl | apply State.setRec_keeps | apply State.bypass_keeps | (intro t x (ht : Keeps _ t))

theorem execRecSummaryRetry_keeps {s s' : State}  (h : execRecSummaryRetry s = .next s') : Keeps s s' := by
  have hs := Keeps.refl s
  unfold execRecSummaryRetry at h
  injection h with h
  subst h
  with_reducible repeat' first | assumption | apply State.summaryRetry_keeps

theorem State.setCursor_keeps {s0 s : State} (h : Keeps s0 s) (session : Nat) (c : Cursor) : Keeps s0 (State.setCursor s session c) := by
  unfold State.setCursor
  with_reducible repeat' first | assumption | apply State.setRec_keeps

theorem execRecDataRead_keeps {s s' : State} (session : Nat) (offset : Nat) (h : execRecDataRead session offset s = .next s') : Keeps s s' := by
  have hs := Keeps.refl s
  unfold execRecDataRead at h
  injection h with h
  subst h
  with_reducible repeat' first | assumption | apply State.bulkCommand_keeps | (intro t x (ht : Keeps _ t)) | (intro t (ht : Keeps _ t))

theorem State.recClear_keeps {s0 s : State} (h : Keeps s0 s) (session : Nat) : Keeps s0 (State.recClear s session).1 := by
  unfold State.recClear
  with_reducible repeat' first | assumption | apply keeps_ite | apply keeps_ite_fst | apply State.eventTriggers_keeps | apply State.bump_keeps | apply State.count_keeps | apply State.setRec_keeps | apply State.storeRec_keeps

theorem execRecClear_keeps {s s' : State} (session : Nat) (h : execRecClear session s = .next s') : Keeps s s' := by
  have hs := Keeps.refl s
  unfold execRecClear at h
  injection h with h
  subst h
  with_reducible repeat' first | assumption | apply State.command_keeps | apply State.recClear_keeps | (intro t x (ht : Keeps _ t)) | (intro t (ht : Keeps _ t))

theorem State.recFreeze_keeps {s0 s : State} (h : Keeps s0 s) (session : Nat) : Keeps s0 (State.recFreeze s session).1 := by
  unfold State.recFreeze
  with_reducible repeat' first | assumption | apply keeps_ite | apply keeps_ite_fst | apply State.putN_keeps | apply State.occur_keeps | apply State.setRec_keeps

theorem execRecFreeze_keeps {s s' : State} (session : Nat) (h : execRecFreeze session s = .next s') : Keeps s s' := by
  have hs := Keeps.refl s
  unfold execRecFreeze at h
  injection h with h
  subst h
  with_reducible repeat' first | assumption | apply State.command_keeps | apply State.recFreeze_keeps | (intro t x (ht : Keeps _ t)) | (intro t (ht : Keeps _ t))

theorem State.recUnfreeze_keeps {s0 s : State} (h : Keeps s0 s) (session : Nat) : Keeps s0 (State.recUnfreeze s session).1 := by
  unfold State.recUnfreeze
  with_reducible repeat' first | assumption | apply keeps_ite | apply keeps_ite_fst | apply State.setRec_keeps | apply State.putN_keeps | apply State.occur_keeps

theorem execRecUnfreeze_keeps {s s' : State} (session : Nat) (h : execRecUnfreeze session s = .next s') : Keeps s s' := by
  have hs := Keeps.refl s
  unfold execRecUnfreeze at h
  injection h with h
  subst h
  with_reducible repeat' first | assumption | apply State.command_keeps | apply State.recUnfreeze_keeps | (intro t x (ht : Keeps _ t)) | (intro t (ht : Keeps _ t))

end Sys2Proof.Machine
end

