-- ==== Sys2Proof/Laws/KeepsCapture.lean ====
section
/-!
SUPPORT. Laws/KeepsCapture.lean: every operation of Machine/Capture.lean keeps what `Keeps` says.
-/
namespace Sys2Proof.Machine
open Sys2Proof

theorem State.setStrm_keeps {s0 s : State} (h : Keeps s0 s) (q : Nat) (x : Stream) : Keeps s0 (State.setStrm s q x) := by
  unfold State.setStrm
  with_reducible repeat' first | assumption | (apply keeps_with <;> first | rfl | assumption)

theorem State.setStream_keeps {s0 s : State} (h : Keeps s0 s) (q : Nat) (st : Nat) : Keeps s0 (State.setStream s q st) := by
  unfold State.setStream
  with_reducible repeat' first | assumption | apply keeps_ite | apply State.putN_keeps | apply State.note_keeps

theorem State.refreshBacklog_keeps {s0 s : State} (h : Keeps s0 s) (q : Nat) : Keeps s0 (State.refreshBacklog s q) := by
  unfold State.refreshBacklog
  with_reducible repeat' first | assumption | apply State.putN_keeps

theorem State.streamStart_keeps {s0 s : State} (h : Keeps s0 s) (q : Nat) : Keeps s0 (State.streamStart s q) := by
  unfold State.streamStart
  with_reducible repeat' first | assumption | apply keeps_ite | apply State.setStrm_keeps | apply State.refreshBacklog_keeps | apply State.setStream_keeps

theorem State.captArm_keeps {s0 s : State} (h : Keeps s0 s) (q : Nat) : Keeps s0 (State.captArm s q).1 := by
  unfold State.captArm
  with_reducible repeat' first | assumption | apply keeps_ite | apply keeps_ite_fst | apply State.streamStart_keeps

theorem execCaptArm_keeps {s s' : State} (session : Nat) (q : Fin 4) (h : execCaptArm session q s = .next s') : Keeps s s' := by
  have hs := Keeps.refl s
  unfold execCaptArm at h
  injection h with h
  subst h
  with_reducible repeat' first | assumption | apply State.command_keeps | apply State.captArm_keeps | (intro t x (ht : Keeps _ t)) | (intro t (ht : Keeps _ t))

theorem State.streamStop_keeps {s0 s : State} (h : Keeps s0 s) (q : Nat) : Keeps s0 (State.streamStop s q) := by
  unfold State.streamStop
  with_reducible repeat' first | assumption | apply State.setStrm_keeps | apply State.refreshBacklog_keeps | apply State.setStream_keeps

theorem execCaptStop_keeps {s s' : State} (session : Nat) (q : Fin 4) (h : execCaptStop session q s = .next s') : Keeps s s' := by
  have hs := Keeps.refl s
  unfold execCaptStop at h
  injection h with h
  subst h
  with_reducible repeat' first | assumption | apply State.command_keeps | apply State.streamStop_keeps | (intro t x (ht : Keeps _ t)) | (intro t (ht : Keeps _ t))

theorem State.holdoffEnd_keeps {s0 s : State} (h : Keeps s0 s) (q : Nat) : Keeps s0 (State.holdoffEnd s q) := by
  unfold State.holdoffEnd
  with_reducible repeat' first | assumption | apply keeps_ite | apply State.setStrm_keeps | split | intro _ | lift_lets -underBinder

theorem execCaptHoldoffEnd_keeps {s s' : State} (q : Fin 4) (h : execCaptHoldoffEnd q s = .next s') : Keeps s s' := by
  have hs := Keeps.refl s
  unfold execCaptHoldoffEnd at h
  injection h with h
  subst h
  with_reducible repeat' first | assumption | apply State.holdoffEnd_keeps

theorem State.fireTrigger_keeps {s0 s : State} (h : Keeps s0 s) (q : Nat) (m : Mark) (at80 : Int) : Keeps s0 (State.fireTrigger s q m at80) := by
  unfold State.fireTrigger
  with_reducible repeat' first | assumption | apply keeps_ite | apply State.bump_keeps | apply State.putI_keeps | apply State.note_keeps | apply State.setStrm_keeps | apply State.setStream_keeps

theorem State.missTrigger_keeps {s0 s : State} (h : Keeps s0 s) (q : Nat) : Keeps s0 (State.missTrigger s q) := by
  unfold State.missTrigger
  with_reducible repeat' first | assumption | apply State.bump_keeps | apply State.setStrm_keeps

theorem State.meetTrigger_keeps {s0 s : State} (h : Keeps s0 s) (q : Nat) (m : Mark) (at80 : Int) : Keeps s0 (State.meetTrigger s q m at80) := by
  unfold State.meetTrigger
  with_reducible repeat' first | assumption | apply keeps_ite | apply State.holdoffEnd_keeps | apply State.missTrigger_keeps | apply State.fireTrigger_keeps

theorem State.trigNow_keeps {s0 s : State} (h : Keeps s0 s) (q : Nat) : Keeps s0 (State.trigNow s q).1 := by
  unfold State.trigNow
  with_reducible repeat' first | assumption | apply keeps_ite | apply keeps_ite_fst | apply State.fireTrigger_keeps | apply State.missTrigger_keeps

theorem execTrigNow_keeps {s s' : State} (session : Nat) (q : Fin 4) (h : execTrigNow session q s = .next s') : Keeps s s' := by
  have hs := Keeps.refl s
  unfold execTrigNow at h
  injection h with h
  subst h
  with_reducible repeat' first | assumption | apply State.command_keeps | apply State.trigNow_keeps | (intro t x (ht : Keeps _ t)) | (intro t (ht : Keeps _ t))

theorem State.refreshMasks_keeps {s0 s : State} (h : Keeps s0 s) : Keeps s0 (State.refreshMasks s) := by
  unfold State.refreshMasks
  with_reducible repeat' first | assumption | apply keeps_foldl | apply State.putN_keeps | (intro t x (ht : Keeps _ t))

theorem State.maskViolation_keeps {s0 s : State} (h : Keeps s0 s) (q : Nat) (m : Nat) (p : Nat) (id : Nat) (raw : Nat) (at80 : Int) : Keeps s0 (State.maskViolation s q m p id raw at80) := by
  unfold State.maskViolation
  with_reducible repeat' first | assumption | apply keeps_ite | apply State.bump_keeps | apply State.occur_keeps | apply State.fireTrigger_keeps | (apply keeps_with <;> first | rfl | assumption)

theorem State.maskTest_keeps {s0 s : State} (h : Keeps s0 s) (q : Nat) (vals : List Nat) (m : Nat) (at80 : Int) : Keeps s0 (State.maskTest s q vals m at80) := by
  unfold State.maskTest
  with_reducible repeat' first | assumption | apply keeps_ite | apply State.putN_keeps | apply State.maskViolation_keeps | (apply keeps_with <;> first | rfl | assumption | apply State.putN_keeps | apply State.maskViolation_keeps) | split

theorem State.decApply_keeps {s0 s : State} (h : Keeps s0 s) (q : Nat) : Keeps s0 (State.decApply s q) := by
  unfold State.decApply
  with_reducible repeat' first | assumption | apply keeps_ite | apply State.setStrm_keeps | apply State.occur_keeps | apply State.count_keeps | split | intro _ | lift_lets -underBinder

theorem State.keepBlock_keeps {s0 s : State} (h : Keeps s0 s) (q : Nat) (vals : List Nat) (g : Nat) : Keeps s0 (State.keepBlock s q vals g) := by
  unfold State.keepBlock
  with_reducible repeat' first | assumption | apply keeps_ite | apply State.count_keeps | apply State.setStrm_keeps

theorem State.sampleAt_keeps {s0 s : State} (h : Keeps s0 s) (q : Nat) (g : Nat) : Keeps s0 (State.sampleAt s q g) := by
  unfold State.sampleAt
  with_reducible repeat' first | assumption | apply keeps_ite | apply keeps_foldl | apply State.decApply_keeps | apply State.setStrm_keeps | apply State.meetTrigger_keeps | apply State.maskTest_keeps | apply State.keepBlock_keeps | apply State.refreshBacklog_keeps | split | (intro t x (ht : Keeps _ t))

theorem State.gridSample_keeps {s0 s : State} (h : Keeps s0 s) (q : Nat) : Keeps s0 (State.gridSample s q) := by
  unfold State.gridSample
  with_reducible repeat' first | assumption | apply keeps_ite | apply State.sampleAt_keeps | split

theorem execCaptGridSample_keeps {s s' : State} (q : Fin 4) (h : execCaptGridSample q s = .next s') : Keeps s s' := by
  have hs := Keeps.refl s
  unfold execCaptGridSample at h
  injection h with h
  subst h
  with_reducible repeat' first | assumption | apply State.gridSample_keeps

theorem State.captFreeze_keeps {s0 s : State} (h : Keeps s0 s) (q : Nat) : Keeps s0 (State.captFreeze s q) := by
  unfold State.captFreeze
  with_reducible repeat' first | assumption | apply keeps_ite | apply State.setStrm_keeps | apply State.setStream_keeps | split | intro _ | lift_lets -underBinder

theorem execCaptFreeze_keeps {s s' : State} (q : Fin 4) (h : execCaptFreeze q s = .next s') : Keeps s s' := by
  have hs := Keeps.refl s
  unfold execCaptFreeze at h
  injection h with h
  subst h
  with_reducible repeat' first | assumption | apply State.captFreeze_keeps

theorem State.captRearm_keeps {s0 s : State} (h : Keeps s0 s) (q : Nat) : Keeps s0 (State.captRearm s q) := by
  unfold State.captRearm
  with_reducible repeat' first | assumption | apply keeps_ite | apply State.holdoffEnd_keeps | apply State.streamStart_keeps

theorem execCaptRearm_keeps {s s' : State} (q : Fin 4) (h : execCaptRearm q s = .next s') : Keeps s s' := by
  have hs := Keeps.refl s
  unfold execCaptRearm at h
  injection h with h
  subst h
  with_reducible repeat' first | assumption | apply State.captRearm_keeps

theorem State.captData_keeps {s0 s : State} (h : Keeps s0 s) (q : Nat) (offset : Nat) : Keeps s0 (State.captData s q offset).1 := by
  unfold State.captData
  with_reducible repeat' first | assumption | apply keeps_ite | apply keeps_ite_fst | apply State.setStrm_keeps

theorem execCaptDataRead_keeps {s s' : State} (session : Nat) (q : Fin 4) (offset : Nat) (h : execCaptDataRead session q offset s = .next s') : Keeps s s' := by
  have hs := Keeps.refl s
  unfold execCaptDataRead at h
  injection h with h
  subst h
  with_reducible repeat' first | assumption | apply State.bulkCommand_keeps | apply State.captData_keeps | (intro t x (ht : Keeps _ t)) | (intro t (ht : Keeps _ t))

theorem State.streamRate_keeps {s0 s : State} (h : Keeps s0 s) (q : Nat) : Keeps s0 (State.streamRate s q) := by
  unfold State.streamRate
  with_reducible repeat' first | assumption | apply keeps_ite | apply State.setStrm_keeps

theorem execStreamRate_keeps {s s' : State} (q : Fin 4) (h : execStreamRate q s = .next s') : Keeps s s' := by
  have hs := Keeps.refl s
  unfold execStreamRate at h
  injection h with h
  subst h
  with_reducible repeat' first | assumption | apply State.streamRate_keeps

theorem State.sendPacket_keeps {s0 s : State} (h : Keeps s0 s) (q : Nat) (final : Bool) : Keeps s0 (State.sendPacket s q final) := by
  unfold State.sendPacket
  with_reducible repeat' first | assumption | apply keeps_ite | apply State.occur_keeps | apply State.count_keeps | apply State.setStrm_keeps | apply State.bumpW_keeps | apply State.emit_keeps | apply State.refreshBacklog_keeps

theorem State.packetSend_keeps {s0 s : State} (h : Keeps s0 s) (q : Nat) : Keeps s0 (State.packetSend s q) := by
  unfold State.packetSend
  with_reducible repeat' first | assumption | apply keeps_ite | apply State.sendPacket_keeps

theorem execStreamPacketSend_keeps {s s' : State} (q : Fin 4) (h : execStreamPacketSend q s = .next s') : Keeps s s' := by
  have hs := Keeps.refl s
  unfold execStreamPacketSend at h
  injection h with h
  subst h
  with_reducible repeat' first | assumption | apply State.packetSend_keeps

theorem State.pauseStream_keeps {s0 s : State} (h : Keeps s0 s) (q : Nat) (src : Nat) (srcPort : Nat) (p : Bool) : Keeps s0 (State.pauseStream s q src srcPort p) := by
  unfold State.pauseStream
  with_reducible repeat' first | assumption | apply keeps_ite | apply State.setStrm_keeps | apply State.setStream_keeps

theorem execStreamPause_keeps {s s' : State} (q : Fin 4) (src : BitVec 128) (srcPort : BitVec 16) (h : execStreamPause q src srcPort s = .next s') : Keeps s s' := by
  have hs := Keeps.refl s
  unfold execStreamPause at h
  injection h with h
  subst h
  with_reducible repeat' first | assumption | apply State.pauseStream_keeps

theorem execStreamResume_keeps {s s' : State} (q : Fin 4) (src : BitVec 128) (srcPort : BitVec 16) (h : execStreamResume q src srcPort s = .next s') : Keeps s s' := by
  have hs := Keeps.refl s
  unfold execStreamResume at h
  injection h with h
  subst h
  with_reducible repeat' first | assumption | apply State.pauseStream_keeps

theorem State.lastPacket_keeps {s0 s : State} (h : Keeps s0 s) (q : Nat) : Keeps s0 (State.lastPacket s q) := by
  unfold State.lastPacket
  with_reducible repeat' first | assumption | apply keeps_ite | apply State.sendPacket_keeps

theorem State.streamChanged_keeps {s0 s : State} (h : Keeps s0 s) (q : Nat) : Keeps s0 (State.streamChanged s q) := by
  unfold State.streamChanged
  with_reducible repeat' first | assumption | apply keeps_ite | apply State.lastPacket_keeps | apply State.streamStop_keeps | apply State.streamStart_keeps

theorem State.captureOff_keeps {s0 s : State} (h : Keeps s0 s) : Keeps s0 (State.captureOff s) := by
  unfold State.captureOff
  with_reducible repeat' first | assumption | apply keeps_ite | apply keeps_foldl | apply State.lastPacket_keeps | apply State.streamStop_keeps | (intro t x (ht : Keeps _ t))

end Sys2Proof.Machine
end

