-- ==== Sys2Proof/Laws/KeepsIsland.lean ====
section
/-!
SUPPORT. Laws/KeepsIsland.lean: every operation of Machine/Island.lean keeps what `Keeps` says.
-/
namespace Sys2Proof.Machine
open Sys2Proof

theorem State.sgbDecide_keeps {s0 s : State} (h : Keeps s0 s) : Keeps s0 (State.sgbDecide s) := by
  unfold State.sgbDecide
  with_reducible repeat' first | assumption | apply State.bump_keeps | apply State.putI_keeps | apply State.islandNote_keeps | apply State.ldSgb_keeps | apply State.trip_keeps | apply State.setSafety_keeps

theorem State.sgbCause_keeps {s0 s : State} (h : Keeps s0 s) (bit : Nat) (ended : Bool) : Keeps s0 (State.sgbCause s bit ended) := by
  unfold State.sgbCause
  with_reducible repeat' first | assumption | apply keeps_ite | apply State.putBit_keeps | apply State.setSafety_keeps | apply State.sgbDecide_keeps | apply State.refreshSafety_keeps

theorem State.sgbEnded_keeps {s0 s : State} (h : Keeps s0 s) (bit : Nat) : Keeps s0 (State.sgbEnded s bit) := by
  unfold State.sgbEnded
  with_reducible repeat' first | assumption | apply keeps_ite | apply State.setSafety_keeps | apply State.refreshSafety_keeps

theorem State.gateEnOff_keeps {s0 s : State} (h : Keeps s0 s) : Keeps s0 (State.gateEnOff s) := by
  unfold State.gateEnOff
  with_reducible repeat' first | assumption | apply State.putN_keeps | apply State.setSafety_keeps

theorem State.gateDelayExpired_keeps {s0 s : State} (h : Keeps s0 s) (reaction : Nat) : Keeps s0 (State.gateDelayExpired s reaction) := by
  unfold State.gateDelayExpired
  with_reducible repeat' first | assumption | apply keeps_ite | apply State.gateEnOff_keeps | apply State.putN_keeps | split

theorem execSgbGateDelayExpired_keeps {s s' : State} (reaction : BitVec 16) (h : execSgbGateDelayExpired reaction s = .next s') : Keeps s s' := by
  have hs := Keeps.refl s
  unfold execSgbGateDelayExpired at h
  injection h with h
  subst h
  with_reducible repeat' first | assumption | apply State.gateDelayExpired_keeps

theorem State.sinDemand_keeps {s0 s : State} (h : Keeps s0 s) (i : Nat) (chB : Bool) : Keeps s0 (State.sinDemand s i chB) := by
  unfold State.sinDemand
  with_reducible repeat' first | assumption | apply keeps_ite | apply State.putBit_keeps | apply State.setSafety_keeps | apply State.sgbCause_keeps

theorem execSinDemand_keeps {s s' : State} (i : Fin 2) (chB : Bool) (h : execSinDemand i chB s = .next s') : Keeps s s' := by
  have hs := Keeps.refl s
  unfold execSinDemand at h
  injection h with h
  subst h
  with_reducible repeat' first | assumption | apply State.sinDemand_keeps

theorem State.sinHigh_keeps {s0 s : State} (h : Keeps s0 s) (i : Nat) : Keeps s0 (State.sinHigh s i) := by
  unfold State.sinHigh
  with_reducible repeat' first | assumption | apply State.putBit_keeps | apply State.setSafety_keeps

theorem State.sinChannelsHigh_keeps {s0 s : State} (h : Keeps s0 s) (i : Nat) : Keeps s0 (State.sinChannelsHigh s i) := by
  unfold State.sinChannelsHigh
  with_reducible repeat' first | assumption | apply keeps_ite | apply State.sinHigh_keeps | apply State.sgbEnded_keeps

theorem execSinChannelsHigh_keeps {s s' : State} (i : Fin 2) (h : execSinChannelsHigh i s = .next s') : Keeps s s' := by
  have hs := Keeps.refl s
  unfold execSinChannelsHigh at h
  injection h with h
  subst h
  with_reducible repeat' first | assumption | apply State.sinChannelsHigh_keeps

theorem State.sinFault_keeps {s0 s : State} (h : Keeps s0 s) (i : Nat) (pulse : Bool) : Keeps s0 (State.sinFault s i pulse) := by
  unfold State.sinFault
  with_reducible repeat' first | assumption | apply keeps_ite | apply State.setSafety_keeps | apply State.islandNote_keeps | apply State.sgbCause_keeps

theorem State.sinPulse_keeps {s0 s : State} (h : Keeps s0 s) (i : Nat) (chB : Bool) (fell : Bool) : Keeps s0 (State.sinPulse s i chB fell) := by
  unfold State.sinPulse
  with_reducible repeat' first | assumption | apply keeps_ite | apply State.setSafety_keeps | apply State.sinFault_keeps

theorem execSinTestPulse_keeps {s s' : State} (i : Fin 2) (chB : Bool) (fell : Bool) (h : execSinTestPulse i chB fell s = .next s') : Keeps s s' := by
  have hs := Keeps.refl s
  unfold execSinTestPulse at h
  injection h with h
  subst h
  with_reducible repeat' first | assumption | apply State.sinPulse_keeps

theorem execSinDiscrepancy_keeps {s s' : State} (i : Fin 2) (h : execSinDiscrepancy i s = .next s') : Keeps s s' := by
  have hs := Keeps.refl s
  unfold execSinDiscrepancy at h
  injection h with h
  subst h
  with_reducible repeat' first | assumption | apply keeps_ite | apply keeps_ite_fst | apply State.sinFault_keeps

theorem State.sinFaultEnd_keeps {s0 s : State} (h : Keeps s0 s) (i : Nat) : Keeps s0 (State.sinFaultEnd s i) := by
  unfold State.sinFaultEnd
  with_reducible repeat' first | assumption | apply keeps_ite | apply State.sgbEnded_keeps

theorem execSinFaultEnd_keeps {s s' : State} (i : Fin 2) (h : execSinFaultEnd i s = .next s') : Keeps s s' := by
  have hs := Keeps.refl s
  unfold execSinFaultEnd at h
  injection h with h
  subst h
  with_reducible repeat' first | assumption | apply State.sinFaultEnd_keeps

theorem State.autoRelease_keeps {s0 s : State} (h : Keeps s0 s) : Keeps s0 (State.autoRelease s) := by
  unfold State.autoRelease
  with_reducible repeat' first | assumption | apply keeps_ite | apply State.sgbRelease_keeps

theorem execSgbAutoRelease_keeps {s s' : State}  (h : execSgbAutoRelease s = .next s') : Keeps s s' := by
  have hs := Keeps.refl s
  unfold execSgbAutoRelease at h
  injection h with h
  subst h
  with_reducible repeat' first | assumption | apply State.autoRelease_keeps

theorem State.islandFault_keeps {s0 s : State} (h : Keeps s0 s) (cause : Nat) (row : Nat) (detail : Nat) : Keeps s0 (State.islandFault s cause row detail) := by
  unfold State.islandFault
  with_reducible repeat' first | assumption | apply keeps_ite | apply State.putN_keeps | apply State.islandNote_keeps | apply State.sgbCause_keeps | apply State.gateEnOff_keeps

theorem execSafetyDiag_keeps {s s' : State} (row : Nat) (detail : BitVec 8) (h : execSafetyDiag row detail s = .next s') : Keeps s s' := by
  have hs := Keeps.refl s
  unfold execSafetyDiag at h
  injection h with h
  subst h
  with_reducible repeat' first | assumption | apply keeps_ite | apply keeps_ite_fst | apply State.islandFault_keeps

theorem execGateEnFault_keeps {s s' : State} (output : Fin 3) (h : execGateEnFault output s = .next s') : Keeps s s' := by
  have hs := Keeps.refl s
  unfold execGateEnFault at h
  injection h with h
  subst h
  with_reducible repeat' first | assumption | apply keeps_ite | apply keeps_ite_fst | apply State.islandFault_keeps

theorem execOutputOffTest_keeps {s s' : State} (output : Fin 3) (fell : Bool) (h : execOutputOffTest output fell s = .next s') : Keeps s s' := by
  have hs := Keeps.refl s
  unfold execOutputOffTest at h
  injection h with h
  subst h
  with_reducible repeat' first | assumption | apply keeps_ite | apply keeps_ite_fst | apply State.islandFault_keeps

theorem State.sos_keeps {s0 s : State} (h : Keeps s0 s) (v : F32) : Keeps s0 (State.sos s v) := by
  unfold State.sos
  with_reducible repeat' first | assumption | apply keeps_ite | apply State.putF_keeps | apply State.islandNote_keeps | apply State.sgbCause_keeps

theorem execSos_keeps {s s' : State} (v : F32) (h : execSos v s = .next s') : Keeps s s' := by
  have hs := Keeps.refl s
  unfold execSos at h
  injection h with h
  subst h
  with_reducible repeat' first | assumption | apply State.sos_keeps

theorem State.sosWireFault_keeps {s0 s : State} (h : Keeps s0 s) (v : F32) : Keeps s0 (State.sosWireFault s v) := by
  unfold State.sosWireFault
  with_reducible repeat' first | assumption | apply keeps_ite | apply State.putF_keeps | apply State.islandNote_keeps | apply State.sgbCause_keeps

theorem execSosWireFault_keeps {s s' : State} (v : F32) (h : execSosWireFault v s = .next s') : Keeps s s' := by
  have hs := Keeps.refl s
  unfold execSosWireFault at h
  injection h with h
  subst h
  with_reducible repeat' first | assumption | apply State.sosWireFault_keeps

theorem State.sosBelow_keeps {s0 s : State} (h : Keeps s0 s) (v : F32) : Keeps s0 (State.sosBelow s v) := by
  unfold State.sosBelow
  with_reducible repeat' first | assumption | apply keeps_ite | apply State.putF_keeps | apply State.sgbEnded_keeps

theorem execSosBelowHysteresis_keeps {s s' : State} (v : F32) (h : execSosBelowHysteresis v s = .next s') : Keeps s s' := by
  have hs := Keeps.refl s
  unfold execSosBelowHysteresis at h
  injection h with h
  subst h
  with_reducible repeat' first | assumption | apply State.sosBelow_keeps

theorem execSosTestInjection_keeps {s s' : State} (reported : Bool) (h : execSosTestInjection reported s = .next s') : Keeps s s' := by
  have hs := Keeps.refl s
  unfold execSosTestInjection at h
  injection h with h
  subst h
  with_reducible repeat' first | assumption | apply keeps_ite | apply keeps_ite_fst | apply State.islandFault_keeps

theorem State.refreshScs_keeps {s0 s : State} (h : Keeps s0 s) : Keeps s0 (State.refreshScs s) := by
  unfold State.refreshScs
  with_reducible repeat' first | assumption | apply State.putN_keeps

theorem State.safetyLog_keeps {s0 s : State} (h : Keeps s0 s) (kind : Nat) (session : Nat) (changed : Nat) (old : Nat) : Keeps s0 (State.safetyLog s kind session changed old) := by
  unfold State.safetyLog
  with_reducible repeat' first | assumption | apply State.setSafety_keeps | apply State.putN_keeps | apply State.occur_keeps

theorem State.safetyChecks_keeps {s0 s : State} (h : Keeps s0 s) : Keeps s0 (State.safetyChecks s) := by
  unfold State.safetyChecks
  with_reducible repeat' first | assumption | apply keeps_ite | apply State.sgbCause_keeps

theorem State.selfTestDone_keeps {s0 s : State} (h : Keeps s0 s) : Keeps s0 (State.selfTestDone s) := by
  unfold State.selfTestDone
  with_reducible repeat' first | assumption | apply keeps_ite | apply State.refreshScs_keeps | apply State.safetyChecks_keeps | apply State.sgbEnded_keeps | apply State.refreshSafety_keeps

theorem execIslandSelfTestDone_keeps {s s' : State}  (h : execIslandSelfTestDone s = .next s') : Keeps s s' := by
  have hs := Keeps.refl s
  unfold execIslandSelfTestDone at h
  injection h with h
  subst h
  with_reducible repeat' first | assumption | apply State.selfTestDone_keeps

theorem State.safetyDefaults_keeps {s0 s : State} (h : Keeps s0 s) : Keeps s0 (State.safetyDefaults s) := by
  unfold State.safetyDefaults
  with_reducible repeat' first | assumption | apply keeps_ite | apply keeps_foldl | apply State.put_keeps | apply State.putN_keeps | apply State.putB_keeps | apply State.refreshScs_keeps | apply State.setSafety_keeps | apply State.sgbCause_keeps | apply State.safetyLog_keeps | apply State.islandNote_keeps | (intro t x (ht : Keeps _ t))

theorem State.rwsAccess_keeps {s0 s : State} (h : Keeps s0 s) (session : Nat) : Keeps s0 (State.rwsAccess s session) := by
  unfold State.rwsAccess
  with_reducible repeat' first | assumption | apply keeps_ite | apply State.setSafety_keeps

theorem State.safetyLogoff_keeps {s0 s : State} (h : Keeps s0 s) (session : Nat) : Keeps s0 (State.safetyLogoff s session) := by
  unfold State.safetyLogoff
  with_reducible repeat' first | assumption | apply State.setSafety_keeps

theorem State.safetyLogin_keeps {s0 s : State} (h : Keeps s0 s) (session : Nat) (q : Option Request) (pw : List Byte) : Keeps s0 (State.safetyLogin s session q pw).1 := by
  unfold State.safetyLogin
  with_reducible repeat' first | assumption | apply keeps_ite | apply keeps_ite_fst | apply State.islandNote_keeps | apply State.setSafety_keeps | split

theorem execSafetyLogin_keeps {s s' : State} (session : Nat) (password : List Byte) (h : execSafetyLogin session password s = .next s') : Keeps s s' := by
  have hs := Keeps.refl s
  unfold execSafetyLogin at h
  injection h with h
  subst h
  with_reducible repeat' first | assumption | apply keeps_ite | apply keeps_ite_fst | apply State.heard_keeps | apply State.answer_keeps | apply State.served_keeps | apply State.safetyLogin_keeps | split | (intro t x (ht : Keeps _ t)) | intro _ | lift_lets -underBinder | refine keeps_of_fst (by assumption) ?_

theorem State.answerTo_keeps {s0 s : State} (h : Keeps s0 s) (session : Nat) (q : Option Request) (r : Reply) : Keeps s0 (State.answerTo s session q r) := by
  unfold State.answerTo
  with_reducible repeat' first | assumption | apply State.finish_keeps | apply State.answer_keeps | split

theorem State.loginFailed_keeps {s0 s : State} (h : Keeps s0 s) (session : Nat) (q : Option Request) : Keeps s0 (State.loginFailed s session q) := by
  unfold State.loginFailed
  with_reducible repeat' first | assumption | apply keeps_ite | apply State.setSafety_keeps | apply State.islandNote_keeps | apply State.safetyLog_keeps | apply State.answerTo_keeps

theorem State.loginVerified_keeps {s0 s : State} (h : Keeps s0 s) (session : Nat) : Keeps s0 (State.loginVerified s session) := by
  unfold State.loginVerified
  with_reducible repeat' first | assumption | apply keeps_ite | apply State.setSafety_keeps | apply State.islandNote_keeps | apply State.answerTo_keeps | apply State.loginFailed_keeps | split

theorem execSafetyLoginVerified_keeps {s s' : State} (session : Nat) (h : execSafetyLoginVerified session s = .next s') : Keeps s s' := by
  have hs := Keeps.refl s
  unfold execSafetyLoginVerified at h
  injection h with h
  subst h
  with_reducible repeat' first | assumption | apply State.loginVerified_keeps

theorem State.lockoutEnd_keeps {s0 s : State} (h : Keeps s0 s) (p : Nat) : Keeps s0 (State.lockoutEnd s p) := by
  unfold State.lockoutEnd
  with_reducible repeat' first | assumption | apply keeps_ite | apply State.setSafety_keeps | split

theorem execPortLockoutEnd_keeps {s s' : State} (port : Fin 5) (h : execPortLockoutEnd port s = .next s') : Keeps s s' := by
  have hs := Keeps.refl s
  unfold execPortLockoutEnd at h
  injection h with h
  subst h
  with_reducible repeat' first | assumption | apply State.lockoutEnd_keeps

theorem State.loginTimeout_keeps {s0 s : State} (h : Keeps s0 s) (session : Nat) : Keeps s0 (State.loginTimeout s session) := by
  unfold State.loginTimeout
  with_reducible repeat' first | assumption | apply keeps_ite | apply State.safetyLogoff_keeps

theorem execSafetyLoginTimeout_keeps {s s' : State} (session : Nat) (h : execSafetyLoginTimeout session s = .next s') : Keeps s s' := by
  have hs := Keeps.refl s
  unfold execSafetyLoginTimeout at h
  injection h with h
  subst h
  with_reducible repeat' first | assumption | apply State.loginTimeout_keeps

theorem execSafetyLogout_keeps {s s' : State} (session : Nat) (h : execSafetyLogout session s = .next s') : Keeps s s' := by
  have hs := Keeps.refl s
  unfold execSafetyLogout at h
  injection h with h
  subst h
  with_reducible repeat' first | assumption | apply State.command_keeps | apply State.safetyLogoff_keeps | (intro t x (ht : Keeps _ t)) | (intro t (ht : Keeps _ t))

theorem State.passwordNew_keeps {s0 s : State} (h : Keeps s0 s) (session : Nat) (pw : List Byte) : Keeps s0 (State.passwordNew s session pw).1 := by
  unfold State.passwordNew
  with_reducible repeat' first | assumption | apply keeps_ite | apply keeps_ite_fst | apply State.draw_keeps | apply State.setSafety_keeps | apply State.putB_keeps | apply State.safetyLog_keeps | apply State.sgbEnded_keeps | split

theorem execSafetyPwNew_keeps {s s' : State} (session : Nat) (password : List Byte) (h : execSafetyPwNew session password s = .next s') : Keeps s s' := by
  have hs := Keeps.refl s
  unfold execSafetyPwNew at h
  injection h with h
  subst h
  with_reducible repeat' first | assumption | apply State.command_keeps | apply State.passwordNew_keeps | (intro t x (ht : Keeps _ t)) | (intro t (ht : Keeps _ t))

theorem State.safetyStage_keeps {s0 s : State} (h : Keeps s0 s) (session : Nat) (sub : Nat) (v : Val) : Keeps s0 (State.safetyStage s session sub v) := by
  unfold State.safetyStage
  with_reducible repeat' first | assumption | apply State.setSafety_keeps | apply State.rwsAccess_keeps

theorem State.safetyUnstage_keeps {s0 s : State} (h : Keeps s0 s) (session : Nat) : Keeps s0 (State.safetyUnstage s session) := by
  unfold State.safetyUnstage
  with_reducible repeat' first | assumption | apply State.setSafety_keeps

theorem State.safetyApply_keeps {s0 s : State} (h : Keeps s0 s) (session : Nat) : Keeps s0 (State.safetyApply s session).1 := by
  unfold State.safetyApply
  with_reducible repeat' first | assumption | apply keeps_ite | apply keeps_ite_fst | apply keeps_foldl | apply State.rwsAccess_keeps | apply State.safetyUnstage_keeps | apply State.put_keeps | apply State.refreshScs_keeps | apply State.safetyLog_keeps | apply State.sgbCause_keeps | split | (intro t x (ht : Keeps _ t))

theorem execSafetyApply_keeps {s s' : State} (session : Nat) (h : execSafetyApply session s = .next s') : Keeps s s' := by
  have hs := Keeps.refl s
  unfold execSafetyApply at h
  injection h with h
  subst h
  with_reducible repeat' first | assumption | apply State.safetyCommand_keeps | apply State.safetyApply_keeps | (intro t x (ht : Keeps _ t)) | (intro t (ht : Keeps _ t))

theorem execSafetyDiscard_keeps {s s' : State} (session : Nat) (h : execSafetyDiscard session s = .next s') : Keeps s s' := by
  have hs := Keeps.refl s
  unfold execSafetyDiscard at h
  injection h with h
  subst h
  with_reducible repeat' first | assumption | apply State.command_keeps | apply State.safetyUnstage_keeps | (intro t x (ht : Keeps _ t)) | (intro t (ht : Keeps _ t))

theorem State.scsAck_keeps {s0 s : State} (h : Keeps s0 s) (session : Nat) (v : Nat) : Keeps s0 (State.scsAck s session v).1 := by
  unfold State.scsAck
  with_reducible repeat' first | assumption | apply keeps_ite | apply keeps_ite_fst | apply State.rwsAccess_keeps | apply State.putN_keeps | apply State.sgbEnded_keeps | apply State.safetyLog_keeps

theorem execScsAck_keeps {s s' : State} (session : Nat) (value : BitVec 32) (h : execScsAck session value s = .next s') : Keeps s s' := by
  have hs := Keeps.refl s
  unfold execScsAck at h
  injection h with h
  subst h
  with_reducible repeat' first | assumption | apply State.safetyCommand_keeps | apply State.scsAck_keeps | (intro t x (ht : Keeps _ t)) | (intro t (ht : Keeps _ t))

theorem State.sgbTest_keeps {s0 s : State} (h : Keeps s0 s) (session : Nat) : Keeps s0 (State.sgbTest s session).1 := by
  unfold State.sgbTest
  with_reducible repeat' first | assumption | apply State.rwsAccess_keeps | apply State.sgbCause_keeps | apply State.safetyLog_keeps

theorem execSgbTest_keeps {s s' : State} (session : Nat) (h : execSgbTest session s = .next s') : Keeps s s' := by
  have hs := Keeps.refl s
  unfold execSgbTest at h
  injection h with h
  subst h
  with_reducible repeat' first | assumption | apply State.safetyCommand_keeps | apply State.sgbTest_keeps | (intro t x (ht : Keeps _ t)) | (intro t (ht : Keeps _ t))

end Sys2Proof.Machine
end

