-- ==== Sys2Proof/Laws/KeepsSession.lean ====
section
/-!
SUPPORT. Laws/KeepsSession.lean: every operation of Machine/Session.lean keeps what `Keeps` says.
-/
namespace Sys2Proof.Machine
open Sys2Proof

theorem State.notice_keeps {s0 s : State} (h : Keeps s0 s) (session : Nat) (code : Nat) (detail : Nat) : Keeps s0 (State.notice s session code detail) := by
  unfold State.notice
  with_reducible repeat' first | assumption | apply keeps_ite | apply State.emit_keeps

theorem State.setOwner_keeps {s0 s : State} (h : Keeps s0 s) (owner : Nat) (kind : Nat) (who : Nat) (told : Nat) : Keeps s0 (State.setOwner s owner kind who told) := by
  unfold State.setOwner
  with_reducible repeat' first | assumption | apply keeps_ite | apply keeps_foldl | apply State.putN_keeps | apply State.bump_keeps | apply State.occur_keeps | apply State.notice_keeps | (intro t x (ht : Keeps _ t))

theorem State.grant_keeps {s0 s : State} (h : Keeps s0 s) (session : Nat) (kind : Nat) (told : Nat) : Keeps s0 (State.grant s session kind told) := by
  unfold State.grant
  with_reducible repeat' first | assumption | apply State.setOwner_keeps | apply State.putI_keeps | apply State.setHosts_keeps

theorem State.ownerGone_keeps {s0 s : State} (h : Keeps s0 s) (kind : Nat) : Keeps s0 (State.ownerGone s kind) := by
  unfold State.ownerGone
  with_reducible repeat' first | assumption | apply keeps_ite | apply State.setOwner_keeps | apply State.notice_keeps | apply State.lawStopCmd_keeps | apply State.note_keeps

theorem State.closeSession_keeps {s0 s : State} (h : Keeps s0 s) (session : Nat) : Keeps s0 (State.closeSession s session) := by
  unfold State.closeSession
  with_reducible repeat' first | assumption | apply keeps_ite | apply State.putN_keeps | apply State.put_keeps | apply State.setHosts_keeps | apply State.commit_keeps | apply State.answer_keeps | apply State.safetyLogoff_keeps | apply State.setCursor_keeps | apply State.setSafety_keeps | apply State.attest_keeps | apply State.occur_keeps | apply State.ownerGone_keeps | (apply keeps_with <;> first | rfl | assumption | apply State.putN_keeps | apply State.put_keeps | apply State.setHosts_keeps | apply State.commit_keeps | apply State.answer_keeps | apply State.safetyLogoff_keeps | apply State.setCursor_keeps | apply State.setSafety_keeps)

theorem State.closeSessions_keeps {s0 s : State} (h : Keeps s0 s) (p : Nat → Bool) : Keeps s0 (State.closeSessions s p) := by
  unfold State.closeSessions
  with_reducible repeat' first | assumption | apply keeps_ite | apply keeps_foldl | apply State.closeSession_keeps | (intro t x (ht : Keeps _ t))

theorem State.expel_keeps {s0 s : State} (h : Keeps s0 s) (p : Nat → Bool) (code : Nat) : Keeps s0 (State.expel s p code) := by
  unfold State.expel
  with_reducible repeat' first | assumption | apply keeps_ite | apply keeps_foldl | apply State.notice_keeps | apply State.closeSession_keeps | (intro t x (ht : Keeps _ t))

end Sys2Proof.Machine
end

