-- ==== Sys2Proof/Laws/KeepsSecOps.lean ====
section
/-!
SUPPORT. Laws/KeepsSecOps.lean: every operation of Machine/SecOps.lean keeps what `Keeps` says.
-/
namespace Sys2Proof.Machine
open Sys2Proof

theorem State.setSecurity_keeps {s0 s : State} (h : Keeps s0 s) (x : Security) : Keeps s0 (State.setSecurity s x) := by
  unfold State.setSecurity
  with_reducible repeat' first | assumption | (apply keeps_with <;> first | rfl | assumption)

theorem State.setBank_keeps {s0 s : State} (h : Keeps s0 s) (b : Nat) {x : Bank}
    (hx : (∀ b, Memory.wf (s0.bank b).cells = true) → Memory.wf x.cells = true) : Keeps s0 (s.setBank b x) := by
  refine ⟨h.variant, h.now, h.pending, h.free, h.dict, fun hw k => ?_⟩
  have hk := h.banks hw k
  unfold State.bank vget at *
  unfold State.setBank vset
  simp only [Vector.getElem?_setIfInBounds]
  split
  · split
    · exact hx hw
    · exact rfl
  · exact hk

theorem State.secErase_keeps {s0 s : State} (h : Keeps s0 s) : Keeps s0 (State.secErase s) := by
  unfold State.secErase
  with_reducible repeat' first | assumption | apply keeps_foldl | apply State.put_keeps | apply State.putN_keeps | apply State.setHosts_keeps | apply State.setBank_keeps | apply State.safetyDefaults_keeps | exact keeps_empty | apply keeps_cells | (intro t x (ht : Keeps _ t))

theorem State.fenceSec_keeps {s0 s : State} (h : Keeps s0 s) (rows : List Nat) : Keeps s0 (State.fenceSec s rows) := by
  unfold State.fenceSec
  with_reducible repeat' first | assumption | apply keeps_foldl | apply State.setBank_keeps | apply State.note_keeps | apply State.putN_keeps | exact keeps_empty | apply keeps_cells | (intro t x (ht : Keeps _ t))

theorem State.newVaultKey_keeps {s0 s : State} (h : Keeps s0 s) : Keeps s0 (State.newVaultKey s) := by
  unfold State.newVaultKey
  with_reducible repeat' first | assumption | apply State.draw_keeps | apply State.setSecurity_keeps

theorem State.secWipe_keeps {s0 s : State} (h : Keeps s0 s) (cause : Nat) : Keeps s0 (State.secWipe s cause) := by
  unfold State.secWipe
  with_reducible repeat' first | assumption | apply keeps_ite | apply State.bump_keeps | apply State.putN_keeps | apply State.drawn_keeps | apply State.secErase_keeps | apply State.fenceSec_keeps | apply State.setSecurity_keeps | apply State.newVaultKey_keeps | apply State.occur_keeps

theorem State.tamperDetect_keeps {s0 s : State} (h : Keeps s0 s) (i : Nat) : Keeps s0 (State.tamperDetect s i) := by
  unfold State.tamperDetect
  with_reducible repeat' first | assumption | apply keeps_ite | apply State.putBit_keeps | apply State.setSecurity_keeps | apply State.note_keeps | apply State.secWipe_keeps

theorem State.tamperEnabled_keeps {s0 s : State} (h : Keeps s0 s) (o : State) : Keeps s0 (State.tamperEnabled o s) := by
  unfold State.tamperEnabled
  with_reducible repeat' first | assumption | apply keeps_ite | apply keeps_foldl | apply State.tamperDetect_keeps | (intro t x (ht : Keeps _ t))

end Sys2Proof.Machine
end

