-- ==== Sys2Proof/Laws/KeepsMemory.lean ====
section
/-!
SUPPORT. Laws/KeepsMemory.lean: every operation of Machine/Memory.lean keeps what `Keeps` says.
-/
namespace Sys2Proof.Machine
open Sys2Proof

theorem State.setCell_keeps {s0 s : State} (h : Keeps s0 s) (b row col : Nat) (w : BitVec 144) : Keeps s0 (s.setCell b row col w) :=
  State.setBank_keeps h b fun hw => sparseWf_set _ _ _ (h.banks hw b)

theorem State.setBankState_keeps {s0 s : State} (h : Keeps s0 s) (b : Nat) (st : Nat) : Keeps s0 (State.setBankState s b st) := by
  unfold State.setBankState
  with_reducible repeat' first | assumption | apply keeps_ite | apply State.putN_keeps | apply State.note_keeps

theorem State.corrWatch_keeps {s0 s : State} (h : Keeps s0 s) (b : Nat) : Keeps s0 (State.corrWatch s b) := by
  unfold State.corrWatch
  with_reducible repeat' first | assumption | apply keeps_ite | apply State.putN_keeps | apply State.setBank_keeps | apply State.note_keeps | exact keeps_empty | apply keeps_cells

theorem State.dictCopyBad_keeps {s0 s : State} (h : Keeps s0 s) (row : Nat) : Keeps s0 (State.dictCopyBad s row) := by
  unfold State.dictCopyBad
  with_reducible repeat' first | assumption | apply keeps_ite | (apply keeps_with <;> first | rfl | assumption)

theorem State.captBad_keeps {s0 s : State} (h : Keeps s0 s) (row : Nat) (col : Nat) : Keeps s0 (State.captBad s row col) := by
  unfold State.captBad
  with_reducible repeat' first | assumption | apply keeps_ite | apply State.setStrm_keeps

theorem State.recBad_keeps {s0 s : State} (h : Keeps s0 s) (row : Nat) (col : Nat) : Keeps s0 (State.recBad s row col) := by
  unfold State.recBad
  with_reducible repeat' first | assumption | apply keeps_ite | apply State.setRec_keeps | apply State.refreshRing_keeps

theorem State.refetch_keeps {s0 s : State} (h : Keeps s0 s) (l : Lane) (b : Nat) (row : Nat) (col : Nat) : Keeps s0 (State.refetch s l b row col) := by
  unfold State.refetch
  with_reducible repeat' first | assumption | apply keeps_ite | apply State.lanePoison_keeps | apply State.setCell_keeps | apply State.setBank_keeps | apply State.houseTrap_keeps | apply State.setLaneRec_keeps | exact keeps_empty | apply keeps_cells

theorem State.linkBad_keeps {s0 s : State} (h : Keeps s0 s) (row : Nat) (col : Nat) : Keeps s0 (State.linkBad s row col) := by
  unfold State.linkBad
  with_reducible repeat' first | assumption | apply keeps_ite | apply State.put_keeps | apply State.bump_keeps | apply State.note_keeps | (apply keeps_with <;> first | rfl | assumption)

theorem State.lostWord_keeps {s0 s : State} (h : Keeps s0 s) (b : Nat) (row : Nat) (col : Nat) (mirrored : Bool) : Keeps s0 (State.lostWord s b row col mirrored) := by
  unfold State.lostWord
  with_reducible repeat' first | assumption | apply keeps_ite | apply State.tilePoison_keeps | apply State.houseTrap_keeps | apply State.refetch_keeps | apply State.setLaneRec_keeps | apply State.captBad_keeps | apply State.recBad_keeps | apply State.dictCopyBad_keeps | apply State.secWipe_keeps | apply State.linkBad_keeps | split

theorem State.fenceLane_keeps {s0 s : State} (h : Keeps s0 s) (l : Lane) : Keeps s0 (State.fenceLane s l) := by
  unfold State.fenceLane
  with_reducible repeat' first | assumption | apply keeps_ite | apply State.setLaneRec_keeps | apply State.diagFailed_keeps | apply State.demote_keeps | apply State.setLane_keeps

theorem State.fenceRow_keeps {s0 s : State} (h : Keeps s0 s) (b : Nat) (row : Nat) (byMarch : Bool) : Keeps s0 (State.fenceRow s b row byMarch) := by
  unfold State.fenceRow
  with_reducible repeat' first | assumption | apply keeps_ite | apply State.setBank_keeps | apply State.putN_keeps | apply State.note_keeps | apply State.fenceLane_keeps | apply State.setRec_keeps | apply State.refreshRing_keeps | apply State.dictCopyBad_keeps | apply State.secWipe_keeps | exact keeps_empty | apply keeps_cells | split

theorem State.remapRow_keeps {s0 s : State} (h : Keeps s0 s) (b : Nat) (row : Nat) (bad : Nat) (byMarch : Bool) : Keeps s0 (State.remapRow s b row bad byMarch) := by
  unfold State.remapRow
  with_reducible repeat' first | assumption | apply keeps_ite | apply keeps_foldl | apply State.setBank_keeps | apply State.putN_keeps | apply State.fenceRow_keeps | apply State.setCell_keeps | apply State.occur_keeps | apply State.count_keeps | exact keeps_empty | apply keeps_cells | split | (intro t x (ht : Keeps _ t)) | intro _ | lift_lets -underBinder

theorem State.corrRead_keeps {s0 s : State} (h : Keeps s0 s) (b : Nat) (row : Nat) (col : Nat) (bad : Nat) (w : BitVec 144) : Keeps s0 (State.corrRead s b row col bad w) := by
  unfold State.corrRead
  with_reducible repeat' first | assumption | apply keeps_ite | apply State.setCell_keeps | apply State.bump_keeps | apply State.setBank_keeps | apply State.putN_keeps | apply State.corrWatch_keeps | apply State.remapRow_keeps | exact keeps_empty | apply keeps_cells

theorem State.badRead_keeps {s0 s : State} (h : Keeps s0 s) (b : Nat) (row : Nat) (col : Nat) (bad : Nat) (mirrored : Bool) (uncorr : Bool) : Keeps s0 (State.badRead s b row col bad mirrored uncorr) := by
  unfold State.badRead
  with_reducible repeat' first | assumption | apply keeps_ite | apply State.setCell_keeps | apply State.bump_keeps | apply State.putN_keeps | apply State.setBank_keeps | apply State.note_keeps | apply State.lostWord_keeps | apply State.remapRow_keeps | exact keeps_empty | apply keeps_cells

theorem State.readWord_keeps {s0 s : State} (h : Keeps s0 s) (b : Nat) (row : Nat) (col : Nat) (bad : Nat) (mirrored : Bool) : Keeps s0 (State.readWord s b row col bad mirrored) := by
  unfold State.readWord
  with_reducible repeat' first | assumption | apply State.setBank_keeps | apply State.corrWatch_keeps | apply State.corrRead_keeps | apply State.badRead_keeps | exact keeps_empty | apply keeps_cells | split | intro _ | lift_lets -underBinder

theorem State.writeWord_keeps {s0 s : State} (h : Keeps s0 s) (b : Nat) (row : Nat) (col : Nat) (data : BitVec 128) (mask : BitVec 128) : Keeps s0 (State.writeWord s b row col data mask) := by
  unfold State.writeWord
  with_reducible repeat' first | assumption | apply keeps_ite | apply State.setCell_keeps

theorem State.bankAccess_keeps {s0 s : State} (h : Keeps s0 s) (b : Nat) (row : Nat) (col : Nat) (upset : BitVec 144) (write : Option (BitVec 128 × BitVec 128)) (mirrored : Bool) (bad : Nat) : Keeps s0 (State.bankAccess s b row col upset write mirrored bad) := by
  unfold State.bankAccess
  with_reducible repeat' first | assumption | apply keeps_ite | apply State.setCell_keeps | apply State.setBank_keeps | apply State.lostWord_keeps | apply State.readWord_keeps | apply State.writeWord_keeps | exact keeps_empty | apply keeps_cells | split

theorem execBankRead_keeps {s s' : State} (bank : Fin 17) (row : Nat) (col : Fin 32) (upset : BitVec 144) (write : Option (BitVec 128 × BitVec 128))
    (mirrored : Bool) (badSpares : Nat) (h : execBankRead bank row col upset write mirrored badSpares s = .next s') : Keeps s s' := by
  unfold execBankRead at h
  split at h
  · injection h with h
    subst h
    exact State.bankAccess_keeps (Keeps.refl s) _ _ _ _ _ _ _
  · cases h

theorem State.marchEnd_keeps {s0 s : State} (h : Keeps s0 s) (b : Nat) (result : Nat) : Keeps s0 (State.marchEnd s b result) := by
  unfold State.marchEnd
  with_reducible repeat' first | assumption | apply keeps_ite | apply State.putN_keeps | apply State.putI_keeps | apply State.note_keeps

theorem State.startMarch_keeps {s0 s : State} (h : Keeps s0 s) (b : Nat) (rows : List (Nat × Nat)) : Keeps s0 (State.startMarch s b rows) := by
  unfold State.startMarch
  with_reducible repeat' first | assumption | apply keeps_ite | apply keeps_foldl | apply State.setBank_keeps | apply State.remapRow_keeps | apply State.marchEnd_keeps | exact keeps_empty | apply keeps_cells | (intro t x (ht : Keeps _ t))

theorem State.clearRequest_keeps {s0 s : State} (h : Keeps s0 s) (b : Nat) : Keeps s0 (State.clearRequest s b) := by
  unfold State.clearRequest
  with_reducible repeat' first | assumption | apply keeps_ite | apply State.setBank_keeps | apply State.putBit_keeps | apply State.putN_keeps | apply State.setBankState_keeps | exact keeps_empty | apply keeps_cells

theorem State.marchAbort_keeps {s0 s : State} (h : Keeps s0 s) (b : Nat) : Keeps s0 (State.marchAbort s b) := by
  unfold State.marchAbort
  with_reducible repeat' first | assumption | apply keeps_ite | apply State.setBank_keeps | apply State.clearRequest_keeps | apply State.marchEnd_keeps | exact keeps_empty

theorem State.marchAbortCmd_keeps {s0 s : State} (h : Keeps s0 s) (b : Nat) : Keeps s0 (State.marchAbortCmd s b).1 := by
  unfold State.marchAbortCmd
  with_reducible repeat' first | assumption | apply keeps_ite | apply keeps_ite_fst | apply State.marchAbort_keeps

theorem State.marchBegin_keeps {s0 s : State} (h : Keeps s0 s) (b : Nat) (alg : Nat) : Keeps s0 (State.marchBegin s b alg) := by
  unfold State.marchBegin
  with_reducible repeat' first | assumption | apply keeps_ite | apply State.setBank_keeps | apply State.putBit_keeps | apply State.putN_keeps | apply State.setBankState_keeps | exact keeps_empty | apply keeps_cells

theorem State.marchTransparent_keeps {s0 s : State} (h : Keeps s0 s) (b : Nat) : Keeps s0 (State.marchTransparent s b).1 := by
  unfold State.marchTransparent
  with_reducible repeat' first | assumption | apply keeps_ite | apply keeps_ite_fst | apply State.marchBegin_keeps

theorem State.marchSs_keeps {s0 s : State} (h : Keeps s0 s) (b : Nat) : Keeps s0 (State.marchSs s b).1 := by
  unfold State.marchSs
  with_reducible repeat' first | assumption | apply keeps_ite | apply keeps_ite_fst | apply State.marchBegin_keeps

theorem execMarchAbort_keeps {s s' : State} (session : Nat) (bank : BitVec 8) (h : execMarchAbort session bank s = .next s') : Keeps s s' := by
  have hs := Keeps.refl s
  unfold execMarchAbort at h
  injection h with h
  subst h
  with_reducible repeat' first | assumption | apply State.command_keeps | apply State.marchAbortCmd_keeps | (intro t x (ht : Keeps _ t)) | (intro t (ht : Keeps _ t))

theorem execMarchTransparent_keeps {s s' : State} (session : Nat) (bank : BitVec 8) (h : execMarchTransparent session bank s = .next s') : Keeps s s' := by
  have hs := Keeps.refl s
  unfold execMarchTransparent at h
  injection h with h
  subst h
  with_reducible repeat' first | assumption | apply State.command_keeps | apply State.marchTransparent_keeps | (intro t x (ht : Keeps _ t)) | (intro t (ht : Keeps _ t))

theorem execMarchSs_keeps {s s' : State} (session : Nat) (bank : BitVec 8) (h : execMarchSs session bank s = .next s') : Keeps s s' := by
  have hs := Keeps.refl s
  unfold execMarchSs at h
  injection h with h
  subst h
  with_reducible repeat' first | assumption | apply State.command_keeps | apply State.marchSs_keeps | (intro t x (ht : Keeps _ t)) | (intro t (ht : Keeps _ t))

theorem State.marchReadRow_keeps {s0 s : State} (h : Keeps s0 s) (b : Nat) (row : Nat) (bad : Nat) (upsets : List (BitVec 144)) : Keeps s0 (State.marchReadRow s b row bad upsets) := by
  unfold State.marchReadRow
  with_reducible repeat' first | assumption | apply keeps_foldl | apply State.setCell_keeps | apply State.corrRead_keeps | apply State.badRead_keeps | split | (intro t x (ht : Keeps _ t)) | (intro z; apply keeps_cut (z := z)) | (intro hz; clear_value z) | intro _ | lift_lets -underBinder

theorem State.marchRowTest_keeps {s0 s : State} (h : Keeps s0 s) (b : Nat) (row : Nat) (alg : Nat) (bad : Nat) (ok : Bool) (upsets : List (BitVec 144)) : Keeps s0 (State.marchRowTest s b row alg bad ok upsets) := by
  unfold State.marchRowTest
  with_reducible repeat' first | assumption | apply keeps_ite | apply State.marchReadRow_keeps | apply State.remapRow_keeps

theorem State.requestStep_keeps {s0 s : State} (h : Keeps s0 s) (b : Nat) (bad : Nat) (ok : Bool) (upsets : List (BitVec 144)) : Keeps s0 (State.requestStep s b bad ok upsets) := by
  unfold State.requestStep
  with_reducible repeat' first | assumption | apply keeps_ite | apply State.marchRowTest_keeps | apply State.setBank_keeps | apply State.putN_keeps | apply State.clearRequest_keeps | apply State.marchEnd_keeps | exact keeps_empty | apply keeps_cells

theorem State.backgroundStep_keeps {s0 s : State} (h : Keeps s0 s) (b : Nat) (bad : Nat) (ok : Bool) (upsets : List (BitVec 144)) : Keeps s0 (State.backgroundStep s b bad ok upsets) := by
  unfold State.backgroundStep
  with_reducible repeat' first | assumption | apply keeps_ite | apply keeps_foldl | apply State.marchRowTest_keeps | apply State.setBank_keeps | apply State.bumpW_keeps | exact keeps_empty | apply keeps_cells | (intro t x (ht : Keeps _ t))

theorem State.noteStep_keeps {s0 s : State} (h : Keeps s0 s) (b : Nat) : Keeps s0 (State.noteStep s b) := by
  unfold State.noteStep
  with_reducible repeat' first | assumption | apply State.setBank_keeps | apply State.stepFrame_keeps | exact keeps_empty | apply keeps_cells

theorem State.marchRowStep_keeps {s0 s : State} (h : Keeps s0 s) (b : Nat) (bad : Nat) (ok : Bool) (upsets : List (BitVec 144)) : Keeps s0 (State.marchRowStep s b bad ok upsets) := by
  unfold State.marchRowStep
  with_reducible repeat' first | assumption | apply keeps_ite | apply State.noteStep_keeps | apply State.requestStep_keeps | apply State.backgroundStep_keeps

theorem execMarchRowStep_keeps {s s' : State} (bank : Fin 17) (ok : Bool) (upsets : List (BitVec 144)) (badSpares : Nat) (h : execMarchRowStep bank ok upsets badSpares s = .next s') : Keeps s s' := by
  have hs := Keeps.refl s
  unfold execMarchRowStep at h
  injection h with h
  subst h
  with_reducible repeat' first | assumption | apply State.marchRowStep_keeps

end Sys2Proof.Machine
end

