-- ==== Sys2Proof/Laws/KeepsPower.lean ====
section
/-!
SUPPORT. Laws/KeepsPower.lean: every operation of Machine/Power.lean keeps what `Keeps` says.
-/
namespace Sys2Proof.Machine
open Sys2Proof

theorem State.fenceBlock_keeps {s0 s : State} (h : Keeps s0 s) (b : Nat) : Keeps s0 (State.fenceBlock s b) := by
  unfold State.fenceBlock
  with_reducible repeat' first | assumption | apply State.putN_keeps

theorem State.endReset_keeps {s0 s : State} (h : Keeps s0 s) (b : Nat) : Keeps s0 (State.endReset s b) := by
  unfold State.endReset
  with_reducible repeat' first | assumption | apply State.putBit_keeps | (apply keeps_with <;> first | rfl | assumption | apply State.putBit_keeps)

theorem State.setPwr_keeps {s0 s : State} (h : Keeps s0 s) (d : Nat) (st : Nat) : Keeps s0 (State.setPwr s d st) := by
  unfold State.setPwr
  with_reducible repeat' first | assumption | apply keeps_ite | apply State.putN_keeps | apply State.bump_keeps | apply State.note_keeps

theorem State.bankLeaves_keeps {s0 s : State} (h : Keeps s0 s) (b : Nat) (st : Nat) : Keeps s0 (State.bankLeaves s b st) := by
  unfold State.bankLeaves
  with_reducible repeat' first | assumption | apply keeps_ite | apply State.marchAbort_keeps | apply State.setBank_keeps | apply State.setBankState_keeps | exact keeps_empty

theorem State.laneOff_keeps {s0 s : State} (h : Keeps s0 s) (l : Lane) : Keeps s0 (State.laneOff s l) := by
  unfold State.laneOff
  with_reducible repeat' first | assumption | apply keeps_ite | apply State.putN_keeps | apply State.setLaneRec_keeps | apply State.commit_keeps | apply State.setLane_keeps | apply State.refreshClaims_keeps

theorem State.pwmOff_keeps {s0 s : State} (h : Keeps s0 s) : Keeps s0 (State.pwmOff s) := by
  unfold State.pwmOff
  with_reducible repeat' first | assumption | apply keeps_foldl | apply State.endSequence_keeps | apply State.chanOff_keeps | (intro t x (ht : Keeps _ t))

theorem State.switchOff_keeps {s0 s : State} (h : Keeps s0 s) (d : Nat) : Keeps s0 (State.switchOff s d) := by
  unfold State.switchOff
  with_reducible repeat' first | assumption | apply keeps_ite | apply keeps_foldl | apply State.captureOff_keeps | apply State.ldDomainOff_keeps | apply State.pwmOff_keeps | apply State.bankLeaves_keeps | apply State.endReset_keeps | apply State.fenceBlock_keeps | apply State.setPwr_keeps | apply State.putB_keeps | apply State.gateEnOff_keeps | apply State.laneOff_keeps | apply State.stepAll_keeps | apply State.linkRefresh_keeps | apply State.ethLink_keeps | apply State.closeSessions_keeps | apply State.refreshCan_keeps | apply State.tbPowerOff_keeps | split | (intro t x (ht : Keeps _ t))

theorem State.retainDomain_keeps {s0 s : State} (h : Keeps s0 s) (d : Nat) : Keeps s0 (State.retainDomain s d) := by
  unfold State.retainDomain
  with_reducible repeat' first | assumption | apply keeps_ite | apply keeps_foldl | apply State.bankLeaves_keeps | apply State.setPwr_keeps | (intro t x (ht : Keeps _ t))

theorem State.captureOn_keeps {s0 s : State} (h : Keeps s0 s) : Keeps s0 (State.captureOn s) := by
  unfold State.captureOn
  with_reducible repeat' first | assumption | apply keeps_ite | apply keeps_foldl | apply State.streamStart_keeps | (intro t x (ht : Keeps _ t))

theorem State.switchOn_keeps {s0 s : State} (h : Keeps s0 s) (d : Nat) (fails : List (Nat × Nat × Nat)) : Keeps s0 (State.switchOn s d fails) := by
  unfold State.switchOn
  with_reducible repeat' first | assumption | apply keeps_ite | apply keeps_foldl | apply State.setPwr_keeps | apply State.startMarch_keeps | apply State.setBankState_keeps | apply State.putB_keeps | apply State.adcDomainOn_keeps | apply State.stepAll_keeps | apply State.linkRefresh_keeps | apply State.refreshPtpPorts_keeps | apply State.refreshCan_keeps | apply State.tbPowerOn_keeps | apply State.captureOn_keeps | split | (intro t x (ht : Keeps _ t))

theorem State.followPwrReq_keeps {s0 s : State} (h : Keeps s0 s) (fails : List (Nat × Nat × Nat)) : Keeps s0 (State.followPwrReq s fails) := by
  unfold State.followPwrReq
  with_reducible repeat' first | assumption | apply keeps_ite | apply keeps_foldl | apply State.switchOff_keeps | apply State.retainDomain_keeps | apply State.switchOn_keeps | apply State.announceSwap_keeps | (apply keeps_with <;> first | rfl | assumption | apply State.switchOff_keeps | apply State.retainDomain_keeps | apply State.switchOn_keeps | apply State.announceSwap_keeps) | (intro t x (ht : Keeps _ t))

theorem State.moduleStop_keeps {s0 s : State} (h : Keeps s0 s) (code : Nat) : Keeps s0 (State.moduleStop s code) := by
  unfold State.moduleStop
  with_reducible repeat' first | assumption | apply keeps_ite | apply State.lawStop_keeps

theorem State.handOverNow_keeps {s0 s : State} (h : Keeps s0 s) : Keeps s0 (State.handOverNow s) := by
  unfold State.handOverNow
  with_reducible repeat' first | assumption | apply State.setPr_keeps | apply State.sendCross_keeps | apply State.setPairState_keeps | apply State.bump_keeps | apply State.note_keeps

theorem State.drainFifo_keeps {s0 s : State} (h : Keeps s0 s) (n : Nat) : Keeps s0 (State.drainFifo n s) := by
  induction n generalizing s with
  | zero => exact h
  | succ n ih =>
    unfold State.drainFifo
    exact keeps_ite h (ih (State.recWrite_keeps h))

theorem State.auxMeasure_keeps {s0 s : State} (h : Keeps s0 s) (kind : Nat) (v : F32) (f : F32) (p : F32) (e : F32) : Keeps s0 (State.auxMeasure s kind v f p e) := by
  unfold State.auxMeasure
  with_reducible repeat' first | assumption | apply State.putN_keeps | apply State.putF_keeps

theorem State.auxRecord_keeps {s0 s : State} (h : Keeps s0 s) (set : Bool) : Keeps s0 (State.auxRecord s set) := by
  unfold State.auxRecord
  with_reducible repeat' first | assumption | apply State.eventTriggers_keeps | apply State.enterFifo_keeps

theorem State.auxSupply_keeps {s0 s : State} (h : Keeps s0 s) (lost : Bool) : Keeps s0 (State.auxSupply s lost) := by
  unfold State.auxSupply
  with_reducible repeat' first | assumption | apply keeps_ite | apply State.bump_keeps | apply State.auxRecord_keeps | (apply keeps_with <;> first | rfl | assumption)

theorem execAuxSupply_keeps {s s' : State} (lost : Bool) (kind : Fin 3) (inputV : F32) (freq : F32) (power : F32) (energy : F32) (h : execAuxSupply lost kind inputV freq power energy s = .next s') : Keeps s s' := by
  have hs := Keeps.refl s
  unfold execAuxSupply at h
  injection h with h
  subst h
  with_reducible repeat' first | assumption | apply keeps_ite | apply keeps_ite_fst | apply State.auxMeasure_keeps | apply State.auxSupply_keeps

theorem State.thermalStop_keeps {s0 s : State} (h : Keeps s0 s) : Keeps s0 (State.thermalStop s) := by
  unfold State.thermalStop
  with_reducible repeat' first | assumption | apply keeps_ite | apply State.putN_keeps | apply State.note_keeps | apply State.announceHandover_keeps | apply State.moduleStop_keeps | split

theorem execThermalStop_keeps {s s' : State}  (h : execThermalStop s = .next s') : Keeps s s' := by
  have hs := Keeps.refl s
  unfold execThermalStop at h
  injection h with h
  subst h
  with_reducible repeat' first | assumption | apply State.thermalStop_keeps

end Sys2Proof.Machine
end

