-- ==== Sys2Proof/Laws/KeepsApply.lean ====
section
/-!
SUPPORT. Laws/KeepsApply.lean: every operation of Machine/Apply.lean keeps what `Keeps` says.
-/
namespace Sys2Proof.Machine
open Sys2Proof

theorem State.applyTb_keeps {s0 s : State} (h : Keeps s0 s) (ks : List Nat) : Keeps s0 (State.applyTb s ks) := by
  unfold State.applyTb
  with_reducible repeat' first | assumption | apply keeps_ite | apply State.refCommitted_keeps | apply State.divCommitted_keeps | apply State.setTb_keeps | apply State.refreshPulls_keeps

theorem State.applyCore_keeps {s0 s : State} (h : Keeps s0 s) (ks : List Nat) (c : Nat) : Keeps s0 (State.applyCore s ks c) := by
  unfold State.applyCore
  with_reducible repeat' first | assumption | apply keeps_ite | apply State.coreTouched_keeps | apply State.coreSwitched_keeps | apply State.stepStage_keeps | apply State.stepFrame_keeps

theorem State.applyChain_keeps {s0 s : State} (h : Keeps s0 s) (ks : List Nat) (n : Nat) : Keeps s0 (State.applyChain s ks n) := by
  unfold State.applyChain
  with_reducible repeat' first | assumption | apply keeps_ite | apply State.stage_keeps | apply State.stepStage_keeps | apply State.rsLeaves_keeps | apply State.stepFrame_keeps | split

theorem State.applyDirect_keeps {s0 s : State} (h : Keeps s0 s) (written : List Nat) : Keeps s0 (State.applyDirect s written) := by
  unfold State.applyDirect
  with_reducible repeat' first | assumption | (apply keeps_with <;> first | rfl | assumption)

theorem State.applyCan_keeps {s0 s : State} (h : Keeps s0 s) (o : State) (ks : List Nat) : Keeps s0 (State.applyCan o s ks) := by
  unfold State.applyCan
  with_reducible repeat' first | assumption | apply keeps_ite | apply keeps_foldl | apply State.refreshCan_keeps | apply State.putN_keeps | apply State.nmtBoot_keeps | apply State.setCan_keeps | (intro t x (ht : Keeps _ t))

theorem State.applyTime_keeps {s0 s : State} (h : Keeps s0 s) (ks : List Nat) (modeWas : Nat) : Keeps s0 (State.applyTime s ks modeWas) := by
  unfold State.applyTime
  with_reducible repeat' first | assumption | apply keeps_ite | apply keeps_foldl | apply State.ethLink_keeps | apply State.servoReconfigured_keeps | apply State.servoModeChanged_keeps | apply State.refreshPtpPorts_keeps | (intro t x (ht : Keeps _ t))

theorem State.applyStreams_keeps {s0 s : State} (h : Keeps s0 s) (ks : List Nat) : Keeps s0 (State.applyStreams s ks) := by
  unfold State.applyStreams
  with_reducible repeat' first | assumption | apply keeps_ite | apply keeps_foldl | apply State.streamChanged_keeps | apply State.streamStart_keeps | apply State.refreshMasks_keeps | (intro t x (ht : Keeps _ t))

theorem State.applySessions_keeps {s0 s : State} (h : Keeps s0 s) (ks : List Nat) : Keeps s0 (State.applySessions s ks) := by
  unfold State.applySessions
  with_reducible repeat' first | assumption | apply keeps_ite | apply State.closeSessions_keeps | apply State.ownerGone_keeps | apply State.expel_keeps

theorem State.applied_keeps {s0 s : State} (h : Keeps s0 s) (o : State) (ks : List Nat) (written : List Nat) (fails : List (Nat × Nat × Nat)) : Keeps s0 (State.applied o s ks written fails) := by
  unfold State.applied
  with_reducible repeat' first | assumption | apply keeps_ite | apply keeps_foldl | apply State.applyTb_keeps | apply State.applyDirect_keeps | apply State.applyCore_keeps | apply State.applyChain_keeps | apply State.cold_keeps | apply State.ldFuncChanged_keeps | apply State.refreshConfig_keeps | apply State.refreshCurves_keeps | apply State.followPwrReq_keeps | apply State.refreshLink_keeps | apply State.pairModeChanged_keeps | apply State.refreshAdmission_keeps | apply State.applyCan_keeps | apply State.applyTime_keeps | apply State.applyStreams_keeps | apply State.eftStart_keeps | apply State.tamperEnabled_keeps | apply State.applySessions_keeps | (intro t x (ht : Keeps _ t))

theorem State.applySet_keeps {s0 s : State} (h : Keeps s0 s) (set : List (Nat × Val)) (fails : List (Nat × Nat × Nat)) : Keeps s0 (State.applySet s set fails) := by
  unfold State.applySet
  with_reducible repeat' first | assumption | apply keeps_foldl | apply State.put_keeps | apply State.applied_keeps | (intro t x (ht : Keeps _ t))

theorem State.storeConfig_keeps {s0 s : State} (h : Keeps s0 s) : Keeps s0 (State.storeConfig s) := by
  unfold State.storeConfig
  with_reducible repeat' first | assumption | (apply keeps_with <;> first | rfl | assumption)

end Sys2Proof.Machine
end

