-- ==== Sys2Proof/Laws/KeepsReset.lean ====
section
/-!
SUPPORT. Laws/KeepsReset.lean: every operation of Machine/Reset.lean keeps what `Keeps` says.
-/
namespace Sys2Proof.Machine
open Sys2Proof

theorem State.setBoot_keeps {s0 s : State} (h : Keeps s0 s) (b : Boot) : Keeps s0 (State.setBoot s b) := by
  unfold State.setBoot
  with_reducible repeat' first | assumption | (apply keeps_with <;> first | rfl | assumption)

theorem State.hubReset_keeps {s0 s : State} (h : Keeps s0 s) (power : Bool) : Keeps s0 (s.hubReset power) := by
  refine ⟨h.variant, h.now, h.pending, h.free, fun hd => sparseWf_filter _ _ (h.dict hd), fun hw k => ?_⟩
  have hk := h.banks hw
  simp only [State.bank, State.hubReset, vget, Vector.getElem?_ofFn]
  split
  · have := hk k
    simp only [Option.getD_some, State.bankAfter]
    split <;> split <;> first | exact hk _ | rfl
  · rfl

theorem State.hubResets_keeps {s0 s : State} (h : Keeps s0 s) (power : Bool) : Keeps s0 (State.hubResets s power) := by
  unfold State.hubResets
  with_reducible repeat' first | assumption | apply keeps_ite | apply State.hubReset_keeps | apply State.putN_keeps | apply State.put_keeps | apply State.putB_keeps

theorem State.gasped_keeps {s0 s : State} (h : Keeps s0 s) (b : Bool) : Keeps s0 (State.gasped s b) := by
  unfold State.gasped
  with_reducible repeat' first | assumption | apply State.lastGasp_keeps | (apply keeps_with <;> first | rfl | assumption)

theorem State.lastGasp_keeps {s0 s : State} (h : Keeps s0 s) : Keeps s0 (State.lastGasp s) := by
  unfold State.lastGasp
  with_reducible repeat' first | assumption | apply keeps_ite | apply keeps_foldl | apply State.bump_keeps | apply State.handOverNow_keeps | apply State.moduleStop_keeps | apply State.sendBurstsOf_keeps | apply State.putN_keeps | apply State.islandNote_keeps | apply State.switchOff_keeps | apply State.setHosts_keeps | apply State.commit_keeps | apply State.drainFifo_keeps | apply State.hubResets_keeps | apply State.gasped_keeps | (intro t x (ht : Keeps _ t))

theorem execLastGasp_keeps {s s' : State}  (h : execLastGasp s = .next s') : Keeps s s' := by
  have hs := Keeps.refl s
  unfold execLastGasp at h
  injection h with h
  subst h
  with_reducible repeat' first | assumption | apply State.lastGasp_keeps

theorem State.beginStage_keeps {s0 s : State} (h : Keeps s0 s) (k : Nat) : Keeps s0 (State.beginStage s k) := by
  unfold State.beginStage
  with_reducible repeat' first | assumption | apply State.putN_keeps | apply State.setBoot_keeps

theorem State.endStage_keeps {s0 s : State} (h : Keeps s0 s) (k : Nat) : Keeps s0 (State.endStage s k) := by
  unfold State.endStage
  with_reducible repeat' first | assumption | apply State.putN_keeps | apply State.setBoot_keeps

theorem State.sgbAtStart_keeps {s0 s : State} (h : Keeps s0 s) : Keeps s0 (State.sgbAtStart s) := by
  unfold State.sgbAtStart
  with_reducible repeat' first | assumption | apply keeps_ite | apply State.putN_keeps | apply State.putBit_keeps

theorem State.fromHub_keeps {s0 s : State} (h : Keeps s0 s) : Keeps s0 (State.fromHub s) := by
  unfold State.fromHub
  with_reducible repeat' first | assumption | apply State.sgbAtStart_keeps | apply State.setBoot_keeps | apply State.beginStage_keeps

theorem State.resetNote_keeps {s0 s : State} (h : Keeps s0 s) (source : Nat) (scope : Nat) : Keeps s0 (State.resetNote s source scope) := by
  unfold State.resetNote
  with_reducible repeat' first | assumption | apply State.putN_keeps | apply State.putI_keeps | apply State.note_keeps

theorem State.coldStart_keeps {s0 s : State} (h : Keeps s0 s) (rstLow : Bool) : Keeps s0 (State.coldStart s rstLow) := by
  unfold State.coldStart
  with_reducible repeat' first | assumption | apply keeps_ite | apply State.putN_keeps | apply State.putB_keeps | apply State.setSecurity_keeps | apply State.setBoot_keeps | apply State.beginStage_keeps

theorem execColdStart_keeps {s s' : State} (kind : Fin 3) (inputV : F32) (freq : F32) (power : F32) (energy : F32) (rstLow : Bool) (h : execColdStart kind inputV freq power energy rstLow s = .next s') : Keeps s s' := by
  have hs := Keeps.refl s
  unfold execColdStart at h
  injection h with h
  subst h
  with_reducible repeat' first | assumption | apply keeps_ite | apply keeps_ite_fst | apply State.auxMeasure_keeps | apply State.coldStart_keeps

theorem State.drawDigestKey_keeps {s0 s : State} (h : Keeps s0 s) : Keeps s0 (State.drawDigestKey s) := by
  unfold State.drawDigestKey
  with_reducible repeat' first | assumption | apply State.draw_keeps | (apply keeps_with <;> first | rfl | assumption | apply State.draw_keeps)

theorem State.supplyEnd_keeps {s0 s : State} (h : Keeps s0 s) : Keeps s0 (State.supplyEnd s) := by
  unfold State.supplyEnd
  with_reducible repeat' first | assumption | apply keeps_ite | apply State.endStage_keeps | apply State.drawDigestKey_keeps | apply State.switchOn_keeps | apply State.putN_keeps | apply State.lastGasp_keeps | apply State.bump_keeps | apply State.gasped_keeps | apply State.resetNote_keeps | apply State.setBoot_keeps | apply State.fromHub_keeps

theorem State.refreshSlots_keeps {s0 s : State} (h : Keeps s0 s) : Keeps s0 (State.refreshSlots s) := by
  unfold State.refreshSlots
  with_reducible repeat' first | assumption | apply State.putN_keeps

theorem State.freshNonce_keeps {s0 s : State} (h : Keeps s0 s) (k : Nat) : Keeps s0 (State.freshNonce s k) := by
  unfold State.freshNonce
  with_reducible repeat' first | assumption | apply State.draw_keeps | apply State.put_keeps

theorem State.lateSecurity_keeps {s0 s : State} (h : Keeps s0 s) : Keeps s0 (State.lateSecurity s) := by
  unfold State.lateSecurity
  with_reducible repeat' first | assumption | apply keeps_foldl | apply State.secWipe_keeps | apply State.note_keeps | (apply keeps_with <;> first | rfl | assumption | apply State.secWipe_keeps | apply State.note_keeps) | split | (intro t x (ht : Keeps _ t))

theorem State.recovery_keeps {s0 s : State} (h : Keeps s0 s) : Keeps s0 (State.recovery s) := by
  unfold State.recovery
  with_reducible repeat' first | assumption | apply keeps_foldl | apply State.switchOff_keeps | apply State.putN_keeps | apply State.setBoot_keeps | (intro t x (ht : Keeps _ t))

theorem State.hubEnd_keeps {s0 s : State} (h : Keeps s0 s) (puf : Bool) (slotA : Bool) (slotB : Bool) : Keeps s0 (State.hubEnd s puf slotA slotB) := by
  unfold State.hubEnd
  with_reducible repeat' first | assumption | apply keeps_ite | apply State.endStage_keeps | apply State.putN_keeps | apply State.refreshSlots_keeps | apply State.freshNonce_keeps | apply State.lateSecurity_keeps | apply State.bump_keeps | apply State.occur_keeps | apply State.count_keeps | apply State.note_keeps | apply State.recovery_keeps | (apply keeps_with <;> first | rfl | assumption | apply State.endStage_keeps | apply State.putN_keeps)

theorem State.marchStageEnd_keeps {s0 s : State} (h : Keeps s0 s) (fails : List (Nat × Nat × Nat)) : Keeps s0 (State.marchStageEnd s fails) := by
  unfold State.marchStageEnd
  with_reducible repeat' first | assumption | apply keeps_foldl | apply State.endStage_keeps | apply State.startMarch_keeps | apply State.switchOn_keeps | (intro t x (ht : Keeps _ t))

theorem State.tryLaneBoot_keeps {s0 s : State} (h : Keeps s0 s) : Keeps s0 (State.tryLaneBoot s) := by
  unfold State.tryLaneBoot
  with_reducible repeat' first | assumption | apply keeps_ite | apply State.switchOn_keeps | apply State.beginStage_keeps

theorem State.bootLane_keeps {s0 s : State} (h : Keeps s0 s) (l : Lane) (ok : Bool) : Keeps s0 (State.bootLane s l ok) := by
  unfold State.bootLane
  with_reducible repeat' first | assumption | apply keeps_ite | apply State.laneBooted_keeps | (apply keeps_with <;> first | rfl | assumption)

theorem State.notReady_keeps {s0 s : State} (h : Keeps s0 s) (cause : Nat) : Keeps s0 (State.notReady s cause) := by
  unfold State.notReady
  with_reducible repeat' first | assumption | apply State.putN_keeps

theorem State.laneBootEnd_keeps {s0 s : State} (h : Keeps s0 s) (okA : Bool) (okB : Bool) : Keeps s0 (State.laneBootEnd s okA okB) := by
  unfold State.laneBootEnd
  with_reducible repeat' first | assumption | apply keeps_ite | apply State.endStage_keeps | apply State.bootLane_keeps | apply State.beginStage_keeps | apply State.notReady_keeps | apply State.setBoot_keeps

theorem State.afterTimebase_keeps {s0 s : State} (h : Keeps s0 s) : Keeps s0 (State.afterTimebase s) := by
  unfold State.afterTimebase
  with_reducible repeat' first | assumption | apply State.setBoot_keeps | apply State.beginStage_keeps

theorem State.dictLoadEnd_keeps {s0 s : State} (h : Keeps s0 s) (fails : List (Nat × Nat × Nat)) : Keeps s0 (State.dictLoadEnd s fails) := by
  unfold State.dictLoadEnd
  with_reducible repeat' first | assumption | apply keeps_ite | apply State.endStage_keeps | apply State.putN_keeps | apply State.applySet_keeps | apply State.divLoaded_keeps | apply State.setBoot_keeps | apply State.beginStage_keeps | apply State.afterTimebase_keeps

theorem State.laneSync_keeps {s0 s : State} (h : Keeps s0 s) : Keeps s0 (State.laneSync s) := by
  unfold State.laneSync
  with_reducible repeat' first | assumption | apply keeps_ite | apply State.beginStage_keeps | apply State.draw_keeps | apply State.putN_keeps | apply State.serve_keeps | apply State.setLane_keeps | apply State.refreshClaims_keeps

theorem State.ready_keeps {s0 s : State} (h : Keeps s0 s) : Keeps s0 (State.ready s) := by
  unfold State.ready
  with_reducible repeat' first | assumption | apply keeps_ite | apply State.endStage_keeps | apply State.beginStage_keeps | apply State.putB_keeps | apply State.putN_keeps | apply State.setBoot_keeps | apply State.occur_keeps | apply State.count_keeps | apply State.setPr_keeps

theorem State.tryLaneSync_keeps {s0 s : State} (h : Keeps s0 s) : Keeps s0 (State.tryLaneSync s) := by
  unfold State.tryLaneSync
  with_reducible repeat' first | assumption | apply keeps_ite | apply State.laneSync_keeps

theorem State.bootStageEnd_keeps {s0 s : State} (h : Keeps s0 s) (k : Nat) (f : StageFound) : Keeps s0 (State.bootStageEnd s k f) := by
  unfold State.bootStageEnd
  with_reducible repeat' first | assumption | apply keeps_ite | apply State.supplyEnd_keeps | apply State.hubEnd_keeps | apply State.tryLaneBoot_keeps | apply State.marchStageEnd_keeps | apply State.laneBootEnd_keeps | apply State.dictLoadEnd_keeps | apply State.endStage_keeps | apply State.putN_keeps | apply State.afterTimebase_keeps | apply State.tryLaneSync_keeps | apply State.ready_keeps | split

theorem execBootStageEnd_keeps {s s' : State} (stage : Fin 11) (found : StageFound) (h : execBootStageEnd stage found s = .next s') : Keeps s s' := by
  have hs := Keeps.refl s
  unfold execBootStageEnd at h
  injection h with h
  subst h
  with_reducible repeat' first | assumption | apply State.bootStageEnd_keeps

theorem State.timeWaitExpired_keeps {s0 s : State} (h : Keeps s0 s) : Keeps s0 (State.timeWaitExpired s) := by
  unfold State.timeWaitExpired
  with_reducible repeat' first | assumption | apply keeps_ite | apply State.endStage_keeps | apply State.tryLaneSync_keeps

theorem execTimeWaitExpired_keeps {s s' : State}  (h : execTimeWaitExpired s = .next s') : Keeps s s' := by
  have hs := Keeps.refl s
  unfold execTimeWaitExpired at h
  injection h with h
  subst h
  with_reducible repeat' first | assumption | apply State.timeWaitExpired_keeps

theorem State.timebaseTimeout_keeps {s0 s : State} (h : Keeps s0 s) : Keeps s0 (State.timebaseTimeout s) := by
  unfold State.timebaseTimeout
  with_reducible repeat' first | assumption | apply keeps_ite | apply State.notReady_keeps

theorem execBootTimebaseTimeout_keeps {s s' : State}  (h : execBootTimebaseTimeout s = .next s') : Keeps s s' := by
  have hs := Keeps.refl s
  unfold execBootTimebaseTimeout at h
  injection h with h
  subst h
  with_reducible repeat' first | assumption | apply State.timebaseTimeout_keeps

theorem State.resetNow_keeps {s0 s : State} (h : Keeps s0 s) (source : Nat) : Keeps s0 (State.resetNow s source) := by
  unfold State.resetNow
  with_reducible repeat' first | assumption | apply keeps_ite | apply keeps_foldl | apply State.bump_keeps | apply State.resetNote_keeps | apply State.stopOutputs_keeps | apply State.hubResets_keeps | apply State.putN_keeps | apply State.closeSessions_keeps | apply State.switchOff_keeps | apply State.setBoot_keeps | apply State.fromHub_keeps | (apply keeps_with <;> first | rfl | assumption | apply State.bump_keeps | apply State.resetNote_keeps | apply State.stopOutputs_keeps | apply State.hubResets_keeps) | (intro t x (ht : Keeps _ t))

theorem State.requestReset_keeps {s0 s : State} (h : Keeps s0 s) (source : Nat) : Keeps s0 (State.requestReset s source) := by
  unfold State.requestReset
  with_reducible repeat' first | assumption | apply keeps_ite | apply State.setBoot_keeps | apply State.announceHandover_keeps | apply State.moduleStop_keeps | apply State.sendBurstsOf_keeps

theorem State.takeReset_keeps {s0 s : State} (h : Keeps s0 s) : Keeps s0 (State.takeReset s) := by
  unfold State.takeReset
  with_reducible repeat' first | assumption | apply keeps_ite | apply State.resetNow_keeps | split

theorem State.resetCmdModule_keeps {s0 s : State} (h : Keeps s0 s) : Keeps s0 (State.resetCmdModule s).1 := by
  unfold State.resetCmdModule
  with_reducible repeat' first | assumption | apply State.requestReset_keeps

theorem execResetCmdModule_keeps {s s' : State} (session : Nat) (h : execResetCmdModule session s = .next s') : Keeps s s' := by
  have hs := Keeps.refl s
  unfold execResetCmdModule at h
  injection h with h
  subst h
  with_reducible repeat' first | assumption | apply State.command_keeps | apply State.resetCmdModule_keeps | apply State.takeReset_keeps

theorem State.laneOn_keeps {s0 s : State} (h : Keeps s0 s) (l : Lane) : Keeps s0 (State.laneOn s l) := by
  unfold State.laneOn
  with_reducible repeat' first | assumption | apply keeps_ite | apply State.switchOn_keeps

theorem State.laneDown_keeps {s0 s : State} (h : Keeps s0 s) (l : Lane) : Keeps s0 (State.laneDown s l) := by
  unfold State.laneDown
  with_reducible repeat' first | assumption | apply State.switchOff_keeps

theorem State.laneReset_keeps {s0 s : State} (h : Keeps s0 s) (l : Lane) (source : Nat) : Keeps s0 (State.laneReset s l source) := by
  unfold State.laneReset
  with_reducible repeat' first | assumption | apply State.bump_keeps | apply State.resetNote_keeps | apply State.laneDown_keeps | apply State.laneOn_keeps

theorem State.resetCmdLane_keeps {s0 s : State} (h : Keeps s0 s) (l : Lane) : Keeps s0 (State.resetCmdLane s l).1 := by
  unfold State.resetCmdLane
  with_reducible repeat' first | assumption | apply keeps_ite | apply keeps_ite_fst | apply State.announceSwap_keeps | apply State.laneReset_keeps | (apply keeps_with <;> first | rfl | assumption | apply State.announceSwap_keeps)

theorem execResetCmdLane_keeps {s s' : State} (session : Nat) (lane : Lane) (h : execResetCmdLane session lane s = .next s') : Keeps s s' := by
  have hs := Keeps.refl s
  unfold execResetCmdLane at h
  injection h with h
  subst h
  with_reducible repeat' first | assumption | apply State.command_keeps | apply State.resetCmdLane_keeps | (intro t x (ht : Keeps _ t)) | (intro t (ht : Keeps _ t))

theorem State.afterSwap_keeps {s0 s : State} (h : Keeps s0 s) : Keeps s0 (State.afterSwap s) := by
  unfold State.afterSwap
  with_reducible repeat' first | assumption | apply keeps_ite | apply keeps_foldl | apply State.laneReset_keeps | apply State.retainDomain_keeps | apply State.switchOff_keeps | (apply keeps_with <;> first | rfl | assumption | apply State.laneReset_keeps | apply State.retainDomain_keeps | apply State.switchOff_keeps) | split | (intro t x (ht : Keeps _ t))

theorem State.countSwitch_keeps {s0 s : State} (h : Keeps s0 s) : Keeps s0 (State.countSwitch s) := by
  unfold State.countSwitch
  with_reducible repeat' first | assumption | apply keeps_ite | apply State.commit_keeps | apply State.draw_keeps | apply State.setHosts_keeps | apply State.setPr_keeps | split

theorem State.frameBoundaryAll_keeps {s0 s : State} (h : Keeps s0 s) : Keeps s0 (State.frameBoundaryAll s) := by
  unfold State.frameBoundaryAll
  with_reducible repeat' first | assumption | apply keeps_ite | apply State.frameBoundary_keeps | apply State.countSwitch_keeps | apply State.afterSwap_keeps | apply State.takeReset_keeps

theorem execFrameBoundary_keeps {s s' : State}  (h : execFrameBoundary s = .next s') : Keeps s s' := by
  have hs := Keeps.refl s
  unfold execFrameBoundary at h
  injection h with h
  subst h
  with_reducible repeat' first | assumption | apply State.frameBoundaryAll_keeps

theorem State.rstAssert_keeps {s0 s : State} (h : Keeps s0 s) : Keeps s0 (State.rstAssert s) := by
  unfold State.rstAssert
  with_reducible repeat' first | assumption | apply keeps_ite | apply State.putB_keeps | apply State.setBoot_keeps | apply State.requestReset_keeps | apply State.takeReset_keeps | apply State.bump_keeps | apply State.resetNote_keeps | apply State.laneDown_keeps | split

theorem execRstNAssert_keeps {s s' : State}  (h : execRstNAssert s = .next s') : Keeps s s' := by
  have hs := Keeps.refl s
  unfold execRstNAssert at h
  injection h with h
  subst h
  with_reducible repeat' first | assumption | apply State.rstAssert_keeps

theorem State.rstStart_keeps {s0 s : State} (h : Keeps s0 s) : Keeps s0 (State.rstStart s) := by
  unfold State.rstStart
  with_reducible repeat' first | assumption | apply keeps_ite | apply State.setBoot_keeps | apply State.fromHub_keeps | apply State.laneOn_keeps

theorem State.rstRelease_keeps {s0 s : State} (h : Keeps s0 s) : Keeps s0 (State.rstRelease s) := by
  unfold State.rstRelease
  with_reducible repeat' first | assumption | apply keeps_ite | apply State.putB_keeps | apply State.setBoot_keeps | apply State.rstStart_keeps

theorem execRstNRelease_keeps {s s' : State}  (h : execRstNRelease s = .next s') : Keeps s s' := by
  have hs := Keeps.refl s
  unfold execRstNRelease at h
  injection h with h
  subst h
  with_reducible repeat' first | assumption | apply State.rstRelease_keeps

theorem State.rstStuck_keeps {s0 s : State} (h : Keeps s0 s) : Keeps s0 (State.rstStuck s) := by
  unfold State.rstStuck
  with_reducible repeat' first | assumption | apply keeps_ite | apply State.putB_keeps | apply State.note_keeps | apply State.rstStart_keeps

theorem execRstStuck_keeps {s s' : State}  (h : execRstStuck s = .next s') : Keeps s s' := by
  have hs := Keeps.refl s
  unfold execRstStuck at h
  injection h with h
  subst h
  with_reducible repeat' first | assumption | apply State.rstStuck_keeps

theorem State.rstUnstuck_keeps {s0 s : State} (h : Keeps s0 s) : Keeps s0 (State.rstUnstuck s) := by
  unfold State.rstUnstuck
  with_reducible repeat' first | assumption | apply keeps_ite | apply State.putB_keeps | apply State.note_keeps

theorem execRstStuckRelease_keeps {s s' : State}  (h : execRstStuckRelease s = .next s') : Keeps s s' := by
  have hs := Keeps.refl s
  unfold execRstStuckRelease at h
  injection h with h
  subst h
  with_reducible repeat' first | assumption | apply State.rstUnstuck_keeps

theorem State.prStart_keeps {s0 s : State} (h : Keeps s0 s) (b : Nat) : Keeps s0 (State.prStart s b) := by
  unfold State.prStart
  with_reducible repeat' first | assumption | apply State.putBit_keeps | apply State.setBoot_keeps

theorem State.prCmd_keeps {s0 s : State} (h : Keeps s0 s) (b : Nat) : Keeps s0 (State.prCmd s b).1 := by
  unfold State.prCmd
  with_reducible repeat' first | assumption | apply keeps_ite | apply keeps_ite_fst | apply State.prStart_keeps

theorem execPartialResetCmd_keeps {s s' : State} (session : Nat) (block : Nat) (h : execPartialResetCmd session block s = .next s') : Keeps s s' := by
  have hs := Keeps.refl s
  unfold execPartialResetCmd at h
  injection h with h
  subst h
  with_reducible repeat' first | assumption | apply State.command_keeps | apply State.prCmd_keeps | (intro t x (ht : Keeps _ t)) | (intro t (ht : Keeps _ t))

theorem State.prAction_keeps {s0 s : State} (h : Keeps s0 s) (b : Nat) : Keeps s0 (State.prAction s b) := by
  unfold State.prAction
  with_reducible repeat' first | assumption | apply keeps_ite | apply State.actOnMarks_keeps | apply State.captureOff_keeps | apply State.stepAll_keeps | apply State.canLeaves_keeps | apply State.setPort_keeps | apply State.refreshPort_keeps | split

theorem State.prDrainEnd_keeps {s0 s : State} (h : Keeps s0 s) (b : Nat) (targets : Nat) (discards : Nat) : Keeps s0 (State.prDrainEnd s b targets discards) := by
  unfold State.prDrainEnd
  with_reducible repeat' first | assumption | apply keeps_ite | apply State.setBoot_keeps | apply State.fenceBlock_keeps | apply State.count_keeps | apply State.prAction_keeps | split

theorem execPrDrainEnd_keeps {s s' : State} (block : Fin 10) (targetResets : Nat) (discards : Nat) (h : execPrDrainEnd block targetResets discards s = .next s') : Keeps s s' := by
  have hs := Keeps.refl s
  unfold execPrDrainEnd at h
  injection h with h
  subst h
  with_reducible repeat' first | assumption | apply State.prDrainEnd_keeps

theorem State.prRunning_keeps {s0 s : State} (h : Keeps s0 s) (b : Nat) : Keeps s0 (State.prRunning s b) := by
  unfold State.prRunning
  with_reducible repeat' first | assumption | apply keeps_ite | apply State.endReset_keeps | apply State.bump_keeps | apply State.note_keeps | apply State.setBoot_keeps | split

theorem execPrBlockRunning_keeps {s s' : State} (block : Fin 10) (h : execPrBlockRunning block s = .next s') : Keeps s s' := by
  have hs := Keeps.refl s
  unfold execPrBlockRunning at h
  injection h with h
  subst h
  with_reducible repeat' first | assumption | apply State.prRunning_keeps

theorem State.wdNote_keeps {s0 s : State} (h : Keeps s0 s) (u : Nat) : Keeps s0 (State.wdNote s u) := by
  unfold State.wdNote
  with_reducible repeat' first | assumption | apply State.bump_keeps | apply State.note_keeps

theorem State.wdBlock_keeps {s0 s : State} (h : Keeps s0 s) (u : Nat) (b : Nat) : Keeps s0 (State.wdBlock s u b) := by
  unfold State.wdBlock
  with_reducible repeat' first | assumption | apply keeps_ite | apply State.wdNote_keeps | apply State.requestReset_keeps | apply State.takeReset_keeps | apply State.prStart_keeps | apply State.setBoot_keeps

theorem State.watchdog_keeps {s0 s : State} (h : Keeps s0 s) (u : Nat) : Keeps s0 (State.watchdog s u) := by
  unfold State.watchdog
  with_reducible repeat' first | assumption | apply keeps_ite | apply State.wdNote_keeps | apply State.requestReset_keeps | apply State.takeReset_keeps | apply State.diagFailed_keeps | apply State.wdBlock_keeps | split

theorem execWatchdog_keeps {s s' : State} (unit : Fin 9) (h : execWatchdog unit s = .next s') : Keeps s s' := by
  have hs := Keeps.refl s
  unfold execWatchdog at h
  injection h with h
  subst h
  with_reducible repeat' first | assumption | apply State.watchdog_keeps

theorem State.mConnected_keeps {s0 s : State} (h : Keeps s0 s) (up : Bool) : Keeps s0 (State.mConnected s up) := by
  unfold State.mConnected
  with_reducible repeat' first | assumption | apply keeps_ite | apply State.putB_keeps | apply State.bump_keeps | apply State.closeSession_keeps

theorem execMConnected_keeps {s s' : State} (up : Bool) (h : execMConnected up s = .next s') : Keeps s s' := by
  have hs := Keeps.refl s
  unfold execMConnected at h
  injection h with h
  subst h
  with_reducible repeat' first | assumption | apply State.mConnected_keeps

end Sys2Proof.Machine
end

