-- ==== Sys2Proof/Laws/KeepsSecurity.lean ====
section
/-!
SUPPORT. Laws/KeepsSecurity.lean: every operation of Machine/Security.lean keeps what `Keeps` says.
-/
namespace Sys2Proof.Machine
open Sys2Proof

theorem State.attest_keeps {s0 s : State} (h : Keeps s0 s) (session : Nat) (challenge : List Byte) : Keeps s0 (State.attest s session challenge).1 := by
  unfold State.attest
  with_reducible repeat' first | assumption | apply keeps_ite | apply keeps_ite_fst | apply State.setSecurity_keeps | split

theorem execAttestChallenge_keeps {s s' : State} (session : Nat) (challenge : List Byte) (h : execAttestChallenge session challenge s = .next s') : Keeps s s' := by
  have hs := Keeps.refl s
  unfold execAttestChallenge at h
  injection h with h
  subst h
  with_reducible repeat' first | assumption | apply keeps_ite | apply keeps_ite_fst | apply State.serveCommand_keeps | apply State.attest_keeps | split | (intro t x (ht : Keeps _ t)) | (intro t (ht : Keeps _ t))

theorem State.attestReady_keeps {s0 s : State} (h : Keeps s0 s) (session : Nat) : Keeps s0 (State.attestReady s session) := by
  unfold State.attestReady
  with_reducible repeat' first | assumption | apply State.attest_keeps | apply State.setSecurity_keeps | split | intro _ | lift_lets -underBinder

theorem execAttestResponseReady_keeps {s s' : State} (session : Nat) (h : execAttestResponseReady session s = .next s') : Keeps s s' := by
  have hs := Keeps.refl s
  unfold execAttestResponseReady at h
  injection h with h
  subst h
  with_reducible repeat' first | assumption | apply State.attestReady_keeps

theorem State.dropUnaccepted_keeps {s0 s : State} (h : Keeps s0 s) : Keeps s0 (State.dropUnaccepted s) := by
  unfold State.dropUnaccepted
  with_reducible repeat' first | assumption | apply State.expel_keeps | apply State.setHosts_keeps

theorem State.certChange_keeps {s0 s : State} (h : Keeps s0 s) (session : Nat) (target : Nat) (data : List Byte) : Keeps s0 (State.certChange s session target data).1 := by
  unfold State.certChange
  with_reducible repeat' first | assumption | apply keeps_ite | apply keeps_ite_fst | apply State.put_keeps | apply State.putN_keeps | apply State.occur_keeps | apply State.dropUnaccepted_keeps

theorem execCertChange_keeps {s s' : State} (session : Nat) (target : Fin 5) (data : List Byte) (h : execCertChange session target data s = .next s') : Keeps s s' := by
  have hs := Keeps.refl s
  unfold execCertChange at h
  injection h with h
  subst h
  with_reducible repeat' first | assumption | apply State.command_keeps | apply State.certChange_keeps | (intro t x (ht : Keeps _ t)) | (intro t (ht : Keeps _ t))

theorem State.loadEnds_keeps {s0 s : State} (h : Keeps s0 s) (st : Nat) (x : ImageSlot) : Keeps s0 (State.loadEnds s st x) := by
  unfold State.loadEnds
  with_reducible repeat' first | assumption | apply State.setSecurity_keeps | apply State.putN_keeps | apply State.refreshSlots_keeps

theorem State.imageSegment_keeps {s0 s : State} (h : Keeps s0 s) (session : Nat) (offset : Nat) (size : Nat) (last : Bool) (found : ImageInfo) : Keeps s0 (State.imageSegment s session offset size last found).1 := by
  unfold State.imageSegment
  with_reducible repeat' first | assumption | apply keeps_ite | apply keeps_ite_fst | apply State.loadEnds_keeps | apply State.setSecurity_keeps

theorem execFwImageLoad_keeps {s s' : State} (session : Nat) (offset : Nat) (size : Nat) (last : Bool) (found : ImageInfo) (h : execFwImageLoad session offset size last found s = .next s') : Keeps s s' := by
  have hs := Keeps.refl s
  unfold execFwImageLoad at h
  injection h with h
  subst h
  with_reducible repeat' first | assumption | apply keeps_ite | apply keeps_ite_fst | apply State.serveCommand_keeps | apply State.imageSegment_keeps | split | (intro t x (ht : Keeps _ t)) | (intro t (ht : Keeps _ t))

theorem State.imageCommand_keeps {s0 s : State} (h : Keeps s0 s) (session : Nat) (refusal : Option Reply) {act : State → State × Reply}
    (ha : ∀ t, Keeps s0 t → Keeps s0 (act t).1) : Keeps s0 (s.imageCommand session refusal act) := State.serveCommand_keeps h _ _ _ ha

theorem State.activateLane_keeps {s0 s : State} (h : Keeps s0 s) (l : Lane) : Keeps s0 (State.activateLane s l).1 := by
  unfold State.activateLane
  with_reducible repeat' first | assumption | apply keeps_ite | apply keeps_ite_fst | apply State.laneOff_keeps | apply State.setSecurity_keeps

theorem execFwActivateLane_keeps {s s' : State} (session : Nat) (lane : Lane) (h : execFwActivateLane session lane s = .next s') : Keeps s s' := by
  have hs := Keeps.refl s
  unfold execFwActivateLane at h
  injection h with h
  subst h
  with_reducible repeat' first | assumption | apply State.imageCommand_keeps | apply State.activateLane_keeps | (intro t x (ht : Keeps _ t)) | (intro t (ht : Keeps _ t))

theorem State.activateModule_keeps {s0 s : State} (h : Keeps s0 s) : Keeps s0 (State.activateModule s).1 := by
  unfold State.activateModule
  with_reducible repeat' first | assumption | apply keeps_ite | apply keeps_ite_fst | apply State.putN_keeps | apply State.requestReset_keeps

theorem execFwActivateModule_keeps {s s' : State} (session : Nat) (h : execFwActivateModule session s = .next s') : Keeps s s' := by
  have hs := Keeps.refl s
  unfold execFwActivateModule at h
  injection h with h
  subst h
  with_reducible repeat' first | assumption | apply State.imageCommand_keeps | apply State.activateModule_keeps | apply State.takeReset_keeps

theorem State.fwAccept_keeps {s0 s : State} (h : Keeps s0 s) : Keeps s0 (State.fwAccept s).1 := by
  unfold State.fwAccept
  with_reducible repeat' first | assumption | apply keeps_ite | apply keeps_ite_fst | apply State.putN_keeps

theorem execFwAccept_keeps {s s' : State} (session : Nat) (h : execFwAccept session s = .next s') : Keeps s s' := by
  have hs := Keeps.refl s
  unfold execFwAccept at h
  injection h with h
  subst h
  with_reducible repeat' first | assumption | apply State.imageCommand_keeps | apply State.fwAccept_keeps

theorem State.tamper_keeps {s0 s : State} (h : Keeps s0 s) (i : Nat) (isPresent : Bool) : Keeps s0 (State.tamper s i isPresent) := by
  unfold State.tamper
  with_reducible repeat' first | assumption | apply keeps_ite | apply State.setSecurity_keeps | apply State.tamperDetect_keeps | apply State.secWipe_keeps | apply State.putBit_keeps

theorem execTamper_keeps {s s' : State} (source : Fin 5) (isPresent : Bool) (h : execTamper source isPresent s = .next s') : Keeps s s' := by
  have hs := Keeps.refl s
  unfold execTamper at h
  injection h with h
  subst h
  with_reducible repeat' first | assumption | apply State.tamper_keeps

theorem State.tamperClear_keeps {s0 s : State} (h : Keeps s0 s) (mask : Nat) : Keeps s0 (State.tamperClear s mask).1 := by
  unfold State.tamperClear
  with_reducible repeat' first | assumption | apply keeps_ite | apply keeps_ite_fst | apply keeps_foldl | apply State.putN_keeps

theorem execTamperClear_keeps {s s' : State} (session : Nat) (mask : BitVec 8) (h : execTamperClear session mask s = .next s') : Keeps s s' := by
  have hs := Keeps.refl s
  unfold execTamperClear at h
  injection h with h
  subst h
  with_reducible repeat' first | assumption | apply State.command_keeps | apply State.tamperClear_keeps | (intro t x (ht : Keeps _ t)) | (intro t (ht : Keeps _ t))

theorem State.transition_keeps {s0 s : State} (h : Keeps s0 s) (lcTo : Nat) (session : Nat) : Keeps s0 (State.transition s lcTo session) := by
  unfold State.transition
  with_reducible repeat' first | assumption | apply keeps_ite | apply State.secWipe_keeps | apply State.expel_keeps | apply State.putN_keeps | apply State.setSecurity_keeps | apply State.occur_keeps

theorem State.lcRequest_keeps {s0 s : State} (h : Keeps s0 s) (req : Nat) (session : Nat) : Keeps s0 (State.lcRequest s req session).1 := by
  unfold State.lcRequest
  with_reducible repeat' first | assumption | apply keeps_ite | apply keeps_ite_fst | apply State.freshNonce_keeps | apply State.setSecurity_keeps

theorem execLcReqReturn_keeps {s s' : State} (session : Nat) (h : execLcReqReturn session s = .next s') : Keeps s s' := by
  have hs := Keeps.refl s
  unfold execLcReqReturn at h
  injection h with h
  subst h
  with_reducible repeat' first | assumption | apply State.command_keeps | apply State.lcRequest_keeps | (intro t x (ht : Keeps _ t)) | (intro t (ht : Keeps _ t))

theorem execLcReqSanitised_keeps {s s' : State} (session : Nat) (h : execLcReqSanitised session s = .next s') : Keeps s s' := by
  have hs := Keeps.refl s
  unfold execLcReqSanitised at h
  injection h with h
  subst h
  with_reducible repeat' first | assumption | apply State.command_keeps | apply State.lcRequest_keeps | (intro t x (ht : Keeps _ t)) | (intro t (ht : Keeps _ t))

theorem execLcReqRetired_keeps {s s' : State} (session : Nat) (h : execLcReqRetired session s = .next s') : Keeps s s' := by
  have hs := Keeps.refl s
  unfold execLcReqRetired at h
  injection h with h
  subst h
  with_reducible repeat' first | assumption | apply State.command_keeps | apply State.lcRequest_keeps | (intro t x (ht : Keeps _ t)) | (intro t (ht : Keeps _ t))

theorem State.lcEnd_keeps {s0 s : State} (h : Keeps s0 s) : Keeps s0 (State.lcEnd s) := by
  unfold State.lcEnd
  with_reducible repeat' first | assumption | apply State.setSecurity_keeps

theorem State.lcConfirm_keeps {s0 s : State} (h : Keeps s0 s) (session : Nat) (nonce : List Byte) : Keeps s0 (State.lcConfirm s session nonce).1 := by
  unfold State.lcConfirm
  with_reducible repeat' first | assumption | apply keeps_ite | apply keeps_ite_fst | apply State.transition_keeps | apply State.lcEnd_keeps | (apply keeps_with <;> first | rfl | assumption | apply State.transition_keeps | apply State.lcEnd_keeps) | split

theorem execLcConfirm_keeps {s s' : State} (session : Nat) (nonce : List Byte) (h : execLcConfirm session nonce s = .next s') : Keeps s s' := by
  have hs := Keeps.refl s
  unfold execLcConfirm at h
  injection h with h
  subst h
  with_reducible repeat' first | assumption | apply State.command_keeps | apply State.lcConfirm_keeps | (intro t x (ht : Keeps _ t)) | (intro t (ht : Keeps _ t))

theorem State.lcExpiry_keeps {s0 s : State} (h : Keeps s0 s) : Keeps s0 (State.lcExpiry s) := by
  unfold State.lcExpiry
  with_reducible repeat' first | assumption | apply keeps_ite | apply State.lcEnd_keeps | split

theorem execLcReqExpiry_keeps {s s' : State}  (h : execLcReqExpiry s = .next s') : Keeps s s' := by
  have hs := Keeps.refl s
  unfold execLcReqExpiry at h
  injection h with h
  subst h
  with_reducible repeat' first | assumption | apply State.lcExpiry_keeps

theorem State.vendorToken_keeps {s0 s : State} (h : Keeps s0 s) (session : Nat) (token : List Byte) (signedOk : Bool) : Keeps s0 (State.vendorToken s session token signedOk).1 := by
  unfold State.vendorToken
  with_reducible repeat' first | assumption | apply keeps_ite | apply keeps_ite_fst | apply State.freshNonce_keeps | apply State.occur_keeps | apply State.setSecurity_keeps | apply State.transition_keeps | apply State.recUnfreeze_keeps | split

theorem execVendorUnlock_keeps {s s' : State} (session : Nat) (token : List Byte) (signed : Bool) (h : execVendorUnlock session token signed s = .next s') : Keeps s s' := by
  have hs := Keeps.refl s
  unfold execVendorUnlock at h
  injection h with h
  subst h
  with_reducible repeat' first | assumption | apply State.command_keeps | apply State.vendorToken_keeps | (intro t x (ht : Keeps _ t)) | (intro t (ht : Keeps _ t))

theorem execVendorRecommission_keeps {s s' : State} (session : Nat) (token : List Byte) (signed : Bool) (h : execVendorRecommission session token signed s = .next s') : Keeps s s' := by
  have hs := Keeps.refl s
  unfold execVendorRecommission at h
  injection h with h
  subst h
  with_reducible repeat' first | assumption | apply State.command_keeps | apply State.vendorToken_keeps | (intro t x (ht : Keeps _ t)) | (intro t (ht : Keeps _ t))

end Sys2Proof.Machine
end

