-- ==== Sys2Proof/Laws/KeepsEntry.lean ====
section
/-!
SUPPORT. Laws/KeepsEntry.lean: every operation of Machine/Entry.lean keeps what `Keeps` says.
-/
namespace Sys2Proof.Machine
open Sys2Proof

theorem State.readEffect_keeps {s0 s : State} (h : Keeps s0 s) (session : Nat) (index : Nat) (sub : Nat) : Keeps s0 (State.readEffect s session index sub) := by
  unfold State.readEffect
  with_reducible repeat' first | assumption | apply keeps_ite | apply State.rxRead_keeps | apply State.rwsAccess_keeps

theorem State.readAfter_keeps {s0 s : State} (h : Keeps s0 s) (index : Nat) (sub : Nat) : Keeps s0 (State.readAfter s index sub) := by
  unfold State.readAfter
  with_reducible repeat' first | assumption | apply keeps_ite | apply State.putBit_keeps

theorem State.plainRead_keeps {s0 s : State} (h : Keeps s0 s) (session : Nat) (index : Nat) (sub : Nat) (offset : Nat) : Keeps s0 (State.plainRead s session index sub offset).1 := by
  unfold State.plainRead
  with_reducible repeat' first | assumption | apply State.readEffect_keeps | apply State.readAfter_keeps

theorem State.readEntry_keeps {s0 s : State} (h : Keeps s0 s) (session : Nat) (index : Nat) (sub : Nat) (offset : Nat) (staged : Bool) : Keeps s0 (State.readEntry s session index sub offset staged).1 := by
  unfold State.readEntry
  with_reducible repeat' first | assumption | apply keeps_ite | apply keeps_ite_fst | apply State.captData_keeps | apply State.plainRead_keeps | split

end Sys2Proof.Machine
end

