-- ==== Sys2Proof/Laws/KeepsCommit.lean ====
section
/-!
SUPPORT. Laws/KeepsCommit.lean: every operation of Machine/Commit.lean keeps what `Keeps` says.
-/
namespace Sys2Proof.Machine
open Sys2Proof

theorem State.stage_keeps {s0 s : State} (h : Keeps s0 s) (session : Nat) (k : Nat) (v : Val) : Keeps s0 (State.stage s session k v).1 := by
  unfold State.stage
  with_reducible repeat' first | assumption | apply keeps_ite | apply keeps_ite_fst | apply keeps_foldl | apply State.setHost_keeps

theorem State.unstage_keeps {s0 s : State} (h : Keeps s0 s) (session : Nat) : Keeps s0 (State.unstage s session) := by
  unfold State.unstage
  with_reducible repeat' first | assumption | apply State.setHost_keeps

theorem State.discard_keeps {s0 s : State} (h : Keeps s0 s) (session : Nat) : Keeps s0 (State.discard s session).1 := by
  unfold State.discard
  with_reducible repeat' first | assumption | apply State.unstage_keeps

theorem execDictDiscard_keeps {s s' : State} (session : Nat) (h : execDictDiscard session s = .next s') : Keeps s s' := by
  have hs := Keeps.refl s
  unfold execDictDiscard at h
  injection h with h
  subst h
  with_reducible repeat' first | assumption | apply State.command_keeps | apply State.discard_keeps | (intro t x (ht : Keeps _ t)) | (intro t (ht : Keeps _ t))

theorem State.withSet_keeps {s0 s : State} (h : Keeps s0 s) (set : List (Nat × Val)) : Keeps s0 (State.withSet s set) := by
  unfold State.withSet
  with_reducible repeat' first | assumption | apply keeps_foldl | apply State.put_keeps | (intro t x (ht : Keeps _ t))

theorem State.admitSet_keeps {s0 s : State} (h : Keeps s0 s) (c : State) : Keeps s0 (State.admitSet s c).1 := by
  unfold State.admitSet
  with_reducible repeat' first | assumption | apply State.putN_keeps | apply State.note_keeps | split | intro _ | lift_lets -underBinder

theorem State.commitChecks_keeps {s0 s : State} (h : Keeps s0 s) (session : Nat) : Keeps s0 (State.commitChecks s session).1 := by
  unfold State.commitChecks
  with_reducible repeat' first | assumption | apply State.withSet_keeps | apply State.occur_keeps | apply State.admitSet_keeps | split | (intro z; apply keeps_cut (z := z)) | (intro hz; clear_value z) | intro _ | lift_lets -underBinder | refine keeps_of_fst (by assumption) ?_

theorem State.commit_keeps {s0 s : State} (h : Keeps s0 s) (q : Request) : Keeps s0 (State.commit s q).1 := by
  unfold State.commit
  with_reducible repeat' first | assumption | apply keeps_ite | apply keeps_ite_fst | apply State.putN_keeps | apply State.commitChecks_keeps | apply State.draw_keeps | apply State.setHosts_keeps | split | intro _ | lift_lets -underBinder | refine keeps_of_fst (by assumption) ?_

theorem State.setSwitches_keeps {s0 s : State} (h : Keeps s0 s) (session : Nat) (set : List (Nat × Val)) : Keeps s0 (State.setSwitches s session set) := by
  unfold State.setSwitches
  with_reducible repeat' first | assumption | apply keeps_foldl | apply State.setHosts_keeps | apply State.putN_keeps | apply State.putI_keeps | apply State.occur_keeps

theorem State.commitEnds_keeps {s0 s : State} (h : Keeps s0 s) (c : CommitRun) (r : Reply) : Keeps s0 (State.commitEnds s c r) := by
  unfold State.commitEnds
  with_reducible repeat' first | assumption | apply keeps_ite | apply State.setHosts_keeps | apply State.commit_keeps | apply State.putN_keeps | apply State.answer_keeps | apply State.finish_keeps

theorem State.ownSwitch_keeps {s0 s : State} (h : Keeps s0 s) (c : CommitRun) (fails : List (Nat × Nat × Nat)) : Keeps s0 (State.ownSwitch s c fails) := by
  unfold State.ownSwitch
  with_reducible repeat' first | assumption | apply keeps_ite | apply State.answer_keeps | apply State.unstage_keeps | apply State.setSwitches_keeps | apply State.commitEnds_keeps | apply State.applySet_keeps | apply State.storeConfig_keeps

theorem State.mirroredSwitch_keeps {s0 s : State} (h : Keeps s0 s) (fails : List (Nat × Nat × Nat)) : Keeps s0 (State.mirroredSwitch s fails) := by
  unfold State.mirroredSwitch
  with_reducible repeat' first | assumption | apply keeps_ite | apply State.setPr_keeps | apply State.setSwitches_keeps | apply State.applySet_keeps | apply State.storeConfig_keeps | split

theorem State.configSwitch_keeps {s0 s : State} (h : Keeps s0 s) (fails : List (Nat × Nat × Nat)) : Keeps s0 (State.configSwitch s fails) := by
  unfold State.configSwitch
  with_reducible repeat' first | assumption | apply keeps_ite | apply State.commit_keeps | apply State.commitEnds_keeps | apply State.ownSwitch_keeps | apply State.mirroredSwitch_keeps | split

theorem execConfigSwitch_keeps {s s' : State} (fails : List (Nat × Nat × Nat)) (h : execConfigSwitch fails s = .next s') : Keeps s s' := by
  have hs := Keeps.refl s
  unfold execConfigSwitch at h
  injection h with h
  subst h
  with_reducible repeat' first | assumption | apply State.configSwitch_keeps

end Sys2Proof.Machine
end

