-- ==== Sys2Proof/Laws/KeepsEndpoint.lean ====
section
/-!
SUPPORT. Laws/KeepsEndpoint.lean: every operation of Machine/Endpoint.lean keeps what `Keeps` says.
-/
namespace Sys2Proof.Machine
open Sys2Proof

theorem State.epRateScan_keeps {s0 s : State} (h : Keeps s0 s) (e : Nat) (k : Nat) : Keeps s0 (State.epRateScan s e k) := by
  unfold State.epRateScan
  with_reducible repeat' first | assumption | apply keeps_ite | apply State.bundleLock_keeps | apply State.setEp_keeps | apply State.setPort_keeps | apply State.epTraining_keeps

theorem execEpRateScan_keeps {s s' : State} (e : Fin 16) (port : Fin 2) (h : execEpRateScan e port s = .next s') : Keeps s s' := by
  have hs := Keeps.refl s
  unfold execEpRateScan at h
  injection h with h
  subst h
  with_reducible repeat' first | assumption | apply State.epRateScan_keeps

theorem execEpEdgeExecute_keeps {s s' : State} (e : Fin 16) (p : Fin 24) (h : execEpEdgeExecute e p s = .next s') : Keeps s s' := by
  have hs := Keeps.refl s
  unfold execEpEdgeExecute at h
  injection h with h
  subst h
  with_reducible repeat' first | assumption | apply State.setEp_keeps

theorem execEpInsertionApply_keeps {s s' : State} (e : Fin 16) (h : execEpInsertionApply e s = .next s') : Keeps s s' := by
  have hs := Keeps.refl s
  unfold execEpInsertionApply at h
  injection h with h
  subst h
  with_reducible repeat' first | assumption | apply State.setEp_keeps

theorem execEpBurstAccept_keeps {s s' : State} (e : Fin 16) (port : Fin 2) (h : execEpBurstAccept e port s = .next s') : Keeps s s' := by
  have hs := Keeps.refl s
  unfold execEpBurstAccept at h
  injection h with h
  subst h
  with_reducible repeat' first | assumption | apply State.setEp_keeps

theorem execEpFrameMissed_keeps {s s' : State} (e : Fin 16) (h : execEpFrameMissed e s = .next s') : Keeps s s' := by
  have hs := Keeps.refl s
  unfold execEpFrameMissed at h
  injection h with h
  subst h
  with_reducible repeat' first | assumption | apply State.setEp_keeps

theorem execEpBridgeExpiry_keeps {s s' : State} (e : Fin 16) (h : execEpBridgeExpiry e s = .next s') : Keeps s s' := by
  have hs := Keeps.refl s
  unfold execEpBridgeExpiry at h
  injection h with h
  subst h
  with_reducible repeat' first | assumption | apply State.setEp_keeps

theorem execEpLeaseExpiry_keeps {s s' : State} (e : Fin 16) (port : Fin 2) (h : execEpLeaseExpiry e port s = .next s') : Keeps s s' := by
  have hs := Keeps.refl s
  unfold execEpLeaseExpiry at h
  injection h with h
  subst h
  with_reducible repeat' first | assumption | apply State.setEp_keeps

theorem execEpCfg_keeps {s s' : State} (e : Fin 16) (h : execEpCfg e s = .next s') : Keeps s s' := by
  have hs := Keeps.refl s
  unfold execEpCfg at h
  injection h with h
  subst h
  with_reducible repeat' first | assumption | apply State.setEp_keeps

theorem execEpLocalFault_keeps {s s' : State} (e : Fin 16) (fault : LocalFault) (h : execEpLocalFault e fault s = .next s') : Keeps s s' := by
  have hs := Keeps.refl s
  unfold execEpLocalFault at h
  injection h with h
  subst h
  with_reducible repeat' first | assumption | apply State.setEp_keeps

theorem State.epSend_keeps {s0 s : State} (h : Keeps s0 s) (e : Nat) (k : Nat) (ps : List (BitVec 128)) : Keeps s0 (State.epSend s e k ps) := by
  unfold State.epSend
  with_reducible repeat' first | assumption | apply keeps_ite | apply State.setEp_keeps | apply State.setPort_keeps | apply State.emit_keeps

theorem State.epUplink_keeps {s0 s : State} (h : Keeps s0 s) (e : Nat) (volts : List (Nat × Nat × Nat)) (currents : List StackSample) : Keeps s0 (State.epUplink s e volts currents) := by
  unfold State.epUplink
  with_reducible repeat' first | assumption | apply keeps_ite | apply State.setEp_keeps | apply State.epSend_keeps

theorem execEpUplinkBurst_keeps {s s' : State} (e : Fin 16) (volts : List (Nat × Nat × Nat)) (currents : List StackSample) (h : execEpUplinkBurst e volts currents s = .next s') : Keeps s s' := by
  have hs := Keeps.refl s
  unfold execEpUplinkBurst at h
  injection h with h
  subst h
  with_reducible repeat' first | assumption | apply State.epUplink_keeps

end Sys2Proof.Machine
end

