-- ==== Sys2Proof/Laws/KeepsOwn.lean ====
section
/-!
SUPPORT. Laws/KeepsOwn.lean: every operation of Machine/Own.lean keeps what `Keeps` says.
-/
namespace Sys2Proof.Machine
open Sys2Proof

theorem State.expireLease_keeps {s0 s : State} (h : Keeps s0 s) : Keeps s0 (State.expireLease s) := by
  unfold State.expireLease
  with_reducible repeat' first | assumption | apply keeps_ite | apply State.ownerGone_keeps

theorem execOwnershipLost_keeps {s s' : State}  (h : execOwnershipLost s = .next s') : Keeps s s' := by
  have hs := Keeps.refl s
  unfold execOwnershipLost at h
  injection h with h
  subst h
  with_reducible repeat' first | assumption | apply State.expireLease_keeps

theorem State.ownRequest_keeps {s0 s : State} (h : Keeps s0 s) (session : Nat) : Keeps s0 (State.ownRequest s session).1 := by
  unfold State.ownRequest
  with_reducible repeat' first | assumption | apply keeps_ite | apply keeps_ite_fst | apply State.expireLease_keeps | apply State.setHosts_keeps | apply State.grant_keeps | split

theorem execOwnRequest_keeps {s s' : State} (session : Nat) (h : execOwnRequest session s = .next s') : Keeps s s' := by
  have hs := Keeps.refl s
  unfold execOwnRequest at h
  injection h with h
  subst h
  with_reducible repeat' first | assumption | apply State.command_keeps | apply State.ownRequest_keeps | (intro t x (ht : Keeps _ t)) | (intro t (ht : Keeps _ t))

theorem State.ownRelease_keeps {s0 s : State} (h : Keeps s0 s) (session : Nat) : Keeps s0 (State.ownRelease s session).1 := by
  unfold State.ownRelease
  with_reducible repeat' first | assumption | apply keeps_ite | apply keeps_ite_fst | apply State.expireLease_keeps | apply State.setOwner_keeps

theorem execOwnRelease_keeps {s s' : State} (session : Nat) (h : execOwnRelease session s = .next s') : Keeps s s' := by
  have hs := Keeps.refl s
  unfold execOwnRelease at h
  injection h with h
  subst h
  with_reducible repeat' first | assumption | apply State.command_keeps | apply State.ownRelease_keeps | (intro t x (ht : Keeps _ t)) | (intro t (ht : Keeps _ t))

theorem State.ownForce_keeps {s0 s : State} (h : Keeps s0 s) (session : Nat) : Keeps s0 (State.ownForce s session).1 := by
  unfold State.ownForce
  with_reducible repeat' first | assumption | apply keeps_ite | apply keeps_ite_fst | apply State.expireLease_keeps | apply State.setHosts_keeps | apply State.grant_keeps | apply State.notice_keeps

theorem execOwnForce_keeps {s s' : State} (session : Nat) (h : execOwnForce session s = .next s') : Keeps s s' := by
  have hs := Keeps.refl s
  unfold execOwnForce at h
  injection h with h
  subst h
  with_reducible repeat' first | assumption | apply State.command_keeps | apply State.ownForce_keeps | (intro t x (ht : Keeps _ t)) | (intro t (ht : Keeps _ t))

theorem State.ownWrite_keeps {s0 s : State} (h : Keeps s0 s) (session : Nat) (v : Nat) : Keeps s0 (State.ownWrite s session v).1 := by
  unfold State.ownWrite
  with_reducible repeat' first | assumption | apply keeps_ite | apply keeps_ite_fst | apply State.ownRequest_keeps | apply State.ownRelease_keeps | apply State.ownForce_keeps | split

end Sys2Proof.Machine
end

