-- ==== Sys2Proof/Laws/KeepsWrite.lean ====
section
/-!
SUPPORT. Laws/KeepsWrite.lean: every operation of Machine/Write.lean keeps what `Keeps` says.
-/
namespace Sys2Proof.Machine
open Sys2Proof

theorem State.laneCommand_keeps {s0 s : State} (h : Keeps s0 s) (n : Nat) : Keeps s0 (State.laneCommand s n).1 := by
  unfold State.laneCommand
  with_reducible repeat' first | assumption | apply keeps_ite | apply keeps_ite_fst | apply State.laneSwap_keeps | apply State.laneRequalify_keeps | apply State.laneTakeOut_keeps

theorem State.pairCommand_keeps {s0 s : State} (h : Keeps s0 s) (n : Nat) : Keeps s0 (State.pairCommand s n).1 := by
  unfold State.pairCommand
  with_reducible repeat' first | assumption | apply keeps_ite | apply keeps_ite_fst | apply State.pairHandover_keeps | apply State.pairRequalify_keeps

theorem State.kept_keeps {s0 s : State} (h : Keeps s0 s) (k : Nat) (v : Val) : Keeps s0 (State.kept s k v).1 := by
  unfold State.kept
  with_reducible repeat' first | assumption | apply State.put_keeps

theorem State.writeObject_keeps {s0 s : State} (h : Keeps s0 s) (session : Nat) (index : Nat) (sub : Nat) (v : Val) : Keeps s0 (State.writeObject s session index sub v).1 := by
  unfold State.writeObject
  with_reducible repeat' first | assumption | apply keeps_ite | apply keeps_ite_fst | apply State.lawStart_keeps | apply State.lawStopCmd_keeps | apply State.setpoint_keeps | apply State.brkWrite_keeps | apply State.tripClear_keeps | apply State.pstateReq_keeps | apply State.ldCmd_keeps | apply State.ldClear_keeps | apply State.laneCommand_keeps | apply State.pairCommand_keeps | apply State.kept_keeps

theorem State.writePort_keeps {s0 s : State} (h : Keeps s0 s) (index : Nat) (sub : Nat) (v : Val) : Keeps s0 (State.writePort s index sub v).1 := by
  unfold State.writePort
  with_reducible repeat' first | assumption | apply keeps_ite | apply keeps_ite_fst | apply State.forceStep_keeps | apply State.launchArm_keeps | apply State.kept_keeps | apply State.busRecover_keeps | apply State.txReq_keeps

theorem State.writeCursor_keeps {s0 s : State} (h : Keeps s0 s) (session : Nat) (sub : Nat) (n : Nat) : Keeps s0 (State.writeCursor s session sub n).1 := by
  unfold State.writeCursor
  with_reducible repeat' first | assumption | apply keeps_ite | apply keeps_ite_fst | apply State.setCursor_keeps

theorem State.writeRecord_keeps {s0 s : State} (h : Keeps s0 s) (session : Nat) (index : Nat) (sub : Nat) (n : Nat) : Keeps s0 (State.writeRecord s session index sub n).1 := by
  unfold State.writeRecord
  with_reducible repeat' first | assumption | apply keeps_ite | apply keeps_ite_fst | apply State.recClear_keeps | apply State.recFreeze_keeps | apply State.recUnfreeze_keeps | apply State.writeCursor_keeps | apply State.trigNow_keeps | apply State.captArm_keeps | apply State.streamStop_keeps

theorem State.writeSafety_keeps {s0 s : State} (h : Keeps s0 s) (session : Nat) (index : Nat) (sub : Nat) (v : Val) : Keeps s0 (State.writeSafety s session index sub v).1 := by
  unfold State.writeSafety
  with_reducible repeat' first | assumption | apply keeps_ite | apply keeps_ite_fst | apply State.safetyLogoff_keeps | apply State.passwordNew_keeps | apply State.safetyStage_keeps | apply State.safetyUnstage_keeps | apply State.scsAck_keeps | apply State.safetyApply_keeps | apply State.sgbTest_keeps

theorem State.activate_keeps {s0 s : State} (h : Keeps s0 s) (n : Nat) : Keeps s0 (State.activate s n).1 := by
  unfold State.activate
  with_reducible repeat' first | assumption | apply keeps_ite | apply keeps_ite_fst | apply State.activateLane_keeps | apply State.activateModule_keeps

theorem State.lcWrite_keeps {s0 s : State} (h : Keeps s0 s) (session : Nat) (n : Nat) : Keeps s0 (State.lcWrite s session n).1 := by
  unfold State.lcWrite
  with_reducible repeat' first | assumption | apply State.lcRequest_keeps | split

theorem State.tokenWrite_keeps {s0 s : State} (h : Keeps s0 s) (session : Nat) (token : List Byte) : Keeps s0 (State.tokenWrite s session token).1 := by
  unfold State.tokenWrite
  with_reducible repeat' first | assumption | apply State.draw_keeps | apply State.vendorToken_keeps

theorem State.writeSecurity_keeps {s0 s : State} (h : Keeps s0 s) (session : Nat) (index : Nat) (sub : Nat) (v : Val) : Keeps s0 (State.writeSecurity s session index sub v).1 := by
  unfold State.writeSecurity
  with_reducible repeat' first | assumption | apply keeps_ite | apply keeps_ite_fst | apply State.attest_keeps | apply State.certChange_keeps | apply State.activate_keeps | apply State.fwAccept_keeps | apply State.tamperClear_keeps | apply State.lcWrite_keeps | apply State.lcConfirm_keeps | apply State.tokenWrite_keeps | apply State.kept_keeps

theorem State.marchWrite_keeps {s0 s : State} (h : Keeps s0 s) (n : Nat) : Keeps s0 (State.marchWrite s n).1 := by
  unfold State.marchWrite
  with_reducible repeat' first | assumption | apply keeps_ite | apply keeps_ite_fst | apply State.marchAbortCmd_keeps | apply State.marchTransparent_keeps | apply State.marchSs_keeps

theorem State.resetWrite_keeps {s0 s : State} (h : Keeps s0 s) (n : Nat) : Keeps s0 (State.resetWrite s n).1 := by
  unfold State.resetWrite
  with_reducible repeat' first | assumption | apply keeps_ite | apply keeps_ite_fst | apply State.resetCmdModule_keeps | apply State.resetCmdLane_keeps

theorem State.effect_keeps {s0 s : State} (h : Keeps s0 s) (session : Nat) (index : Nat) (sub : Nat) (v : Val) : Keeps s0 (State.effect s session index sub v).1 := by
  unfold State.effect
  with_reducible repeat' first | assumption | apply keeps_ite | apply keeps_ite_fst | apply State.writeObject_keeps | apply State.discard_keeps | apply State.ownWrite_keeps | apply State.writeSafety_keeps | apply State.writeRecord_keeps | apply State.resetWrite_keeps | apply State.prCmd_keeps | apply State.writePort_keeps | apply State.marchWrite_keeps | apply State.writeSecurity_keeps

theorem State.writeWhole_keeps {s0 s : State} (h : Keeps s0 s) (q : Request) (data : List Byte) : Keeps s0 (State.writeWhole s q data).1 := by
  unfold State.writeWhole
  with_reducible repeat' first | assumption | apply keeps_ite | apply keeps_ite_fst | apply State.stage_keeps | apply State.commit_keeps | apply State.safetyLogin_keeps | apply State.effect_keeps | split

theorem State.segEnd_keeps {s0 s : State} (h : Keeps s0 s) (session : Nat) (k : Nat) : Keeps s0 (State.segEnd s session k) := by
  unfold State.segEnd
  with_reducible repeat' first | assumption | apply State.setHost_keeps

theorem State.segPut_keeps {s0 s : State} (h : Keeps s0 s) (q : Request) (data : List Byte) : Keeps s0 (State.segPut s q data) := by
  unfold State.segPut
  with_reducible repeat' first | assumption | apply State.setHost_keeps

theorem State.writeSegment_keeps {s0 s : State} (h : Keeps s0 s) (q : Request) : Keeps s0 (State.writeSegment s q).1 := by
  unfold State.writeSegment
  with_reducible repeat' first | assumption | apply keeps_ite | apply keeps_ite_fst | apply State.segEnd_keeps | apply State.writeWhole_keeps | apply State.segPut_keeps | split | intro _ | lift_lets -underBinder

theorem State.imageWrite_keeps {s0 s : State} (h : Keeps s0 s) (q : Request) : Keeps s0 (State.imageWrite s q).1 := by
  unfold State.imageWrite
  with_reducible repeat' first | assumption | apply State.draw_keeps | apply State.drawn_keeps | apply State.imageSegment_keeps

theorem State.writeRequest_keeps {s0 s : State} (h : Keeps s0 s) (q : Request) : Keeps s0 (State.writeRequest s q).1 := by
  unfold State.writeRequest
  with_reducible repeat' first | assumption | apply keeps_ite | apply keeps_ite_fst | apply State.segEnd_keeps | apply State.imageWrite_keeps | apply State.writeSegment_keeps | split

theorem State.writeAfter_keeps {s0 s : State} (h : Keeps s0 s) (q : Request) : Keeps s0 (State.writeAfter s q) := by
  unfold State.writeAfter
  with_reducible repeat' first | assumption | apply keeps_ite | apply State.takeReset_keeps

end Sys2Proof.Machine
end

