-- ==== Sys2Proof/Laws/KeepsHosts.lean ====
section
/-!
SUPPORT. Laws/KeepsHosts.lean: every operation of Machine/Hosts.lean keeps what `Keeps` says.
-/
namespace Sys2Proof.Machine
open Sys2Proof

theorem State.asOwner_keeps {s0 s : State} (h : Keeps s0 s) (q : Request) {f : State → State} (hf : ∀ t, Keeps s0 t → Keeps s0 (f t)) :
    Keeps s0 (s.asOwner q f) := by
  unfold State.asOwner
  exact keeps_ite (State.setHosts_keeps (State.putN_keeps (hf _ (State.setHosts_keeps (State.putN_keeps h _ _) _)) _ _) _) (hf _ h)

theorem State.serveWrite_keeps {s0 s : State} (h : Keeps s0 s) (q : Request) : Keeps s0 (State.serveWrite s q) := by
  unfold State.serveWrite
  with_reducible repeat' first | assumption | apply keeps_ite | apply keeps_ite_fst | apply keeps_ite_snd | apply keeps_foldl | apply State.writeRequest_keeps | apply State.finish_keeps | apply State.writeAfter_keeps | split | (intro t x (ht : Keeps _ t)) | intro _ | lift_lets -underBinder | refine keeps_of_fst (by assumption) ?_

theorem State.serveRequest_keeps {s0 s : State} (h : Keeps s0 s) (q : Request) : Keeps s0 (State.serveRequest s q) := by
  unfold State.serveRequest
  with_reducible repeat' first | assumption | apply keeps_ite | apply keeps_ite_fst | apply keeps_ite_snd | apply keeps_foldl | apply State.served_keeps | apply State.setHosts_keeps | apply State.finish_keeps | apply State.closeSession_keeps | apply State.readEntry_keeps | apply State.asOwner_keeps | apply State.serveWrite_keeps | split | (intro t x (ht : Keeps _ t)) | (intro t (ht : Keeps _ t))

theorem State.transactionServe_keeps {s0 s : State} (h : Keeps s0 s) : Keeps s0 (State.transactionServe s) := by
  unfold State.transactionServe
  with_reducible repeat' first | assumption | apply keeps_ite | apply State.setHosts_keeps | apply State.serveRequest_keeps | split

theorem execTransactionServe_keeps {s s' : State}  (h : execTransactionServe s = .next s') : Keeps s s' := by
  have hs := Keeps.refl s
  unfold execTransactionServe at h
  injection h with h
  subst h
  with_reducible repeat' first | assumption | apply State.transactionServe_keeps

theorem State.serviceWindow_keeps {s0 s : State} (h : Keeps s0 s) : Keeps s0 (State.serviceWindow s) := by
  unfold State.serviceWindow
  with_reducible repeat' first | assumption | apply keeps_ite | apply keeps_foldl | apply State.setHosts_keeps | apply State.putN_keeps | (intro t x (ht : Keeps _ t))

theorem execServiceWindow_keeps {s s' : State}  (h : execServiceWindow s = .next s') : Keeps s s' := by
  have hs := Keeps.refl s
  unfold execServiceWindow at h
  injection h with h
  subst h
  with_reducible repeat' first | assumption | apply State.serviceWindow_keeps

theorem State.sendDelayed_keeps {s0 s : State} (h : Keeps s0 s) (q : Request) (position : Nat) (wait : Nat) : Keeps s0 (State.sendDelayed s q position wait) := by
  unfold State.sendDelayed
  with_reducible repeat' first | assumption | apply keeps_ite | apply State.answer_keeps | apply State.bump_keeps

theorem State.serviceNotices_keeps {s0 s : State} (h : Keeps s0 s) : Keeps s0 (State.serviceNotices s) := by
  unfold State.serviceNotices
  with_reducible repeat' first | assumption | apply keeps_ite | apply keeps_foldl | apply State.commit_keeps | apply State.answer_keeps | apply State.sendDelayed_keeps | apply State.setHosts_keeps | apply State.setSafety_keeps | split | (intro t x (ht : Keeps _ t))

theorem State.delayNotice_keeps {s0 s : State} (h : Keeps s0 s) : Keeps s0 (State.delayNotice s) := by
  unfold State.delayNotice
  with_reducible repeat' first | assumption | apply keeps_foldl | apply State.sendDelayed_keeps | apply State.setHosts_keeps | apply State.serviceNotices_keeps | (intro t x (ht : Keeps _ t))

theorem execDelayNotice_keeps {s s' : State}  (h : execDelayNotice s = .next s') : Keeps s s' := by
  have hs := Keeps.refl s
  unfold execDelayNotice at h
  injection h with h
  subst h
  with_reducible repeat' first | assumption | apply State.delayNotice_keeps

theorem State.withdrawn_keeps {s0 s : State} (h : Keeps s0 s) (q : Request) (time : Nat) : Keeps s0 (State.withdrawn s q time) := by
  unfold State.withdrawn
  with_reducible repeat' first | assumption | apply State.bump_keeps | apply State.occur_keeps | apply State.finish_keeps

theorem State.queueExpired_keeps {s0 s : State} (h : Keeps s0 s) : Keeps s0 (State.queueExpired s) := by
  unfold State.queueExpired
  with_reducible repeat' first | assumption | apply keeps_foldl | apply State.setHosts_keeps | apply State.withdrawn_keeps | (intro t x (ht : Keeps _ t))

theorem execQueueExpired_keeps {s s' : State}  (h : execQueueExpired s = .next s') : Keeps s s' := by
  have hs := Keeps.refl s
  unfold execQueueExpired at h
  injection h with h
  subst h
  with_reducible repeat' first | assumption | apply State.queueExpired_keeps

theorem State.segTimeout_keeps {s0 s : State} (h : Keeps s0 s) (session : Nat) : Keeps s0 (State.segTimeout s session) := by
  unfold State.segTimeout
  with_reducible repeat' first | assumption | apply keeps_ite | apply keeps_foldl | apply State.setHost_keeps | apply State.finish_keeps | apply State.loadEnds_keeps | split | (intro t x (ht : Keeps _ t)) | (intro z; apply keeps_cut (z := z)) | (intro hz; clear_value z) | intro _ | lift_lets -underBinder

theorem execSegTimeout_keeps {s s' : State} (session : Nat) (h : execSegTimeout session s = .next s') : Keeps s s' := by
  have hs := Keeps.refl s
  unfold execSegTimeout at h
  injection h with h
  subst h
  with_reducible repeat' first | assumption | apply keeps_ite | apply keeps_ite_fst | apply State.segTimeout_keeps

theorem State.arrive_keeps {s0 s : State} (h : Keeps s0 s) (q : Request) : Keeps s0 (State.arrive s q) := by
  unfold State.arrive
  with_reducible repeat' first | assumption | apply keeps_ite | apply State.heard_keeps | apply State.finish_keeps | apply State.emit_keeps | apply State.delayNotice_keeps | apply State.bump_keeps | apply State.occur_keeps | apply State.serveRequest_keeps | apply State.setHosts_keeps | split

theorem execDictClose_keeps {s s' : State} (session : Nat) (tag : BitVec 16) (h : execDictClose session tag s = .next s') : Keeps s s' := by
  have hs := Keeps.refl s
  unfold execDictClose at h
  injection h with h
  subst h
  with_reducible repeat' first | assumption | apply State.arrive_keeps

theorem execDictRead_keeps {s s' : State} (session : Nat) (tag : BitVec 16) (index : BitVec 16) (sub : Byte) (offset : BitVec 32) (staged : Bool) (h : execDictRead session tag index sub offset staged s = .next s') : Keeps s s' := by
  have hs := Keeps.refl s
  unfold execDictRead at h
  injection h with h
  subst h
  with_reducible repeat' first | assumption | apply State.arrive_keeps

theorem execDictWrite_keeps {s s' : State} (session : Nat) (tag : BitVec 16) (index : BitVec 16) (sub : Byte) (offset : BitVec 32) (last : Bool) (data : List Byte) (h : execDictWrite session tag index sub offset last data s = .next s') : Keeps s s' := by
  have hs := Keeps.refl s
  unfold execDictWrite at h
  injection h with h
  subst h
  with_reducible repeat' first | assumption | apply State.arrive_keeps

theorem execDictKeepalive_keeps {s s' : State} (session : Nat) (tag : BitVec 16) (h : execDictKeepalive session tag s = .next s') : Keeps s s' := by
  have hs := Keeps.refl s
  unfold execDictKeepalive at h
  injection h with h
  subst h
  with_reducible repeat' first | assumption | apply State.arrive_keeps

theorem State.abort_keeps {s0 s : State} (h : Keeps s0 s) (session : Nat) (tag : Nat) : Keeps s0 (State.abort s session tag) := by
  unfold State.abort
  with_reducible repeat' first | assumption | apply keeps_ite | apply State.heard_keeps | apply State.finish_keeps | apply State.setHosts_keeps | apply State.withdrawn_keeps | split

theorem execDictAbort_keeps {s s' : State} (session : Nat) (tag : BitVec 16) (h : execDictAbort session tag s = .next s') : Keeps s s' := by
  have hs := Keeps.refl s
  unfold execDictAbort at h
  injection h with h
  subst h
  with_reducible repeat' first | assumption | apply State.abort_keeps

theorem State.commitNow_keeps {s0 s : State} (h : Keeps s0 s) (session : Nat) : Keeps s0 (State.commitNow s session) := by
  unfold State.commitNow
  with_reducible repeat' first | assumption | apply keeps_ite | apply keeps_ite_fst | apply keeps_ite_snd | apply keeps_foldl | apply State.heard_keeps | apply State.finish_keeps | apply State.served_keeps | apply State.setHosts_keeps | apply State.commit_keeps | split | (intro t x (ht : Keeps _ t)) | intro _ | lift_lets -underBinder | refine keeps_of_fst (by assumption) ?_

theorem execDictCommit_keeps {s s' : State} (session : Nat) (h : execDictCommit session s = .next s') : Keeps s s' := by
  have hs := Keeps.refl s
  unfold execDictCommit at h
  injection h with h
  subst h
  with_reducible repeat' first | assumption | apply State.commitNow_keeps

theorem State.openSession_keeps {s0 s : State} (h : Keeps s0 s) (x : Nat) (role : Nat) (assoc : Option Nat) (peer : List Byte) (detail : Nat) : Keeps s0 (State.openSession s x role assoc peer detail) := by
  unfold State.openSession
  with_reducible repeat' first | assumption | apply State.putN_keeps | apply State.put_keeps | apply State.setHost_keeps | apply State.occur_keeps

theorem State.openRefused_keeps {s0 s : State} (h : Keeps s0 s) (tag : Nat) (r : Reply) : Keeps s0 (State.openRefused s tag r) := by
  unfold State.openRefused
  with_reducible repeat' first | assumption | apply State.emit_keeps

theorem State.openNew_keeps {s0 s : State} (h : Keeps s0 s) (p : Nat) (assoc : Nat) (tag : Nat) (role : Nat) (x : Nat) : Keeps s0 (State.openNew s p assoc tag role x) := by
  unfold State.openNew
  with_reducible repeat' first | assumption | apply keeps_ite | apply State.openSession_keeps | apply State.finish_keeps

theorem State.dictOpen_keeps {s0 s : State} (h : Keeps s0 s) (p : Nat) (assoc : Nat) (tag : Nat) (role : Nat) : Keeps s0 (State.dictOpen s p assoc tag role) := by
  unfold State.dictOpen
  with_reducible repeat' first | assumption | apply keeps_ite | apply State.openRefused_keeps | apply State.heard_keeps | apply State.emit_keeps | apply State.finish_keeps | apply State.openNew_keeps | apply State.bump_keeps | split | (intro z; apply keeps_cut (z := z)) | (intro hz; clear_value z) | intro _ | lift_lets -underBinder

theorem execDictOpen_keeps {s s' : State} (port : Fin 5) (assoc : Nat) (tag : BitVec 16) (role : Byte) (h : execDictOpen port assoc tag role s = .next s') : Keeps s s' := by
  have hs := Keeps.refl s
  unfold execDictOpen at h
  injection h with h
  subst h
  with_reducible repeat' first | assumption | apply State.dictOpen_keeps

theorem State.sessionTimeout_keeps {s0 s : State} (h : Keeps s0 s) (session : Nat) : Keeps s0 (State.sessionTimeout s session) := by
  unfold State.sessionTimeout
  with_reducible repeat' first | assumption | apply keeps_ite | apply State.closeSession_keeps

theorem execSessionTimeout_keeps {s s' : State} (session : Nat) (h : execSessionTimeout session s = .next s') : Keeps s s' := by
  have hs := Keeps.refl s
  unfold execSessionTimeout at h
  injection h with h
  subst h
  with_reducible repeat' first | assumption | apply State.sessionTimeout_keeps

theorem State.handshake_keeps {s0 s : State} (h : Keeps s0 s) (k : Nat) (assoc : Nat) (peer : List Byte) (chain : CertChain) : Keeps s0 (State.handshake s k assoc peer chain) := by
  unfold State.handshake
  with_reducible repeat' first | assumption | apply keeps_ite | apply State.setHosts_keeps | apply State.note_keeps

theorem execDtlsHandshake_keeps {s s' : State} (k : Fin 2) (assoc : Nat) (peer : List Byte) (chain : CertChain) (h : execDtlsHandshake k assoc peer chain s = .next s') : Keeps s s' := by
  have hs := Keeps.refl s
  unfold execDtlsHandshake at h
  injection h with h
  subst h
  with_reducible repeat' first | assumption | apply State.handshake_keeps

theorem State.associationEnd_keeps {s0 s : State} (h : Keeps s0 s) (assoc : Nat) : Keeps s0 (State.associationEnd s assoc) := by
  unfold State.associationEnd
  with_reducible repeat' first | assumption | apply State.closeSessions_keeps | apply State.setHosts_keeps

theorem execDtlsAssociationEnd_keeps {s s' : State} (assoc : Nat) (h : execDtlsAssociationEnd assoc s = .next s') : Keeps s s' := by
  have hs := Keeps.refl s
  unfold execDtlsAssociationEnd at h
  injection h with h
  subst h
  with_reducible repeat' first | assumption | apply State.associationEnd_keeps

theorem State.usdoOpen_keeps {s0 s : State} (h : Keeps s0 s) (k : Nat) : Keeps s0 (State.usdoOpen s k) := by
  unfold State.usdoOpen
  with_reducible repeat' first | assumption | apply keeps_ite | apply State.draw_keeps | apply State.openSession_keeps

theorem State.usdoRequest_keeps {s0 s : State} (h : Keeps s0 s) (k : Nat) (isWrite : Bool) (index : Nat) (sub : Nat) (data : List Byte) : Keeps s0 (State.usdoRequest s k isWrite index sub data) := by
  unfold State.usdoRequest
  with_reducible repeat' first | assumption | apply keeps_ite | apply State.usdoOpen_keeps | apply State.arrive_keeps

theorem execUsdoRequest_keeps {s s' : State} (k : Fin 2) (isWrite : Bool) (index : BitVec 16) (sub : Byte) (data : List Byte) (h : execUsdoRequest k isWrite index sub data s = .next s') : Keeps s s' := by
  have hs := Keeps.refl s
  unfold execUsdoRequest at h
  injection h with h
  subst h
  with_reducible repeat' first | assumption | apply State.usdoRequest_keeps

theorem State.usdoAbortLate_keeps {s0 s : State} (h : Keeps s0 s) (x : Nat) : Keeps s0 (State.usdoAbortLate s x) := by
  unfold State.usdoAbortLate
  with_reducible repeat' first | assumption | apply State.emit_keeps

theorem State.usdoWaitExpired_keeps {s0 s : State} (h : Keeps s0 s) (k : Nat) : Keeps s0 (State.usdoWaitExpired s k) := by
  unfold State.usdoWaitExpired
  with_reducible repeat' first | assumption | apply keeps_ite | apply keeps_foldl | apply State.setHosts_keeps | apply State.keepLast_keeps | apply State.usdoAbortLate_keeps | apply State.commit_keeps | apply State.setSafety_keeps | split | (intro t x (ht : Keeps _ t))

theorem execUsdoWaitExpired_keeps {s s' : State} (k : Fin 2) (h : execUsdoWaitExpired k s = .next s') : Keeps s s' := by
  have hs := Keeps.refl s
  unfold execUsdoWaitExpired at h
  injection h with h
  subst h
  with_reducible repeat' first | assumption | apply State.usdoWaitExpired_keeps

theorem State.tcxoFail_keeps {s0 s : State} (h : Keeps s0 s) : Keeps s0 (State.tcxoFail s) := by
  unfold State.tcxoFail
  with_reducible repeat' first | assumption | apply keeps_ite | apply State.tcxoLost_keeps | apply State.refreshCan_keeps | apply State.putB_keeps | apply State.closeSessions_keeps

theorem execTcxoFail_keeps {s s' : State}  (h : execTcxoFail s = .next s') : Keeps s s' := by
  have hs := Keeps.refl s
  unfold execTcxoFail at h
  injection h with h
  subst h
  with_reducible repeat' first | assumption | apply State.tcxoFail_keeps

theorem execTcxoRecover_keeps {s s' : State}  (h : execTcxoRecover s = .next s') : Keeps s s' := by
  have hs := Keeps.refl s
  unfold execTcxoRecover at h
  injection h with h
  subst h
  with_reducible repeat' first | assumption | apply State.tcxoRecover_keeps | apply State.refreshCan_keeps

end Sys2Proof.Machine
end

