-- ==== Sys2Proof/Laws/State.lean ====
section
/-!
SUPPORT. Laws/State.lean: what every update of one field leaves alone, field by field, and what a dictionary entry reads as after a write.
-/
namespace Sys2Proof.Machine
open Sys2Proof

/-! ### Dictionary entries -/

theorem State.od_put (s : State) (k : Nat) (v : Val) (j : Nat) : (s.put k v).od j = if j = k then v else s.od j := by
  by_cases h : j = k
  · subst h; simp [State.od, State.put]
  · simp [State.od, State.put, h, sparseGet_set_other]

theorem State.od_put_same (s : State) (k : Nat) (v : Val) : (s.put k v).od k = v := by simp [State.od_put]

theorem State.od_put_other (s : State) (k : Nat) (v : Val) (j : Nat) (h : j ≠ k) : (s.put k v).od j = s.od j := by simp [State.od_put, h]

theorem State.nat_put (s : State) (k : Nat) (v : Val) (j : Nat) : (s.put k v).nat j = if j = k then (Val.asInt v).toNat else s.nat j := by
  unfold State.nat State.int; rw [State.od_put]; split <;> rfl

theorem State.int_put (s : State) (k : Nat) (v : Val) (j : Nat) : (s.put k v).int j = if j = k then Val.asInt v else s.int j := by
  unfold State.int; rw [State.od_put]; split <;> rfl

theorem State.nat_putN (s : State) (k n j : Nat) : (s.putN k n).nat j = if j = k then n else s.nat j := by
  unfold State.putN; rw [State.nat_put]; rfl

theorem State.int_putI (s : State) (k : Nat) (n : Int) (j : Nat) : (s.putI k n).int j = if j = k then n else s.int j := by
  unfold State.putI; rw [State.int_put]; rfl

theorem State.nat_putI (s : State) (k : Nat) (n : Int) (j : Nat) : (s.putI k n).nat j = if j = k then n.toNat else s.nat j := by
  unfold State.putI; rw [State.nat_put]; rfl

theorem State.int_putN (s : State) (k n j : Nat) : (s.putN k n).int j = if j = k then (n : Int) else s.int j := by
  unfold State.putN; rw [State.int_put]; rfl

theorem State.nat_putB (s : State) (k : Nat) (b : Bool) (j : Nat) : (s.putB k b).nat j = if j = k then (if b then 1 else 0) else s.nat j := by
  unfold State.putB; rw [State.nat_put]; cases b <;> rfl

theorem State.nat_putF (s : State) (k : Nat) (x : F32) (j : Nat) : (s.putF k x).nat j = if j = k then x.toNat else s.nat j := by
  unfold State.putF; rw [State.nat_put]; rfl

theorem State.nat_putBit (s : State) (k i : Nat) (b : Bool) (j : Nat) :
    (s.putBit k i b).nat j = if j = k then withBit (s.nat k) i b else s.nat j := by
  unfold State.putBit; rw [State.nat_putN]

theorem State.nat_bump (s : State) (k j : Nat) : (s.bump k).nat j = if j = k then Nat.min (s.nat k + 1) 0xFFFFFFFF else s.nat j := by
  unfold State.bump State.count; rw [State.nat_putN]

theorem State.nat_bumpW (s : State) (k j : Nat) : (s.bumpW k).nat j = if j = k then (s.nat k + 1) % 4294967296 else s.nat j := by
  unfold State.bumpW; rw [State.nat_putN]

theorem State.od_put_ne (s : State) (k : Nat) (v : Val) (j : Nat) (h : j ≠ k) : (s.put k v).od j = s.od j := State.od_put_other _ _ _ _ h
theorem State.int_put_ne (s : State) (k : Nat) (v : Val) (j : Nat) (h : j ≠ k) : (s.put k v).int j = s.int j := by
  unfold State.int; rw [State.od_put_ne _ _ _ _ h]
theorem State.f32_put_ne (s : State) (k : Nat) (v : Val) (j : Nat) (h : j ≠ k) : (s.put k v).f32 j = s.f32 j := by
  unfold State.f32; rw [State.int_put_ne _ _ _ _ h]
theorem State.flag_put_ne (s : State) (k : Nat) (v : Val) (j : Nat) (h : j ≠ k) : (s.put k v).flag j = s.flag j := by
  unfold State.flag; rw [State.int_put_ne _ _ _ _ h]
theorem State.nat_put_ne (s : State) (k : Nat) (v : Val) (j : Nat) (h : j ≠ k) : (s.put k v).nat j = s.nat j := by
  unfold State.nat; rw [State.int_put_ne _ _ _ _ h]
theorem State.bit_put_ne (s : State) (k : Nat) (v : Val) (j m : Nat) (h : j ≠ k) : (s.put k v).bit j m = s.bit j m := by
  unfold State.bit; rw [State.nat_put_ne _ _ _ _ h]
theorem State.od_putI_ne (s : State) (k : Nat) (n : Int) (j : Nat) (h : j ≠ k) : (s.putI k n).od j = s.od j := State.od_put_other _ _ _ _ h
theorem State.int_putI_ne (s : State) (k : Nat) (n : Int) (j : Nat) (h : j ≠ k) : (s.putI k n).int j = s.int j := by
  unfold State.int; rw [State.od_putI_ne _ _ _ _ h]
theorem State.f32_putI_ne (s : State) (k : Nat) (n : Int) (j : Nat) (h : j ≠ k) : (s.putI k n).f32 j = s.f32 j := by
  unfold State.f32; rw [State.int_putI_ne _ _ _ _ h]
theorem State.flag_putI_ne (s : State) (k : Nat) (n : Int) (j : Nat) (h : j ≠ k) : (s.putI k n).flag j = s.flag j := by
  unfold State.flag; rw [State.int_putI_ne _ _ _ _ h]
theorem State.nat_putI_ne (s : State) (k : Nat) (n : Int) (j : Nat) (h : j ≠ k) : (s.putI k n).nat j = s.nat j := by
  unfold State.nat; rw [State.int_putI_ne _ _ _ _ h]
theorem State.bit_putI_ne (s : State) (k : Nat) (n : Int) (j m : Nat) (h : j ≠ k) : (s.putI k n).bit j m = s.bit j m := by
  unfold State.bit; rw [State.nat_putI_ne _ _ _ _ h]
theorem State.od_putN_ne (s : State) (k : Nat) (n : Nat) (j : Nat) (h : j ≠ k) : (s.putN k n).od j = s.od j := State.od_put_other _ _ _ _ h
theorem State.int_putN_ne (s : State) (k : Nat) (n : Nat) (j : Nat) (h : j ≠ k) : (s.putN k n).int j = s.int j := by
  unfold State.int; rw [State.od_putN_ne _ _ _ _ h]
theorem State.f32_putN_ne (s : State) (k : Nat) (n : Nat) (j : Nat) (h : j ≠ k) : (s.putN k n).f32 j = s.f32 j := by
  unfold State.f32; rw [State.int_putN_ne _ _ _ _ h]
theorem State.flag_putN_ne (s : State) (k : Nat) (n : Nat) (j : Nat) (h : j ≠ k) : (s.putN k n).flag j = s.flag j := by
  unfold State.flag; rw [State.int_putN_ne _ _ _ _ h]
theorem State.nat_putN_ne (s : State) (k : Nat) (n : Nat) (j : Nat) (h : j ≠ k) : (s.putN k n).nat j = s.nat j := by
  unfold State.nat; rw [State.int_putN_ne _ _ _ _ h]
theorem State.bit_putN_ne (s : State) (k : Nat) (n : Nat) (j m : Nat) (h : j ≠ k) : (s.putN k n).bit j m = s.bit j m := by
  unfold State.bit; rw [State.nat_putN_ne _ _ _ _ h]
theorem State.od_putF_ne (s : State) (k : Nat) (x : F32) (j : Nat) (h : j ≠ k) : (s.putF k x).od j = s.od j := State.od_put_other _ _ _ _ h
theorem State.int_putF_ne (s : State) (k : Nat) (x : F32) (j : Nat) (h : j ≠ k) : (s.putF k x).int j = s.int j := by
  unfold State.int; rw [State.od_putF_ne _ _ _ _ h]
theorem State.f32_putF_ne (s : State) (k : Nat) (x : F32) (j : Nat) (h : j ≠ k) : (s.putF k x).f32 j = s.f32 j := by
  unfold State.f32; rw [State.int_putF_ne _ _ _ _ h]
theorem State.flag_putF_ne (s : State) (k : Nat) (x : F32) (j : Nat) (h : j ≠ k) : (s.putF k x).flag j = s.flag j := by
  unfold State.flag; rw [State.int_putF_ne _ _ _ _ h]
theorem State.nat_putF_ne (s : State) (k : Nat) (x : F32) (j : Nat) (h : j ≠ k) : (s.putF k x).nat j = s.nat j := by
  unfold State.nat; rw [State.int_putF_ne _ _ _ _ h]
theorem State.bit_putF_ne (s : State) (k : Nat) (x : F32) (j m : Nat) (h : j ≠ k) : (s.putF k x).bit j m = s.bit j m := by
  unfold State.bit; rw [State.nat_putF_ne _ _ _ _ h]
theorem State.od_putB_ne (s : State) (k : Nat) (b : Bool) (j : Nat) (h : j ≠ k) : (s.putB k b).od j = s.od j := State.od_put_other _ _ _ _ h
theorem State.int_putB_ne (s : State) (k : Nat) (b : Bool) (j : Nat) (h : j ≠ k) : (s.putB k b).int j = s.int j := by
  unfold State.int; rw [State.od_putB_ne _ _ _ _ h]
theorem State.f32_putB_ne (s : State) (k : Nat) (b : Bool) (j : Nat) (h : j ≠ k) : (s.putB k b).f32 j = s.f32 j := by
  unfold State.f32; rw [State.int_putB_ne _ _ _ _ h]
theorem State.flag_putB_ne (s : State) (k : Nat) (b : Bool) (j : Nat) (h : j ≠ k) : (s.putB k b).flag j = s.flag j := by
  unfold State.flag; rw [State.int_putB_ne _ _ _ _ h]
theorem State.nat_putB_ne (s : State) (k : Nat) (b : Bool) (j : Nat) (h : j ≠ k) : (s.putB k b).nat j = s.nat j := by
  unfold State.nat; rw [State.int_putB_ne _ _ _ _ h]
theorem State.bit_putB_ne (s : State) (k : Nat) (b : Bool) (j m : Nat) (h : j ≠ k) : (s.putB k b).bit j m = s.bit j m := by
  unfold State.bit; rw [State.nat_putB_ne _ _ _ _ h]
theorem State.od_putBit_ne (s : State) (k i : Nat) (b : Bool) (j : Nat) (h : j ≠ k) : (s.putBit k i b).od j = s.od j := State.od_put_other _ _ _ _ h
theorem State.int_putBit_ne (s : State) (k i : Nat) (b : Bool) (j : Nat) (h : j ≠ k) : (s.putBit k i b).int j = s.int j := by
  unfold State.int; rw [State.od_putBit_ne _ _ _ _ _ h]
theorem State.f32_putBit_ne (s : State) (k i : Nat) (b : Bool) (j : Nat) (h : j ≠ k) : (s.putBit k i b).f32 j = s.f32 j := by
  unfold State.f32; rw [State.int_putBit_ne _ _ _ _ _ h]
theorem State.flag_putBit_ne (s : State) (k i : Nat) (b : Bool) (j : Nat) (h : j ≠ k) : (s.putBit k i b).flag j = s.flag j := by
  unfold State.flag; rw [State.int_putBit_ne _ _ _ _ _ h]
theorem State.nat_putBit_ne (s : State) (k i : Nat) (b : Bool) (j : Nat) (h : j ≠ k) : (s.putBit k i b).nat j = s.nat j := by
  unfold State.nat; rw [State.int_putBit_ne _ _ _ _ _ h]
theorem State.bit_putBit_ne (s : State) (k i : Nat) (b : Bool) (j m : Nat) (h : j ≠ k) : (s.putBit k i b).bit j m = s.bit j m := by
  unfold State.bit; rw [State.nat_putBit_ne _ _ _ _ _ h]
theorem State.od_bump_ne (s : State) (k : Nat) (j : Nat) (h : j ≠ k) : (s.bump k).od j = s.od j := State.od_put_other _ _ _ _ h
theorem State.int_bump_ne (s : State) (k : Nat) (j : Nat) (h : j ≠ k) : (s.bump k).int j = s.int j := by
  unfold State.int; rw [State.od_bump_ne _ _ _ h]
theorem State.f32_bump_ne (s : State) (k : Nat) (j : Nat) (h : j ≠ k) : (s.bump k).f32 j = s.f32 j := by
  unfold State.f32; rw [State.int_bump_ne _ _ _ h]
theorem State.flag_bump_ne (s : State) (k : Nat) (j : Nat) (h : j ≠ k) : (s.bump k).flag j = s.flag j := by
  unfold State.flag; rw [State.int_bump_ne _ _ _ h]
theorem State.nat_bump_ne (s : State) (k : Nat) (j : Nat) (h : j ≠ k) : (s.bump k).nat j = s.nat j := by
  unfold State.nat; rw [State.int_bump_ne _ _ _ h]
theorem State.bit_bump_ne (s : State) (k : Nat) (j m : Nat) (h : j ≠ k) : (s.bump k).bit j m = s.bit j m := by
  unfold State.bit; rw [State.nat_bump_ne _ _ _ h]
theorem State.od_bumpW_ne (s : State) (k : Nat) (j : Nat) (h : j ≠ k) : (s.bumpW k).od j = s.od j := State.od_put_other _ _ _ _ h
theorem State.int_bumpW_ne (s : State) (k : Nat) (j : Nat) (h : j ≠ k) : (s.bumpW k).int j = s.int j := by
  unfold State.int; rw [State.od_bumpW_ne _ _ _ h]
theorem State.f32_bumpW_ne (s : State) (k : Nat) (j : Nat) (h : j ≠ k) : (s.bumpW k).f32 j = s.f32 j := by
  unfold State.f32; rw [State.int_bumpW_ne _ _ _ h]
theorem State.flag_bumpW_ne (s : State) (k : Nat) (j : Nat) (h : j ≠ k) : (s.bumpW k).flag j = s.flag j := by
  unfold State.flag; rw [State.int_bumpW_ne _ _ _ h]
theorem State.nat_bumpW_ne (s : State) (k : Nat) (j : Nat) (h : j ≠ k) : (s.bumpW k).nat j = s.nat j := by
  unfold State.nat; rw [State.int_bumpW_ne _ _ _ h]
theorem State.bit_bumpW_ne (s : State) (k : Nat) (j m : Nat) (h : j ≠ k) : (s.bumpW k).bit j m = s.bit j m := by
  unfold State.bit; rw [State.nat_bumpW_ne _ _ _ h]
theorem State.od_count_ne (s : State) (k : Nat) (n : Nat) (j : Nat) (h : j ≠ k) : (s.count k n).od j = s.od j := State.od_put_other _ _ _ _ h
theorem State.int_count_ne (s : State) (k : Nat) (n : Nat) (j : Nat) (h : j ≠ k) : (s.count k n).int j = s.int j := by
  unfold State.int; rw [State.od_count_ne _ _ _ _ h]
theorem State.f32_count_ne (s : State) (k : Nat) (n : Nat) (j : Nat) (h : j ≠ k) : (s.count k n).f32 j = s.f32 j := by
  unfold State.f32; rw [State.int_count_ne _ _ _ _ h]
theorem State.flag_count_ne (s : State) (k : Nat) (n : Nat) (j : Nat) (h : j ≠ k) : (s.count k n).flag j = s.flag j := by
  unfold State.flag; rw [State.int_count_ne _ _ _ _ h]
theorem State.nat_count_ne (s : State) (k : Nat) (n : Nat) (j : Nat) (h : j ≠ k) : (s.count k n).nat j = s.nat j := by
  unfold State.nat; rw [State.int_count_ne _ _ _ _ h]
theorem State.bit_count_ne (s : State) (k : Nat) (n : Nat) (j m : Nat) (h : j ≠ k) : (s.count k n).bit j m = s.bit j m := by
  unfold State.bit; rw [State.nat_count_ne _ _ _ _ h]

@[simp] theorem State.nat_putN_same (s : State) (k n : Nat) : (s.putN k n).nat k = n := by simp [State.nat_putN]
@[simp] theorem State.int_putI_same (s : State) (k : Nat) (n : Int) : (s.putI k n).int k = n := by simp [State.int_putI]
@[simp] theorem State.od_put_self (s : State) (k : Nat) (v : Val) : (s.put k v).od k = v := State.od_put_same s k v
@[simp] theorem State.flag_putB_same (s : State) (k : Nat) (b : Bool) : (s.putB k b).flag k = b := by
  unfold State.flag State.putB; rw [State.int_put]; cases b <;> simp [Val.asInt]
@[simp] theorem State.nat_putB_same (s : State) (k : Nat) (b : Bool) : (s.putB k b).nat k = if b then 1 else 0 := by simp [State.nat_putB]
@[simp] theorem State.nat_bump_same (s : State) (k : Nat) : (s.bump k).nat k = Nat.min (s.nat k + 1) 0xFFFFFFFF := by simp [State.nat_bump]
@[simp] theorem State.nat_bumpW_same (s : State) (k : Nat) : (s.bumpW k).nat k = (s.nat k + 1) % 4294967296 := by simp [State.nat_bumpW]
@[simp] theorem State.f32_putF_same (s : State) (k : Nat) (x : F32) : (s.putF k x).f32 k = x := by
  unfold State.f32 State.putF; rw [State.int_put]; simp [Val.asInt]

/-! ### Fixed arrays -/

theorem vget_vset_same {α : Type} {n : Nat} (d : α) (v : Vector α n) (i : Nat) (x : α) (h : i < n) : vget d (vset v i x) i = x := by
  simp [vget, vset, h]

theorem vget_vset_ne {α : Type} {n : Nat} (d : α) (v : Vector α n) (i j : Nat) (x : α) (h : i ≠ j) : vget d (vset v i x) j = vget d v j := by
  simp [vget, vset, h]

theorem testBit_withBit_same (n i : Nat) (b : Bool) : (withBit n i b).testBit i = b := by
  unfold withBit
  split
  · rename_i h
    cases b
    · simp only [Bool.false_eq_true, if_false]
      have h1 := Nat.ge_two_pow_of_testBit h
      have h2 : (n - 2 ^ i + 2 ^ i).testBit i = true := by rw [Nat.sub_add_cancel h1]; exact h
      rw [Nat.add_comm, Nat.testBit_two_pow_add_eq] at h2
      simpa using h2
    · simpa using h
  · rename_i h
    cases b
    · simpa using h
    · simp only [if_true]
      rw [Nat.add_comm, Nat.testBit_two_pow_add_eq]
      simpa using h

@[simp] theorem State.bit_putBit_same (s : State) (k i : Nat) (b : Bool) : (s.putBit k i b).bit k i = b := by
  unfold State.bit; rw [State.nat_putBit]; simp [testBit_withBit_same]

@[simp] theorem State.draw_fst (s : State) : s.draw.1 = s.free := rfl
@[simp] theorem State.draw_snd_free (s : State) : s.draw.2.free = s.free + 1 := rfl
@[simp] theorem State.draw_snd_od (s : State) (key : Nat) : s.draw.2.od key = s.od key := rfl
@[simp] theorem State.draw_snd_int (s : State) (key : Nat) : s.draw.2.int key = s.int key := rfl
@[simp] theorem State.draw_snd_nat (s : State) (key : Nat) : s.draw.2.nat key = s.nat key := rfl
@[simp] theorem State.draw_snd_f32 (s : State) (key : Nat) : s.draw.2.f32 key = s.f32 key := rfl
@[simp] theorem State.draw_snd_flag (s : State) (key : Nat) : s.draw.2.flag key = s.flag key := rfl
@[simp] theorem State.draw_snd_octets (s : State) (key : Nat) : s.draw.2.octets key = s.octets key := rfl
@[simp] theorem State.draw_snd_bit (s : State) (key m : Nat) : s.draw.2.bit key m = s.bit key m := rfl
@[simp] theorem State.draw_snd_variant (s : State) : s.draw.2.variant = s.variant := rfl
@[simp] theorem State.draw_snd_now (s : State) : s.draw.2.now = s.now := rfl
@[simp] theorem State.draw_snd_ltc (s : State) : s.draw.2.ltc = s.ltc := rfl
@[simp] theorem State.draw_snd_dict (s : State) : s.draw.2.dict = s.dict := rfl
@[simp] theorem State.draw_snd_recorder (s : State) : s.draw.2.recorder = s.recorder := rfl
@[simp] theorem State.draw_snd_arch (s : State) : s.draw.2.arch = s.arch := rfl
@[simp] theorem State.draw_snd_power (s : State) : s.draw.2.power = s.power := rfl
@[simp] theorem State.draw_snd_tb (s : State) : s.draw.2.tb = s.tb := rfl
@[simp] theorem State.draw_snd_pwm (s : State) : s.draw.2.pwm = s.pwm := rfl
@[simp] theorem State.draw_snd_arms (s : State) : s.draw.2.arms = s.arms := rfl
@[simp] theorem State.draw_snd_ld (s : State) : s.draw.2.ld = s.ld := rfl
@[simp] theorem State.draw_snd_sig (s : State) : s.draw.2.sig = s.sig := rfl
@[simp] theorem State.draw_snd_streams (s : State) : s.draw.2.streams = s.streams := rfl
@[simp] theorem State.draw_snd_maskRun (s : State) : s.draw.2.maskRun = s.maskRun := rfl
@[simp] theorem State.draw_snd_lanes (s : State) : s.draw.2.lanes = s.lanes := rfl
@[simp] theorem State.draw_snd_frame (s : State) : s.draw.2.frame = s.frame := rfl
@[simp] theorem State.draw_snd_sup (s : State) : s.draw.2.sup = s.sup := rfl
@[simp] theorem State.draw_snd_adc (s : State) : s.draw.2.adc = s.adc := rfl
@[simp] theorem State.draw_snd_adcUnit (s : State) : s.draw.2.adcUnit = s.adcUnit := rfl
@[simp] theorem State.draw_snd_chains (s : State) : s.draw.2.chains = s.chains := rfl
@[simp] theorem State.draw_snd_link (s : State) : s.draw.2.link = s.link := rfl
@[simp] theorem State.draw_snd_pair (s : State) : s.draw.2.pair = s.pair := rfl
@[simp] theorem State.draw_snd_servo (s : State) : s.draw.2.servo = s.servo := rfl
@[simp] theorem State.draw_snd_safety (s : State) : s.draw.2.safety = s.safety := rfl
@[simp] theorem State.draw_snd_security (s : State) : s.draw.2.security = s.security := rfl
@[simp] theorem State.draw_snd_hosts (s : State) : s.draw.2.hosts = s.hosts := rfl
@[simp] theorem State.draw_snd_boot (s : State) : s.draw.2.boot = s.boot := rfl
@[simp] theorem State.draw_snd_can (s : State) : s.draw.2.can = s.can := rfl
@[simp] theorem State.draw_snd_launchAt (s : State) : s.draw.2.launchAt = s.launchAt := rfl
@[simp] theorem State.draw_snd_launchBusy (s : State) : s.draw.2.launchBusy = s.launchBusy := rfl
@[simp] theorem State.draw_snd_ethWait (s : State) : s.draw.2.ethWait = s.ethWait := rfl
@[simp] theorem State.draw_snd_out (s : State) : s.draw.2.out = s.out := rfl
@[simp] theorem State.draw_snd_pending (s : State) : s.draw.2.pending = s.pending := rfl

/-! ### Updates of one field -/

@[simp] theorem State.setIch_variant (s : State) (c : Nat) (i : Nat) (code : Int) : (s.setIch c i code).variant = s.variant := rfl
@[simp] theorem State.setIch_now (s : State) (c : Nat) (i : Nat) (code : Int) : (s.setIch c i code).now = s.now := rfl
@[simp] theorem State.setIch_ltc (s : State) (c : Nat) (i : Nat) (code : Int) : (s.setIch c i code).ltc = s.ltc := rfl
@[simp] theorem State.setIch_free (s : State) (c : Nat) (i : Nat) (code : Int) : (s.setIch c i code).free = s.free := rfl
@[simp] theorem State.setIch_dict (s : State) (c : Nat) (i : Nat) (code : Int) : (s.setIch c i code).dict = s.dict := rfl
@[simp] theorem State.setIch_recorder (s : State) (c : Nat) (i : Nat) (code : Int) : (s.setIch c i code).recorder = s.recorder := rfl
@[simp] theorem State.setIch_arch (s : State) (c : Nat) (i : Nat) (code : Int) : (s.setIch c i code).arch = s.arch := rfl
@[simp] theorem State.setIch_power (s : State) (c : Nat) (i : Nat) (code : Int) : (s.setIch c i code).power = s.power := rfl
@[simp] theorem State.setIch_tb (s : State) (c : Nat) (i : Nat) (code : Int) : (s.setIch c i code).tb = s.tb := rfl
@[simp] theorem State.setIch_pwm (s : State) (c : Nat) (i : Nat) (code : Int) : (s.setIch c i code).pwm = s.pwm := rfl
@[simp] theorem State.setIch_arms (s : State) (c : Nat) (i : Nat) (code : Int) : (s.setIch c i code).arms = s.arms := rfl
@[simp] theorem State.setIch_ld (s : State) (c : Nat) (i : Nat) (code : Int) : (s.setIch c i code).ld = s.ld := rfl
@[simp] theorem State.setIch_sig (s : State) (c : Nat) (i : Nat) (code : Int) : (s.setIch c i code).sig = s.sig := rfl
@[simp] theorem State.setIch_streams (s : State) (c : Nat) (i : Nat) (code : Int) : (s.setIch c i code).streams = s.streams := rfl
@[simp] theorem State.setIch_maskRun (s : State) (c : Nat) (i : Nat) (code : Int) : (s.setIch c i code).maskRun = s.maskRun := rfl
@[simp] theorem State.setIch_lanes (s : State) (c : Nat) (i : Nat) (code : Int) : (s.setIch c i code).lanes = s.lanes := rfl
@[simp] theorem State.setIch_frame (s : State) (c : Nat) (i : Nat) (code : Int) : (s.setIch c i code).frame = s.frame := rfl
@[simp] theorem State.setIch_sup (s : State) (c : Nat) (i : Nat) (code : Int) : (s.setIch c i code).sup = s.sup := rfl
@[simp] theorem State.setIch_adc (s : State) (c : Nat) (i : Nat) (code : Int) : (s.setIch c i code).adc = s.adc := rfl
@[simp] theorem State.setIch_chains (s : State) (c : Nat) (i : Nat) (code : Int) : (s.setIch c i code).chains = s.chains := rfl
@[simp] theorem State.setIch_link (s : State) (c : Nat) (i : Nat) (code : Int) : (s.setIch c i code).link = s.link := rfl
@[simp] theorem State.setIch_pair (s : State) (c : Nat) (i : Nat) (code : Int) : (s.setIch c i code).pair = s.pair := rfl
@[simp] theorem State.setIch_servo (s : State) (c : Nat) (i : Nat) (code : Int) : (s.setIch c i code).servo = s.servo := rfl
@[simp] theorem State.setIch_safety (s : State) (c : Nat) (i : Nat) (code : Int) : (s.setIch c i code).safety = s.safety := rfl
@[simp] theorem State.setIch_security (s : State) (c : Nat) (i : Nat) (code : Int) : (s.setIch c i code).security = s.security := rfl
@[simp] theorem State.setIch_hosts (s : State) (c : Nat) (i : Nat) (code : Int) : (s.setIch c i code).hosts = s.hosts := rfl
@[simp] theorem State.setIch_boot (s : State) (c : Nat) (i : Nat) (code : Int) : (s.setIch c i code).boot = s.boot := rfl
@[simp] theorem State.setIch_can (s : State) (c : Nat) (i : Nat) (code : Int) : (s.setIch c i code).can = s.can := rfl
@[simp] theorem State.setIch_launchAt (s : State) (c : Nat) (i : Nat) (code : Int) : (s.setIch c i code).launchAt = s.launchAt := rfl
@[simp] theorem State.setIch_launchBusy (s : State) (c : Nat) (i : Nat) (code : Int) : (s.setIch c i code).launchBusy = s.launchBusy := rfl
@[simp] theorem State.setIch_ethWait (s : State) (c : Nat) (i : Nat) (code : Int) : (s.setIch c i code).ethWait = s.ethWait := rfl
@[simp] theorem State.setIch_out (s : State) (c : Nat) (i : Nat) (code : Int) : (s.setIch c i code).out = s.out := rfl
@[simp] theorem State.setIch_pending (s : State) (c : Nat) (i : Nat) (code : Int) : (s.setIch c i code).pending = s.pending := rfl
@[simp] theorem State.setIch_od (s : State) (c : Nat) (i : Nat) (code : Int) (key : Nat) : (s.setIch c i code).od key = s.od key := rfl
@[simp] theorem State.setIch_int (s : State) (c : Nat) (i : Nat) (code : Int) (key : Nat) : (s.setIch c i code).int key = s.int key := rfl
@[simp] theorem State.setIch_nat (s : State) (c : Nat) (i : Nat) (code : Int) (key : Nat) : (s.setIch c i code).nat key = s.nat key := rfl
@[simp] theorem State.setIch_f32 (s : State) (c : Nat) (i : Nat) (code : Int) (key : Nat) : (s.setIch c i code).f32 key = s.f32 key := rfl
@[simp] theorem State.setIch_flag (s : State) (c : Nat) (i : Nat) (code : Int) (key : Nat) : (s.setIch c i code).flag key = s.flag key := rfl
@[simp] theorem State.setIch_octets (s : State) (c : Nat) (i : Nat) (code : Int) (key : Nat) : (s.setIch c i code).octets key = s.octets key := rfl
@[simp] theorem State.setIch_bit (s : State) (c : Nat) (i : Nat) (code : Int) (key bitNo : Nat) : (s.setIch c i code).bit key bitNo = s.bit key bitNo := rfl
@[simp] theorem State.setIch_adcUnit (s : State) (c : Nat) (i : Nat) (code : Int) : (s.setIch c i code).adcUnit = { s.adcUnit with ich := vset s.adcUnit.ich i (some code), ichCore := vset s.adcUnit.ichCore i c } := rfl

@[simp] theorem State.divergeTo_variant (s : State) (lvl : Nat) : (s.divergeTo lvl).variant = s.variant := rfl
@[simp] theorem State.divergeTo_now (s : State) (lvl : Nat) : (s.divergeTo lvl).now = s.now := rfl
@[simp] theorem State.divergeTo_ltc (s : State) (lvl : Nat) : (s.divergeTo lvl).ltc = s.ltc := rfl
@[simp] theorem State.divergeTo_free (s : State) (lvl : Nat) : (s.divergeTo lvl).free = s.free := rfl
@[simp] theorem State.divergeTo_dict (s : State) (lvl : Nat) : (s.divergeTo lvl).dict = s.dict := rfl
@[simp] theorem State.divergeTo_recorder (s : State) (lvl : Nat) : (s.divergeTo lvl).recorder = s.recorder := rfl
@[simp] theorem State.divergeTo_arch (s : State) (lvl : Nat) : (s.divergeTo lvl).arch = s.arch := rfl
@[simp] theorem State.divergeTo_power (s : State) (lvl : Nat) : (s.divergeTo lvl).power = s.power := rfl
@[simp] theorem State.divergeTo_tb (s : State) (lvl : Nat) : (s.divergeTo lvl).tb = s.tb := rfl
@[simp] theorem State.divergeTo_pwm (s : State) (lvl : Nat) : (s.divergeTo lvl).pwm = s.pwm := rfl
@[simp] theorem State.divergeTo_arms (s : State) (lvl : Nat) : (s.divergeTo lvl).arms = s.arms := rfl
@[simp] theorem State.divergeTo_ld (s : State) (lvl : Nat) : (s.divergeTo lvl).ld = s.ld := rfl
@[simp] theorem State.divergeTo_sig (s : State) (lvl : Nat) : (s.divergeTo lvl).sig = s.sig := rfl
@[simp] theorem State.divergeTo_streams (s : State) (lvl : Nat) : (s.divergeTo lvl).streams = s.streams := rfl
@[simp] theorem State.divergeTo_maskRun (s : State) (lvl : Nat) : (s.divergeTo lvl).maskRun = s.maskRun := rfl
@[simp] theorem State.divergeTo_lanes (s : State) (lvl : Nat) : (s.divergeTo lvl).lanes = s.lanes := rfl
@[simp] theorem State.divergeTo_frame (s : State) (lvl : Nat) : (s.divergeTo lvl).frame = s.frame := rfl
@[simp] theorem State.divergeTo_sup (s : State) (lvl : Nat) : (s.divergeTo lvl).sup = s.sup := rfl
@[simp] theorem State.divergeTo_adc (s : State) (lvl : Nat) : (s.divergeTo lvl).adc = s.adc := rfl
@[simp] theorem State.divergeTo_chains (s : State) (lvl : Nat) : (s.divergeTo lvl).chains = s.chains := rfl
@[simp] theorem State.divergeTo_link (s : State) (lvl : Nat) : (s.divergeTo lvl).link = s.link := rfl
@[simp] theorem State.divergeTo_pair (s : State) (lvl : Nat) : (s.divergeTo lvl).pair = s.pair := rfl
@[simp] theorem State.divergeTo_servo (s : State) (lvl : Nat) : (s.divergeTo lvl).servo = s.servo := rfl
@[simp] theorem State.divergeTo_safety (s : State) (lvl : Nat) : (s.divergeTo lvl).safety = s.safety := rfl
@[simp] theorem State.divergeTo_security (s : State) (lvl : Nat) : (s.divergeTo lvl).security = s.security := rfl
@[simp] theorem State.divergeTo_hosts (s : State) (lvl : Nat) : (s.divergeTo lvl).hosts = s.hosts := rfl
@[simp] theorem State.divergeTo_boot (s : State) (lvl : Nat) : (s.divergeTo lvl).boot = s.boot := rfl
@[simp] theorem State.divergeTo_can (s : State) (lvl : Nat) : (s.divergeTo lvl).can = s.can := rfl
@[simp] theorem State.divergeTo_launchAt (s : State) (lvl : Nat) : (s.divergeTo lvl).launchAt = s.launchAt := rfl
@[simp] theorem State.divergeTo_launchBusy (s : State) (lvl : Nat) : (s.divergeTo lvl).launchBusy = s.launchBusy := rfl
@[simp] theorem State.divergeTo_ethWait (s : State) (lvl : Nat) : (s.divergeTo lvl).ethWait = s.ethWait := rfl
@[simp] theorem State.divergeTo_out (s : State) (lvl : Nat) : (s.divergeTo lvl).out = s.out := rfl
@[simp] theorem State.divergeTo_pending (s : State) (lvl : Nat) : (s.divergeTo lvl).pending = s.pending := rfl
@[simp] theorem State.divergeTo_od (s : State) (lvl : Nat) (key : Nat) : (s.divergeTo lvl).od key = s.od key := rfl
@[simp] theorem State.divergeTo_int (s : State) (lvl : Nat) (key : Nat) : (s.divergeTo lvl).int key = s.int key := rfl
@[simp] theorem State.divergeTo_nat (s : State) (lvl : Nat) (key : Nat) : (s.divergeTo lvl).nat key = s.nat key := rfl
@[simp] theorem State.divergeTo_f32 (s : State) (lvl : Nat) (key : Nat) : (s.divergeTo lvl).f32 key = s.f32 key := rfl
@[simp] theorem State.divergeTo_flag (s : State) (lvl : Nat) (key : Nat) : (s.divergeTo lvl).flag key = s.flag key := rfl
@[simp] theorem State.divergeTo_octets (s : State) (lvl : Nat) (key : Nat) : (s.divergeTo lvl).octets key = s.octets key := rfl
@[simp] theorem State.divergeTo_bit (s : State) (lvl : Nat) (key bitNo : Nat) : (s.divergeTo lvl).bit key bitNo = s.bit key bitNo := rfl
@[simp] theorem State.divergeTo_adcUnit (s : State) (lvl : Nat) : (s.divergeTo lvl).adcUnit = { s.adcUnit with divergeLevel := lvl } := rfl

@[simp] theorem State.setLink_variant (s : State) (i : Nat) (f : FabLink) : (s.setLink i f).variant = s.variant := rfl
@[simp] theorem State.setLink_now (s : State) (i : Nat) (f : FabLink) : (s.setLink i f).now = s.now := rfl
@[simp] theorem State.setLink_ltc (s : State) (i : Nat) (f : FabLink) : (s.setLink i f).ltc = s.ltc := rfl
@[simp] theorem State.setLink_free (s : State) (i : Nat) (f : FabLink) : (s.setLink i f).free = s.free := rfl
@[simp] theorem State.setLink_dict (s : State) (i : Nat) (f : FabLink) : (s.setLink i f).dict = s.dict := rfl
@[simp] theorem State.setLink_recorder (s : State) (i : Nat) (f : FabLink) : (s.setLink i f).recorder = s.recorder := rfl
@[simp] theorem State.setLink_power (s : State) (i : Nat) (f : FabLink) : (s.setLink i f).power = s.power := rfl
@[simp] theorem State.setLink_tb (s : State) (i : Nat) (f : FabLink) : (s.setLink i f).tb = s.tb := rfl
@[simp] theorem State.setLink_pwm (s : State) (i : Nat) (f : FabLink) : (s.setLink i f).pwm = s.pwm := rfl
@[simp] theorem State.setLink_arms (s : State) (i : Nat) (f : FabLink) : (s.setLink i f).arms = s.arms := rfl
@[simp] theorem State.setLink_ld (s : State) (i : Nat) (f : FabLink) : (s.setLink i f).ld = s.ld := rfl
@[simp] theorem State.setLink_sig (s : State) (i : Nat) (f : FabLink) : (s.setLink i f).sig = s.sig := rfl
@[simp] theorem State.setLink_streams (s : State) (i : Nat) (f : FabLink) : (s.setLink i f).streams = s.streams := rfl
@[simp] theorem State.setLink_maskRun (s : State) (i : Nat) (f : FabLink) : (s.setLink i f).maskRun = s.maskRun := rfl
@[simp] theorem State.setLink_lanes (s : State) (i : Nat) (f : FabLink) : (s.setLink i f).lanes = s.lanes := rfl
@[simp] theorem State.setLink_frame (s : State) (i : Nat) (f : FabLink) : (s.setLink i f).frame = s.frame := rfl
@[simp] theorem State.setLink_sup (s : State) (i : Nat) (f : FabLink) : (s.setLink i f).sup = s.sup := rfl
@[simp] theorem State.setLink_adc (s : State) (i : Nat) (f : FabLink) : (s.setLink i f).adc = s.adc := rfl
@[simp] theorem State.setLink_adcUnit (s : State) (i : Nat) (f : FabLink) : (s.setLink i f).adcUnit = s.adcUnit := rfl
@[simp] theorem State.setLink_chains (s : State) (i : Nat) (f : FabLink) : (s.setLink i f).chains = s.chains := rfl
@[simp] theorem State.setLink_link (s : State) (i : Nat) (f : FabLink) : (s.setLink i f).link = s.link := rfl
@[simp] theorem State.setLink_pair (s : State) (i : Nat) (f : FabLink) : (s.setLink i f).pair = s.pair := rfl
@[simp] theorem State.setLink_servo (s : State) (i : Nat) (f : FabLink) : (s.setLink i f).servo = s.servo := rfl
@[simp] theorem State.setLink_safety (s : State) (i : Nat) (f : FabLink) : (s.setLink i f).safety = s.safety := rfl
@[simp] theorem State.setLink_security (s : State) (i : Nat) (f : FabLink) : (s.setLink i f).security = s.security := rfl
@[simp] theorem State.setLink_hosts (s : State) (i : Nat) (f : FabLink) : (s.setLink i f).hosts = s.hosts := rfl
@[simp] theorem State.setLink_boot (s : State) (i : Nat) (f : FabLink) : (s.setLink i f).boot = s.boot := rfl
@[simp] theorem State.setLink_can (s : State) (i : Nat) (f : FabLink) : (s.setLink i f).can = s.can := rfl
@[simp] theorem State.setLink_launchAt (s : State) (i : Nat) (f : FabLink) : (s.setLink i f).launchAt = s.launchAt := rfl
@[simp] theorem State.setLink_launchBusy (s : State) (i : Nat) (f : FabLink) : (s.setLink i f).launchBusy = s.launchBusy := rfl
@[simp] theorem State.setLink_ethWait (s : State) (i : Nat) (f : FabLink) : (s.setLink i f).ethWait = s.ethWait := rfl
@[simp] theorem State.setLink_out (s : State) (i : Nat) (f : FabLink) : (s.setLink i f).out = s.out := rfl
@[simp] theorem State.setLink_pending (s : State) (i : Nat) (f : FabLink) : (s.setLink i f).pending = s.pending := rfl
@[simp] theorem State.setLink_od (s : State) (i : Nat) (f : FabLink) (key : Nat) : (s.setLink i f).od key = s.od key := rfl
@[simp] theorem State.setLink_int (s : State) (i : Nat) (f : FabLink) (key : Nat) : (s.setLink i f).int key = s.int key := rfl
@[simp] theorem State.setLink_nat (s : State) (i : Nat) (f : FabLink) (key : Nat) : (s.setLink i f).nat key = s.nat key := rfl
@[simp] theorem State.setLink_f32 (s : State) (i : Nat) (f : FabLink) (key : Nat) : (s.setLink i f).f32 key = s.f32 key := rfl
@[simp] theorem State.setLink_flag (s : State) (i : Nat) (f : FabLink) (key : Nat) : (s.setLink i f).flag key = s.flag key := rfl
@[simp] theorem State.setLink_octets (s : State) (i : Nat) (f : FabLink) (key : Nat) : (s.setLink i f).octets key = s.octets key := rfl
@[simp] theorem State.setLink_bit (s : State) (i : Nat) (f : FabLink) (key bitNo : Nat) : (s.setLink i f).bit key bitNo = s.bit key bitNo := rfl
@[simp] theorem State.setLink_arch (s : State) (i : Nat) (f : FabLink) : (s.setLink i f).arch = { s.arch with links := vset s.arch.links i f } := rfl

@[simp] theorem State.setStrm_variant (s : State) (q : Nat) (x : Stream) : (s.setStrm q x).variant = s.variant := rfl
@[simp] theorem State.setStrm_now (s : State) (q : Nat) (x : Stream) : (s.setStrm q x).now = s.now := rfl
@[simp] theorem State.setStrm_ltc (s : State) (q : Nat) (x : Stream) : (s.setStrm q x).ltc = s.ltc := rfl
@[simp] theorem State.setStrm_free (s : State) (q : Nat) (x : Stream) : (s.setStrm q x).free = s.free := rfl
@[simp] theorem State.setStrm_dict (s : State) (q : Nat) (x : Stream) : (s.setStrm q x).dict = s.dict := rfl
@[simp] theorem State.setStrm_recorder (s : State) (q : Nat) (x : Stream) : (s.setStrm q x).recorder = s.recorder := rfl
@[simp] theorem State.setStrm_arch (s : State) (q : Nat) (x : Stream) : (s.setStrm q x).arch = s.arch := rfl
@[simp] theorem State.setStrm_power (s : State) (q : Nat) (x : Stream) : (s.setStrm q x).power = s.power := rfl
@[simp] theorem State.setStrm_tb (s : State) (q : Nat) (x : Stream) : (s.setStrm q x).tb = s.tb := rfl
@[simp] theorem State.setStrm_pwm (s : State) (q : Nat) (x : Stream) : (s.setStrm q x).pwm = s.pwm := rfl
@[simp] theorem State.setStrm_arms (s : State) (q : Nat) (x : Stream) : (s.setStrm q x).arms = s.arms := rfl
@[simp] theorem State.setStrm_ld (s : State) (q : Nat) (x : Stream) : (s.setStrm q x).ld = s.ld := rfl
@[simp] theorem State.setStrm_sig (s : State) (q : Nat) (x : Stream) : (s.setStrm q x).sig = s.sig := rfl
@[simp] theorem State.setStrm_maskRun (s : State) (q : Nat) (x : Stream) : (s.setStrm q x).maskRun = s.maskRun := rfl
@[simp] theorem State.setStrm_lanes (s : State) (q : Nat) (x : Stream) : (s.setStrm q x).lanes = s.lanes := rfl
@[simp] theorem State.setStrm_frame (s : State) (q : Nat) (x : Stream) : (s.setStrm q x).frame = s.frame := rfl
@[simp] theorem State.setStrm_sup (s : State) (q : Nat) (x : Stream) : (s.setStrm q x).sup = s.sup := rfl
@[simp] theorem State.setStrm_adc (s : State) (q : Nat) (x : Stream) : (s.setStrm q x).adc = s.adc := rfl
@[simp] theorem State.setStrm_adcUnit (s : State) (q : Nat) (x : Stream) : (s.setStrm q x).adcUnit = s.adcUnit := rfl
@[simp] theorem State.setStrm_chains (s : State) (q : Nat) (x : Stream) : (s.setStrm q x).chains = s.chains := rfl
@[simp] theorem State.setStrm_link (s : State) (q : Nat) (x : Stream) : (s.setStrm q x).link = s.link := rfl
@[simp] theorem State.setStrm_pair (s : State) (q : Nat) (x : Stream) : (s.setStrm q x).pair = s.pair := rfl
@[simp] theorem State.setStrm_servo (s : State) (q : Nat) (x : Stream) : (s.setStrm q x).servo = s.servo := rfl
@[simp] theorem State.setStrm_safety (s : State) (q : Nat) (x : Stream) : (s.setStrm q x).safety = s.safety := rfl
@[simp] theorem State.setStrm_security (s : State) (q : Nat) (x : Stream) : (s.setStrm q x).security = s.security := rfl
@[simp] theorem State.setStrm_hosts (s : State) (q : Nat) (x : Stream) : (s.setStrm q x).hosts = s.hosts := rfl
@[simp] theorem State.setStrm_boot (s : State) (q : Nat) (x : Stream) : (s.setStrm q x).boot = s.boot := rfl
@[simp] theorem State.setStrm_can (s : State) (q : Nat) (x : Stream) : (s.setStrm q x).can = s.can := rfl
@[simp] theorem State.setStrm_launchAt (s : State) (q : Nat) (x : Stream) : (s.setStrm q x).launchAt = s.launchAt := rfl
@[simp] theorem State.setStrm_launchBusy (s : State) (q : Nat) (x : Stream) : (s.setStrm q x).launchBusy = s.launchBusy := rfl
@[simp] theorem State.setStrm_ethWait (s : State) (q : Nat) (x : Stream) : (s.setStrm q x).ethWait = s.ethWait := rfl
@[simp] theorem State.setStrm_out (s : State) (q : Nat) (x : Stream) : (s.setStrm q x).out = s.out := rfl
@[simp] theorem State.setStrm_pending (s : State) (q : Nat) (x : Stream) : (s.setStrm q x).pending = s.pending := rfl
@[simp] theorem State.setStrm_od (s : State) (q : Nat) (x : Stream) (key : Nat) : (s.setStrm q x).od key = s.od key := rfl
@[simp] theorem State.setStrm_int (s : State) (q : Nat) (x : Stream) (key : Nat) : (s.setStrm q x).int key = s.int key := rfl
@[simp] theorem State.setStrm_nat (s : State) (q : Nat) (x : Stream) (key : Nat) : (s.setStrm q x).nat key = s.nat key := rfl
@[simp] theorem State.setStrm_f32 (s : State) (q : Nat) (x : Stream) (key : Nat) : (s.setStrm q x).f32 key = s.f32 key := rfl
@[simp] theorem State.setStrm_flag (s : State) (q : Nat) (x : Stream) (key : Nat) : (s.setStrm q x).flag key = s.flag key := rfl
@[simp] theorem State.setStrm_octets (s : State) (q : Nat) (x : Stream) (key : Nat) : (s.setStrm q x).octets key = s.octets key := rfl
@[simp] theorem State.setStrm_bit (s : State) (q : Nat) (x : Stream) (key bitNo : Nat) : (s.setStrm q x).bit key bitNo = s.bit key bitNo := rfl
@[simp] theorem State.setStrm_streams (s : State) (q : Nat) (x : Stream) : (s.setStrm q x).streams = vset s.streams q x := rfl

@[simp] theorem State.setCan_variant (s : State) (k : Nat) (c : CanPort) : (s.setCan k c).variant = s.variant := rfl
@[simp] theorem State.setCan_now (s : State) (k : Nat) (c : CanPort) : (s.setCan k c).now = s.now := rfl
@[simp] theorem State.setCan_ltc (s : State) (k : Nat) (c : CanPort) : (s.setCan k c).ltc = s.ltc := rfl
@[simp] theorem State.setCan_free (s : State) (k : Nat) (c : CanPort) : (s.setCan k c).free = s.free := rfl
@[simp] theorem State.setCan_dict (s : State) (k : Nat) (c : CanPort) : (s.setCan k c).dict = s.dict := rfl
@[simp] theorem State.setCan_recorder (s : State) (k : Nat) (c : CanPort) : (s.setCan k c).recorder = s.recorder := rfl
@[simp] theorem State.setCan_arch (s : State) (k : Nat) (c : CanPort) : (s.setCan k c).arch = s.arch := rfl
@[simp] theorem State.setCan_power (s : State) (k : Nat) (c : CanPort) : (s.setCan k c).power = s.power := rfl
@[simp] theorem State.setCan_tb (s : State) (k : Nat) (c : CanPort) : (s.setCan k c).tb = s.tb := rfl
@[simp] theorem State.setCan_pwm (s : State) (k : Nat) (c : CanPort) : (s.setCan k c).pwm = s.pwm := rfl
@[simp] theorem State.setCan_arms (s : State) (k : Nat) (c : CanPort) : (s.setCan k c).arms = s.arms := rfl
@[simp] theorem State.setCan_ld (s : State) (k : Nat) (c : CanPort) : (s.setCan k c).ld = s.ld := rfl
@[simp] theorem State.setCan_sig (s : State) (k : Nat) (c : CanPort) : (s.setCan k c).sig = s.sig := rfl
@[simp] theorem State.setCan_streams (s : State) (k : Nat) (c : CanPort) : (s.setCan k c).streams = s.streams := rfl
@[simp] theorem State.setCan_maskRun (s : State) (k : Nat) (c : CanPort) : (s.setCan k c).maskRun = s.maskRun := rfl
@[simp] theorem State.setCan_lanes (s : State) (k : Nat) (c : CanPort) : (s.setCan k c).lanes = s.lanes := rfl
@[simp] theorem State.setCan_frame (s : State) (k : Nat) (c : CanPort) : (s.setCan k c).frame = s.frame := rfl
@[simp] theorem State.setCan_sup (s : State) (k : Nat) (c : CanPort) : (s.setCan k c).sup = s.sup := rfl
@[simp] theorem State.setCan_adc (s : State) (k : Nat) (c : CanPort) : (s.setCan k c).adc = s.adc := rfl
@[simp] theorem State.setCan_adcUnit (s : State) (k : Nat) (c : CanPort) : (s.setCan k c).adcUnit = s.adcUnit := rfl
@[simp] theorem State.setCan_chains (s : State) (k : Nat) (c : CanPort) : (s.setCan k c).chains = s.chains := rfl
@[simp] theorem State.setCan_link (s : State) (k : Nat) (c : CanPort) : (s.setCan k c).link = s.link := rfl
@[simp] theorem State.setCan_pair (s : State) (k : Nat) (c : CanPort) : (s.setCan k c).pair = s.pair := rfl
@[simp] theorem State.setCan_servo (s : State) (k : Nat) (c : CanPort) : (s.setCan k c).servo = s.servo := rfl
@[simp] theorem State.setCan_safety (s : State) (k : Nat) (c : CanPort) : (s.setCan k c).safety = s.safety := rfl
@[simp] theorem State.setCan_security (s : State) (k : Nat) (c : CanPort) : (s.setCan k c).security = s.security := rfl
@[simp] theorem State.setCan_hosts (s : State) (k : Nat) (c : CanPort) : (s.setCan k c).hosts = s.hosts := rfl
@[simp] theorem State.setCan_boot (s : State) (k : Nat) (c : CanPort) : (s.setCan k c).boot = s.boot := rfl
@[simp] theorem State.setCan_launchAt (s : State) (k : Nat) (c : CanPort) : (s.setCan k c).launchAt = s.launchAt := rfl
@[simp] theorem State.setCan_launchBusy (s : State) (k : Nat) (c : CanPort) : (s.setCan k c).launchBusy = s.launchBusy := rfl
@[simp] theorem State.setCan_ethWait (s : State) (k : Nat) (c : CanPort) : (s.setCan k c).ethWait = s.ethWait := rfl
@[simp] theorem State.setCan_out (s : State) (k : Nat) (c : CanPort) : (s.setCan k c).out = s.out := rfl
@[simp] theorem State.setCan_pending (s : State) (k : Nat) (c : CanPort) : (s.setCan k c).pending = s.pending := rfl
@[simp] theorem State.setCan_od (s : State) (k : Nat) (c : CanPort) (key : Nat) : (s.setCan k c).od key = s.od key := rfl
@[simp] theorem State.setCan_int (s : State) (k : Nat) (c : CanPort) (key : Nat) : (s.setCan k c).int key = s.int key := rfl
@[simp] theorem State.setCan_nat (s : State) (k : Nat) (c : CanPort) (key : Nat) : (s.setCan k c).nat key = s.nat key := rfl
@[simp] theorem State.setCan_f32 (s : State) (k : Nat) (c : CanPort) (key : Nat) : (s.setCan k c).f32 key = s.f32 key := rfl
@[simp] theorem State.setCan_flag (s : State) (k : Nat) (c : CanPort) (key : Nat) : (s.setCan k c).flag key = s.flag key := rfl
@[simp] theorem State.setCan_octets (s : State) (k : Nat) (c : CanPort) (key : Nat) : (s.setCan k c).octets key = s.octets key := rfl
@[simp] theorem State.setCan_bit (s : State) (k : Nat) (c : CanPort) (key bitNo : Nat) : (s.setCan k c).bit key bitNo = s.bit key bitNo := rfl
@[simp] theorem State.setCan_can (s : State) (k : Nat) (c : CanPort) : (s.setCan k c).can = vset s.can k c := rfl

@[simp] theorem State.setCore_variant (s : State) (c : Nat) (x : AdcCore) : (s.setCore c x).variant = s.variant := rfl
@[simp] theorem State.setCore_now (s : State) (c : Nat) (x : AdcCore) : (s.setCore c x).now = s.now := rfl
@[simp] theorem State.setCore_ltc (s : State) (c : Nat) (x : AdcCore) : (s.setCore c x).ltc = s.ltc := rfl
@[simp] theorem State.setCore_free (s : State) (c : Nat) (x : AdcCore) : (s.setCore c x).free = s.free := rfl
@[simp] theorem State.setCore_dict (s : State) (c : Nat) (x : AdcCore) : (s.setCore c x).dict = s.dict := rfl
@[simp] theorem State.setCore_recorder (s : State) (c : Nat) (x : AdcCore) : (s.setCore c x).recorder = s.recorder := rfl
@[simp] theorem State.setCore_arch (s : State) (c : Nat) (x : AdcCore) : (s.setCore c x).arch = s.arch := rfl
@[simp] theorem State.setCore_power (s : State) (c : Nat) (x : AdcCore) : (s.setCore c x).power = s.power := rfl
@[simp] theorem State.setCore_tb (s : State) (c : Nat) (x : AdcCore) : (s.setCore c x).tb = s.tb := rfl
@[simp] theorem State.setCore_pwm (s : State) (c : Nat) (x : AdcCore) : (s.setCore c x).pwm = s.pwm := rfl
@[simp] theorem State.setCore_arms (s : State) (c : Nat) (x : AdcCore) : (s.setCore c x).arms = s.arms := rfl
@[simp] theorem State.setCore_ld (s : State) (c : Nat) (x : AdcCore) : (s.setCore c x).ld = s.ld := rfl
@[simp] theorem State.setCore_sig (s : State) (c : Nat) (x : AdcCore) : (s.setCore c x).sig = s.sig := rfl
@[simp] theorem State.setCore_streams (s : State) (c : Nat) (x : AdcCore) : (s.setCore c x).streams = s.streams := rfl
@[simp] theorem State.setCore_maskRun (s : State) (c : Nat) (x : AdcCore) : (s.setCore c x).maskRun = s.maskRun := rfl
@[simp] theorem State.setCore_lanes (s : State) (c : Nat) (x : AdcCore) : (s.setCore c x).lanes = s.lanes := rfl
@[simp] theorem State.setCore_frame (s : State) (c : Nat) (x : AdcCore) : (s.setCore c x).frame = s.frame := rfl
@[simp] theorem State.setCore_sup (s : State) (c : Nat) (x : AdcCore) : (s.setCore c x).sup = s.sup := rfl
@[simp] theorem State.setCore_adcUnit (s : State) (c : Nat) (x : AdcCore) : (s.setCore c x).adcUnit = s.adcUnit := rfl
@[simp] theorem State.setCore_chains (s : State) (c : Nat) (x : AdcCore) : (s.setCore c x).chains = s.chains := rfl
@[simp] theorem State.setCore_link (s : State) (c : Nat) (x : AdcCore) : (s.setCore c x).link = s.link := rfl
@[simp] theorem State.setCore_pair (s : State) (c : Nat) (x : AdcCore) : (s.setCore c x).pair = s.pair := rfl
@[simp] theorem State.setCore_servo (s : State) (c : Nat) (x : AdcCore) : (s.setCore c x).servo = s.servo := rfl
@[simp] theorem State.setCore_safety (s : State) (c : Nat) (x : AdcCore) : (s.setCore c x).safety = s.safety := rfl
@[simp] theorem State.setCore_security (s : State) (c : Nat) (x : AdcCore) : (s.setCore c x).security = s.security := rfl
@[simp] theorem State.setCore_hosts (s : State) (c : Nat) (x : AdcCore) : (s.setCore c x).hosts = s.hosts := rfl
@[simp] theorem State.setCore_boot (s : State) (c : Nat) (x : AdcCore) : (s.setCore c x).boot = s.boot := rfl
@[simp] theorem State.setCore_can (s : State) (c : Nat) (x : AdcCore) : (s.setCore c x).can = s.can := rfl
@[simp] theorem State.setCore_launchAt (s : State) (c : Nat) (x : AdcCore) : (s.setCore c x).launchAt = s.launchAt := rfl
@[simp] theorem State.setCore_launchBusy (s : State) (c : Nat) (x : AdcCore) : (s.setCore c x).launchBusy = s.launchBusy := rfl
@[simp] theorem State.setCore_ethWait (s : State) (c : Nat) (x : AdcCore) : (s.setCore c x).ethWait = s.ethWait := rfl
@[simp] theorem State.setCore_out (s : State) (c : Nat) (x : AdcCore) : (s.setCore c x).out = s.out := rfl
@[simp] theorem State.setCore_pending (s : State) (c : Nat) (x : AdcCore) : (s.setCore c x).pending = s.pending := rfl
@[simp] theorem State.setCore_od (s : State) (c : Nat) (x : AdcCore) (key : Nat) : (s.setCore c x).od key = s.od key := rfl
@[simp] theorem State.setCore_int (s : State) (c : Nat) (x : AdcCore) (key : Nat) : (s.setCore c x).int key = s.int key := rfl
@[simp] theorem State.setCore_nat (s : State) (c : Nat) (x : AdcCore) (key : Nat) : (s.setCore c x).nat key = s.nat key := rfl
@[simp] theorem State.setCore_f32 (s : State) (c : Nat) (x : AdcCore) (key : Nat) : (s.setCore c x).f32 key = s.f32 key := rfl
@[simp] theorem State.setCore_flag (s : State) (c : Nat) (x : AdcCore) (key : Nat) : (s.setCore c x).flag key = s.flag key := rfl
@[simp] theorem State.setCore_octets (s : State) (c : Nat) (x : AdcCore) (key : Nat) : (s.setCore c x).octets key = s.octets key := rfl
@[simp] theorem State.setCore_bit (s : State) (c : Nat) (x : AdcCore) (key bitNo : Nat) : (s.setCore c x).bit key bitNo = s.bit key bitNo := rfl
@[simp] theorem State.setCore_adc (s : State) (c : Nat) (x : AdcCore) : (s.setCore c x).adc = vset s.adc c x := rfl

@[simp] theorem State.setChain_variant (s : State) (n : Nat) (x : Chain) : (s.setChain n x).variant = s.variant := rfl
@[simp] theorem State.setChain_now (s : State) (n : Nat) (x : Chain) : (s.setChain n x).now = s.now := rfl
@[simp] theorem State.setChain_ltc (s : State) (n : Nat) (x : Chain) : (s.setChain n x).ltc = s.ltc := rfl
@[simp] theorem State.setChain_free (s : State) (n : Nat) (x : Chain) : (s.setChain n x).free = s.free := rfl
@[simp] theorem State.setChain_dict (s : State) (n : Nat) (x : Chain) : (s.setChain n x).dict = s.dict := rfl
@[simp] theorem State.setChain_recorder (s : State) (n : Nat) (x : Chain) : (s.setChain n x).recorder = s.recorder := rfl
@[simp] theorem State.setChain_arch (s : State) (n : Nat) (x : Chain) : (s.setChain n x).arch = s.arch := rfl
@[simp] theorem State.setChain_power (s : State) (n : Nat) (x : Chain) : (s.setChain n x).power = s.power := rfl
@[simp] theorem State.setChain_tb (s : State) (n : Nat) (x : Chain) : (s.setChain n x).tb = s.tb := rfl
@[simp] theorem State.setChain_pwm (s : State) (n : Nat) (x : Chain) : (s.setChain n x).pwm = s.pwm := rfl
@[simp] theorem State.setChain_arms (s : State) (n : Nat) (x : Chain) : (s.setChain n x).arms = s.arms := rfl
@[simp] theorem State.setChain_ld (s : State) (n : Nat) (x : Chain) : (s.setChain n x).ld = s.ld := rfl
@[simp] theorem State.setChain_sig (s : State) (n : Nat) (x : Chain) : (s.setChain n x).sig = s.sig := rfl
@[simp] theorem State.setChain_streams (s : State) (n : Nat) (x : Chain) : (s.setChain n x).streams = s.streams := rfl
@[simp] theorem State.setChain_maskRun (s : State) (n : Nat) (x : Chain) : (s.setChain n x).maskRun = s.maskRun := rfl
@[simp] theorem State.setChain_lanes (s : State) (n : Nat) (x : Chain) : (s.setChain n x).lanes = s.lanes := rfl
@[simp] theorem State.setChain_frame (s : State) (n : Nat) (x : Chain) : (s.setChain n x).frame = s.frame := rfl
@[simp] theorem State.setChain_sup (s : State) (n : Nat) (x : Chain) : (s.setChain n x).sup = s.sup := rfl
@[simp] theorem State.setChain_adc (s : State) (n : Nat) (x : Chain) : (s.setChain n x).adc = s.adc := rfl
@[simp] theorem State.setChain_adcUnit (s : State) (n : Nat) (x : Chain) : (s.setChain n x).adcUnit = s.adcUnit := rfl
@[simp] theorem State.setChain_link (s : State) (n : Nat) (x : Chain) : (s.setChain n x).link = s.link := rfl
@[simp] theorem State.setChain_pair (s : State) (n : Nat) (x : Chain) : (s.setChain n x).pair = s.pair := rfl
@[simp] theorem State.setChain_servo (s : State) (n : Nat) (x : Chain) : (s.setChain n x).servo = s.servo := rfl
@[simp] theorem State.setChain_safety (s : State) (n : Nat) (x : Chain) : (s.setChain n x).safety = s.safety := rfl
@[simp] theorem State.setChain_security (s : State) (n : Nat) (x : Chain) : (s.setChain n x).security = s.security := rfl
@[simp] theorem State.setChain_hosts (s : State) (n : Nat) (x : Chain) : (s.setChain n x).hosts = s.hosts := rfl
@[simp] theorem State.setChain_boot (s : State) (n : Nat) (x : Chain) : (s.setChain n x).boot = s.boot := rfl
@[simp] theorem State.setChain_can (s : State) (n : Nat) (x : Chain) : (s.setChain n x).can = s.can := rfl
@[simp] theorem State.setChain_launchAt (s : State) (n : Nat) (x : Chain) : (s.setChain n x).launchAt = s.launchAt := rfl
@[simp] theorem State.setChain_launchBusy (s : State) (n : Nat) (x : Chain) : (s.setChain n x).launchBusy = s.launchBusy := rfl
@[simp] theorem State.setChain_ethWait (s : State) (n : Nat) (x : Chain) : (s.setChain n x).ethWait = s.ethWait := rfl
@[simp] theorem State.setChain_out (s : State) (n : Nat) (x : Chain) : (s.setChain n x).out = s.out := rfl
@[simp] theorem State.setChain_pending (s : State) (n : Nat) (x : Chain) : (s.setChain n x).pending = s.pending := rfl
@[simp] theorem State.setChain_od (s : State) (n : Nat) (x : Chain) (key : Nat) : (s.setChain n x).od key = s.od key := rfl
@[simp] theorem State.setChain_int (s : State) (n : Nat) (x : Chain) (key : Nat) : (s.setChain n x).int key = s.int key := rfl
@[simp] theorem State.setChain_nat (s : State) (n : Nat) (x : Chain) (key : Nat) : (s.setChain n x).nat key = s.nat key := rfl
@[simp] theorem State.setChain_f32 (s : State) (n : Nat) (x : Chain) (key : Nat) : (s.setChain n x).f32 key = s.f32 key := rfl
@[simp] theorem State.setChain_flag (s : State) (n : Nat) (x : Chain) (key : Nat) : (s.setChain n x).flag key = s.flag key := rfl
@[simp] theorem State.setChain_octets (s : State) (n : Nat) (x : Chain) (key : Nat) : (s.setChain n x).octets key = s.octets key := rfl
@[simp] theorem State.setChain_bit (s : State) (n : Nat) (x : Chain) (key bitNo : Nat) : (s.setChain n x).bit key bitNo = s.bit key bitNo := rfl
@[simp] theorem State.setChain_chains (s : State) (n : Nat) (x : Chain) : (s.setChain n x).chains = vset s.chains n x := rfl

@[simp] theorem State.put_variant (s : State) (k : Nat) (v : Val) : (s.put k v).variant = s.variant := rfl
@[simp] theorem State.put_now (s : State) (k : Nat) (v : Val) : (s.put k v).now = s.now := rfl
@[simp] theorem State.put_ltc (s : State) (k : Nat) (v : Val) : (s.put k v).ltc = s.ltc := rfl
@[simp] theorem State.put_free (s : State) (k : Nat) (v : Val) : (s.put k v).free = s.free := rfl
@[simp] theorem State.put_recorder (s : State) (k : Nat) (v : Val) : (s.put k v).recorder = s.recorder := rfl
@[simp] theorem State.put_arch (s : State) (k : Nat) (v : Val) : (s.put k v).arch = s.arch := rfl
@[simp] theorem State.put_power (s : State) (k : Nat) (v : Val) : (s.put k v).power = s.power := rfl
@[simp] theorem State.put_tb (s : State) (k : Nat) (v : Val) : (s.put k v).tb = s.tb := rfl
@[simp] theorem State.put_pwm (s : State) (k : Nat) (v : Val) : (s.put k v).pwm = s.pwm := rfl
@[simp] theorem State.put_arms (s : State) (k : Nat) (v : Val) : (s.put k v).arms = s.arms := rfl
@[simp] theorem State.put_ld (s : State) (k : Nat) (v : Val) : (s.put k v).ld = s.ld := rfl
@[simp] theorem State.put_sig (s : State) (k : Nat) (v : Val) : (s.put k v).sig = s.sig := rfl
@[simp] theorem State.put_streams (s : State) (k : Nat) (v : Val) : (s.put k v).streams = s.streams := rfl
@[simp] theorem State.put_maskRun (s : State) (k : Nat) (v : Val) : (s.put k v).maskRun = s.maskRun := rfl
@[simp] theorem State.put_lanes (s : State) (k : Nat) (v : Val) : (s.put k v).lanes = s.lanes := rfl
@[simp] theorem State.put_frame (s : State) (k : Nat) (v : Val) : (s.put k v).frame = s.frame := rfl
@[simp] theorem State.put_sup (s : State) (k : Nat) (v : Val) : (s.put k v).sup = s.sup := rfl
@[simp] theorem State.put_adc (s : State) (k : Nat) (v : Val) : (s.put k v).adc = s.adc := rfl
@[simp] theorem State.put_adcUnit (s : State) (k : Nat) (v : Val) : (s.put k v).adcUnit = s.adcUnit := rfl
@[simp] theorem State.put_chains (s : State) (k : Nat) (v : Val) : (s.put k v).chains = s.chains := rfl
@[simp] theorem State.put_link (s : State) (k : Nat) (v : Val) : (s.put k v).link = s.link := rfl
@[simp] theorem State.put_pair (s : State) (k : Nat) (v : Val) : (s.put k v).pair = s.pair := rfl
@[simp] theorem State.put_servo (s : State) (k : Nat) (v : Val) : (s.put k v).servo = s.servo := rfl
@[simp] theorem State.put_safety (s : State) (k : Nat) (v : Val) : (s.put k v).safety = s.safety := rfl
@[simp] theorem State.put_security (s : State) (k : Nat) (v : Val) : (s.put k v).security = s.security := rfl
@[simp] theorem State.put_hosts (s : State) (k : Nat) (v : Val) : (s.put k v).hosts = s.hosts := rfl
@[simp] theorem State.put_boot (s : State) (k : Nat) (v : Val) : (s.put k v).boot = s.boot := rfl
@[simp] theorem State.put_can (s : State) (k : Nat) (v : Val) : (s.put k v).can = s.can := rfl
@[simp] theorem State.put_launchAt (s : State) (k : Nat) (v : Val) : (s.put k v).launchAt = s.launchAt := rfl
@[simp] theorem State.put_launchBusy (s : State) (k : Nat) (v : Val) : (s.put k v).launchBusy = s.launchBusy := rfl
@[simp] theorem State.put_ethWait (s : State) (k : Nat) (v : Val) : (s.put k v).ethWait = s.ethWait := rfl
@[simp] theorem State.put_out (s : State) (k : Nat) (v : Val) : (s.put k v).out = s.out := rfl
@[simp] theorem State.put_pending (s : State) (k : Nat) (v : Val) : (s.put k v).pending = s.pending := rfl

@[simp] theorem State.putI_variant (s : State) (k : Nat) (n : Int) : (s.putI k n).variant = s.variant := rfl
@[simp] theorem State.putI_now (s : State) (k : Nat) (n : Int) : (s.putI k n).now = s.now := rfl
@[simp] theorem State.putI_ltc (s : State) (k : Nat) (n : Int) : (s.putI k n).ltc = s.ltc := rfl
@[simp] theorem State.putI_free (s : State) (k : Nat) (n : Int) : (s.putI k n).free = s.free := rfl
@[simp] theorem State.putI_recorder (s : State) (k : Nat) (n : Int) : (s.putI k n).recorder = s.recorder := rfl
@[simp] theorem State.putI_arch (s : State) (k : Nat) (n : Int) : (s.putI k n).arch = s.arch := rfl
@[simp] theorem State.putI_power (s : State) (k : Nat) (n : Int) : (s.putI k n).power = s.power := rfl
@[simp] theorem State.putI_tb (s : State) (k : Nat) (n : Int) : (s.putI k n).tb = s.tb := rfl
@[simp] theorem State.putI_pwm (s : State) (k : Nat) (n : Int) : (s.putI k n).pwm = s.pwm := rfl
@[simp] theorem State.putI_arms (s : State) (k : Nat) (n : Int) : (s.putI k n).arms = s.arms := rfl
@[simp] theorem State.putI_ld (s : State) (k : Nat) (n : Int) : (s.putI k n).ld = s.ld := rfl
@[simp] theorem State.putI_sig (s : State) (k : Nat) (n : Int) : (s.putI k n).sig = s.sig := rfl
@[simp] theorem State.putI_streams (s : State) (k : Nat) (n : Int) : (s.putI k n).streams = s.streams := rfl
@[simp] theorem State.putI_maskRun (s : State) (k : Nat) (n : Int) : (s.putI k n).maskRun = s.maskRun := rfl
@[simp] theorem State.putI_lanes (s : State) (k : Nat) (n : Int) : (s.putI k n).lanes = s.lanes := rfl
@[simp] theorem State.putI_frame (s : State) (k : Nat) (n : Int) : (s.putI k n).frame = s.frame := rfl
@[simp] theorem State.putI_sup (s : State) (k : Nat) (n : Int) : (s.putI k n).sup = s.sup := rfl
@[simp] theorem State.putI_adc (s : State) (k : Nat) (n : Int) : (s.putI k n).adc = s.adc := rfl
@[simp] theorem State.putI_adcUnit (s : State) (k : Nat) (n : Int) : (s.putI k n).adcUnit = s.adcUnit := rfl
@[simp] theorem State.putI_chains (s : State) (k : Nat) (n : Int) : (s.putI k n).chains = s.chains := rfl
@[simp] theorem State.putI_link (s : State) (k : Nat) (n : Int) : (s.putI k n).link = s.link := rfl
@[simp] theorem State.putI_pair (s : State) (k : Nat) (n : Int) : (s.putI k n).pair = s.pair := rfl
@[simp] theorem State.putI_servo (s : State) (k : Nat) (n : Int) : (s.putI k n).servo = s.servo := rfl
@[simp] theorem State.putI_safety (s : State) (k : Nat) (n : Int) : (s.putI k n).safety = s.safety := rfl
@[simp] theorem State.putI_security (s : State) (k : Nat) (n : Int) : (s.putI k n).security = s.security := rfl
@[simp] theorem State.putI_hosts (s : State) (k : Nat) (n : Int) : (s.putI k n).hosts = s.hosts := rfl
@[simp] theorem State.putI_boot (s : State) (k : Nat) (n : Int) : (s.putI k n).boot = s.boot := rfl
@[simp] theorem State.putI_can (s : State) (k : Nat) (n : Int) : (s.putI k n).can = s.can := rfl
@[simp] theorem State.putI_launchAt (s : State) (k : Nat) (n : Int) : (s.putI k n).launchAt = s.launchAt := rfl
@[simp] theorem State.putI_launchBusy (s : State) (k : Nat) (n : Int) : (s.putI k n).launchBusy = s.launchBusy := rfl
@[simp] theorem State.putI_ethWait (s : State) (k : Nat) (n : Int) : (s.putI k n).ethWait = s.ethWait := rfl
@[simp] theorem State.putI_out (s : State) (k : Nat) (n : Int) : (s.putI k n).out = s.out := rfl
@[simp] theorem State.putI_pending (s : State) (k : Nat) (n : Int) : (s.putI k n).pending = s.pending := rfl

@[simp] theorem State.putN_variant (s : State) (k : Nat) (n : Nat) : (s.putN k n).variant = s.variant := rfl
@[simp] theorem State.putN_now (s : State) (k : Nat) (n : Nat) : (s.putN k n).now = s.now := rfl
@[simp] theorem State.putN_ltc (s : State) (k : Nat) (n : Nat) : (s.putN k n).ltc = s.ltc := rfl
@[simp] theorem State.putN_free (s : State) (k : Nat) (n : Nat) : (s.putN k n).free = s.free := rfl
@[simp] theorem State.putN_recorder (s : State) (k : Nat) (n : Nat) : (s.putN k n).recorder = s.recorder := rfl
@[simp] theorem State.putN_arch (s : State) (k : Nat) (n : Nat) : (s.putN k n).arch = s.arch := rfl
@[simp] theorem State.putN_power (s : State) (k : Nat) (n : Nat) : (s.putN k n).power = s.power := rfl
@[simp] theorem State.putN_tb (s : State) (k : Nat) (n : Nat) : (s.putN k n).tb = s.tb := rfl
@[simp] theorem State.putN_pwm (s : State) (k : Nat) (n : Nat) : (s.putN k n).pwm = s.pwm := rfl
@[simp] theorem State.putN_arms (s : State) (k : Nat) (n : Nat) : (s.putN k n).arms = s.arms := rfl
@[simp] theorem State.putN_ld (s : State) (k : Nat) (n : Nat) : (s.putN k n).ld = s.ld := rfl
@[simp] theorem State.putN_sig (s : State) (k : Nat) (n : Nat) : (s.putN k n).sig = s.sig := rfl
@[simp] theorem State.putN_streams (s : State) (k : Nat) (n : Nat) : (s.putN k n).streams = s.streams := rfl
@[simp] theorem State.putN_maskRun (s : State) (k : Nat) (n : Nat) : (s.putN k n).maskRun = s.maskRun := rfl
@[simp] theorem State.putN_lanes (s : State) (k : Nat) (n : Nat) : (s.putN k n).lanes = s.lanes := rfl
@[simp] theorem State.putN_frame (s : State) (k : Nat) (n : Nat) : (s.putN k n).frame = s.frame := rfl
@[simp] theorem State.putN_sup (s : State) (k : Nat) (n : Nat) : (s.putN k n).sup = s.sup := rfl
@[simp] theorem State.putN_adc (s : State) (k : Nat) (n : Nat) : (s.putN k n).adc = s.adc := rfl
@[simp] theorem State.putN_adcUnit (s : State) (k : Nat) (n : Nat) : (s.putN k n).adcUnit = s.adcUnit := rfl
@[simp] theorem State.putN_chains (s : State) (k : Nat) (n : Nat) : (s.putN k n).chains = s.chains := rfl
@[simp] theorem State.putN_link (s : State) (k : Nat) (n : Nat) : (s.putN k n).link = s.link := rfl
@[simp] theorem State.putN_pair (s : State) (k : Nat) (n : Nat) : (s.putN k n).pair = s.pair := rfl
@[simp] theorem State.putN_servo (s : State) (k : Nat) (n : Nat) : (s.putN k n).servo = s.servo := rfl
@[simp] theorem State.putN_safety (s : State) (k : Nat) (n : Nat) : (s.putN k n).safety = s.safety := rfl
@[simp] theorem State.putN_security (s : State) (k : Nat) (n : Nat) : (s.putN k n).security = s.security := rfl
@[simp] theorem State.putN_hosts (s : State) (k : Nat) (n : Nat) : (s.putN k n).hosts = s.hosts := rfl
@[simp] theorem State.putN_boot (s : State) (k : Nat) (n : Nat) : (s.putN k n).boot = s.boot := rfl
@[simp] theorem State.putN_can (s : State) (k : Nat) (n : Nat) : (s.putN k n).can = s.can := rfl
@[simp] theorem State.putN_launchAt (s : State) (k : Nat) (n : Nat) : (s.putN k n).launchAt = s.launchAt := rfl
@[simp] theorem State.putN_launchBusy (s : State) (k : Nat) (n : Nat) : (s.putN k n).launchBusy = s.launchBusy := rfl
@[simp] theorem State.putN_ethWait (s : State) (k : Nat) (n : Nat) : (s.putN k n).ethWait = s.ethWait := rfl
@[simp] theorem State.putN_out (s : State) (k : Nat) (n : Nat) : (s.putN k n).out = s.out := rfl
@[simp] theorem State.putN_pending (s : State) (k : Nat) (n : Nat) : (s.putN k n).pending = s.pending := rfl

@[simp] theorem State.putF_variant (s : State) (k : Nat) (x : F32) : (s.putF k x).variant = s.variant := rfl
@[simp] theorem State.putF_now (s : State) (k : Nat) (x : F32) : (s.putF k x).now = s.now := rfl
@[simp] theorem State.putF_ltc (s : State) (k : Nat) (x : F32) : (s.putF k x).ltc = s.ltc := rfl
@[simp] theorem State.putF_free (s : State) (k : Nat) (x : F32) : (s.putF k x).free = s.free := rfl
@[simp] theorem State.putF_recorder (s : State) (k : Nat) (x : F32) : (s.putF k x).recorder = s.recorder := rfl
@[simp] theorem State.putF_arch (s : State) (k : Nat) (x : F32) : (s.putF k x).arch = s.arch := rfl
@[simp] theorem State.putF_power (s : State) (k : Nat) (x : F32) : (s.putF k x).power = s.power := rfl
@[simp] theorem State.putF_tb (s : State) (k : Nat) (x : F32) : (s.putF k x).tb = s.tb := rfl
@[simp] theorem State.putF_pwm (s : State) (k : Nat) (x : F32) : (s.putF k x).pwm = s.pwm := rfl
@[simp] theorem State.putF_arms (s : State) (k : Nat) (x : F32) : (s.putF k x).arms = s.arms := rfl
@[simp] theorem State.putF_ld (s : State) (k : Nat) (x : F32) : (s.putF k x).ld = s.ld := rfl
@[simp] theorem State.putF_sig (s : State) (k : Nat) (x : F32) : (s.putF k x).sig = s.sig := rfl
@[simp] theorem State.putF_streams (s : State) (k : Nat) (x : F32) : (s.putF k x).streams = s.streams := rfl
@[simp] theorem State.putF_maskRun (s : State) (k : Nat) (x : F32) : (s.putF k x).maskRun = s.maskRun := rfl
@[simp] theorem State.putF_lanes (s : State) (k : Nat) (x : F32) : (s.putF k x).lanes = s.lanes := rfl
@[simp] theorem State.putF_frame (s : State) (k : Nat) (x : F32) : (s.putF k x).frame = s.frame := rfl
@[simp] theorem State.putF_sup (s : State) (k : Nat) (x : F32) : (s.putF k x).sup = s.sup := rfl
@[simp] theorem State.putF_adc (s : State) (k : Nat) (x : F32) : (s.putF k x).adc = s.adc := rfl
@[simp] theorem State.putF_adcUnit (s : State) (k : Nat) (x : F32) : (s.putF k x).adcUnit = s.adcUnit := rfl
@[simp] theorem State.putF_chains (s : State) (k : Nat) (x : F32) : (s.putF k x).chains = s.chains := rfl
@[simp] theorem State.putF_link (s : State) (k : Nat) (x : F32) : (s.putF k x).link = s.link := rfl
@[simp] theorem State.putF_pair (s : State) (k : Nat) (x : F32) : (s.putF k x).pair = s.pair := rfl
@[simp] theorem State.putF_servo (s : State) (k : Nat) (x : F32) : (s.putF k x).servo = s.servo := rfl
@[simp] theorem State.putF_safety (s : State) (k : Nat) (x : F32) : (s.putF k x).safety = s.safety := rfl
@[simp] theorem State.putF_security (s : State) (k : Nat) (x : F32) : (s.putF k x).security = s.security := rfl
@[simp] theorem State.putF_hosts (s : State) (k : Nat) (x : F32) : (s.putF k x).hosts = s.hosts := rfl
@[simp] theorem State.putF_boot (s : State) (k : Nat) (x : F32) : (s.putF k x).boot = s.boot := rfl
@[simp] theorem State.putF_can (s : State) (k : Nat) (x : F32) : (s.putF k x).can = s.can := rfl
@[simp] theorem State.putF_launchAt (s : State) (k : Nat) (x : F32) : (s.putF k x).launchAt = s.launchAt := rfl
@[simp] theorem State.putF_launchBusy (s : State) (k : Nat) (x : F32) : (s.putF k x).launchBusy = s.launchBusy := rfl
@[simp] theorem State.putF_ethWait (s : State) (k : Nat) (x : F32) : (s.putF k x).ethWait = s.ethWait := rfl
@[simp] theorem State.putF_out (s : State) (k : Nat) (x : F32) : (s.putF k x).out = s.out := rfl
@[simp] theorem State.putF_pending (s : State) (k : Nat) (x : F32) : (s.putF k x).pending = s.pending := rfl

@[simp] theorem State.putB_variant (s : State) (k : Nat) (b : Bool) : (s.putB k b).variant = s.variant := rfl
@[simp] theorem State.putB_now (s : State) (k : Nat) (b : Bool) : (s.putB k b).now = s.now := rfl
@[simp] theorem State.putB_ltc (s : State) (k : Nat) (b : Bool) : (s.putB k b).ltc = s.ltc := rfl
@[simp] theorem State.putB_free (s : State) (k : Nat) (b : Bool) : (s.putB k b).free = s.free := rfl
@[simp] theorem State.putB_recorder (s : State) (k : Nat) (b : Bool) : (s.putB k b).recorder = s.recorder := rfl
@[simp] theorem State.putB_arch (s : State) (k : Nat) (b : Bool) : (s.putB k b).arch = s.arch := rfl
@[simp] theorem State.putB_power (s : State) (k : Nat) (b : Bool) : (s.putB k b).power = s.power := rfl
@[simp] theorem State.putB_tb (s : State) (k : Nat) (b : Bool) : (s.putB k b).tb = s.tb := rfl
@[simp] theorem State.putB_pwm (s : State) (k : Nat) (b : Bool) : (s.putB k b).pwm = s.pwm := rfl
@[simp] theorem State.putB_arms (s : State) (k : Nat) (b : Bool) : (s.putB k b).arms = s.arms := rfl
@[simp] theorem State.putB_ld (s : State) (k : Nat) (b : Bool) : (s.putB k b).ld = s.ld := rfl
@[simp] theorem State.putB_sig (s : State) (k : Nat) (b : Bool) : (s.putB k b).sig = s.sig := rfl
@[simp] theorem State.putB_streams (s : State) (k : Nat) (b : Bool) : (s.putB k b).streams = s.streams := rfl
@[simp] theorem State.putB_maskRun (s : State) (k : Nat) (b : Bool) : (s.putB k b).maskRun = s.maskRun := rfl
@[simp] theorem State.putB_lanes (s : State) (k : Nat) (b : Bool) : (s.putB k b).lanes = s.lanes := rfl
@[simp] theorem State.putB_frame (s : State) (k : Nat) (b : Bool) : (s.putB k b).frame = s.frame := rfl
@[simp] theorem State.putB_sup (s : State) (k : Nat) (b : Bool) : (s.putB k b).sup = s.sup := rfl
@[simp] theorem State.putB_adc (s : State) (k : Nat) (b : Bool) : (s.putB k b).adc = s.adc := rfl
@[simp] theorem State.putB_adcUnit (s : State) (k : Nat) (b : Bool) : (s.putB k b).adcUnit = s.adcUnit := rfl
@[simp] theorem State.putB_chains (s : State) (k : Nat) (b : Bool) : (s.putB k b).chains = s.chains := rfl
@[simp] theorem State.putB_link (s : State) (k : Nat) (b : Bool) : (s.putB k b).link = s.link := rfl
@[simp] theorem State.putB_pair (s : State) (k : Nat) (b : Bool) : (s.putB k b).pair = s.pair := rfl
@[simp] theorem State.putB_servo (s : State) (k : Nat) (b : Bool) : (s.putB k b).servo = s.servo := rfl
@[simp] theorem State.putB_safety (s : State) (k : Nat) (b : Bool) : (s.putB k b).safety = s.safety := rfl
@[simp] theorem State.putB_security (s : State) (k : Nat) (b : Bool) : (s.putB k b).security = s.security := rfl
@[simp] theorem State.putB_hosts (s : State) (k : Nat) (b : Bool) : (s.putB k b).hosts = s.hosts := rfl
@[simp] theorem State.putB_boot (s : State) (k : Nat) (b : Bool) : (s.putB k b).boot = s.boot := rfl
@[simp] theorem State.putB_can (s : State) (k : Nat) (b : Bool) : (s.putB k b).can = s.can := rfl
@[simp] theorem State.putB_launchAt (s : State) (k : Nat) (b : Bool) : (s.putB k b).launchAt = s.launchAt := rfl
@[simp] theorem State.putB_launchBusy (s : State) (k : Nat) (b : Bool) : (s.putB k b).launchBusy = s.launchBusy := rfl
@[simp] theorem State.putB_ethWait (s : State) (k : Nat) (b : Bool) : (s.putB k b).ethWait = s.ethWait := rfl
@[simp] theorem State.putB_out (s : State) (k : Nat) (b : Bool) : (s.putB k b).out = s.out := rfl
@[simp] theorem State.putB_pending (s : State) (k : Nat) (b : Bool) : (s.putB k b).pending = s.pending := rfl

@[simp] theorem State.count_variant (s : State) (k : Nat) (n : Nat) : (s.count k n).variant = s.variant := rfl
@[simp] theorem State.count_now (s : State) (k : Nat) (n : Nat) : (s.count k n).now = s.now := rfl
@[simp] theorem State.count_ltc (s : State) (k : Nat) (n : Nat) : (s.count k n).ltc = s.ltc := rfl
@[simp] theorem State.count_free (s : State) (k : Nat) (n : Nat) : (s.count k n).free = s.free := rfl
@[simp] theorem State.count_recorder (s : State) (k : Nat) (n : Nat) : (s.count k n).recorder = s.recorder := rfl
@[simp] theorem State.count_arch (s : State) (k : Nat) (n : Nat) : (s.count k n).arch = s.arch := rfl
@[simp] theorem State.count_power (s : State) (k : Nat) (n : Nat) : (s.count k n).power = s.power := rfl
@[simp] theorem State.count_tb (s : State) (k : Nat) (n : Nat) : (s.count k n).tb = s.tb := rfl
@[simp] theorem State.count_pwm (s : State) (k : Nat) (n : Nat) : (s.count k n).pwm = s.pwm := rfl
@[simp] theorem State.count_arms (s : State) (k : Nat) (n : Nat) : (s.count k n).arms = s.arms := rfl
@[simp] theorem State.count_ld (s : State) (k : Nat) (n : Nat) : (s.count k n).ld = s.ld := rfl
@[simp] theorem State.count_sig (s : State) (k : Nat) (n : Nat) : (s.count k n).sig = s.sig := rfl
@[simp] theorem State.count_streams (s : State) (k : Nat) (n : Nat) : (s.count k n).streams = s.streams := rfl
@[simp] theorem State.count_maskRun (s : State) (k : Nat) (n : Nat) : (s.count k n).maskRun = s.maskRun := rfl
@[simp] theorem State.count_lanes (s : State) (k : Nat) (n : Nat) : (s.count k n).lanes = s.lanes := rfl
@[simp] theorem State.count_frame (s : State) (k : Nat) (n : Nat) : (s.count k n).frame = s.frame := rfl
@[simp] theorem State.count_sup (s : State) (k : Nat) (n : Nat) : (s.count k n).sup = s.sup := rfl
@[simp] theorem State.count_adc (s : State) (k : Nat) (n : Nat) : (s.count k n).adc = s.adc := rfl
@[simp] theorem State.count_adcUnit (s : State) (k : Nat) (n : Nat) : (s.count k n).adcUnit = s.adcUnit := rfl
@[simp] theorem State.count_chains (s : State) (k : Nat) (n : Nat) : (s.count k n).chains = s.chains := rfl
@[simp] theorem State.count_link (s : State) (k : Nat) (n : Nat) : (s.count k n).link = s.link := rfl
@[simp] theorem State.count_pair (s : State) (k : Nat) (n : Nat) : (s.count k n).pair = s.pair := rfl
@[simp] theorem State.count_servo (s : State) (k : Nat) (n : Nat) : (s.count k n).servo = s.servo := rfl
@[simp] theorem State.count_safety (s : State) (k : Nat) (n : Nat) : (s.count k n).safety = s.safety := rfl
@[simp] theorem State.count_security (s : State) (k : Nat) (n : Nat) : (s.count k n).security = s.security := rfl
@[simp] theorem State.count_hosts (s : State) (k : Nat) (n : Nat) : (s.count k n).hosts = s.hosts := rfl
@[simp] theorem State.count_boot (s : State) (k : Nat) (n : Nat) : (s.count k n).boot = s.boot := rfl
@[simp] theorem State.count_can (s : State) (k : Nat) (n : Nat) : (s.count k n).can = s.can := rfl
@[simp] theorem State.count_launchAt (s : State) (k : Nat) (n : Nat) : (s.count k n).launchAt = s.launchAt := rfl
@[simp] theorem State.count_launchBusy (s : State) (k : Nat) (n : Nat) : (s.count k n).launchBusy = s.launchBusy := rfl
@[simp] theorem State.count_ethWait (s : State) (k : Nat) (n : Nat) : (s.count k n).ethWait = s.ethWait := rfl
@[simp] theorem State.count_out (s : State) (k : Nat) (n : Nat) : (s.count k n).out = s.out := rfl
@[simp] theorem State.count_pending (s : State) (k : Nat) (n : Nat) : (s.count k n).pending = s.pending := rfl

@[simp] theorem State.bump_variant (s : State) (k : Nat) : (s.bump k).variant = s.variant := rfl
@[simp] theorem State.bump_now (s : State) (k : Nat) : (s.bump k).now = s.now := rfl
@[simp] theorem State.bump_ltc (s : State) (k : Nat) : (s.bump k).ltc = s.ltc := rfl
@[simp] theorem State.bump_free (s : State) (k : Nat) : (s.bump k).free = s.free := rfl
@[simp] theorem State.bump_recorder (s : State) (k : Nat) : (s.bump k).recorder = s.recorder := rfl
@[simp] theorem State.bump_arch (s : State) (k : Nat) : (s.bump k).arch = s.arch := rfl
@[simp] theorem State.bump_power (s : State) (k : Nat) : (s.bump k).power = s.power := rfl
@[simp] theorem State.bump_tb (s : State) (k : Nat) : (s.bump k).tb = s.tb := rfl
@[simp] theorem State.bump_pwm (s : State) (k : Nat) : (s.bump k).pwm = s.pwm := rfl
@[simp] theorem State.bump_arms (s : State) (k : Nat) : (s.bump k).arms = s.arms := rfl
@[simp] theorem State.bump_ld (s : State) (k : Nat) : (s.bump k).ld = s.ld := rfl
@[simp] theorem State.bump_sig (s : State) (k : Nat) : (s.bump k).sig = s.sig := rfl
@[simp] theorem State.bump_streams (s : State) (k : Nat) : (s.bump k).streams = s.streams := rfl
@[simp] theorem State.bump_maskRun (s : State) (k : Nat) : (s.bump k).maskRun = s.maskRun := rfl
@[simp] theorem State.bump_lanes (s : State) (k : Nat) : (s.bump k).lanes = s.lanes := rfl
@[simp] theorem State.bump_frame (s : State) (k : Nat) : (s.bump k).frame = s.frame := rfl
@[simp] theorem State.bump_sup (s : State) (k : Nat) : (s.bump k).sup = s.sup := rfl
@[simp] theorem State.bump_adc (s : State) (k : Nat) : (s.bump k).adc = s.adc := rfl
@[simp] theorem State.bump_adcUnit (s : State) (k : Nat) : (s.bump k).adcUnit = s.adcUnit := rfl
@[simp] theorem State.bump_chains (s : State) (k : Nat) : (s.bump k).chains = s.chains := rfl
@[simp] theorem State.bump_link (s : State) (k : Nat) : (s.bump k).link = s.link := rfl
@[simp] theorem State.bump_pair (s : State) (k : Nat) : (s.bump k).pair = s.pair := rfl
@[simp] theorem State.bump_servo (s : State) (k : Nat) : (s.bump k).servo = s.servo := rfl
@[simp] theorem State.bump_safety (s : State) (k : Nat) : (s.bump k).safety = s.safety := rfl
@[simp] theorem State.bump_security (s : State) (k : Nat) : (s.bump k).security = s.security := rfl
@[simp] theorem State.bump_hosts (s : State) (k : Nat) : (s.bump k).hosts = s.hosts := rfl
@[simp] theorem State.bump_boot (s : State) (k : Nat) : (s.bump k).boot = s.boot := rfl
@[simp] theorem State.bump_can (s : State) (k : Nat) : (s.bump k).can = s.can := rfl
@[simp] theorem State.bump_launchAt (s : State) (k : Nat) : (s.bump k).launchAt = s.launchAt := rfl
@[simp] theorem State.bump_launchBusy (s : State) (k : Nat) : (s.bump k).launchBusy = s.launchBusy := rfl
@[simp] theorem State.bump_ethWait (s : State) (k : Nat) : (s.bump k).ethWait = s.ethWait := rfl
@[simp] theorem State.bump_out (s : State) (k : Nat) : (s.bump k).out = s.out := rfl
@[simp] theorem State.bump_pending (s : State) (k : Nat) : (s.bump k).pending = s.pending := rfl

@[simp] theorem State.bumpW_variant (s : State) (k : Nat) : (s.bumpW k).variant = s.variant := rfl
@[simp] theorem State.bumpW_now (s : State) (k : Nat) : (s.bumpW k).now = s.now := rfl
@[simp] theorem State.bumpW_ltc (s : State) (k : Nat) : (s.bumpW k).ltc = s.ltc := rfl
@[simp] theorem State.bumpW_free (s : State) (k : Nat) : (s.bumpW k).free = s.free := rfl
@[simp] theorem State.bumpW_recorder (s : State) (k : Nat) : (s.bumpW k).recorder = s.recorder := rfl
@[simp] theorem State.bumpW_arch (s : State) (k : Nat) : (s.bumpW k).arch = s.arch := rfl
@[simp] theorem State.bumpW_power (s : State) (k : Nat) : (s.bumpW k).power = s.power := rfl
@[simp] theorem State.bumpW_tb (s : State) (k : Nat) : (s.bumpW k).tb = s.tb := rfl
@[simp] theorem State.bumpW_pwm (s : State) (k : Nat) : (s.bumpW k).pwm = s.pwm := rfl
@[simp] theorem State.bumpW_arms (s : State) (k : Nat) : (s.bumpW k).arms = s.arms := rfl
@[simp] theorem State.bumpW_ld (s : State) (k : Nat) : (s.bumpW k).ld = s.ld := rfl
@[simp] theorem State.bumpW_sig (s : State) (k : Nat) : (s.bumpW k).sig = s.sig := rfl
@[simp] theorem State.bumpW_streams (s : State) (k : Nat) : (s.bumpW k).streams = s.streams := rfl
@[simp] theorem State.bumpW_maskRun (s : State) (k : Nat) : (s.bumpW k).maskRun = s.maskRun := rfl
@[simp] theorem State.bumpW_lanes (s : State) (k : Nat) : (s.bumpW k).lanes = s.lanes := rfl
@[simp] theorem State.bumpW_frame (s : State) (k : Nat) : (s.bumpW k).frame = s.frame := rfl
@[simp] theorem State.bumpW_sup (s : State) (k : Nat) : (s.bumpW k).sup = s.sup := rfl
@[simp] theorem State.bumpW_adc (s : State) (k : Nat) : (s.bumpW k).adc = s.adc := rfl
@[simp] theorem State.bumpW_adcUnit (s : State) (k : Nat) : (s.bumpW k).adcUnit = s.adcUnit := rfl
@[simp] theorem State.bumpW_chains (s : State) (k : Nat) : (s.bumpW k).chains = s.chains := rfl
@[simp] theorem State.bumpW_link (s : State) (k : Nat) : (s.bumpW k).link = s.link := rfl
@[simp] theorem State.bumpW_pair (s : State) (k : Nat) : (s.bumpW k).pair = s.pair := rfl
@[simp] theorem State.bumpW_servo (s : State) (k : Nat) : (s.bumpW k).servo = s.servo := rfl
@[simp] theorem State.bumpW_safety (s : State) (k : Nat) : (s.bumpW k).safety = s.safety := rfl
@[simp] theorem State.bumpW_security (s : State) (k : Nat) : (s.bumpW k).security = s.security := rfl
@[simp] theorem State.bumpW_hosts (s : State) (k : Nat) : (s.bumpW k).hosts = s.hosts := rfl
@[simp] theorem State.bumpW_boot (s : State) (k : Nat) : (s.bumpW k).boot = s.boot := rfl
@[simp] theorem State.bumpW_can (s : State) (k : Nat) : (s.bumpW k).can = s.can := rfl
@[simp] theorem State.bumpW_launchAt (s : State) (k : Nat) : (s.bumpW k).launchAt = s.launchAt := rfl
@[simp] theorem State.bumpW_launchBusy (s : State) (k : Nat) : (s.bumpW k).launchBusy = s.launchBusy := rfl
@[simp] theorem State.bumpW_ethWait (s : State) (k : Nat) : (s.bumpW k).ethWait = s.ethWait := rfl
@[simp] theorem State.bumpW_out (s : State) (k : Nat) : (s.bumpW k).out = s.out := rfl
@[simp] theorem State.bumpW_pending (s : State) (k : Nat) : (s.bumpW k).pending = s.pending := rfl

@[simp] theorem State.putBit_variant (s : State) (k : Nat) (i : Nat) (b : Bool) : (s.putBit k i b).variant = s.variant := rfl
@[simp] theorem State.putBit_now (s : State) (k : Nat) (i : Nat) (b : Bool) : (s.putBit k i b).now = s.now := rfl
@[simp] theorem State.putBit_ltc (s : State) (k : Nat) (i : Nat) (b : Bool) : (s.putBit k i b).ltc = s.ltc := rfl
@[simp] theorem State.putBit_free (s : State) (k : Nat) (i : Nat) (b : Bool) : (s.putBit k i b).free = s.free := rfl
@[simp] theorem State.putBit_recorder (s : State) (k : Nat) (i : Nat) (b : Bool) : (s.putBit k i b).recorder = s.recorder := rfl
@[simp] theorem State.putBit_arch (s : State) (k : Nat) (i : Nat) (b : Bool) : (s.putBit k i b).arch = s.arch := rfl
@[simp] theorem State.putBit_power (s : State) (k : Nat) (i : Nat) (b : Bool) : (s.putBit k i b).power = s.power := rfl
@[simp] theorem State.putBit_tb (s : State) (k : Nat) (i : Nat) (b : Bool) : (s.putBit k i b).tb = s.tb := rfl
@[simp] theorem State.putBit_pwm (s : State) (k : Nat) (i : Nat) (b : Bool) : (s.putBit k i b).pwm = s.pwm := rfl
@[simp] theorem State.putBit_arms (s : State) (k : Nat) (i : Nat) (b : Bool) : (s.putBit k i b).arms = s.arms := rfl
@[simp] theorem State.putBit_ld (s : State) (k : Nat) (i : Nat) (b : Bool) : (s.putBit k i b).ld = s.ld := rfl
@[simp] theorem State.putBit_sig (s : State) (k : Nat) (i : Nat) (b : Bool) : (s.putBit k i b).sig = s.sig := rfl
@[simp] theorem State.putBit_streams (s : State) (k : Nat) (i : Nat) (b : Bool) : (s.putBit k i b).streams = s.streams := rfl
@[simp] theorem State.putBit_maskRun (s : State) (k : Nat) (i : Nat) (b : Bool) : (s.putBit k i b).maskRun = s.maskRun := rfl
@[simp] theorem State.putBit_lanes (s : State) (k : Nat) (i : Nat) (b : Bool) : (s.putBit k i b).lanes = s.lanes := rfl
@[simp] theorem State.putBit_frame (s : State) (k : Nat) (i : Nat) (b : Bool) : (s.putBit k i b).frame = s.frame := rfl
@[simp] theorem State.putBit_sup (s : State) (k : Nat) (i : Nat) (b : Bool) : (s.putBit k i b).sup = s.sup := rfl
@[simp] theorem State.putBit_adc (s : State) (k : Nat) (i : Nat) (b : Bool) : (s.putBit k i b).adc = s.adc := rfl
@[simp] theorem State.putBit_adcUnit (s : State) (k : Nat) (i : Nat) (b : Bool) : (s.putBit k i b).adcUnit = s.adcUnit := rfl
@[simp] theorem State.putBit_chains (s : State) (k : Nat) (i : Nat) (b : Bool) : (s.putBit k i b).chains = s.chains := rfl
@[simp] theorem State.putBit_link (s : State) (k : Nat) (i : Nat) (b : Bool) : (s.putBit k i b).link = s.link := rfl
@[simp] theorem State.putBit_pair (s : State) (k : Nat) (i : Nat) (b : Bool) : (s.putBit k i b).pair = s.pair := rfl
@[simp] theorem State.putBit_servo (s : State) (k : Nat) (i : Nat) (b : Bool) : (s.putBit k i b).servo = s.servo := rfl
@[simp] theorem State.putBit_safety (s : State) (k : Nat) (i : Nat) (b : Bool) : (s.putBit k i b).safety = s.safety := rfl
@[simp] theorem State.putBit_security (s : State) (k : Nat) (i : Nat) (b : Bool) : (s.putBit k i b).security = s.security := rfl
@[simp] theorem State.putBit_hosts (s : State) (k : Nat) (i : Nat) (b : Bool) : (s.putBit k i b).hosts = s.hosts := rfl
@[simp] theorem State.putBit_boot (s : State) (k : Nat) (i : Nat) (b : Bool) : (s.putBit k i b).boot = s.boot := rfl
@[simp] theorem State.putBit_can (s : State) (k : Nat) (i : Nat) (b : Bool) : (s.putBit k i b).can = s.can := rfl
@[simp] theorem State.putBit_launchAt (s : State) (k : Nat) (i : Nat) (b : Bool) : (s.putBit k i b).launchAt = s.launchAt := rfl
@[simp] theorem State.putBit_launchBusy (s : State) (k : Nat) (i : Nat) (b : Bool) : (s.putBit k i b).launchBusy = s.launchBusy := rfl
@[simp] theorem State.putBit_ethWait (s : State) (k : Nat) (i : Nat) (b : Bool) : (s.putBit k i b).ethWait = s.ethWait := rfl
@[simp] theorem State.putBit_out (s : State) (k : Nat) (i : Nat) (b : Bool) : (s.putBit k i b).out = s.out := rfl
@[simp] theorem State.putBit_pending (s : State) (k : Nat) (i : Nat) (b : Bool) : (s.putBit k i b).pending = s.pending := rfl

@[simp] theorem State.emit_variant (s : State) (e : Emit) : (s.emit e).variant = s.variant := rfl
@[simp] theorem State.emit_now (s : State) (e : Emit) : (s.emit e).now = s.now := rfl
@[simp] theorem State.emit_ltc (s : State) (e : Emit) : (s.emit e).ltc = s.ltc := rfl
@[simp] theorem State.emit_free (s : State) (e : Emit) : (s.emit e).free = s.free := rfl
@[simp] theorem State.emit_dict (s : State) (e : Emit) : (s.emit e).dict = s.dict := rfl
@[simp] theorem State.emit_recorder (s : State) (e : Emit) : (s.emit e).recorder = s.recorder := rfl
@[simp] theorem State.emit_arch (s : State) (e : Emit) : (s.emit e).arch = s.arch := rfl
@[simp] theorem State.emit_power (s : State) (e : Emit) : (s.emit e).power = s.power := rfl
@[simp] theorem State.emit_tb (s : State) (e : Emit) : (s.emit e).tb = s.tb := rfl
@[simp] theorem State.emit_pwm (s : State) (e : Emit) : (s.emit e).pwm = s.pwm := rfl
@[simp] theorem State.emit_arms (s : State) (e : Emit) : (s.emit e).arms = s.arms := rfl
@[simp] theorem State.emit_ld (s : State) (e : Emit) : (s.emit e).ld = s.ld := rfl
@[simp] theorem State.emit_sig (s : State) (e : Emit) : (s.emit e).sig = s.sig := rfl
@[simp] theorem State.emit_streams (s : State) (e : Emit) : (s.emit e).streams = s.streams := rfl
@[simp] theorem State.emit_maskRun (s : State) (e : Emit) : (s.emit e).maskRun = s.maskRun := rfl
@[simp] theorem State.emit_lanes (s : State) (e : Emit) : (s.emit e).lanes = s.lanes := rfl
@[simp] theorem State.emit_frame (s : State) (e : Emit) : (s.emit e).frame = s.frame := rfl
@[simp] theorem State.emit_sup (s : State) (e : Emit) : (s.emit e).sup = s.sup := rfl
@[simp] theorem State.emit_adc (s : State) (e : Emit) : (s.emit e).adc = s.adc := rfl
@[simp] theorem State.emit_adcUnit (s : State) (e : Emit) : (s.emit e).adcUnit = s.adcUnit := rfl
@[simp] theorem State.emit_chains (s : State) (e : Emit) : (s.emit e).chains = s.chains := rfl
@[simp] theorem State.emit_link (s : State) (e : Emit) : (s.emit e).link = s.link := rfl
@[simp] theorem State.emit_pair (s : State) (e : Emit) : (s.emit e).pair = s.pair := rfl
@[simp] theorem State.emit_servo (s : State) (e : Emit) : (s.emit e).servo = s.servo := rfl
@[simp] theorem State.emit_safety (s : State) (e : Emit) : (s.emit e).safety = s.safety := rfl
@[simp] theorem State.emit_security (s : State) (e : Emit) : (s.emit e).security = s.security := rfl
@[simp] theorem State.emit_hosts (s : State) (e : Emit) : (s.emit e).hosts = s.hosts := rfl
@[simp] theorem State.emit_boot (s : State) (e : Emit) : (s.emit e).boot = s.boot := rfl
@[simp] theorem State.emit_can (s : State) (e : Emit) : (s.emit e).can = s.can := rfl
@[simp] theorem State.emit_launchAt (s : State) (e : Emit) : (s.emit e).launchAt = s.launchAt := rfl
@[simp] theorem State.emit_launchBusy (s : State) (e : Emit) : (s.emit e).launchBusy = s.launchBusy := rfl
@[simp] theorem State.emit_ethWait (s : State) (e : Emit) : (s.emit e).ethWait = s.ethWait := rfl
@[simp] theorem State.emit_pending (s : State) (e : Emit) : (s.emit e).pending = s.pending := rfl
@[simp] theorem State.emit_od (s : State) (e : Emit) (key : Nat) : (s.emit e).od key = s.od key := rfl
@[simp] theorem State.emit_int (s : State) (e : Emit) (key : Nat) : (s.emit e).int key = s.int key := rfl
@[simp] theorem State.emit_nat (s : State) (e : Emit) (key : Nat) : (s.emit e).nat key = s.nat key := rfl
@[simp] theorem State.emit_f32 (s : State) (e : Emit) (key : Nat) : (s.emit e).f32 key = s.f32 key := rfl
@[simp] theorem State.emit_flag (s : State) (e : Emit) (key : Nat) : (s.emit e).flag key = s.flag key := rfl
@[simp] theorem State.emit_octets (s : State) (e : Emit) (key : Nat) : (s.emit e).octets key = s.octets key := rfl
@[simp] theorem State.emit_bit (s : State) (e : Emit) (key bitNo : Nat) : (s.emit e).bit key bitNo = s.bit key bitNo := rfl
@[simp] theorem State.emit_out (s : State) (e : Emit) : (s.emit e).out = e :: s.out := rfl

@[simp] theorem State.drawn_variant (s : State) (n : Nat) : (s.drawn n).variant = s.variant := rfl
@[simp] theorem State.drawn_now (s : State) (n : Nat) : (s.drawn n).now = s.now := rfl
@[simp] theorem State.drawn_ltc (s : State) (n : Nat) : (s.drawn n).ltc = s.ltc := rfl
@[simp] theorem State.drawn_dict (s : State) (n : Nat) : (s.drawn n).dict = s.dict := rfl
@[simp] theorem State.drawn_recorder (s : State) (n : Nat) : (s.drawn n).recorder = s.recorder := rfl
@[simp] theorem State.drawn_arch (s : State) (n : Nat) : (s.drawn n).arch = s.arch := rfl
@[simp] theorem State.drawn_power (s : State) (n : Nat) : (s.drawn n).power = s.power := rfl
@[simp] theorem State.drawn_tb (s : State) (n : Nat) : (s.drawn n).tb = s.tb := rfl
@[simp] theorem State.drawn_pwm (s : State) (n : Nat) : (s.drawn n).pwm = s.pwm := rfl
@[simp] theorem State.drawn_arms (s : State) (n : Nat) : (s.drawn n).arms = s.arms := rfl
@[simp] theorem State.drawn_ld (s : State) (n : Nat) : (s.drawn n).ld = s.ld := rfl
@[simp] theorem State.drawn_sig (s : State) (n : Nat) : (s.drawn n).sig = s.sig := rfl
@[simp] theorem State.drawn_streams (s : State) (n : Nat) : (s.drawn n).streams = s.streams := rfl
@[simp] theorem State.drawn_maskRun (s : State) (n : Nat) : (s.drawn n).maskRun = s.maskRun := rfl
@[simp] theorem State.drawn_lanes (s : State) (n : Nat) : (s.drawn n).lanes = s.lanes := rfl
@[simp] theorem State.drawn_frame (s : State) (n : Nat) : (s.drawn n).frame = s.frame := rfl
@[simp] theorem State.drawn_sup (s : State) (n : Nat) : (s.drawn n).sup = s.sup := rfl
@[simp] theorem State.drawn_adc (s : State) (n : Nat) : (s.drawn n).adc = s.adc := rfl
@[simp] theorem State.drawn_adcUnit (s : State) (n : Nat) : (s.drawn n).adcUnit = s.adcUnit := rfl
@[simp] theorem State.drawn_chains (s : State) (n : Nat) : (s.drawn n).chains = s.chains := rfl
@[simp] theorem State.drawn_link (s : State) (n : Nat) : (s.drawn n).link = s.link := rfl
@[simp] theorem State.drawn_pair (s : State) (n : Nat) : (s.drawn n).pair = s.pair := rfl
@[simp] theorem State.drawn_servo (s : State) (n : Nat) : (s.drawn n).servo = s.servo := rfl
@[simp] theorem State.drawn_safety (s : State) (n : Nat) : (s.drawn n).safety = s.safety := rfl
@[simp] theorem State.drawn_security (s : State) (n : Nat) : (s.drawn n).security = s.security := rfl
@[simp] theorem State.drawn_hosts (s : State) (n : Nat) : (s.drawn n).hosts = s.hosts := rfl
@[simp] theorem State.drawn_boot (s : State) (n : Nat) : (s.drawn n).boot = s.boot := rfl
@[simp] theorem State.drawn_can (s : State) (n : Nat) : (s.drawn n).can = s.can := rfl
@[simp] theorem State.drawn_launchAt (s : State) (n : Nat) : (s.drawn n).launchAt = s.launchAt := rfl
@[simp] theorem State.drawn_launchBusy (s : State) (n : Nat) : (s.drawn n).launchBusy = s.launchBusy := rfl
@[simp] theorem State.drawn_ethWait (s : State) (n : Nat) : (s.drawn n).ethWait = s.ethWait := rfl
@[simp] theorem State.drawn_out (s : State) (n : Nat) : (s.drawn n).out = s.out := rfl
@[simp] theorem State.drawn_pending (s : State) (n : Nat) : (s.drawn n).pending = s.pending := rfl
@[simp] theorem State.drawn_od (s : State) (n : Nat) (key : Nat) : (s.drawn n).od key = s.od key := rfl
@[simp] theorem State.drawn_int (s : State) (n : Nat) (key : Nat) : (s.drawn n).int key = s.int key := rfl
@[simp] theorem State.drawn_nat (s : State) (n : Nat) (key : Nat) : (s.drawn n).nat key = s.nat key := rfl
@[simp] theorem State.drawn_f32 (s : State) (n : Nat) (key : Nat) : (s.drawn n).f32 key = s.f32 key := rfl
@[simp] theorem State.drawn_flag (s : State) (n : Nat) (key : Nat) : (s.drawn n).flag key = s.flag key := rfl
@[simp] theorem State.drawn_octets (s : State) (n : Nat) (key : Nat) : (s.drawn n).octets key = s.octets key := rfl
@[simp] theorem State.drawn_bit (s : State) (n : Nat) (key bitNo : Nat) : (s.drawn n).bit key bitNo = s.bit key bitNo := rfl
@[simp] theorem State.drawn_free (s : State) (n : Nat) : (s.drawn n).free = s.free + n := rfl

@[simp] theorem State.setFrame_variant (s : State) (f : Frame) : (s.setFrame f).variant = s.variant := rfl
@[simp] theorem State.setFrame_now (s : State) (f : Frame) : (s.setFrame f).now = s.now := rfl
@[simp] theorem State.setFrame_ltc (s : State) (f : Frame) : (s.setFrame f).ltc = s.ltc := rfl
@[simp] theorem State.setFrame_free (s : State) (f : Frame) : (s.setFrame f).free = s.free := rfl
@[simp] theorem State.setFrame_dict (s : State) (f : Frame) : (s.setFrame f).dict = s.dict := rfl
@[simp] theorem State.setFrame_recorder (s : State) (f : Frame) : (s.setFrame f).recorder = s.recorder := rfl
@[simp] theorem State.setFrame_arch (s : State) (f : Frame) : (s.setFrame f).arch = s.arch := rfl
@[simp] theorem State.setFrame_power (s : State) (f : Frame) : (s.setFrame f).power = s.power := rfl
@[simp] theorem State.setFrame_tb (s : State) (f : Frame) : (s.setFrame f).tb = s.tb := rfl
@[simp] theorem State.setFrame_pwm (s : State) (f : Frame) : (s.setFrame f).pwm = s.pwm := rfl
@[simp] theorem State.setFrame_arms (s : State) (f : Frame) : (s.setFrame f).arms = s.arms := rfl
@[simp] theorem State.setFrame_ld (s : State) (f : Frame) : (s.setFrame f).ld = s.ld := rfl
@[simp] theorem State.setFrame_sig (s : State) (f : Frame) : (s.setFrame f).sig = s.sig := rfl
@[simp] theorem State.setFrame_streams (s : State) (f : Frame) : (s.setFrame f).streams = s.streams := rfl
@[simp] theorem State.setFrame_maskRun (s : State) (f : Frame) : (s.setFrame f).maskRun = s.maskRun := rfl
@[simp] theorem State.setFrame_lanes (s : State) (f : Frame) : (s.setFrame f).lanes = s.lanes := rfl
@[simp] theorem State.setFrame_sup (s : State) (f : Frame) : (s.setFrame f).sup = s.sup := rfl
@[simp] theorem State.setFrame_adc (s : State) (f : Frame) : (s.setFrame f).adc = s.adc := rfl
@[simp] theorem State.setFrame_adcUnit (s : State) (f : Frame) : (s.setFrame f).adcUnit = s.adcUnit := rfl
@[simp] theorem State.setFrame_chains (s : State) (f : Frame) : (s.setFrame f).chains = s.chains := rfl
@[simp] theorem State.setFrame_link (s : State) (f : Frame) : (s.setFrame f).link = s.link := rfl
@[simp] theorem State.setFrame_pair (s : State) (f : Frame) : (s.setFrame f).pair = s.pair := rfl
@[simp] theorem State.setFrame_servo (s : State) (f : Frame) : (s.setFrame f).servo = s.servo := rfl
@[simp] theorem State.setFrame_safety (s : State) (f : Frame) : (s.setFrame f).safety = s.safety := rfl
@[simp] theorem State.setFrame_security (s : State) (f : Frame) : (s.setFrame f).security = s.security := rfl
@[simp] theorem State.setFrame_hosts (s : State) (f : Frame) : (s.setFrame f).hosts = s.hosts := rfl
@[simp] theorem State.setFrame_boot (s : State) (f : Frame) : (s.setFrame f).boot = s.boot := rfl
@[simp] theorem State.setFrame_can (s : State) (f : Frame) : (s.setFrame f).can = s.can := rfl
@[simp] theorem State.setFrame_launchAt (s : State) (f : Frame) : (s.setFrame f).launchAt = s.launchAt := rfl
@[simp] theorem State.setFrame_launchBusy (s : State) (f : Frame) : (s.setFrame f).launchBusy = s.launchBusy := rfl
@[simp] theorem State.setFrame_ethWait (s : State) (f : Frame) : (s.setFrame f).ethWait = s.ethWait := rfl
@[simp] theorem State.setFrame_out (s : State) (f : Frame) : (s.setFrame f).out = s.out := rfl
@[simp] theorem State.setFrame_pending (s : State) (f : Frame) : (s.setFrame f).pending = s.pending := rfl
@[simp] theorem State.setFrame_od (s : State) (f : Frame) (key : Nat) : (s.setFrame f).od key = s.od key := rfl
@[simp] theorem State.setFrame_int (s : State) (f : Frame) (key : Nat) : (s.setFrame f).int key = s.int key := rfl
@[simp] theorem State.setFrame_nat (s : State) (f : Frame) (key : Nat) : (s.setFrame f).nat key = s.nat key := rfl
@[simp] theorem State.setFrame_f32 (s : State) (f : Frame) (key : Nat) : (s.setFrame f).f32 key = s.f32 key := rfl
@[simp] theorem State.setFrame_flag (s : State) (f : Frame) (key : Nat) : (s.setFrame f).flag key = s.flag key := rfl
@[simp] theorem State.setFrame_octets (s : State) (f : Frame) (key : Nat) : (s.setFrame f).octets key = s.octets key := rfl
@[simp] theorem State.setFrame_bit (s : State) (f : Frame) (key bitNo : Nat) : (s.setFrame f).bit key bitNo = s.bit key bitNo := rfl
@[simp] theorem State.setFrame_frame (s : State) (f : Frame) : (s.setFrame f).frame = f := rfl

@[simp] theorem State.setSafety_variant (s : State) (x : Safety) : (s.setSafety x).variant = s.variant := rfl
@[simp] theorem State.setSafety_now (s : State) (x : Safety) : (s.setSafety x).now = s.now := rfl
@[simp] theorem State.setSafety_ltc (s : State) (x : Safety) : (s.setSafety x).ltc = s.ltc := rfl
@[simp] theorem State.setSafety_free (s : State) (x : Safety) : (s.setSafety x).free = s.free := rfl
@[simp] theorem State.setSafety_dict (s : State) (x : Safety) : (s.setSafety x).dict = s.dict := rfl
@[simp] theorem State.setSafety_recorder (s : State) (x : Safety) : (s.setSafety x).recorder = s.recorder := rfl
@[simp] theorem State.setSafety_arch (s : State) (x : Safety) : (s.setSafety x).arch = s.arch := rfl
@[simp] theorem State.setSafety_power (s : State) (x : Safety) : (s.setSafety x).power = s.power := rfl
@[simp] theorem State.setSafety_tb (s : State) (x : Safety) : (s.setSafety x).tb = s.tb := rfl
@[simp] theorem State.setSafety_pwm (s : State) (x : Safety) : (s.setSafety x).pwm = s.pwm := rfl
@[simp] theorem State.setSafety_arms (s : State) (x : Safety) : (s.setSafety x).arms = s.arms := rfl
@[simp] theorem State.setSafety_ld (s : State) (x : Safety) : (s.setSafety x).ld = s.ld := rfl
@[simp] theorem State.setSafety_sig (s : State) (x : Safety) : (s.setSafety x).sig = s.sig := rfl
@[simp] theorem State.setSafety_streams (s : State) (x : Safety) : (s.setSafety x).streams = s.streams := rfl
@[simp] theorem State.setSafety_maskRun (s : State) (x : Safety) : (s.setSafety x).maskRun = s.maskRun := rfl
@[simp] theorem State.setSafety_lanes (s : State) (x : Safety) : (s.setSafety x).lanes = s.lanes := rfl
@[simp] theorem State.setSafety_frame (s : State) (x : Safety) : (s.setSafety x).frame = s.frame := rfl
@[simp] theorem State.setSafety_sup (s : State) (x : Safety) : (s.setSafety x).sup = s.sup := rfl
@[simp] theorem State.setSafety_adc (s : State) (x : Safety) : (s.setSafety x).adc = s.adc := rfl
@[simp] theorem State.setSafety_adcUnit (s : State) (x : Safety) : (s.setSafety x).adcUnit = s.adcUnit := rfl
@[simp] theorem State.setSafety_chains (s : State) (x : Safety) : (s.setSafety x).chains = s.chains := rfl
@[simp] theorem State.setSafety_link (s : State) (x : Safety) : (s.setSafety x).link = s.link := rfl
@[simp] theorem State.setSafety_pair (s : State) (x : Safety) : (s.setSafety x).pair = s.pair := rfl
@[simp] theorem State.setSafety_servo (s : State) (x : Safety) : (s.setSafety x).servo = s.servo := rfl
@[simp] theorem State.setSafety_security (s : State) (x : Safety) : (s.setSafety x).security = s.security := rfl
@[simp] theorem State.setSafety_hosts (s : State) (x : Safety) : (s.setSafety x).hosts = s.hosts := rfl
@[simp] theorem State.setSafety_boot (s : State) (x : Safety) : (s.setSafety x).boot = s.boot := rfl
@[simp] theorem State.setSafety_can (s : State) (x : Safety) : (s.setSafety x).can = s.can := rfl
@[simp] theorem State.setSafety_launchAt (s : State) (x : Safety) : (s.setSafety x).launchAt = s.launchAt := rfl
@[simp] theorem State.setSafety_launchBusy (s : State) (x : Safety) : (s.setSafety x).launchBusy = s.launchBusy := rfl
@[simp] theorem State.setSafety_ethWait (s : State) (x : Safety) : (s.setSafety x).ethWait = s.ethWait := rfl
@[simp] theorem State.setSafety_out (s : State) (x : Safety) : (s.setSafety x).out = s.out := rfl
@[simp] theorem State.setSafety_pending (s : State) (x : Safety) : (s.setSafety x).pending = s.pending := rfl
@[simp] theorem State.setSafety_od (s : State) (x : Safety) (key : Nat) : (s.setSafety x).od key = s.od key := rfl
@[simp] theorem State.setSafety_int (s : State) (x : Safety) (key : Nat) : (s.setSafety x).int key = s.int key := rfl
@[simp] theorem State.setSafety_nat (s : State) (x : Safety) (key : Nat) : (s.setSafety x).nat key = s.nat key := rfl
@[simp] theorem State.setSafety_f32 (s : State) (x : Safety) (key : Nat) : (s.setSafety x).f32 key = s.f32 key := rfl
@[simp] theorem State.setSafety_flag (s : State) (x : Safety) (key : Nat) : (s.setSafety x).flag key = s.flag key := rfl
@[simp] theorem State.setSafety_octets (s : State) (x : Safety) (key : Nat) : (s.setSafety x).octets key = s.octets key := rfl
@[simp] theorem State.setSafety_bit (s : State) (x : Safety) (key bitNo : Nat) : (s.setSafety x).bit key bitNo = s.bit key bitNo := rfl
@[simp] theorem State.setSafety_safety (s : State) (x : Safety) : (s.setSafety x).safety = x := rfl

@[simp] theorem State.setLaneRec_variant (s : State) (l : Lane) (r : LaneRec) : (s.setLaneRec l r).variant = s.variant := by cases l <;> rfl
@[simp] theorem State.setLaneRec_now (s : State) (l : Lane) (r : LaneRec) : (s.setLaneRec l r).now = s.now := by cases l <;> rfl
@[simp] theorem State.setLaneRec_ltc (s : State) (l : Lane) (r : LaneRec) : (s.setLaneRec l r).ltc = s.ltc := by cases l <;> rfl
@[simp] theorem State.setLaneRec_free (s : State) (l : Lane) (r : LaneRec) : (s.setLaneRec l r).free = s.free := by cases l <;> rfl
@[simp] theorem State.setLaneRec_dict (s : State) (l : Lane) (r : LaneRec) : (s.setLaneRec l r).dict = s.dict := by cases l <;> rfl
@[simp] theorem State.setLaneRec_recorder (s : State) (l : Lane) (r : LaneRec) : (s.setLaneRec l r).recorder = s.recorder := by cases l <;> rfl
@[simp] theorem State.setLaneRec_arch (s : State) (l : Lane) (r : LaneRec) : (s.setLaneRec l r).arch = s.arch := by cases l <;> rfl
@[simp] theorem State.setLaneRec_power (s : State) (l : Lane) (r : LaneRec) : (s.setLaneRec l r).power = s.power := by cases l <;> rfl
@[simp] theorem State.setLaneRec_tb (s : State) (l : Lane) (r : LaneRec) : (s.setLaneRec l r).tb = s.tb := by cases l <;> rfl
@[simp] theorem State.setLaneRec_pwm (s : State) (l : Lane) (r : LaneRec) : (s.setLaneRec l r).pwm = s.pwm := by cases l <;> rfl
@[simp] theorem State.setLaneRec_arms (s : State) (l : Lane) (r : LaneRec) : (s.setLaneRec l r).arms = s.arms := by cases l <;> rfl
@[simp] theorem State.setLaneRec_ld (s : State) (l : Lane) (r : LaneRec) : (s.setLaneRec l r).ld = s.ld := by cases l <;> rfl
@[simp] theorem State.setLaneRec_sig (s : State) (l : Lane) (r : LaneRec) : (s.setLaneRec l r).sig = s.sig := by cases l <;> rfl
@[simp] theorem State.setLaneRec_streams (s : State) (l : Lane) (r : LaneRec) : (s.setLaneRec l r).streams = s.streams := by cases l <;> rfl
@[simp] theorem State.setLaneRec_maskRun (s : State) (l : Lane) (r : LaneRec) : (s.setLaneRec l r).maskRun = s.maskRun := by cases l <;> rfl
@[simp] theorem State.setLaneRec_frame (s : State) (l : Lane) (r : LaneRec) : (s.setLaneRec l r).frame = s.frame := by cases l <;> rfl
@[simp] theorem State.setLaneRec_sup (s : State) (l : Lane) (r : LaneRec) : (s.setLaneRec l r).sup = s.sup := by cases l <;> rfl
@[simp] theorem State.setLaneRec_adc (s : State) (l : Lane) (r : LaneRec) : (s.setLaneRec l r).adc = s.adc := by cases l <;> rfl
@[simp] theorem State.setLaneRec_adcUnit (s : State) (l : Lane) (r : LaneRec) : (s.setLaneRec l r).adcUnit = s.adcUnit := by cases l <;> rfl
@[simp] theorem State.setLaneRec_chains (s : State) (l : Lane) (r : LaneRec) : (s.setLaneRec l r).chains = s.chains := by cases l <;> rfl
@[simp] theorem State.setLaneRec_link (s : State) (l : Lane) (r : LaneRec) : (s.setLaneRec l r).link = s.link := by cases l <;> rfl
@[simp] theorem State.setLaneRec_pair (s : State) (l : Lane) (r : LaneRec) : (s.setLaneRec l r).pair = s.pair := by cases l <;> rfl
@[simp] theorem State.setLaneRec_servo (s : State) (l : Lane) (r : LaneRec) : (s.setLaneRec l r).servo = s.servo := by cases l <;> rfl
@[simp] theorem State.setLaneRec_safety (s : State) (l : Lane) (r : LaneRec) : (s.setLaneRec l r).safety = s.safety := by cases l <;> rfl
@[simp] theorem State.setLaneRec_security (s : State) (l : Lane) (r : LaneRec) : (s.setLaneRec l r).security = s.security := by cases l <;> rfl
@[simp] theorem State.setLaneRec_hosts (s : State) (l : Lane) (r : LaneRec) : (s.setLaneRec l r).hosts = s.hosts := by cases l <;> rfl
@[simp] theorem State.setLaneRec_boot (s : State) (l : Lane) (r : LaneRec) : (s.setLaneRec l r).boot = s.boot := by cases l <;> rfl
@[simp] theorem State.setLaneRec_can (s : State) (l : Lane) (r : LaneRec) : (s.setLaneRec l r).can = s.can := by cases l <;> rfl
@[simp] theorem State.setLaneRec_launchAt (s : State) (l : Lane) (r : LaneRec) : (s.setLaneRec l r).launchAt = s.launchAt := by cases l <;> rfl
@[simp] theorem State.setLaneRec_launchBusy (s : State) (l : Lane) (r : LaneRec) : (s.setLaneRec l r).launchBusy = s.launchBusy := by cases l <;> rfl
@[simp] theorem State.setLaneRec_ethWait (s : State) (l : Lane) (r : LaneRec) : (s.setLaneRec l r).ethWait = s.ethWait := by cases l <;> rfl
@[simp] theorem State.setLaneRec_out (s : State) (l : Lane) (r : LaneRec) : (s.setLaneRec l r).out = s.out := by cases l <;> rfl
@[simp] theorem State.setLaneRec_pending (s : State) (l : Lane) (r : LaneRec) : (s.setLaneRec l r).pending = s.pending := by cases l <;> rfl
@[simp] theorem State.setLaneRec_od (s : State) (l : Lane) (r : LaneRec) (key : Nat) : (s.setLaneRec l r).od key = s.od key := by cases l <;> rfl
@[simp] theorem State.setLaneRec_int (s : State) (l : Lane) (r : LaneRec) (key : Nat) : (s.setLaneRec l r).int key = s.int key := by cases l <;> rfl
@[simp] theorem State.setLaneRec_nat (s : State) (l : Lane) (r : LaneRec) (key : Nat) : (s.setLaneRec l r).nat key = s.nat key := by cases l <;> rfl
@[simp] theorem State.setLaneRec_f32 (s : State) (l : Lane) (r : LaneRec) (key : Nat) : (s.setLaneRec l r).f32 key = s.f32 key := by cases l <;> rfl
@[simp] theorem State.setLaneRec_flag (s : State) (l : Lane) (r : LaneRec) (key : Nat) : (s.setLaneRec l r).flag key = s.flag key := by cases l <;> rfl
@[simp] theorem State.setLaneRec_octets (s : State) (l : Lane) (r : LaneRec) (key : Nat) : (s.setLaneRec l r).octets key = s.octets key := by cases l <;> rfl
@[simp] theorem State.setLaneRec_bit (s : State) (l : Lane) (r : LaneRec) (key bitNo : Nat) : (s.setLaneRec l r).bit key bitNo = s.bit key bitNo := by cases l <;> rfl

@[simp] theorem State.setSer_variant (s : State) (l : Nat) (x : SerLane) : (s.setSer l x).variant = s.variant := rfl
@[simp] theorem State.setSer_now (s : State) (l : Nat) (x : SerLane) : (s.setSer l x).now = s.now := rfl
@[simp] theorem State.setSer_ltc (s : State) (l : Nat) (x : SerLane) : (s.setSer l x).ltc = s.ltc := rfl
@[simp] theorem State.setSer_free (s : State) (l : Nat) (x : SerLane) : (s.setSer l x).free = s.free := rfl
@[simp] theorem State.setSer_dict (s : State) (l : Nat) (x : SerLane) : (s.setSer l x).dict = s.dict := rfl
@[simp] theorem State.setSer_recorder (s : State) (l : Nat) (x : SerLane) : (s.setSer l x).recorder = s.recorder := rfl
@[simp] theorem State.setSer_arch (s : State) (l : Nat) (x : SerLane) : (s.setSer l x).arch = s.arch := rfl
@[simp] theorem State.setSer_power (s : State) (l : Nat) (x : SerLane) : (s.setSer l x).power = s.power := rfl
@[simp] theorem State.setSer_tb (s : State) (l : Nat) (x : SerLane) : (s.setSer l x).tb = s.tb := rfl
@[simp] theorem State.setSer_pwm (s : State) (l : Nat) (x : SerLane) : (s.setSer l x).pwm = s.pwm := rfl
@[simp] theorem State.setSer_arms (s : State) (l : Nat) (x : SerLane) : (s.setSer l x).arms = s.arms := rfl
@[simp] theorem State.setSer_ld (s : State) (l : Nat) (x : SerLane) : (s.setSer l x).ld = s.ld := rfl
@[simp] theorem State.setSer_sig (s : State) (l : Nat) (x : SerLane) : (s.setSer l x).sig = s.sig := rfl
@[simp] theorem State.setSer_streams (s : State) (l : Nat) (x : SerLane) : (s.setSer l x).streams = s.streams := rfl
@[simp] theorem State.setSer_maskRun (s : State) (l : Nat) (x : SerLane) : (s.setSer l x).maskRun = s.maskRun := rfl
@[simp] theorem State.setSer_lanes (s : State) (l : Nat) (x : SerLane) : (s.setSer l x).lanes = s.lanes := rfl
@[simp] theorem State.setSer_frame (s : State) (l : Nat) (x : SerLane) : (s.setSer l x).frame = s.frame := rfl
@[simp] theorem State.setSer_sup (s : State) (l : Nat) (x : SerLane) : (s.setSer l x).sup = s.sup := rfl
@[simp] theorem State.setSer_adc (s : State) (l : Nat) (x : SerLane) : (s.setSer l x).adc = s.adc := rfl
@[simp] theorem State.setSer_adcUnit (s : State) (l : Nat) (x : SerLane) : (s.setSer l x).adcUnit = s.adcUnit := rfl
@[simp] theorem State.setSer_chains (s : State) (l : Nat) (x : SerLane) : (s.setSer l x).chains = s.chains := rfl
@[simp] theorem State.setSer_pair (s : State) (l : Nat) (x : SerLane) : (s.setSer l x).pair = s.pair := rfl
@[simp] theorem State.setSer_servo (s : State) (l : Nat) (x : SerLane) : (s.setSer l x).servo = s.servo := rfl
@[simp] theorem State.setSer_safety (s : State) (l : Nat) (x : SerLane) : (s.setSer l x).safety = s.safety := rfl
@[simp] theorem State.setSer_security (s : State) (l : Nat) (x : SerLane) : (s.setSer l x).security = s.security := rfl
@[simp] theorem State.setSer_hosts (s : State) (l : Nat) (x : SerLane) : (s.setSer l x).hosts = s.hosts := rfl
@[simp] theorem State.setSer_boot (s : State) (l : Nat) (x : SerLane) : (s.setSer l x).boot = s.boot := rfl
@[simp] theorem State.setSer_can (s : State) (l : Nat) (x : SerLane) : (s.setSer l x).can = s.can := rfl
@[simp] theorem State.setSer_launchAt (s : State) (l : Nat) (x : SerLane) : (s.setSer l x).launchAt = s.launchAt := rfl
@[simp] theorem State.setSer_launchBusy (s : State) (l : Nat) (x : SerLane) : (s.setSer l x).launchBusy = s.launchBusy := rfl
@[simp] theorem State.setSer_ethWait (s : State) (l : Nat) (x : SerLane) : (s.setSer l x).ethWait = s.ethWait := rfl
@[simp] theorem State.setSer_out (s : State) (l : Nat) (x : SerLane) : (s.setSer l x).out = s.out := rfl
@[simp] theorem State.setSer_pending (s : State) (l : Nat) (x : SerLane) : (s.setSer l x).pending = s.pending := rfl
@[simp] theorem State.setSer_od (s : State) (l : Nat) (x : SerLane) (key : Nat) : (s.setSer l x).od key = s.od key := rfl
@[simp] theorem State.setSer_int (s : State) (l : Nat) (x : SerLane) (key : Nat) : (s.setSer l x).int key = s.int key := rfl
@[simp] theorem State.setSer_nat (s : State) (l : Nat) (x : SerLane) (key : Nat) : (s.setSer l x).nat key = s.nat key := rfl
@[simp] theorem State.setSer_f32 (s : State) (l : Nat) (x : SerLane) (key : Nat) : (s.setSer l x).f32 key = s.f32 key := rfl
@[simp] theorem State.setSer_flag (s : State) (l : Nat) (x : SerLane) (key : Nat) : (s.setSer l x).flag key = s.flag key := rfl
@[simp] theorem State.setSer_octets (s : State) (l : Nat) (x : SerLane) (key : Nat) : (s.setSer l x).octets key = s.octets key := rfl
@[simp] theorem State.setSer_bit (s : State) (l : Nat) (x : SerLane) (key bitNo : Nat) : (s.setSer l x).bit key bitNo = s.bit key bitNo := rfl
@[simp] theorem State.setSer_link (s : State) (l : Nat) (x : SerLane) : (s.setSer l x).link = { s.link with lanes := vset s.link.lanes l x } := rfl

@[simp] theorem State.setView_variant (s : State) (e : Nat) (x : EpView) : (s.setView e x).variant = s.variant := rfl
@[simp] theorem State.setView_now (s : State) (e : Nat) (x : EpView) : (s.setView e x).now = s.now := rfl
@[simp] theorem State.setView_ltc (s : State) (e : Nat) (x : EpView) : (s.setView e x).ltc = s.ltc := rfl
@[simp] theorem State.setView_free (s : State) (e : Nat) (x : EpView) : (s.setView e x).free = s.free := rfl
@[simp] theorem State.setView_dict (s : State) (e : Nat) (x : EpView) : (s.setView e x).dict = s.dict := rfl
@[simp] theorem State.setView_recorder (s : State) (e : Nat) (x : EpView) : (s.setView e x).recorder = s.recorder := rfl
@[simp] theorem State.setView_arch (s : State) (e : Nat) (x : EpView) : (s.setView e x).arch = s.arch := rfl
@[simp] theorem State.setView_power (s : State) (e : Nat) (x : EpView) : (s.setView e x).power = s.power := rfl
@[simp] theorem State.setView_tb (s : State) (e : Nat) (x : EpView) : (s.setView e x).tb = s.tb := rfl
@[simp] theorem State.setView_pwm (s : State) (e : Nat) (x : EpView) : (s.setView e x).pwm = s.pwm := rfl
@[simp] theorem State.setView_arms (s : State) (e : Nat) (x : EpView) : (s.setView e x).arms = s.arms := rfl
@[simp] theorem State.setView_ld (s : State) (e : Nat) (x : EpView) : (s.setView e x).ld = s.ld := rfl
@[simp] theorem State.setView_sig (s : State) (e : Nat) (x : EpView) : (s.setView e x).sig = s.sig := rfl
@[simp] theorem State.setView_streams (s : State) (e : Nat) (x : EpView) : (s.setView e x).streams = s.streams := rfl
@[simp] theorem State.setView_maskRun (s : State) (e : Nat) (x : EpView) : (s.setView e x).maskRun = s.maskRun := rfl
@[simp] theorem State.setView_lanes (s : State) (e : Nat) (x : EpView) : (s.setView e x).lanes = s.lanes := rfl
@[simp] theorem State.setView_frame (s : State) (e : Nat) (x : EpView) : (s.setView e x).frame = s.frame := rfl
@[simp] theorem State.setView_sup (s : State) (e : Nat) (x : EpView) : (s.setView e x).sup = s.sup := rfl
@[simp] theorem State.setView_adc (s : State) (e : Nat) (x : EpView) : (s.setView e x).adc = s.adc := rfl
@[simp] theorem State.setView_adcUnit (s : State) (e : Nat) (x : EpView) : (s.setView e x).adcUnit = s.adcUnit := rfl
@[simp] theorem State.setView_chains (s : State) (e : Nat) (x : EpView) : (s.setView e x).chains = s.chains := rfl
@[simp] theorem State.setView_pair (s : State) (e : Nat) (x : EpView) : (s.setView e x).pair = s.pair := rfl
@[simp] theorem State.setView_servo (s : State) (e : Nat) (x : EpView) : (s.setView e x).servo = s.servo := rfl
@[simp] theorem State.setView_safety (s : State) (e : Nat) (x : EpView) : (s.setView e x).safety = s.safety := rfl
@[simp] theorem State.setView_security (s : State) (e : Nat) (x : EpView) : (s.setView e x).security = s.security := rfl
@[simp] theorem State.setView_hosts (s : State) (e : Nat) (x : EpView) : (s.setView e x).hosts = s.hosts := rfl
@[simp] theorem State.setView_boot (s : State) (e : Nat) (x : EpView) : (s.setView e x).boot = s.boot := rfl
@[simp] theorem State.setView_can (s : State) (e : Nat) (x : EpView) : (s.setView e x).can = s.can := rfl
@[simp] theorem State.setView_launchAt (s : State) (e : Nat) (x : EpView) : (s.setView e x).launchAt = s.launchAt := rfl
@[simp] theorem State.setView_launchBusy (s : State) (e : Nat) (x : EpView) : (s.setView e x).launchBusy = s.launchBusy := rfl
@[simp] theorem State.setView_ethWait (s : State) (e : Nat) (x : EpView) : (s.setView e x).ethWait = s.ethWait := rfl
@[simp] theorem State.setView_out (s : State) (e : Nat) (x : EpView) : (s.setView e x).out = s.out := rfl
@[simp] theorem State.setView_pending (s : State) (e : Nat) (x : EpView) : (s.setView e x).pending = s.pending := rfl
@[simp] theorem State.setView_od (s : State) (e : Nat) (x : EpView) (key : Nat) : (s.setView e x).od key = s.od key := rfl
@[simp] theorem State.setView_int (s : State) (e : Nat) (x : EpView) (key : Nat) : (s.setView e x).int key = s.int key := rfl
@[simp] theorem State.setView_nat (s : State) (e : Nat) (x : EpView) (key : Nat) : (s.setView e x).nat key = s.nat key := rfl
@[simp] theorem State.setView_f32 (s : State) (e : Nat) (x : EpView) (key : Nat) : (s.setView e x).f32 key = s.f32 key := rfl
@[simp] theorem State.setView_flag (s : State) (e : Nat) (x : EpView) (key : Nat) : (s.setView e x).flag key = s.flag key := rfl
@[simp] theorem State.setView_octets (s : State) (e : Nat) (x : EpView) (key : Nat) : (s.setView e x).octets key = s.octets key := rfl
@[simp] theorem State.setView_bit (s : State) (e : Nat) (x : EpView) (key bitNo : Nat) : (s.setView e x).bit key bitNo = s.bit key bitNo := rfl
@[simp] theorem State.setView_link (s : State) (e : Nat) (x : EpView) : (s.setView e x).link = { s.link with views := vset s.link.views e x } := rfl

@[simp] theorem State.setEp_variant (s : State) (e : Nat) (x : Endpoint) : (s.setEp e x).variant = s.variant := rfl
@[simp] theorem State.setEp_now (s : State) (e : Nat) (x : Endpoint) : (s.setEp e x).now = s.now := rfl
@[simp] theorem State.setEp_ltc (s : State) (e : Nat) (x : Endpoint) : (s.setEp e x).ltc = s.ltc := rfl
@[simp] theorem State.setEp_free (s : State) (e : Nat) (x : Endpoint) : (s.setEp e x).free = s.free := rfl
@[simp] theorem State.setEp_dict (s : State) (e : Nat) (x : Endpoint) : (s.setEp e x).dict = s.dict := rfl
@[simp] theorem State.setEp_recorder (s : State) (e : Nat) (x : Endpoint) : (s.setEp e x).recorder = s.recorder := rfl
@[simp] theorem State.setEp_arch (s : State) (e : Nat) (x : Endpoint) : (s.setEp e x).arch = s.arch := rfl
@[simp] theorem State.setEp_power (s : State) (e : Nat) (x : Endpoint) : (s.setEp e x).power = s.power := rfl
@[simp] theorem State.setEp_tb (s : State) (e : Nat) (x : Endpoint) : (s.setEp e x).tb = s.tb := rfl
@[simp] theorem State.setEp_pwm (s : State) (e : Nat) (x : Endpoint) : (s.setEp e x).pwm = s.pwm := rfl
@[simp] theorem State.setEp_arms (s : State) (e : Nat) (x : Endpoint) : (s.setEp e x).arms = s.arms := rfl
@[simp] theorem State.setEp_ld (s : State) (e : Nat) (x : Endpoint) : (s.setEp e x).ld = s.ld := rfl
@[simp] theorem State.setEp_sig (s : State) (e : Nat) (x : Endpoint) : (s.setEp e x).sig = s.sig := rfl
@[simp] theorem State.setEp_streams (s : State) (e : Nat) (x : Endpoint) : (s.setEp e x).streams = s.streams := rfl
@[simp] theorem State.setEp_maskRun (s : State) (e : Nat) (x : Endpoint) : (s.setEp e x).maskRun = s.maskRun := rfl
@[simp] theorem State.setEp_lanes (s : State) (e : Nat) (x : Endpoint) : (s.setEp e x).lanes = s.lanes := rfl
@[simp] theorem State.setEp_frame (s : State) (e : Nat) (x : Endpoint) : (s.setEp e x).frame = s.frame := rfl
@[simp] theorem State.setEp_sup (s : State) (e : Nat) (x : Endpoint) : (s.setEp e x).sup = s.sup := rfl
@[simp] theorem State.setEp_adc (s : State) (e : Nat) (x : Endpoint) : (s.setEp e x).adc = s.adc := rfl
@[simp] theorem State.setEp_adcUnit (s : State) (e : Nat) (x : Endpoint) : (s.setEp e x).adcUnit = s.adcUnit := rfl
@[simp] theorem State.setEp_chains (s : State) (e : Nat) (x : Endpoint) : (s.setEp e x).chains = s.chains := rfl
@[simp] theorem State.setEp_pair (s : State) (e : Nat) (x : Endpoint) : (s.setEp e x).pair = s.pair := rfl
@[simp] theorem State.setEp_servo (s : State) (e : Nat) (x : Endpoint) : (s.setEp e x).servo = s.servo := rfl
@[simp] theorem State.setEp_safety (s : State) (e : Nat) (x : Endpoint) : (s.setEp e x).safety = s.safety := rfl
@[simp] theorem State.setEp_security (s : State) (e : Nat) (x : Endpoint) : (s.setEp e x).security = s.security := rfl
@[simp] theorem State.setEp_hosts (s : State) (e : Nat) (x : Endpoint) : (s.setEp e x).hosts = s.hosts := rfl
@[simp] theorem State.setEp_boot (s : State) (e : Nat) (x : Endpoint) : (s.setEp e x).boot = s.boot := rfl
@[simp] theorem State.setEp_can (s : State) (e : Nat) (x : Endpoint) : (s.setEp e x).can = s.can := rfl
@[simp] theorem State.setEp_launchAt (s : State) (e : Nat) (x : Endpoint) : (s.setEp e x).launchAt = s.launchAt := rfl
@[simp] theorem State.setEp_launchBusy (s : State) (e : Nat) (x : Endpoint) : (s.setEp e x).launchBusy = s.launchBusy := rfl
@[simp] theorem State.setEp_ethWait (s : State) (e : Nat) (x : Endpoint) : (s.setEp e x).ethWait = s.ethWait := rfl
@[simp] theorem State.setEp_out (s : State) (e : Nat) (x : Endpoint) : (s.setEp e x).out = s.out := rfl
@[simp] theorem State.setEp_pending (s : State) (e : Nat) (x : Endpoint) : (s.setEp e x).pending = s.pending := rfl
@[simp] theorem State.setEp_od (s : State) (e : Nat) (x : Endpoint) (key : Nat) : (s.setEp e x).od key = s.od key := rfl
@[simp] theorem State.setEp_int (s : State) (e : Nat) (x : Endpoint) (key : Nat) : (s.setEp e x).int key = s.int key := rfl
@[simp] theorem State.setEp_nat (s : State) (e : Nat) (x : Endpoint) (key : Nat) : (s.setEp e x).nat key = s.nat key := rfl
@[simp] theorem State.setEp_f32 (s : State) (e : Nat) (x : Endpoint) (key : Nat) : (s.setEp e x).f32 key = s.f32 key := rfl
@[simp] theorem State.setEp_flag (s : State) (e : Nat) (x : Endpoint) (key : Nat) : (s.setEp e x).flag key = s.flag key := rfl
@[simp] theorem State.setEp_octets (s : State) (e : Nat) (x : Endpoint) (key : Nat) : (s.setEp e x).octets key = s.octets key := rfl
@[simp] theorem State.setEp_bit (s : State) (e : Nat) (x : Endpoint) (key bitNo : Nat) : (s.setEp e x).bit key bitNo = s.bit key bitNo := rfl
@[simp] theorem State.setEp_link (s : State) (e : Nat) (x : Endpoint) : (s.setEp e x).link = { s.link with eps := vset s.link.eps e x } := rfl

@[simp] theorem State.setRec_variant (s : State) (r : Recorder) : (s.setRec r).variant = s.variant := rfl
@[simp] theorem State.setRec_now (s : State) (r : Recorder) : (s.setRec r).now = s.now := rfl
@[simp] theorem State.setRec_ltc (s : State) (r : Recorder) : (s.setRec r).ltc = s.ltc := rfl
@[simp] theorem State.setRec_free (s : State) (r : Recorder) : (s.setRec r).free = s.free := rfl
@[simp] theorem State.setRec_dict (s : State) (r : Recorder) : (s.setRec r).dict = s.dict := rfl
@[simp] theorem State.setRec_arch (s : State) (r : Recorder) : (s.setRec r).arch = s.arch := rfl
@[simp] theorem State.setRec_power (s : State) (r : Recorder) : (s.setRec r).power = s.power := rfl
@[simp] theorem State.setRec_tb (s : State) (r : Recorder) : (s.setRec r).tb = s.tb := rfl
@[simp] theorem State.setRec_pwm (s : State) (r : Recorder) : (s.setRec r).pwm = s.pwm := rfl
@[simp] theorem State.setRec_arms (s : State) (r : Recorder) : (s.setRec r).arms = s.arms := rfl
@[simp] theorem State.setRec_ld (s : State) (r : Recorder) : (s.setRec r).ld = s.ld := rfl
@[simp] theorem State.setRec_sig (s : State) (r : Recorder) : (s.setRec r).sig = s.sig := rfl
@[simp] theorem State.setRec_streams (s : State) (r : Recorder) : (s.setRec r).streams = s.streams := rfl
@[simp] theorem State.setRec_maskRun (s : State) (r : Recorder) : (s.setRec r).maskRun = s.maskRun := rfl
@[simp] theorem State.setRec_lanes (s : State) (r : Recorder) : (s.setRec r).lanes = s.lanes := rfl
@[simp] theorem State.setRec_frame (s : State) (r : Recorder) : (s.setRec r).frame = s.frame := rfl
@[simp] theorem State.setRec_sup (s : State) (r : Recorder) : (s.setRec r).sup = s.sup := rfl
@[simp] theorem State.setRec_adc (s : State) (r : Recorder) : (s.setRec r).adc = s.adc := rfl
@[simp] theorem State.setRec_adcUnit (s : State) (r : Recorder) : (s.setRec r).adcUnit = s.adcUnit := rfl
@[simp] theorem State.setRec_chains (s : State) (r : Recorder) : (s.setRec r).chains = s.chains := rfl
@[simp] theorem State.setRec_link (s : State) (r : Recorder) : (s.setRec r).link = s.link := rfl
@[simp] theorem State.setRec_pair (s : State) (r : Recorder) : (s.setRec r).pair = s.pair := rfl
@[simp] theorem State.setRec_servo (s : State) (r : Recorder) : (s.setRec r).servo = s.servo := rfl
@[simp] theorem State.setRec_safety (s : State) (r : Recorder) : (s.setRec r).safety = s.safety := rfl
@[simp] theorem State.setRec_security (s : State) (r : Recorder) : (s.setRec r).security = s.security := rfl
@[simp] theorem State.setRec_hosts (s : State) (r : Recorder) : (s.setRec r).hosts = s.hosts := rfl
@[simp] theorem State.setRec_boot (s : State) (r : Recorder) : (s.setRec r).boot = s.boot := rfl
@[simp] theorem State.setRec_can (s : State) (r : Recorder) : (s.setRec r).can = s.can := rfl
@[simp] theorem State.setRec_launchAt (s : State) (r : Recorder) : (s.setRec r).launchAt = s.launchAt := rfl
@[simp] theorem State.setRec_launchBusy (s : State) (r : Recorder) : (s.setRec r).launchBusy = s.launchBusy := rfl
@[simp] theorem State.setRec_ethWait (s : State) (r : Recorder) : (s.setRec r).ethWait = s.ethWait := rfl
@[simp] theorem State.setRec_out (s : State) (r : Recorder) : (s.setRec r).out = s.out := rfl
@[simp] theorem State.setRec_pending (s : State) (r : Recorder) : (s.setRec r).pending = s.pending := rfl
@[simp] theorem State.setRec_od (s : State) (r : Recorder) (key : Nat) : (s.setRec r).od key = s.od key := rfl
@[simp] theorem State.setRec_int (s : State) (r : Recorder) (key : Nat) : (s.setRec r).int key = s.int key := rfl
@[simp] theorem State.setRec_nat (s : State) (r : Recorder) (key : Nat) : (s.setRec r).nat key = s.nat key := rfl
@[simp] theorem State.setRec_f32 (s : State) (r : Recorder) (key : Nat) : (s.setRec r).f32 key = s.f32 key := rfl
@[simp] theorem State.setRec_flag (s : State) (r : Recorder) (key : Nat) : (s.setRec r).flag key = s.flag key := rfl
@[simp] theorem State.setRec_octets (s : State) (r : Recorder) (key : Nat) : (s.setRec r).octets key = s.octets key := rfl
@[simp] theorem State.setRec_bit (s : State) (r : Recorder) (key bitNo : Nat) : (s.setRec r).bit key bitNo = s.bit key bitNo := rfl
@[simp] theorem State.setRec_recorder (s : State) (r : Recorder) : (s.setRec r).recorder = r := rfl

@[simp] theorem State.setLd_variant (s : State) (x : Nat) (c : LdChan) : (s.setLd x c).variant = s.variant := rfl
@[simp] theorem State.setLd_now (s : State) (x : Nat) (c : LdChan) : (s.setLd x c).now = s.now := rfl
@[simp] theorem State.setLd_ltc (s : State) (x : Nat) (c : LdChan) : (s.setLd x c).ltc = s.ltc := rfl
@[simp] theorem State.setLd_free (s : State) (x : Nat) (c : LdChan) : (s.setLd x c).free = s.free := rfl
@[simp] theorem State.setLd_dict (s : State) (x : Nat) (c : LdChan) : (s.setLd x c).dict = s.dict := rfl
@[simp] theorem State.setLd_recorder (s : State) (x : Nat) (c : LdChan) : (s.setLd x c).recorder = s.recorder := rfl
@[simp] theorem State.setLd_arch (s : State) (x : Nat) (c : LdChan) : (s.setLd x c).arch = s.arch := rfl
@[simp] theorem State.setLd_power (s : State) (x : Nat) (c : LdChan) : (s.setLd x c).power = s.power := rfl
@[simp] theorem State.setLd_tb (s : State) (x : Nat) (c : LdChan) : (s.setLd x c).tb = s.tb := rfl
@[simp] theorem State.setLd_pwm (s : State) (x : Nat) (c : LdChan) : (s.setLd x c).pwm = s.pwm := rfl
@[simp] theorem State.setLd_arms (s : State) (x : Nat) (c : LdChan) : (s.setLd x c).arms = s.arms := rfl
@[simp] theorem State.setLd_sig (s : State) (x : Nat) (c : LdChan) : (s.setLd x c).sig = s.sig := rfl
@[simp] theorem State.setLd_streams (s : State) (x : Nat) (c : LdChan) : (s.setLd x c).streams = s.streams := rfl
@[simp] theorem State.setLd_maskRun (s : State) (x : Nat) (c : LdChan) : (s.setLd x c).maskRun = s.maskRun := rfl
@[simp] theorem State.setLd_lanes (s : State) (x : Nat) (c : LdChan) : (s.setLd x c).lanes = s.lanes := rfl
@[simp] theorem State.setLd_frame (s : State) (x : Nat) (c : LdChan) : (s.setLd x c).frame = s.frame := rfl
@[simp] theorem State.setLd_sup (s : State) (x : Nat) (c : LdChan) : (s.setLd x c).sup = s.sup := rfl
@[simp] theorem State.setLd_adc (s : State) (x : Nat) (c : LdChan) : (s.setLd x c).adc = s.adc := rfl
@[simp] theorem State.setLd_adcUnit (s : State) (x : Nat) (c : LdChan) : (s.setLd x c).adcUnit = s.adcUnit := rfl
@[simp] theorem State.setLd_chains (s : State) (x : Nat) (c : LdChan) : (s.setLd x c).chains = s.chains := rfl
@[simp] theorem State.setLd_link (s : State) (x : Nat) (c : LdChan) : (s.setLd x c).link = s.link := rfl
@[simp] theorem State.setLd_pair (s : State) (x : Nat) (c : LdChan) : (s.setLd x c).pair = s.pair := rfl
@[simp] theorem State.setLd_servo (s : State) (x : Nat) (c : LdChan) : (s.setLd x c).servo = s.servo := rfl
@[simp] theorem State.setLd_safety (s : State) (x : Nat) (c : LdChan) : (s.setLd x c).safety = s.safety := rfl
@[simp] theorem State.setLd_security (s : State) (x : Nat) (c : LdChan) : (s.setLd x c).security = s.security := rfl
@[simp] theorem State.setLd_hosts (s : State) (x : Nat) (c : LdChan) : (s.setLd x c).hosts = s.hosts := rfl
@[simp] theorem State.setLd_boot (s : State) (x : Nat) (c : LdChan) : (s.setLd x c).boot = s.boot := rfl
@[simp] theorem State.setLd_can (s : State) (x : Nat) (c : LdChan) : (s.setLd x c).can = s.can := rfl
@[simp] theorem State.setLd_launchAt (s : State) (x : Nat) (c : LdChan) : (s.setLd x c).launchAt = s.launchAt := rfl
@[simp] theorem State.setLd_launchBusy (s : State) (x : Nat) (c : LdChan) : (s.setLd x c).launchBusy = s.launchBusy := rfl
@[simp] theorem State.setLd_ethWait (s : State) (x : Nat) (c : LdChan) : (s.setLd x c).ethWait = s.ethWait := rfl
@[simp] theorem State.setLd_out (s : State) (x : Nat) (c : LdChan) : (s.setLd x c).out = s.out := rfl
@[simp] theorem State.setLd_pending (s : State) (x : Nat) (c : LdChan) : (s.setLd x c).pending = s.pending := rfl
@[simp] theorem State.setLd_od (s : State) (x : Nat) (c : LdChan) (key : Nat) : (s.setLd x c).od key = s.od key := rfl
@[simp] theorem State.setLd_int (s : State) (x : Nat) (c : LdChan) (key : Nat) : (s.setLd x c).int key = s.int key := rfl
@[simp] theorem State.setLd_nat (s : State) (x : Nat) (c : LdChan) (key : Nat) : (s.setLd x c).nat key = s.nat key := rfl
@[simp] theorem State.setLd_f32 (s : State) (x : Nat) (c : LdChan) (key : Nat) : (s.setLd x c).f32 key = s.f32 key := rfl
@[simp] theorem State.setLd_flag (s : State) (x : Nat) (c : LdChan) (key : Nat) : (s.setLd x c).flag key = s.flag key := rfl
@[simp] theorem State.setLd_octets (s : State) (x : Nat) (c : LdChan) (key : Nat) : (s.setLd x c).octets key = s.octets key := rfl
@[simp] theorem State.setLd_bit (s : State) (x : Nat) (c : LdChan) (key bitNo : Nat) : (s.setLd x c).bit key bitNo = s.bit key bitNo := rfl
@[simp] theorem State.setLd_ld (s : State) (x : Nat) (c : LdChan) : (s.setLd x c).ld = vset s.ld x c := rfl

@[simp] theorem State.setSeq_variant (s : State) (q : Option StopSeq) : (s.setSeq q).variant = s.variant := rfl
@[simp] theorem State.setSeq_now (s : State) (q : Option StopSeq) : (s.setSeq q).now = s.now := rfl
@[simp] theorem State.setSeq_ltc (s : State) (q : Option StopSeq) : (s.setSeq q).ltc = s.ltc := rfl
@[simp] theorem State.setSeq_free (s : State) (q : Option StopSeq) : (s.setSeq q).free = s.free := rfl
@[simp] theorem State.setSeq_dict (s : State) (q : Option StopSeq) : (s.setSeq q).dict = s.dict := rfl
@[simp] theorem State.setSeq_recorder (s : State) (q : Option StopSeq) : (s.setSeq q).recorder = s.recorder := rfl
@[simp] theorem State.setSeq_arch (s : State) (q : Option StopSeq) : (s.setSeq q).arch = s.arch := rfl
@[simp] theorem State.setSeq_power (s : State) (q : Option StopSeq) : (s.setSeq q).power = s.power := rfl
@[simp] theorem State.setSeq_tb (s : State) (q : Option StopSeq) : (s.setSeq q).tb = s.tb := rfl
@[simp] theorem State.setSeq_arms (s : State) (q : Option StopSeq) : (s.setSeq q).arms = s.arms := rfl
@[simp] theorem State.setSeq_ld (s : State) (q : Option StopSeq) : (s.setSeq q).ld = s.ld := rfl
@[simp] theorem State.setSeq_sig (s : State) (q : Option StopSeq) : (s.setSeq q).sig = s.sig := rfl
@[simp] theorem State.setSeq_streams (s : State) (q : Option StopSeq) : (s.setSeq q).streams = s.streams := rfl
@[simp] theorem State.setSeq_maskRun (s : State) (q : Option StopSeq) : (s.setSeq q).maskRun = s.maskRun := rfl
@[simp] theorem State.setSeq_lanes (s : State) (q : Option StopSeq) : (s.setSeq q).lanes = s.lanes := rfl
@[simp] theorem State.setSeq_frame (s : State) (q : Option StopSeq) : (s.setSeq q).frame = s.frame := rfl
@[simp] theorem State.setSeq_sup (s : State) (q : Option StopSeq) : (s.setSeq q).sup = s.sup := rfl
@[simp] theorem State.setSeq_adc (s : State) (q : Option StopSeq) : (s.setSeq q).adc = s.adc := rfl
@[simp] theorem State.setSeq_adcUnit (s : State) (q : Option StopSeq) : (s.setSeq q).adcUnit = s.adcUnit := rfl
@[simp] theorem State.setSeq_chains (s : State) (q : Option StopSeq) : (s.setSeq q).chains = s.chains := rfl
@[simp] theorem State.setSeq_link (s : State) (q : Option StopSeq) : (s.setSeq q).link = s.link := rfl
@[simp] theorem State.setSeq_pair (s : State) (q : Option StopSeq) : (s.setSeq q).pair = s.pair := rfl
@[simp] theorem State.setSeq_servo (s : State) (q : Option StopSeq) : (s.setSeq q).servo = s.servo := rfl
@[simp] theorem State.setSeq_safety (s : State) (q : Option StopSeq) : (s.setSeq q).safety = s.safety := rfl
@[simp] theorem State.setSeq_security (s : State) (q : Option StopSeq) : (s.setSeq q).security = s.security := rfl
@[simp] theorem State.setSeq_hosts (s : State) (q : Option StopSeq) : (s.setSeq q).hosts = s.hosts := rfl
@[simp] theorem State.setSeq_boot (s : State) (q : Option StopSeq) : (s.setSeq q).boot = s.boot := rfl
@[simp] theorem State.setSeq_can (s : State) (q : Option StopSeq) : (s.setSeq q).can = s.can := rfl
@[simp] theorem State.setSeq_launchAt (s : State) (q : Option StopSeq) : (s.setSeq q).launchAt = s.launchAt := rfl
@[simp] theorem State.setSeq_launchBusy (s : State) (q : Option StopSeq) : (s.setSeq q).launchBusy = s.launchBusy := rfl
@[simp] theorem State.setSeq_ethWait (s : State) (q : Option StopSeq) : (s.setSeq q).ethWait = s.ethWait := rfl
@[simp] theorem State.setSeq_out (s : State) (q : Option StopSeq) : (s.setSeq q).out = s.out := rfl
@[simp] theorem State.setSeq_pending (s : State) (q : Option StopSeq) : (s.setSeq q).pending = s.pending := rfl
@[simp] theorem State.setSeq_od (s : State) (q : Option StopSeq) (key : Nat) : (s.setSeq q).od key = s.od key := rfl
@[simp] theorem State.setSeq_int (s : State) (q : Option StopSeq) (key : Nat) : (s.setSeq q).int key = s.int key := rfl
@[simp] theorem State.setSeq_nat (s : State) (q : Option StopSeq) (key : Nat) : (s.setSeq q).nat key = s.nat key := rfl
@[simp] theorem State.setSeq_f32 (s : State) (q : Option StopSeq) (key : Nat) : (s.setSeq q).f32 key = s.f32 key := rfl
@[simp] theorem State.setSeq_flag (s : State) (q : Option StopSeq) (key : Nat) : (s.setSeq q).flag key = s.flag key := rfl
@[simp] theorem State.setSeq_octets (s : State) (q : Option StopSeq) (key : Nat) : (s.setSeq q).octets key = s.octets key := rfl
@[simp] theorem State.setSeq_bit (s : State) (q : Option StopSeq) (key bitNo : Nat) : (s.setSeq q).bit key bitNo = s.bit key bitNo := rfl
@[simp] theorem State.setSeq_pwm (s : State) (q : Option StopSeq) : (s.setSeq q).pwm = { s.pwm with seq := q } := rfl

@[simp] theorem State.setHosts_variant (s : State) (h : Hosts) : (s.setHosts h).variant = s.variant := rfl
@[simp] theorem State.setHosts_now (s : State) (h : Hosts) : (s.setHosts h).now = s.now := rfl
@[simp] theorem State.setHosts_ltc (s : State) (h : Hosts) : (s.setHosts h).ltc = s.ltc := rfl
@[simp] theorem State.setHosts_free (s : State) (h : Hosts) : (s.setHosts h).free = s.free := rfl
@[simp] theorem State.setHosts_dict (s : State) (h : Hosts) : (s.setHosts h).dict = s.dict := rfl
@[simp] theorem State.setHosts_recorder (s : State) (h : Hosts) : (s.setHosts h).recorder = s.recorder := rfl
@[simp] theorem State.setHosts_arch (s : State) (h : Hosts) : (s.setHosts h).arch = s.arch := rfl
@[simp] theorem State.setHosts_power (s : State) (h : Hosts) : (s.setHosts h).power = s.power := rfl
@[simp] theorem State.setHosts_tb (s : State) (h : Hosts) : (s.setHosts h).tb = s.tb := rfl
@[simp] theorem State.setHosts_pwm (s : State) (h : Hosts) : (s.setHosts h).pwm = s.pwm := rfl
@[simp] theorem State.setHosts_arms (s : State) (h : Hosts) : (s.setHosts h).arms = s.arms := rfl
@[simp] theorem State.setHosts_ld (s : State) (h : Hosts) : (s.setHosts h).ld = s.ld := rfl
@[simp] theorem State.setHosts_sig (s : State) (h : Hosts) : (s.setHosts h).sig = s.sig := rfl
@[simp] theorem State.setHosts_streams (s : State) (h : Hosts) : (s.setHosts h).streams = s.streams := rfl
@[simp] theorem State.setHosts_maskRun (s : State) (h : Hosts) : (s.setHosts h).maskRun = s.maskRun := rfl
@[simp] theorem State.setHosts_lanes (s : State) (h : Hosts) : (s.setHosts h).lanes = s.lanes := rfl
@[simp] theorem State.setHosts_frame (s : State) (h : Hosts) : (s.setHosts h).frame = s.frame := rfl
@[simp] theorem State.setHosts_sup (s : State) (h : Hosts) : (s.setHosts h).sup = s.sup := rfl
@[simp] theorem State.setHosts_adc (s : State) (h : Hosts) : (s.setHosts h).adc = s.adc := rfl
@[simp] theorem State.setHosts_adcUnit (s : State) (h : Hosts) : (s.setHosts h).adcUnit = s.adcUnit := rfl
@[simp] theorem State.setHosts_chains (s : State) (h : Hosts) : (s.setHosts h).chains = s.chains := rfl
@[simp] theorem State.setHosts_link (s : State) (h : Hosts) : (s.setHosts h).link = s.link := rfl
@[simp] theorem State.setHosts_pair (s : State) (h : Hosts) : (s.setHosts h).pair = s.pair := rfl
@[simp] theorem State.setHosts_servo (s : State) (h : Hosts) : (s.setHosts h).servo = s.servo := rfl
@[simp] theorem State.setHosts_safety (s : State) (h : Hosts) : (s.setHosts h).safety = s.safety := rfl
@[simp] theorem State.setHosts_security (s : State) (h : Hosts) : (s.setHosts h).security = s.security := rfl
@[simp] theorem State.setHosts_boot (s : State) (h : Hosts) : (s.setHosts h).boot = s.boot := rfl
@[simp] theorem State.setHosts_can (s : State) (h : Hosts) : (s.setHosts h).can = s.can := rfl
@[simp] theorem State.setHosts_launchAt (s : State) (h : Hosts) : (s.setHosts h).launchAt = s.launchAt := rfl
@[simp] theorem State.setHosts_launchBusy (s : State) (h : Hosts) : (s.setHosts h).launchBusy = s.launchBusy := rfl
@[simp] theorem State.setHosts_ethWait (s : State) (h : Hosts) : (s.setHosts h).ethWait = s.ethWait := rfl
@[simp] theorem State.setHosts_out (s : State) (h : Hosts) : (s.setHosts h).out = s.out := rfl
@[simp] theorem State.setHosts_pending (s : State) (h : Hosts) : (s.setHosts h).pending = s.pending := rfl
@[simp] theorem State.setHosts_od (s : State) (h : Hosts) (key : Nat) : (s.setHosts h).od key = s.od key := rfl
@[simp] theorem State.setHosts_int (s : State) (h : Hosts) (key : Nat) : (s.setHosts h).int key = s.int key := rfl
@[simp] theorem State.setHosts_nat (s : State) (h : Hosts) (key : Nat) : (s.setHosts h).nat key = s.nat key := rfl
@[simp] theorem State.setHosts_f32 (s : State) (h : Hosts) (key : Nat) : (s.setHosts h).f32 key = s.f32 key := rfl
@[simp] theorem State.setHosts_flag (s : State) (h : Hosts) (key : Nat) : (s.setHosts h).flag key = s.flag key := rfl
@[simp] theorem State.setHosts_octets (s : State) (h : Hosts) (key : Nat) : (s.setHosts h).octets key = s.octets key := rfl
@[simp] theorem State.setHosts_bit (s : State) (h : Hosts) (key bitNo : Nat) : (s.setHosts h).bit key bitNo = s.bit key bitNo := rfl
@[simp] theorem State.setHosts_hosts (s : State) (h : Hosts) : (s.setHosts h).hosts = h := rfl

@[simp] theorem State.setPr_variant (s : State) (x : PairRec) : (s.setPr x).variant = s.variant := rfl
@[simp] theorem State.setPr_now (s : State) (x : PairRec) : (s.setPr x).now = s.now := rfl
@[simp] theorem State.setPr_ltc (s : State) (x : PairRec) : (s.setPr x).ltc = s.ltc := rfl
@[simp] theorem State.setPr_free (s : State) (x : PairRec) : (s.setPr x).free = s.free := rfl
@[simp] theorem State.setPr_dict (s : State) (x : PairRec) : (s.setPr x).dict = s.dict := rfl
@[simp] theorem State.setPr_recorder (s : State) (x : PairRec) : (s.setPr x).recorder = s.recorder := rfl
@[simp] theorem State.setPr_arch (s : State) (x : PairRec) : (s.setPr x).arch = s.arch := rfl
@[simp] theorem State.setPr_power (s : State) (x : PairRec) : (s.setPr x).power = s.power := rfl
@[simp] theorem State.setPr_tb (s : State) (x : PairRec) : (s.setPr x).tb = s.tb := rfl
@[simp] theorem State.setPr_pwm (s : State) (x : PairRec) : (s.setPr x).pwm = s.pwm := rfl
@[simp] theorem State.setPr_arms (s : State) (x : PairRec) : (s.setPr x).arms = s.arms := rfl
@[simp] theorem State.setPr_ld (s : State) (x : PairRec) : (s.setPr x).ld = s.ld := rfl
@[simp] theorem State.setPr_sig (s : State) (x : PairRec) : (s.setPr x).sig = s.sig := rfl
@[simp] theorem State.setPr_streams (s : State) (x : PairRec) : (s.setPr x).streams = s.streams := rfl
@[simp] theorem State.setPr_maskRun (s : State) (x : PairRec) : (s.setPr x).maskRun = s.maskRun := rfl
@[simp] theorem State.setPr_lanes (s : State) (x : PairRec) : (s.setPr x).lanes = s.lanes := rfl
@[simp] theorem State.setPr_frame (s : State) (x : PairRec) : (s.setPr x).frame = s.frame := rfl
@[simp] theorem State.setPr_sup (s : State) (x : PairRec) : (s.setPr x).sup = s.sup := rfl
@[simp] theorem State.setPr_adc (s : State) (x : PairRec) : (s.setPr x).adc = s.adc := rfl
@[simp] theorem State.setPr_adcUnit (s : State) (x : PairRec) : (s.setPr x).adcUnit = s.adcUnit := rfl
@[simp] theorem State.setPr_chains (s : State) (x : PairRec) : (s.setPr x).chains = s.chains := rfl
@[simp] theorem State.setPr_link (s : State) (x : PairRec) : (s.setPr x).link = s.link := rfl
@[simp] theorem State.setPr_servo (s : State) (x : PairRec) : (s.setPr x).servo = s.servo := rfl
@[simp] theorem State.setPr_safety (s : State) (x : PairRec) : (s.setPr x).safety = s.safety := rfl
@[simp] theorem State.setPr_security (s : State) (x : PairRec) : (s.setPr x).security = s.security := rfl
@[simp] theorem State.setPr_hosts (s : State) (x : PairRec) : (s.setPr x).hosts = s.hosts := rfl
@[simp] theorem State.setPr_boot (s : State) (x : PairRec) : (s.setPr x).boot = s.boot := rfl
@[simp] theorem State.setPr_can (s : State) (x : PairRec) : (s.setPr x).can = s.can := rfl
@[simp] theorem State.setPr_launchAt (s : State) (x : PairRec) : (s.setPr x).launchAt = s.launchAt := rfl
@[simp] theorem State.setPr_launchBusy (s : State) (x : PairRec) : (s.setPr x).launchBusy = s.launchBusy := rfl
@[simp] theorem State.setPr_ethWait (s : State) (x : PairRec) : (s.setPr x).ethWait = s.ethWait := rfl
@[simp] theorem State.setPr_out (s : State) (x : PairRec) : (s.setPr x).out = s.out := rfl
@[simp] theorem State.setPr_pending (s : State) (x : PairRec) : (s.setPr x).pending = s.pending := rfl
@[simp] theorem State.setPr_od (s : State) (x : PairRec) (key : Nat) : (s.setPr x).od key = s.od key := rfl
@[simp] theorem State.setPr_int (s : State) (x : PairRec) (key : Nat) : (s.setPr x).int key = s.int key := rfl
@[simp] theorem State.setPr_nat (s : State) (x : PairRec) (key : Nat) : (s.setPr x).nat key = s.nat key := rfl
@[simp] theorem State.setPr_f32 (s : State) (x : PairRec) (key : Nat) : (s.setPr x).f32 key = s.f32 key := rfl
@[simp] theorem State.setPr_flag (s : State) (x : PairRec) (key : Nat) : (s.setPr x).flag key = s.flag key := rfl
@[simp] theorem State.setPr_octets (s : State) (x : PairRec) (key : Nat) : (s.setPr x).octets key = s.octets key := rfl
@[simp] theorem State.setPr_bit (s : State) (x : PairRec) (key bitNo : Nat) : (s.setPr x).bit key bitNo = s.bit key bitNo := rfl
@[simp] theorem State.setPr_pair (s : State) (x : PairRec) : (s.setPr x).pair = x := rfl

@[simp] theorem State.setCarrier_variant (s : State) (c : Nat) (x : Carrier) : (s.setCarrier c x).variant = s.variant := rfl
@[simp] theorem State.setCarrier_now (s : State) (c : Nat) (x : Carrier) : (s.setCarrier c x).now = s.now := rfl
@[simp] theorem State.setCarrier_ltc (s : State) (c : Nat) (x : Carrier) : (s.setCarrier c x).ltc = s.ltc := rfl
@[simp] theorem State.setCarrier_free (s : State) (c : Nat) (x : Carrier) : (s.setCarrier c x).free = s.free := rfl
@[simp] theorem State.setCarrier_dict (s : State) (c : Nat) (x : Carrier) : (s.setCarrier c x).dict = s.dict := rfl
@[simp] theorem State.setCarrier_recorder (s : State) (c : Nat) (x : Carrier) : (s.setCarrier c x).recorder = s.recorder := rfl
@[simp] theorem State.setCarrier_arch (s : State) (c : Nat) (x : Carrier) : (s.setCarrier c x).arch = s.arch := rfl
@[simp] theorem State.setCarrier_power (s : State) (c : Nat) (x : Carrier) : (s.setCarrier c x).power = s.power := rfl
@[simp] theorem State.setCarrier_tb (s : State) (c : Nat) (x : Carrier) : (s.setCarrier c x).tb = s.tb := rfl
@[simp] theorem State.setCarrier_arms (s : State) (c : Nat) (x : Carrier) : (s.setCarrier c x).arms = s.arms := rfl
@[simp] theorem State.setCarrier_ld (s : State) (c : Nat) (x : Carrier) : (s.setCarrier c x).ld = s.ld := rfl
@[simp] theorem State.setCarrier_sig (s : State) (c : Nat) (x : Carrier) : (s.setCarrier c x).sig = s.sig := rfl
@[simp] theorem State.setCarrier_streams (s : State) (c : Nat) (x : Carrier) : (s.setCarrier c x).streams = s.streams := rfl
@[simp] theorem State.setCarrier_maskRun (s : State) (c : Nat) (x : Carrier) : (s.setCarrier c x).maskRun = s.maskRun := rfl
@[simp] theorem State.setCarrier_lanes (s : State) (c : Nat) (x : Carrier) : (s.setCarrier c x).lanes = s.lanes := rfl
@[simp] theorem State.setCarrier_frame (s : State) (c : Nat) (x : Carrier) : (s.setCarrier c x).frame = s.frame := rfl
@[simp] theorem State.setCarrier_sup (s : State) (c : Nat) (x : Carrier) : (s.setCarrier c x).sup = s.sup := rfl
@[simp] theorem State.setCarrier_adc (s : State) (c : Nat) (x : Carrier) : (s.setCarrier c x).adc = s.adc := rfl
@[simp] theorem State.setCarrier_adcUnit (s : State) (c : Nat) (x : Carrier) : (s.setCarrier c x).adcUnit = s.adcUnit := rfl
@[simp] theorem State.setCarrier_chains (s : State) (c : Nat) (x : Carrier) : (s.setCarrier c x).chains = s.chains := rfl
@[simp] theorem State.setCarrier_link (s : State) (c : Nat) (x : Carrier) : (s.setCarrier c x).link = s.link := rfl
@[simp] theorem State.setCarrier_pair (s : State) (c : Nat) (x : Carrier) : (s.setCarrier c x).pair = s.pair := rfl
@[simp] theorem State.setCarrier_servo (s : State) (c : Nat) (x : Carrier) : (s.setCarrier c x).servo = s.servo := rfl
@[simp] theorem State.setCarrier_safety (s : State) (c : Nat) (x : Carrier) : (s.setCarrier c x).safety = s.safety := rfl
@[simp] theorem State.setCarrier_security (s : State) (c : Nat) (x : Carrier) : (s.setCarrier c x).security = s.security := rfl
@[simp] theorem State.setCarrier_hosts (s : State) (c : Nat) (x : Carrier) : (s.setCarrier c x).hosts = s.hosts := rfl
@[simp] theorem State.setCarrier_boot (s : State) (c : Nat) (x : Carrier) : (s.setCarrier c x).boot = s.boot := rfl
@[simp] theorem State.setCarrier_can (s : State) (c : Nat) (x : Carrier) : (s.setCarrier c x).can = s.can := rfl
@[simp] theorem State.setCarrier_launchAt (s : State) (c : Nat) (x : Carrier) : (s.setCarrier c x).launchAt = s.launchAt := rfl
@[simp] theorem State.setCarrier_launchBusy (s : State) (c : Nat) (x : Carrier) : (s.setCarrier c x).launchBusy = s.launchBusy := rfl
@[simp] theorem State.setCarrier_ethWait (s : State) (c : Nat) (x : Carrier) : (s.setCarrier c x).ethWait = s.ethWait := rfl
@[simp] theorem State.setCarrier_out (s : State) (c : Nat) (x : Carrier) : (s.setCarrier c x).out = s.out := rfl
@[simp] theorem State.setCarrier_pending (s : State) (c : Nat) (x : Carrier) : (s.setCarrier c x).pending = s.pending := rfl
@[simp] theorem State.setCarrier_od (s : State) (c : Nat) (x : Carrier) (key : Nat) : (s.setCarrier c x).od key = s.od key := rfl
@[simp] theorem State.setCarrier_int (s : State) (c : Nat) (x : Carrier) (key : Nat) : (s.setCarrier c x).int key = s.int key := rfl
@[simp] theorem State.setCarrier_nat (s : State) (c : Nat) (x : Carrier) (key : Nat) : (s.setCarrier c x).nat key = s.nat key := rfl
@[simp] theorem State.setCarrier_f32 (s : State) (c : Nat) (x : Carrier) (key : Nat) : (s.setCarrier c x).f32 key = s.f32 key := rfl
@[simp] theorem State.setCarrier_flag (s : State) (c : Nat) (x : Carrier) (key : Nat) : (s.setCarrier c x).flag key = s.flag key := rfl
@[simp] theorem State.setCarrier_octets (s : State) (c : Nat) (x : Carrier) (key : Nat) : (s.setCarrier c x).octets key = s.octets key := rfl
@[simp] theorem State.setCarrier_bit (s : State) (c : Nat) (x : Carrier) (key bitNo : Nat) : (s.setCarrier c x).bit key bitNo = s.bit key bitNo := rfl
@[simp] theorem State.setCarrier_pwm (s : State) (c : Nat) (x : Carrier) : (s.setCarrier c x).pwm = { s.pwm with carriers := vset s.pwm.carriers c x } := rfl

@[simp] theorem State.setPair_variant (s : State) (p : Nat) (x : Pair) : (s.setPair p x).variant = s.variant := rfl
@[simp] theorem State.setPair_now (s : State) (p : Nat) (x : Pair) : (s.setPair p x).now = s.now := rfl
@[simp] theorem State.setPair_ltc (s : State) (p : Nat) (x : Pair) : (s.setPair p x).ltc = s.ltc := rfl
@[simp] theorem State.setPair_free (s : State) (p : Nat) (x : Pair) : (s.setPair p x).free = s.free := rfl
@[simp] theorem State.setPair_dict (s : State) (p : Nat) (x : Pair) : (s.setPair p x).dict = s.dict := rfl
@[simp] theorem State.setPair_recorder (s : State) (p : Nat) (x : Pair) : (s.setPair p x).recorder = s.recorder := rfl
@[simp] theorem State.setPair_arch (s : State) (p : Nat) (x : Pair) : (s.setPair p x).arch = s.arch := rfl
@[simp] theorem State.setPair_power (s : State) (p : Nat) (x : Pair) : (s.setPair p x).power = s.power := rfl
@[simp] theorem State.setPair_tb (s : State) (p : Nat) (x : Pair) : (s.setPair p x).tb = s.tb := rfl
@[simp] theorem State.setPair_arms (s : State) (p : Nat) (x : Pair) : (s.setPair p x).arms = s.arms := rfl
@[simp] theorem State.setPair_ld (s : State) (p : Nat) (x : Pair) : (s.setPair p x).ld = s.ld := rfl
@[simp] theorem State.setPair_sig (s : State) (p : Nat) (x : Pair) : (s.setPair p x).sig = s.sig := rfl
@[simp] theorem State.setPair_streams (s : State) (p : Nat) (x : Pair) : (s.setPair p x).streams = s.streams := rfl
@[simp] theorem State.setPair_maskRun (s : State) (p : Nat) (x : Pair) : (s.setPair p x).maskRun = s.maskRun := rfl
@[simp] theorem State.setPair_lanes (s : State) (p : Nat) (x : Pair) : (s.setPair p x).lanes = s.lanes := rfl
@[simp] theorem State.setPair_frame (s : State) (p : Nat) (x : Pair) : (s.setPair p x).frame = s.frame := rfl
@[simp] theorem State.setPair_sup (s : State) (p : Nat) (x : Pair) : (s.setPair p x).sup = s.sup := rfl
@[simp] theorem State.setPair_adc (s : State) (p : Nat) (x : Pair) : (s.setPair p x).adc = s.adc := rfl
@[simp] theorem State.setPair_adcUnit (s : State) (p : Nat) (x : Pair) : (s.setPair p x).adcUnit = s.adcUnit := rfl
@[simp] theorem State.setPair_chains (s : State) (p : Nat) (x : Pair) : (s.setPair p x).chains = s.chains := rfl
@[simp] theorem State.setPair_link (s : State) (p : Nat) (x : Pair) : (s.setPair p x).link = s.link := rfl
@[simp] theorem State.setPair_pair (s : State) (p : Nat) (x : Pair) : (s.setPair p x).pair = s.pair := rfl
@[simp] theorem State.setPair_servo (s : State) (p : Nat) (x : Pair) : (s.setPair p x).servo = s.servo := rfl
@[simp] theorem State.setPair_safety (s : State) (p : Nat) (x : Pair) : (s.setPair p x).safety = s.safety := rfl
@[simp] theorem State.setPair_security (s : State) (p : Nat) (x : Pair) : (s.setPair p x).security = s.security := rfl
@[simp] theorem State.setPair_hosts (s : State) (p : Nat) (x : Pair) : (s.setPair p x).hosts = s.hosts := rfl
@[simp] theorem State.setPair_boot (s : State) (p : Nat) (x : Pair) : (s.setPair p x).boot = s.boot := rfl
@[simp] theorem State.setPair_can (s : State) (p : Nat) (x : Pair) : (s.setPair p x).can = s.can := rfl
@[simp] theorem State.setPair_launchAt (s : State) (p : Nat) (x : Pair) : (s.setPair p x).launchAt = s.launchAt := rfl
@[simp] theorem State.setPair_launchBusy (s : State) (p : Nat) (x : Pair) : (s.setPair p x).launchBusy = s.launchBusy := rfl
@[simp] theorem State.setPair_ethWait (s : State) (p : Nat) (x : Pair) : (s.setPair p x).ethWait = s.ethWait := rfl
@[simp] theorem State.setPair_out (s : State) (p : Nat) (x : Pair) : (s.setPair p x).out = s.out := rfl
@[simp] theorem State.setPair_pending (s : State) (p : Nat) (x : Pair) : (s.setPair p x).pending = s.pending := rfl
@[simp] theorem State.setPair_od (s : State) (p : Nat) (x : Pair) (key : Nat) : (s.setPair p x).od key = s.od key := rfl
@[simp] theorem State.setPair_int (s : State) (p : Nat) (x : Pair) (key : Nat) : (s.setPair p x).int key = s.int key := rfl
@[simp] theorem State.setPair_nat (s : State) (p : Nat) (x : Pair) (key : Nat) : (s.setPair p x).nat key = s.nat key := rfl
@[simp] theorem State.setPair_f32 (s : State) (p : Nat) (x : Pair) (key : Nat) : (s.setPair p x).f32 key = s.f32 key := rfl
@[simp] theorem State.setPair_flag (s : State) (p : Nat) (x : Pair) (key : Nat) : (s.setPair p x).flag key = s.flag key := rfl
@[simp] theorem State.setPair_octets (s : State) (p : Nat) (x : Pair) (key : Nat) : (s.setPair p x).octets key = s.octets key := rfl
@[simp] theorem State.setPair_bit (s : State) (p : Nat) (x : Pair) (key bitNo : Nat) : (s.setPair p x).bit key bitNo = s.bit key bitNo := rfl
@[simp] theorem State.setPair_pwm (s : State) (p : Nat) (x : Pair) : (s.setPair p x).pwm = { s.pwm with pairs := vset s.pwm.pairs p x } := rfl

@[simp] theorem State.setTripIn_variant (s : State) (i : Nat) (t : TripIn) : (s.setTripIn i t).variant = s.variant := rfl
@[simp] theorem State.setTripIn_now (s : State) (i : Nat) (t : TripIn) : (s.setTripIn i t).now = s.now := rfl
@[simp] theorem State.setTripIn_ltc (s : State) (i : Nat) (t : TripIn) : (s.setTripIn i t).ltc = s.ltc := rfl
@[simp] theorem State.setTripIn_free (s : State) (i : Nat) (t : TripIn) : (s.setTripIn i t).free = s.free := rfl
@[simp] theorem State.setTripIn_dict (s : State) (i : Nat) (t : TripIn) : (s.setTripIn i t).dict = s.dict := rfl
@[simp] theorem State.setTripIn_recorder (s : State) (i : Nat) (t : TripIn) : (s.setTripIn i t).recorder = s.recorder := rfl
@[simp] theorem State.setTripIn_arch (s : State) (i : Nat) (t : TripIn) : (s.setTripIn i t).arch = s.arch := rfl
@[simp] theorem State.setTripIn_power (s : State) (i : Nat) (t : TripIn) : (s.setTripIn i t).power = s.power := rfl
@[simp] theorem State.setTripIn_tb (s : State) (i : Nat) (t : TripIn) : (s.setTripIn i t).tb = s.tb := rfl
@[simp] theorem State.setTripIn_arms (s : State) (i : Nat) (t : TripIn) : (s.setTripIn i t).arms = s.arms := rfl
@[simp] theorem State.setTripIn_ld (s : State) (i : Nat) (t : TripIn) : (s.setTripIn i t).ld = s.ld := rfl
@[simp] theorem State.setTripIn_sig (s : State) (i : Nat) (t : TripIn) : (s.setTripIn i t).sig = s.sig := rfl
@[simp] theorem State.setTripIn_streams (s : State) (i : Nat) (t : TripIn) : (s.setTripIn i t).streams = s.streams := rfl
@[simp] theorem State.setTripIn_maskRun (s : State) (i : Nat) (t : TripIn) : (s.setTripIn i t).maskRun = s.maskRun := rfl
@[simp] theorem State.setTripIn_lanes (s : State) (i : Nat) (t : TripIn) : (s.setTripIn i t).lanes = s.lanes := rfl
@[simp] theorem State.setTripIn_frame (s : State) (i : Nat) (t : TripIn) : (s.setTripIn i t).frame = s.frame := rfl
@[simp] theorem State.setTripIn_sup (s : State) (i : Nat) (t : TripIn) : (s.setTripIn i t).sup = s.sup := rfl
@[simp] theorem State.setTripIn_adc (s : State) (i : Nat) (t : TripIn) : (s.setTripIn i t).adc = s.adc := rfl
@[simp] theorem State.setTripIn_adcUnit (s : State) (i : Nat) (t : TripIn) : (s.setTripIn i t).adcUnit = s.adcUnit := rfl
@[simp] theorem State.setTripIn_chains (s : State) (i : Nat) (t : TripIn) : (s.setTripIn i t).chains = s.chains := rfl
@[simp] theorem State.setTripIn_link (s : State) (i : Nat) (t : TripIn) : (s.setTripIn i t).link = s.link := rfl
@[simp] theorem State.setTripIn_pair (s : State) (i : Nat) (t : TripIn) : (s.setTripIn i t).pair = s.pair := rfl
@[simp] theorem State.setTripIn_servo (s : State) (i : Nat) (t : TripIn) : (s.setTripIn i t).servo = s.servo := rfl
@[simp] theorem State.setTripIn_safety (s : State) (i : Nat) (t : TripIn) : (s.setTripIn i t).safety = s.safety := rfl
@[simp] theorem State.setTripIn_security (s : State) (i : Nat) (t : TripIn) : (s.setTripIn i t).security = s.security := rfl
@[simp] theorem State.setTripIn_hosts (s : State) (i : Nat) (t : TripIn) : (s.setTripIn i t).hosts = s.hosts := rfl
@[simp] theorem State.setTripIn_boot (s : State) (i : Nat) (t : TripIn) : (s.setTripIn i t).boot = s.boot := rfl
@[simp] theorem State.setTripIn_can (s : State) (i : Nat) (t : TripIn) : (s.setTripIn i t).can = s.can := rfl
@[simp] theorem State.setTripIn_launchAt (s : State) (i : Nat) (t : TripIn) : (s.setTripIn i t).launchAt = s.launchAt := rfl
@[simp] theorem State.setTripIn_launchBusy (s : State) (i : Nat) (t : TripIn) : (s.setTripIn i t).launchBusy = s.launchBusy := rfl
@[simp] theorem State.setTripIn_ethWait (s : State) (i : Nat) (t : TripIn) : (s.setTripIn i t).ethWait = s.ethWait := rfl
@[simp] theorem State.setTripIn_out (s : State) (i : Nat) (t : TripIn) : (s.setTripIn i t).out = s.out := rfl
@[simp] theorem State.setTripIn_pending (s : State) (i : Nat) (t : TripIn) : (s.setTripIn i t).pending = s.pending := rfl
@[simp] theorem State.setTripIn_od (s : State) (i : Nat) (t : TripIn) (key : Nat) : (s.setTripIn i t).od key = s.od key := rfl
@[simp] theorem State.setTripIn_int (s : State) (i : Nat) (t : TripIn) (key : Nat) : (s.setTripIn i t).int key = s.int key := rfl
@[simp] theorem State.setTripIn_nat (s : State) (i : Nat) (t : TripIn) (key : Nat) : (s.setTripIn i t).nat key = s.nat key := rfl
@[simp] theorem State.setTripIn_f32 (s : State) (i : Nat) (t : TripIn) (key : Nat) : (s.setTripIn i t).f32 key = s.f32 key := rfl
@[simp] theorem State.setTripIn_flag (s : State) (i : Nat) (t : TripIn) (key : Nat) : (s.setTripIn i t).flag key = s.flag key := rfl
@[simp] theorem State.setTripIn_octets (s : State) (i : Nat) (t : TripIn) (key : Nat) : (s.setTripIn i t).octets key = s.octets key := rfl
@[simp] theorem State.setTripIn_bit (s : State) (i : Nat) (t : TripIn) (key bitNo : Nat) : (s.setTripIn i t).bit key bitNo = s.bit key bitNo := rfl
@[simp] theorem State.setTripIn_pwm (s : State) (i : Nat) (t : TripIn) : (s.setTripIn i t).pwm = { s.pwm with trips := vset s.pwm.trips i t } := rfl

@[simp] theorem State.setArm_variant (s : State) (k : Nat) (a : Arm) : (s.setArm k a).variant = s.variant := rfl
@[simp] theorem State.setArm_now (s : State) (k : Nat) (a : Arm) : (s.setArm k a).now = s.now := rfl
@[simp] theorem State.setArm_ltc (s : State) (k : Nat) (a : Arm) : (s.setArm k a).ltc = s.ltc := rfl
@[simp] theorem State.setArm_free (s : State) (k : Nat) (a : Arm) : (s.setArm k a).free = s.free := rfl
@[simp] theorem State.setArm_dict (s : State) (k : Nat) (a : Arm) : (s.setArm k a).dict = s.dict := rfl
@[simp] theorem State.setArm_recorder (s : State) (k : Nat) (a : Arm) : (s.setArm k a).recorder = s.recorder := rfl
@[simp] theorem State.setArm_arch (s : State) (k : Nat) (a : Arm) : (s.setArm k a).arch = s.arch := rfl
@[simp] theorem State.setArm_power (s : State) (k : Nat) (a : Arm) : (s.setArm k a).power = s.power := rfl
@[simp] theorem State.setArm_tb (s : State) (k : Nat) (a : Arm) : (s.setArm k a).tb = s.tb := rfl
@[simp] theorem State.setArm_pwm (s : State) (k : Nat) (a : Arm) : (s.setArm k a).pwm = s.pwm := rfl
@[simp] theorem State.setArm_ld (s : State) (k : Nat) (a : Arm) : (s.setArm k a).ld = s.ld := rfl
@[simp] theorem State.setArm_sig (s : State) (k : Nat) (a : Arm) : (s.setArm k a).sig = s.sig := rfl
@[simp] theorem State.setArm_streams (s : State) (k : Nat) (a : Arm) : (s.setArm k a).streams = s.streams := rfl
@[simp] theorem State.setArm_maskRun (s : State) (k : Nat) (a : Arm) : (s.setArm k a).maskRun = s.maskRun := rfl
@[simp] theorem State.setArm_lanes (s : State) (k : Nat) (a : Arm) : (s.setArm k a).lanes = s.lanes := rfl
@[simp] theorem State.setArm_frame (s : State) (k : Nat) (a : Arm) : (s.setArm k a).frame = s.frame := rfl
@[simp] theorem State.setArm_sup (s : State) (k : Nat) (a : Arm) : (s.setArm k a).sup = s.sup := rfl
@[simp] theorem State.setArm_adc (s : State) (k : Nat) (a : Arm) : (s.setArm k a).adc = s.adc := rfl
@[simp] theorem State.setArm_adcUnit (s : State) (k : Nat) (a : Arm) : (s.setArm k a).adcUnit = s.adcUnit := rfl
@[simp] theorem State.setArm_chains (s : State) (k : Nat) (a : Arm) : (s.setArm k a).chains = s.chains := rfl
@[simp] theorem State.setArm_link (s : State) (k : Nat) (a : Arm) : (s.setArm k a).link = s.link := rfl
@[simp] theorem State.setArm_pair (s : State) (k : Nat) (a : Arm) : (s.setArm k a).pair = s.pair := rfl
@[simp] theorem State.setArm_servo (s : State) (k : Nat) (a : Arm) : (s.setArm k a).servo = s.servo := rfl
@[simp] theorem State.setArm_safety (s : State) (k : Nat) (a : Arm) : (s.setArm k a).safety = s.safety := rfl
@[simp] theorem State.setArm_security (s : State) (k : Nat) (a : Arm) : (s.setArm k a).security = s.security := rfl
@[simp] theorem State.setArm_hosts (s : State) (k : Nat) (a : Arm) : (s.setArm k a).hosts = s.hosts := rfl
@[simp] theorem State.setArm_boot (s : State) (k : Nat) (a : Arm) : (s.setArm k a).boot = s.boot := rfl
@[simp] theorem State.setArm_can (s : State) (k : Nat) (a : Arm) : (s.setArm k a).can = s.can := rfl
@[simp] theorem State.setArm_launchAt (s : State) (k : Nat) (a : Arm) : (s.setArm k a).launchAt = s.launchAt := rfl
@[simp] theorem State.setArm_launchBusy (s : State) (k : Nat) (a : Arm) : (s.setArm k a).launchBusy = s.launchBusy := rfl
@[simp] theorem State.setArm_ethWait (s : State) (k : Nat) (a : Arm) : (s.setArm k a).ethWait = s.ethWait := rfl
@[simp] theorem State.setArm_out (s : State) (k : Nat) (a : Arm) : (s.setArm k a).out = s.out := rfl
@[simp] theorem State.setArm_pending (s : State) (k : Nat) (a : Arm) : (s.setArm k a).pending = s.pending := rfl
@[simp] theorem State.setArm_od (s : State) (k : Nat) (a : Arm) (key : Nat) : (s.setArm k a).od key = s.od key := rfl
@[simp] theorem State.setArm_int (s : State) (k : Nat) (a : Arm) (key : Nat) : (s.setArm k a).int key = s.int key := rfl
@[simp] theorem State.setArm_nat (s : State) (k : Nat) (a : Arm) (key : Nat) : (s.setArm k a).nat key = s.nat key := rfl
@[simp] theorem State.setArm_f32 (s : State) (k : Nat) (a : Arm) (key : Nat) : (s.setArm k a).f32 key = s.f32 key := rfl
@[simp] theorem State.setArm_flag (s : State) (k : Nat) (a : Arm) (key : Nat) : (s.setArm k a).flag key = s.flag key := rfl
@[simp] theorem State.setArm_octets (s : State) (k : Nat) (a : Arm) (key : Nat) : (s.setArm k a).octets key = s.octets key := rfl
@[simp] theorem State.setArm_bit (s : State) (k : Nat) (a : Arm) (key bitNo : Nat) : (s.setArm k a).bit key bitNo = s.bit key bitNo := rfl
@[simp] theorem State.setArm_arms (s : State) (k : Nat) (a : Arm) : (s.setArm k a).arms = vset s.arms k a := rfl

@[simp] theorem State.setBoot_variant (s : State) (b : Boot) : (s.setBoot b).variant = s.variant := rfl
@[simp] theorem State.setBoot_now (s : State) (b : Boot) : (s.setBoot b).now = s.now := rfl
@[simp] theorem State.setBoot_ltc (s : State) (b : Boot) : (s.setBoot b).ltc = s.ltc := rfl
@[simp] theorem State.setBoot_free (s : State) (b : Boot) : (s.setBoot b).free = s.free := rfl
@[simp] theorem State.setBoot_dict (s : State) (b : Boot) : (s.setBoot b).dict = s.dict := rfl
@[simp] theorem State.setBoot_recorder (s : State) (b : Boot) : (s.setBoot b).recorder = s.recorder := rfl
@[simp] theorem State.setBoot_arch (s : State) (b : Boot) : (s.setBoot b).arch = s.arch := rfl
@[simp] theorem State.setBoot_power (s : State) (b : Boot) : (s.setBoot b).power = s.power := rfl
@[simp] theorem State.setBoot_tb (s : State) (b : Boot) : (s.setBoot b).tb = s.tb := rfl
@[simp] theorem State.setBoot_pwm (s : State) (b : Boot) : (s.setBoot b).pwm = s.pwm := rfl
@[simp] theorem State.setBoot_arms (s : State) (b : Boot) : (s.setBoot b).arms = s.arms := rfl
@[simp] theorem State.setBoot_ld (s : State) (b : Boot) : (s.setBoot b).ld = s.ld := rfl
@[simp] theorem State.setBoot_sig (s : State) (b : Boot) : (s.setBoot b).sig = s.sig := rfl
@[simp] theorem State.setBoot_streams (s : State) (b : Boot) : (s.setBoot b).streams = s.streams := rfl
@[simp] theorem State.setBoot_maskRun (s : State) (b : Boot) : (s.setBoot b).maskRun = s.maskRun := rfl
@[simp] theorem State.setBoot_lanes (s : State) (b : Boot) : (s.setBoot b).lanes = s.lanes := rfl
@[simp] theorem State.setBoot_frame (s : State) (b : Boot) : (s.setBoot b).frame = s.frame := rfl
@[simp] theorem State.setBoot_sup (s : State) (b : Boot) : (s.setBoot b).sup = s.sup := rfl
@[simp] theorem State.setBoot_adc (s : State) (b : Boot) : (s.setBoot b).adc = s.adc := rfl
@[simp] theorem State.setBoot_adcUnit (s : State) (b : Boot) : (s.setBoot b).adcUnit = s.adcUnit := rfl
@[simp] theorem State.setBoot_chains (s : State) (b : Boot) : (s.setBoot b).chains = s.chains := rfl
@[simp] theorem State.setBoot_link (s : State) (b : Boot) : (s.setBoot b).link = s.link := rfl
@[simp] theorem State.setBoot_pair (s : State) (b : Boot) : (s.setBoot b).pair = s.pair := rfl
@[simp] theorem State.setBoot_servo (s : State) (b : Boot) : (s.setBoot b).servo = s.servo := rfl
@[simp] theorem State.setBoot_safety (s : State) (b : Boot) : (s.setBoot b).safety = s.safety := rfl
@[simp] theorem State.setBoot_security (s : State) (b : Boot) : (s.setBoot b).security = s.security := rfl
@[simp] theorem State.setBoot_hosts (s : State) (b : Boot) : (s.setBoot b).hosts = s.hosts := rfl
@[simp] theorem State.setBoot_can (s : State) (b : Boot) : (s.setBoot b).can = s.can := rfl
@[simp] theorem State.setBoot_launchAt (s : State) (b : Boot) : (s.setBoot b).launchAt = s.launchAt := rfl
@[simp] theorem State.setBoot_launchBusy (s : State) (b : Boot) : (s.setBoot b).launchBusy = s.launchBusy := rfl
@[simp] theorem State.setBoot_ethWait (s : State) (b : Boot) : (s.setBoot b).ethWait = s.ethWait := rfl
@[simp] theorem State.setBoot_out (s : State) (b : Boot) : (s.setBoot b).out = s.out := rfl
@[simp] theorem State.setBoot_pending (s : State) (b : Boot) : (s.setBoot b).pending = s.pending := rfl
@[simp] theorem State.setBoot_od (s : State) (b : Boot) (key : Nat) : (s.setBoot b).od key = s.od key := rfl
@[simp] theorem State.setBoot_int (s : State) (b : Boot) (key : Nat) : (s.setBoot b).int key = s.int key := rfl
@[simp] theorem State.setBoot_nat (s : State) (b : Boot) (key : Nat) : (s.setBoot b).nat key = s.nat key := rfl
@[simp] theorem State.setBoot_f32 (s : State) (b : Boot) (key : Nat) : (s.setBoot b).f32 key = s.f32 key := rfl
@[simp] theorem State.setBoot_flag (s : State) (b : Boot) (key : Nat) : (s.setBoot b).flag key = s.flag key := rfl
@[simp] theorem State.setBoot_octets (s : State) (b : Boot) (key : Nat) : (s.setBoot b).octets key = s.octets key := rfl
@[simp] theorem State.setBoot_bit (s : State) (b : Boot) (key bitNo : Nat) : (s.setBoot b).bit key bitNo = s.bit key bitNo := rfl
@[simp] theorem State.setBoot_boot (s : State) (b : Boot) : (s.setBoot b).boot = b := rfl

@[simp] theorem State.gasped_variant (s : State) (b : Bool) : (s.gasped b).variant = s.variant := rfl
@[simp] theorem State.gasped_now (s : State) (b : Bool) : (s.gasped b).now = s.now := rfl
@[simp] theorem State.gasped_ltc (s : State) (b : Bool) : (s.gasped b).ltc = s.ltc := rfl
@[simp] theorem State.gasped_free (s : State) (b : Bool) : (s.gasped b).free = s.free := rfl
@[simp] theorem State.gasped_dict (s : State) (b : Bool) : (s.gasped b).dict = s.dict := rfl
@[simp] theorem State.gasped_recorder (s : State) (b : Bool) : (s.gasped b).recorder = s.recorder := rfl
@[simp] theorem State.gasped_arch (s : State) (b : Bool) : (s.gasped b).arch = s.arch := rfl
@[simp] theorem State.gasped_tb (s : State) (b : Bool) : (s.gasped b).tb = s.tb := rfl
@[simp] theorem State.gasped_pwm (s : State) (b : Bool) : (s.gasped b).pwm = s.pwm := rfl
@[simp] theorem State.gasped_arms (s : State) (b : Bool) : (s.gasped b).arms = s.arms := rfl
@[simp] theorem State.gasped_ld (s : State) (b : Bool) : (s.gasped b).ld = s.ld := rfl
@[simp] theorem State.gasped_sig (s : State) (b : Bool) : (s.gasped b).sig = s.sig := rfl
@[simp] theorem State.gasped_streams (s : State) (b : Bool) : (s.gasped b).streams = s.streams := rfl
@[simp] theorem State.gasped_maskRun (s : State) (b : Bool) : (s.gasped b).maskRun = s.maskRun := rfl
@[simp] theorem State.gasped_lanes (s : State) (b : Bool) : (s.gasped b).lanes = s.lanes := rfl
@[simp] theorem State.gasped_frame (s : State) (b : Bool) : (s.gasped b).frame = s.frame := rfl
@[simp] theorem State.gasped_sup (s : State) (b : Bool) : (s.gasped b).sup = s.sup := rfl
@[simp] theorem State.gasped_adc (s : State) (b : Bool) : (s.gasped b).adc = s.adc := rfl
@[simp] theorem State.gasped_adcUnit (s : State) (b : Bool) : (s.gasped b).adcUnit = s.adcUnit := rfl
@[simp] theorem State.gasped_chains (s : State) (b : Bool) : (s.gasped b).chains = s.chains := rfl
@[simp] theorem State.gasped_link (s : State) (b : Bool) : (s.gasped b).link = s.link := rfl
@[simp] theorem State.gasped_pair (s : State) (b : Bool) : (s.gasped b).pair = s.pair := rfl
@[simp] theorem State.gasped_servo (s : State) (b : Bool) : (s.gasped b).servo = s.servo := rfl
@[simp] theorem State.gasped_safety (s : State) (b : Bool) : (s.gasped b).safety = s.safety := rfl
@[simp] theorem State.gasped_security (s : State) (b : Bool) : (s.gasped b).security = s.security := rfl
@[simp] theorem State.gasped_hosts (s : State) (b : Bool) : (s.gasped b).hosts = s.hosts := rfl
@[simp] theorem State.gasped_boot (s : State) (b : Bool) : (s.gasped b).boot = s.boot := rfl
@[simp] theorem State.gasped_can (s : State) (b : Bool) : (s.gasped b).can = s.can := rfl
@[simp] theorem State.gasped_launchAt (s : State) (b : Bool) : (s.gasped b).launchAt = s.launchAt := rfl
@[simp] theorem State.gasped_launchBusy (s : State) (b : Bool) : (s.gasped b).launchBusy = s.launchBusy := rfl
@[simp] theorem State.gasped_ethWait (s : State) (b : Bool) : (s.gasped b).ethWait = s.ethWait := rfl
@[simp] theorem State.gasped_out (s : State) (b : Bool) : (s.gasped b).out = s.out := rfl
@[simp] theorem State.gasped_pending (s : State) (b : Bool) : (s.gasped b).pending = s.pending := rfl
@[simp] theorem State.gasped_od (s : State) (b : Bool) (key : Nat) : (s.gasped b).od key = s.od key := rfl
@[simp] theorem State.gasped_int (s : State) (b : Bool) (key : Nat) : (s.gasped b).int key = s.int key := rfl
@[simp] theorem State.gasped_nat (s : State) (b : Bool) (key : Nat) : (s.gasped b).nat key = s.nat key := rfl
@[simp] theorem State.gasped_f32 (s : State) (b : Bool) (key : Nat) : (s.gasped b).f32 key = s.f32 key := rfl
@[simp] theorem State.gasped_flag (s : State) (b : Bool) (key : Nat) : (s.gasped b).flag key = s.flag key := rfl
@[simp] theorem State.gasped_octets (s : State) (b : Bool) (key : Nat) : (s.gasped b).octets key = s.octets key := rfl
@[simp] theorem State.gasped_bit (s : State) (b : Bool) (key bitNo : Nat) : (s.gasped b).bit key bitNo = s.bit key bitNo := rfl
@[simp] theorem State.gasped_power (s : State) (b : Bool) : (s.gasped b).power = { s.power with lastGasp := b } := rfl

@[simp] theorem State.setSecurity_variant (s : State) (x : Security) : (s.setSecurity x).variant = s.variant := rfl
@[simp] theorem State.setSecurity_now (s : State) (x : Security) : (s.setSecurity x).now = s.now := rfl
@[simp] theorem State.setSecurity_ltc (s : State) (x : Security) : (s.setSecurity x).ltc = s.ltc := rfl
@[simp] theorem State.setSecurity_free (s : State) (x : Security) : (s.setSecurity x).free = s.free := rfl
@[simp] theorem State.setSecurity_dict (s : State) (x : Security) : (s.setSecurity x).dict = s.dict := rfl
@[simp] theorem State.setSecurity_recorder (s : State) (x : Security) : (s.setSecurity x).recorder = s.recorder := rfl
@[simp] theorem State.setSecurity_arch (s : State) (x : Security) : (s.setSecurity x).arch = s.arch := rfl
@[simp] theorem State.setSecurity_power (s : State) (x : Security) : (s.setSecurity x).power = s.power := rfl
@[simp] theorem State.setSecurity_tb (s : State) (x : Security) : (s.setSecurity x).tb = s.tb := rfl
@[simp] theorem State.setSecurity_pwm (s : State) (x : Security) : (s.setSecurity x).pwm = s.pwm := rfl
@[simp] theorem State.setSecurity_arms (s : State) (x : Security) : (s.setSecurity x).arms = s.arms := rfl
@[simp] theorem State.setSecurity_ld (s : State) (x : Security) : (s.setSecurity x).ld = s.ld := rfl
@[simp] theorem State.setSecurity_sig (s : State) (x : Security) : (s.setSecurity x).sig = s.sig := rfl
@[simp] theorem State.setSecurity_streams (s : State) (x : Security) : (s.setSecurity x).streams = s.streams := rfl
@[simp] theorem State.setSecurity_maskRun (s : State) (x : Security) : (s.setSecurity x).maskRun = s.maskRun := rfl
@[simp] theorem State.setSecurity_lanes (s : State) (x : Security) : (s.setSecurity x).lanes = s.lanes := rfl
@[simp] theorem State.setSecurity_frame (s : State) (x : Security) : (s.setSecurity x).frame = s.frame := rfl
@[simp] theorem State.setSecurity_sup (s : State) (x : Security) : (s.setSecurity x).sup = s.sup := rfl
@[simp] theorem State.setSecurity_adc (s : State) (x : Security) : (s.setSecurity x).adc = s.adc := rfl
@[simp] theorem State.setSecurity_adcUnit (s : State) (x : Security) : (s.setSecurity x).adcUnit = s.adcUnit := rfl
@[simp] theorem State.setSecurity_chains (s : State) (x : Security) : (s.setSecurity x).chains = s.chains := rfl
@[simp] theorem State.setSecurity_link (s : State) (x : Security) : (s.setSecurity x).link = s.link := rfl
@[simp] theorem State.setSecurity_pair (s : State) (x : Security) : (s.setSecurity x).pair = s.pair := rfl
@[simp] theorem State.setSecurity_servo (s : State) (x : Security) : (s.setSecurity x).servo = s.servo := rfl
@[simp] theorem State.setSecurity_safety (s : State) (x : Security) : (s.setSecurity x).safety = s.safety := rfl
@[simp] theorem State.setSecurity_hosts (s : State) (x : Security) : (s.setSecurity x).hosts = s.hosts := rfl
@[simp] theorem State.setSecurity_boot (s : State) (x : Security) : (s.setSecurity x).boot = s.boot := rfl
@[simp] theorem State.setSecurity_can (s : State) (x : Security) : (s.setSecurity x).can = s.can := rfl
@[simp] theorem State.setSecurity_launchAt (s : State) (x : Security) : (s.setSecurity x).launchAt = s.launchAt := rfl
@[simp] theorem State.setSecurity_launchBusy (s : State) (x : Security) : (s.setSecurity x).launchBusy = s.launchBusy := rfl
@[simp] theorem State.setSecurity_ethWait (s : State) (x : Security) : (s.setSecurity x).ethWait = s.ethWait := rfl
@[simp] theorem State.setSecurity_out (s : State) (x : Security) : (s.setSecurity x).out = s.out := rfl
@[simp] theorem State.setSecurity_pending (s : State) (x : Security) : (s.setSecurity x).pending = s.pending := rfl
@[simp] theorem State.setSecurity_od (s : State) (x : Security) (key : Nat) : (s.setSecurity x).od key = s.od key := rfl
@[simp] theorem State.setSecurity_int (s : State) (x : Security) (key : Nat) : (s.setSecurity x).int key = s.int key := rfl
@[simp] theorem State.setSecurity_nat (s : State) (x : Security) (key : Nat) : (s.setSecurity x).nat key = s.nat key := rfl
@[simp] theorem State.setSecurity_f32 (s : State) (x : Security) (key : Nat) : (s.setSecurity x).f32 key = s.f32 key := rfl
@[simp] theorem State.setSecurity_flag (s : State) (x : Security) (key : Nat) : (s.setSecurity x).flag key = s.flag key := rfl
@[simp] theorem State.setSecurity_octets (s : State) (x : Security) (key : Nat) : (s.setSecurity x).octets key = s.octets key := rfl
@[simp] theorem State.setSecurity_bit (s : State) (x : Security) (key bitNo : Nat) : (s.setSecurity x).bit key bitNo = s.bit key bitNo := rfl
@[simp] theorem State.setSecurity_security (s : State) (x : Security) : (s.setSecurity x).security = x := rfl

@[simp] theorem State.setBank_variant (s : State) (b : Nat) (x : Bank) : (s.setBank b x).variant = s.variant := rfl
@[simp] theorem State.setBank_now (s : State) (b : Nat) (x : Bank) : (s.setBank b x).now = s.now := rfl
@[simp] theorem State.setBank_ltc (s : State) (b : Nat) (x : Bank) : (s.setBank b x).ltc = s.ltc := rfl
@[simp] theorem State.setBank_free (s : State) (b : Nat) (x : Bank) : (s.setBank b x).free = s.free := rfl
@[simp] theorem State.setBank_dict (s : State) (b : Nat) (x : Bank) : (s.setBank b x).dict = s.dict := rfl
@[simp] theorem State.setBank_recorder (s : State) (b : Nat) (x : Bank) : (s.setBank b x).recorder = s.recorder := rfl
@[simp] theorem State.setBank_arch (s : State) (b : Nat) (x : Bank) : (s.setBank b x).arch = s.arch := rfl
@[simp] theorem State.setBank_tb (s : State) (b : Nat) (x : Bank) : (s.setBank b x).tb = s.tb := rfl
@[simp] theorem State.setBank_pwm (s : State) (b : Nat) (x : Bank) : (s.setBank b x).pwm = s.pwm := rfl
@[simp] theorem State.setBank_arms (s : State) (b : Nat) (x : Bank) : (s.setBank b x).arms = s.arms := rfl
@[simp] theorem State.setBank_ld (s : State) (b : Nat) (x : Bank) : (s.setBank b x).ld = s.ld := rfl
@[simp] theorem State.setBank_sig (s : State) (b : Nat) (x : Bank) : (s.setBank b x).sig = s.sig := rfl
@[simp] theorem State.setBank_streams (s : State) (b : Nat) (x : Bank) : (s.setBank b x).streams = s.streams := rfl
@[simp] theorem State.setBank_maskRun (s : State) (b : Nat) (x : Bank) : (s.setBank b x).maskRun = s.maskRun := rfl
@[simp] theorem State.setBank_lanes (s : State) (b : Nat) (x : Bank) : (s.setBank b x).lanes = s.lanes := rfl
@[simp] theorem State.setBank_frame (s : State) (b : Nat) (x : Bank) : (s.setBank b x).frame = s.frame := rfl
@[simp] theorem State.setBank_sup (s : State) (b : Nat) (x : Bank) : (s.setBank b x).sup = s.sup := rfl
@[simp] theorem State.setBank_adc (s : State) (b : Nat) (x : Bank) : (s.setBank b x).adc = s.adc := rfl
@[simp] theorem State.setBank_adcUnit (s : State) (b : Nat) (x : Bank) : (s.setBank b x).adcUnit = s.adcUnit := rfl
@[simp] theorem State.setBank_chains (s : State) (b : Nat) (x : Bank) : (s.setBank b x).chains = s.chains := rfl
@[simp] theorem State.setBank_link (s : State) (b : Nat) (x : Bank) : (s.setBank b x).link = s.link := rfl
@[simp] theorem State.setBank_pair (s : State) (b : Nat) (x : Bank) : (s.setBank b x).pair = s.pair := rfl
@[simp] theorem State.setBank_servo (s : State) (b : Nat) (x : Bank) : (s.setBank b x).servo = s.servo := rfl
@[simp] theorem State.setBank_safety (s : State) (b : Nat) (x : Bank) : (s.setBank b x).safety = s.safety := rfl
@[simp] theorem State.setBank_security (s : State) (b : Nat) (x : Bank) : (s.setBank b x).security = s.security := rfl
@[simp] theorem State.setBank_hosts (s : State) (b : Nat) (x : Bank) : (s.setBank b x).hosts = s.hosts := rfl
@[simp] theorem State.setBank_boot (s : State) (b : Nat) (x : Bank) : (s.setBank b x).boot = s.boot := rfl
@[simp] theorem State.setBank_can (s : State) (b : Nat) (x : Bank) : (s.setBank b x).can = s.can := rfl
@[simp] theorem State.setBank_launchAt (s : State) (b : Nat) (x : Bank) : (s.setBank b x).launchAt = s.launchAt := rfl
@[simp] theorem State.setBank_launchBusy (s : State) (b : Nat) (x : Bank) : (s.setBank b x).launchBusy = s.launchBusy := rfl
@[simp] theorem State.setBank_ethWait (s : State) (b : Nat) (x : Bank) : (s.setBank b x).ethWait = s.ethWait := rfl
@[simp] theorem State.setBank_out (s : State) (b : Nat) (x : Bank) : (s.setBank b x).out = s.out := rfl
@[simp] theorem State.setBank_pending (s : State) (b : Nat) (x : Bank) : (s.setBank b x).pending = s.pending := rfl
@[simp] theorem State.setBank_od (s : State) (b : Nat) (x : Bank) (key : Nat) : (s.setBank b x).od key = s.od key := rfl
@[simp] theorem State.setBank_int (s : State) (b : Nat) (x : Bank) (key : Nat) : (s.setBank b x).int key = s.int key := rfl
@[simp] theorem State.setBank_nat (s : State) (b : Nat) (x : Bank) (key : Nat) : (s.setBank b x).nat key = s.nat key := rfl
@[simp] theorem State.setBank_f32 (s : State) (b : Nat) (x : Bank) (key : Nat) : (s.setBank b x).f32 key = s.f32 key := rfl
@[simp] theorem State.setBank_flag (s : State) (b : Nat) (x : Bank) (key : Nat) : (s.setBank b x).flag key = s.flag key := rfl
@[simp] theorem State.setBank_octets (s : State) (b : Nat) (x : Bank) (key : Nat) : (s.setBank b x).octets key = s.octets key := rfl
@[simp] theorem State.setBank_bit (s : State) (b : Nat) (x : Bank) (key bitNo : Nat) : (s.setBank b x).bit key bitNo = s.bit key bitNo := rfl
@[simp] theorem State.setBank_power (s : State) (b : Nat) (x : Bank) : (s.setBank b x).power = { s.power with banks := vset s.power.banks b x } := rfl

@[simp] theorem State.setLaunch_variant (s : State) (k : Nat) (i : Nat) (t : Nat) : (s.setLaunch k i t).variant = s.variant := rfl
@[simp] theorem State.setLaunch_now (s : State) (k : Nat) (i : Nat) (t : Nat) : (s.setLaunch k i t).now = s.now := rfl
@[simp] theorem State.setLaunch_ltc (s : State) (k : Nat) (i : Nat) (t : Nat) : (s.setLaunch k i t).ltc = s.ltc := rfl
@[simp] theorem State.setLaunch_free (s : State) (k : Nat) (i : Nat) (t : Nat) : (s.setLaunch k i t).free = s.free := rfl
@[simp] theorem State.setLaunch_dict (s : State) (k : Nat) (i : Nat) (t : Nat) : (s.setLaunch k i t).dict = s.dict := rfl
@[simp] theorem State.setLaunch_recorder (s : State) (k : Nat) (i : Nat) (t : Nat) : (s.setLaunch k i t).recorder = s.recorder := rfl
@[simp] theorem State.setLaunch_arch (s : State) (k : Nat) (i : Nat) (t : Nat) : (s.setLaunch k i t).arch = s.arch := rfl
@[simp] theorem State.setLaunch_power (s : State) (k : Nat) (i : Nat) (t : Nat) : (s.setLaunch k i t).power = s.power := rfl
@[simp] theorem State.setLaunch_tb (s : State) (k : Nat) (i : Nat) (t : Nat) : (s.setLaunch k i t).tb = s.tb := rfl
@[simp] theorem State.setLaunch_pwm (s : State) (k : Nat) (i : Nat) (t : Nat) : (s.setLaunch k i t).pwm = s.pwm := rfl
@[simp] theorem State.setLaunch_arms (s : State) (k : Nat) (i : Nat) (t : Nat) : (s.setLaunch k i t).arms = s.arms := rfl
@[simp] theorem State.setLaunch_ld (s : State) (k : Nat) (i : Nat) (t : Nat) : (s.setLaunch k i t).ld = s.ld := rfl
@[simp] theorem State.setLaunch_sig (s : State) (k : Nat) (i : Nat) (t : Nat) : (s.setLaunch k i t).sig = s.sig := rfl
@[simp] theorem State.setLaunch_streams (s : State) (k : Nat) (i : Nat) (t : Nat) : (s.setLaunch k i t).streams = s.streams := rfl
@[simp] theorem State.setLaunch_maskRun (s : State) (k : Nat) (i : Nat) (t : Nat) : (s.setLaunch k i t).maskRun = s.maskRun := rfl
@[simp] theorem State.setLaunch_lanes (s : State) (k : Nat) (i : Nat) (t : Nat) : (s.setLaunch k i t).lanes = s.lanes := rfl
@[simp] theorem State.setLaunch_frame (s : State) (k : Nat) (i : Nat) (t : Nat) : (s.setLaunch k i t).frame = s.frame := rfl
@[simp] theorem State.setLaunch_sup (s : State) (k : Nat) (i : Nat) (t : Nat) : (s.setLaunch k i t).sup = s.sup := rfl
@[simp] theorem State.setLaunch_adc (s : State) (k : Nat) (i : Nat) (t : Nat) : (s.setLaunch k i t).adc = s.adc := rfl
@[simp] theorem State.setLaunch_adcUnit (s : State) (k : Nat) (i : Nat) (t : Nat) : (s.setLaunch k i t).adcUnit = s.adcUnit := rfl
@[simp] theorem State.setLaunch_chains (s : State) (k : Nat) (i : Nat) (t : Nat) : (s.setLaunch k i t).chains = s.chains := rfl
@[simp] theorem State.setLaunch_link (s : State) (k : Nat) (i : Nat) (t : Nat) : (s.setLaunch k i t).link = s.link := rfl
@[simp] theorem State.setLaunch_pair (s : State) (k : Nat) (i : Nat) (t : Nat) : (s.setLaunch k i t).pair = s.pair := rfl
@[simp] theorem State.setLaunch_servo (s : State) (k : Nat) (i : Nat) (t : Nat) : (s.setLaunch k i t).servo = s.servo := rfl
@[simp] theorem State.setLaunch_safety (s : State) (k : Nat) (i : Nat) (t : Nat) : (s.setLaunch k i t).safety = s.safety := rfl
@[simp] theorem State.setLaunch_security (s : State) (k : Nat) (i : Nat) (t : Nat) : (s.setLaunch k i t).security = s.security := rfl
@[simp] theorem State.setLaunch_hosts (s : State) (k : Nat) (i : Nat) (t : Nat) : (s.setLaunch k i t).hosts = s.hosts := rfl
@[simp] theorem State.setLaunch_boot (s : State) (k : Nat) (i : Nat) (t : Nat) : (s.setLaunch k i t).boot = s.boot := rfl
@[simp] theorem State.setLaunch_can (s : State) (k : Nat) (i : Nat) (t : Nat) : (s.setLaunch k i t).can = s.can := rfl
@[simp] theorem State.setLaunch_launchBusy (s : State) (k : Nat) (i : Nat) (t : Nat) : (s.setLaunch k i t).launchBusy = s.launchBusy := rfl
@[simp] theorem State.setLaunch_ethWait (s : State) (k : Nat) (i : Nat) (t : Nat) : (s.setLaunch k i t).ethWait = s.ethWait := rfl
@[simp] theorem State.setLaunch_out (s : State) (k : Nat) (i : Nat) (t : Nat) : (s.setLaunch k i t).out = s.out := rfl
@[simp] theorem State.setLaunch_pending (s : State) (k : Nat) (i : Nat) (t : Nat) : (s.setLaunch k i t).pending = s.pending := rfl
@[simp] theorem State.setLaunch_od (s : State) (k : Nat) (i : Nat) (t : Nat) (key : Nat) : (s.setLaunch k i t).od key = s.od key := rfl
@[simp] theorem State.setLaunch_int (s : State) (k : Nat) (i : Nat) (t : Nat) (key : Nat) : (s.setLaunch k i t).int key = s.int key := rfl
@[simp] theorem State.setLaunch_nat (s : State) (k : Nat) (i : Nat) (t : Nat) (key : Nat) : (s.setLaunch k i t).nat key = s.nat key := rfl
@[simp] theorem State.setLaunch_f32 (s : State) (k : Nat) (i : Nat) (t : Nat) (key : Nat) : (s.setLaunch k i t).f32 key = s.f32 key := rfl
@[simp] theorem State.setLaunch_flag (s : State) (k : Nat) (i : Nat) (t : Nat) (key : Nat) : (s.setLaunch k i t).flag key = s.flag key := rfl
@[simp] theorem State.setLaunch_octets (s : State) (k : Nat) (i : Nat) (t : Nat) (key : Nat) : (s.setLaunch k i t).octets key = s.octets key := rfl
@[simp] theorem State.setLaunch_bit (s : State) (k : Nat) (i : Nat) (t : Nat) (key bitNo : Nat) : (s.setLaunch k i t).bit key bitNo = s.bit key bitNo := rfl
@[simp] theorem State.setLaunch_launchAt (s : State) (k : Nat) (i : Nat) (t : Nat) : (s.setLaunch k i t).launchAt = vset s.launchAt (16 * k + i) t := rfl

@[simp] theorem State.setTb_variant (s : State) (t : Timebase) : (s.setTb t).variant = s.variant := rfl
@[simp] theorem State.setTb_now (s : State) (t : Timebase) : (s.setTb t).now = s.now := rfl
@[simp] theorem State.setTb_ltc (s : State) (t : Timebase) : (s.setTb t).ltc = s.ltc := rfl
@[simp] theorem State.setTb_free (s : State) (t : Timebase) : (s.setTb t).free = s.free := rfl
@[simp] theorem State.setTb_dict (s : State) (t : Timebase) : (s.setTb t).dict = s.dict := rfl
@[simp] theorem State.setTb_recorder (s : State) (t : Timebase) : (s.setTb t).recorder = s.recorder := rfl
@[simp] theorem State.setTb_arch (s : State) (t : Timebase) : (s.setTb t).arch = s.arch := rfl
@[simp] theorem State.setTb_power (s : State) (t : Timebase) : (s.setTb t).power = s.power := rfl
@[simp] theorem State.setTb_pwm (s : State) (t : Timebase) : (s.setTb t).pwm = s.pwm := rfl
@[simp] theorem State.setTb_arms (s : State) (t : Timebase) : (s.setTb t).arms = s.arms := rfl
@[simp] theorem State.setTb_ld (s : State) (t : Timebase) : (s.setTb t).ld = s.ld := rfl
@[simp] theorem State.setTb_sig (s : State) (t : Timebase) : (s.setTb t).sig = s.sig := rfl
@[simp] theorem State.setTb_streams (s : State) (t : Timebase) : (s.setTb t).streams = s.streams := rfl
@[simp] theorem State.setTb_maskRun (s : State) (t : Timebase) : (s.setTb t).maskRun = s.maskRun := rfl
@[simp] theorem State.setTb_lanes (s : State) (t : Timebase) : (s.setTb t).lanes = s.lanes := rfl
@[simp] theorem State.setTb_frame (s : State) (t : Timebase) : (s.setTb t).frame = s.frame := rfl
@[simp] theorem State.setTb_sup (s : State) (t : Timebase) : (s.setTb t).sup = s.sup := rfl
@[simp] theorem State.setTb_adc (s : State) (t : Timebase) : (s.setTb t).adc = s.adc := rfl
@[simp] theorem State.setTb_adcUnit (s : State) (t : Timebase) : (s.setTb t).adcUnit = s.adcUnit := rfl
@[simp] theorem State.setTb_chains (s : State) (t : Timebase) : (s.setTb t).chains = s.chains := rfl
@[simp] theorem State.setTb_link (s : State) (t : Timebase) : (s.setTb t).link = s.link := rfl
@[simp] theorem State.setTb_pair (s : State) (t : Timebase) : (s.setTb t).pair = s.pair := rfl
@[simp] theorem State.setTb_servo (s : State) (t : Timebase) : (s.setTb t).servo = s.servo := rfl
@[simp] theorem State.setTb_safety (s : State) (t : Timebase) : (s.setTb t).safety = s.safety := rfl
@[simp] theorem State.setTb_security (s : State) (t : Timebase) : (s.setTb t).security = s.security := rfl
@[simp] theorem State.setTb_hosts (s : State) (t : Timebase) : (s.setTb t).hosts = s.hosts := rfl
@[simp] theorem State.setTb_boot (s : State) (t : Timebase) : (s.setTb t).boot = s.boot := rfl
@[simp] theorem State.setTb_can (s : State) (t : Timebase) : (s.setTb t).can = s.can := rfl
@[simp] theorem State.setTb_launchAt (s : State) (t : Timebase) : (s.setTb t).launchAt = s.launchAt := rfl
@[simp] theorem State.setTb_launchBusy (s : State) (t : Timebase) : (s.setTb t).launchBusy = s.launchBusy := rfl
@[simp] theorem State.setTb_ethWait (s : State) (t : Timebase) : (s.setTb t).ethWait = s.ethWait := rfl
@[simp] theorem State.setTb_out (s : State) (t : Timebase) : (s.setTb t).out = s.out := rfl
@[simp] theorem State.setTb_pending (s : State) (t : Timebase) : (s.setTb t).pending = s.pending := rfl
@[simp] theorem State.setTb_od (s : State) (t : Timebase) (key : Nat) : (s.setTb t).od key = s.od key := rfl
@[simp] theorem State.setTb_int (s : State) (t : Timebase) (key : Nat) : (s.setTb t).int key = s.int key := rfl
@[simp] theorem State.setTb_nat (s : State) (t : Timebase) (key : Nat) : (s.setTb t).nat key = s.nat key := rfl
@[simp] theorem State.setTb_f32 (s : State) (t : Timebase) (key : Nat) : (s.setTb t).f32 key = s.f32 key := rfl
@[simp] theorem State.setTb_flag (s : State) (t : Timebase) (key : Nat) : (s.setTb t).flag key = s.flag key := rfl
@[simp] theorem State.setTb_octets (s : State) (t : Timebase) (key : Nat) : (s.setTb t).octets key = s.octets key := rfl
@[simp] theorem State.setTb_bit (s : State) (t : Timebase) (key bitNo : Nat) : (s.setTb t).bit key bitNo = s.bit key bitNo := rfl
@[simp] theorem State.setTb_tb (s : State) (t : Timebase) : (s.setTb t).tb = t := rfl

@[simp] theorem State.setServo_variant (s : State) (v : Servo) : (s.setServo v).variant = s.variant := rfl
@[simp] theorem State.setServo_now (s : State) (v : Servo) : (s.setServo v).now = s.now := rfl
@[simp] theorem State.setServo_ltc (s : State) (v : Servo) : (s.setServo v).ltc = s.ltc := rfl
@[simp] theorem State.setServo_free (s : State) (v : Servo) : (s.setServo v).free = s.free := rfl
@[simp] theorem State.setServo_dict (s : State) (v : Servo) : (s.setServo v).dict = s.dict := rfl
@[simp] theorem State.setServo_recorder (s : State) (v : Servo) : (s.setServo v).recorder = s.recorder := rfl
@[simp] theorem State.setServo_arch (s : State) (v : Servo) : (s.setServo v).arch = s.arch := rfl
@[simp] theorem State.setServo_power (s : State) (v : Servo) : (s.setServo v).power = s.power := rfl
@[simp] theorem State.setServo_tb (s : State) (v : Servo) : (s.setServo v).tb = s.tb := rfl
@[simp] theorem State.setServo_pwm (s : State) (v : Servo) : (s.setServo v).pwm = s.pwm := rfl
@[simp] theorem State.setServo_arms (s : State) (v : Servo) : (s.setServo v).arms = s.arms := rfl
@[simp] theorem State.setServo_ld (s : State) (v : Servo) : (s.setServo v).ld = s.ld := rfl
@[simp] theorem State.setServo_sig (s : State) (v : Servo) : (s.setServo v).sig = s.sig := rfl
@[simp] theorem State.setServo_streams (s : State) (v : Servo) : (s.setServo v).streams = s.streams := rfl
@[simp] theorem State.setServo_maskRun (s : State) (v : Servo) : (s.setServo v).maskRun = s.maskRun := rfl
@[simp] theorem State.setServo_lanes (s : State) (v : Servo) : (s.setServo v).lanes = s.lanes := rfl
@[simp] theorem State.setServo_frame (s : State) (v : Servo) : (s.setServo v).frame = s.frame := rfl
@[simp] theorem State.setServo_sup (s : State) (v : Servo) : (s.setServo v).sup = s.sup := rfl
@[simp] theorem State.setServo_adc (s : State) (v : Servo) : (s.setServo v).adc = s.adc := rfl
@[simp] theorem State.setServo_adcUnit (s : State) (v : Servo) : (s.setServo v).adcUnit = s.adcUnit := rfl
@[simp] theorem State.setServo_chains (s : State) (v : Servo) : (s.setServo v).chains = s.chains := rfl
@[simp] theorem State.setServo_link (s : State) (v : Servo) : (s.setServo v).link = s.link := rfl
@[simp] theorem State.setServo_pair (s : State) (v : Servo) : (s.setServo v).pair = s.pair := rfl
@[simp] theorem State.setServo_safety (s : State) (v : Servo) : (s.setServo v).safety = s.safety := rfl
@[simp] theorem State.setServo_security (s : State) (v : Servo) : (s.setServo v).security = s.security := rfl
@[simp] theorem State.setServo_hosts (s : State) (v : Servo) : (s.setServo v).hosts = s.hosts := rfl
@[simp] theorem State.setServo_boot (s : State) (v : Servo) : (s.setServo v).boot = s.boot := rfl
@[simp] theorem State.setServo_can (s : State) (v : Servo) : (s.setServo v).can = s.can := rfl
@[simp] theorem State.setServo_launchAt (s : State) (v : Servo) : (s.setServo v).launchAt = s.launchAt := rfl
@[simp] theorem State.setServo_launchBusy (s : State) (v : Servo) : (s.setServo v).launchBusy = s.launchBusy := rfl
@[simp] theorem State.setServo_ethWait (s : State) (v : Servo) : (s.setServo v).ethWait = s.ethWait := rfl
@[simp] theorem State.setServo_out (s : State) (v : Servo) : (s.setServo v).out = s.out := rfl
@[simp] theorem State.setServo_pending (s : State) (v : Servo) : (s.setServo v).pending = s.pending := rfl
@[simp] theorem State.setServo_od (s : State) (v : Servo) (key : Nat) : (s.setServo v).od key = s.od key := rfl
@[simp] theorem State.setServo_int (s : State) (v : Servo) (key : Nat) : (s.setServo v).int key = s.int key := rfl
@[simp] theorem State.setServo_nat (s : State) (v : Servo) (key : Nat) : (s.setServo v).nat key = s.nat key := rfl
@[simp] theorem State.setServo_f32 (s : State) (v : Servo) (key : Nat) : (s.setServo v).f32 key = s.f32 key := rfl
@[simp] theorem State.setServo_flag (s : State) (v : Servo) (key : Nat) : (s.setServo v).flag key = s.flag key := rfl
@[simp] theorem State.setServo_octets (s : State) (v : Servo) (key : Nat) : (s.setServo v).octets key = s.octets key := rfl
@[simp] theorem State.setServo_bit (s : State) (v : Servo) (key bitNo : Nat) : (s.setServo v).bit key bitNo = s.bit key bitNo := rfl
@[simp] theorem State.setServo_servo (s : State) (v : Servo) : (s.setServo v).servo = v := rfl

end Sys2Proof.Machine
end

