-- ==== Sys2Proof/Laws/Ops.lean ====
section
/-!
SUPPORT. Laws/Ops.lean: what the shared operations do, said once: an occurrence, an answer, a command of a session, a change of a state entry.
-/
namespace Sys2Proof.Machine
open Sys2Proof

/-! ### The recorder -/

theorem emergency_only (s : State) (r : Rec) : s.emergency r = { s with out := (s.emergency r).out } := by
  have key : ∀ (l : List Nat) (t : State), t = { s with out := t.out } → l.foldl (fun s k =>
      if (decide (s.nat (OD.PORT_STATE k) = 2) || decide (s.nat (OD.PORT_STATE k) = 3)) && s.flag (OD.CANOPEN_EN k) && s.flag (OD.NODE_ID k) then s.emit (.emcy k r.code) else s) t =
      { s with out := (l.foldl (fun s k =>
      if (decide (s.nat (OD.PORT_STATE k) = 2) || decide (s.nat (OD.PORT_STATE k) = 3)) && s.flag (OD.CANOPEN_EN k) && s.flag (OD.NODE_ID k) then s.emit (.emcy k r.code) else s) t).out } := by
    intro l
    induction l with
    | nil => intro t h; exact h
    | cons k l ih =>
      intro t h
      apply ih
      dsimp only
      split
      · rw [h]; rfl
      · exact h
  unfold State.emergency
  split
  · exact key _ s rfl
  · rfl

theorem State.Recorded.refl (s : State) : s.Recorded s := rfl

theorem State.Recorded.trans {s t u : State} (h : s.Recorded t) (g : t.Recorded u) : s.Recorded u := by
  unfold State.Recorded at *
  rw [g, h]

theorem recorded_put (s : State) (k : Nat) (v : Val) : s.Recorded (s.put k v) := rfl
theorem recorded_putN (s : State) (k n : Nat) : s.Recorded (s.putN k n) := rfl
theorem recorded_bump (s : State) (k : Nat) : s.Recorded (s.bump k) := rfl
theorem recorded_setRec (s : State) (r : Recorder) : s.Recorded (s.setRec r) := rfl
theorem recorded_fifoPeak (s : State) : s.Recorded s.fifoPeak := rfl
theorem recorded_emergency (s : State) (r : Rec) : s.Recorded (s.emergency r) := by
  unfold State.Recorded
  rw [emergency_only s r]

theorem recorded_enterFifo (s : State) (r : Rec) : s.Recorded (s.enterFifo r) := by
  unfold State.enterFifo
  dsimp only
  repeat' split
  · exact recorded_bump _ _
  · exact ((recorded_setRec _ _).trans (recorded_fifoPeak _)).trans (recorded_emergency _ _)
  · exact (recorded_setRec _ _).trans (recorded_emergency _ _)
  · exact ((recorded_setRec _ _).trans (recorded_fifoPeak _)).trans (recorded_emergency _ _)
  · exact (recorded_setRec _ _).trans (recorded_bump _ _)

theorem recorded_bypass (s : State) (r : Rec) : s.Recorded (s.bypass r) := by
  unfold State.bypass
  dsimp only
  repeat' split
  · exact recorded_bump _ _
  · exact ((recorded_setRec _ _).trans (recorded_fifoPeak _)).trans (recorded_emergency _ _)
  · exact recorded_setRec _ _

theorem recorded_occur (s : State) (o : Occ) : s.Recorded (s.occur o) := by
  unfold State.occur
  dsimp only
  have he : s.Recorded (s.eventTriggers o.code) := rfl
  repeat' split
  · exact he.trans (recorded_bypass _ _)
  · exact (he.trans (recorded_setRec _ _)).trans (recorded_enterFifo _ _)
  · exact (he.trans (recorded_setRec _ _)).trans (recorded_enterFifo _ _)
  · exact (he.trans (recorded_setRec _ _)).trans (recorded_bump _ _)

theorem recorded_note (s : State) (code detail : Nat) (set : Bool) : s.Recorded (s.note code detail set) := recorded_occur _ _

/-- Entries the recorder itself keeps for a code. -/
def recorderKey (code k : Nat) : Bool :=
  decide (k = OD.FIFO_PEAK) || decide (k = OD.FROZEN_LOST) || decide (k = OD.REC_OVERFLOW code) || decide (k = OD.REC_SUPPRESSED code)

theorem od_emergency (s : State) (r : Rec) (k : Nat) : (s.emergency r).od k = s.od k := by
  rw [emergency_only]; rfl

theorem od_fifoPeak (s : State) (k : Nat) (h : k ≠ OD.FIFO_PEAK) : s.fifoPeak.od k = s.od k := State.od_put_other _ _ _ _ h

theorem od_bump (s : State) (c k : Nat) (h : k ≠ c) : (s.bump c).od k = s.od k := State.od_put_other _ _ _ _ h

theorem od_enterFifo (s : State) (r : Rec) (k : Nat) (h : recorderKey r.code k = false) : (s.enterFifo r).od k = s.od k := by
  simp only [recorderKey, Bool.or_eq_false_iff, decide_eq_false_iff_not] at h
  obtain ⟨⟨⟨h1, h2⟩, h3⟩, -⟩ := h
  unfold State.enterFifo
  dsimp only
  repeat' split
  · exact od_bump _ _ _ h2
  · rw [od_emergency, od_fifoPeak _ _ h1]; rfl
  · rw [od_emergency]; rfl
  · rw [od_emergency, od_fifoPeak _ _ h1]; rfl
  · rw [od_bump _ _ _ h3]; rfl

theorem od_bypass (s : State) (r : Rec) (k : Nat) (h : recorderKey r.code k = false) : (s.bypass r).od k = s.od k := by
  simp only [recorderKey, Bool.or_eq_false_iff, decide_eq_false_iff_not] at h
  obtain ⟨⟨⟨h1, h2⟩, -⟩, -⟩ := h
  unfold State.bypass
  dsimp only
  repeat' split
  · exact od_bump _ _ _ h2
  · rw [od_emergency, od_fifoPeak _ _ h1]; rfl
  · rfl

theorem recordOf_code (s : State) (o : Occ) (b : Bool) : (s.recordOf o b).code = o.code := rfl

/-- Raising an occurrence writes no entry but those of the recorder. -/
theorem od_occur (s : State) (o : Occ) (k : Nat) (h : recorderKey o.code k = false) : (s.occur o).od k = s.od k := by
  have h4 : k ≠ OD.REC_SUPPRESSED o.code := by
    simp only [recorderKey, Bool.or_eq_false_iff, decide_eq_false_iff_not] at h
    exact h.2
  have he : (s.eventTriggers o.code).od k = s.od k := rfl
  unfold State.occur
  dsimp only
  have hb : ∀ st st' : State, (st.bypass (st'.recordOf o false)).od k = st.od k := fun st st' => od_bypass st (st'.recordOf o false) k h
  have hr : ∀ st st' : State, (st.enterFifo (st'.recordOf o false)).od k = st.od k := fun st st' =>
    od_enterFifo st (st'.recordOf o false) k h
  split
  · rw [hb, he]
  · split
    · rw [hr, State.putBucket, State.setRec_od, he]
    · rw [od_bump _ _ _ h4, State.putBucket, State.setRec_od, he]

theorem od_note (s : State) (code detail : Nat) (set : Bool) (k : Nat) (h : recorderKey code k = false) : (s.note code detail set).od k = s.od k :=
  od_occur _ _ _ h

theorem int_note (s : State) (code detail : Nat) (set : Bool) (k : Nat) (h : recorderKey code k = false) : (s.note code detail set).int k = s.int k := by
  unfold State.int; rw [od_note _ _ _ _ _ h]
theorem nat_note (s : State) (code detail : Nat) (set : Bool) (k : Nat) (h : recorderKey code k = false) : (s.note code detail set).nat k = s.nat k := by
  unfold State.nat; rw [int_note _ _ _ _ _ h]
theorem bit_note (s : State) (code detail : Nat) (set : Bool) (k i : Nat) (h : recorderKey code k = false) :
    (s.note code detail set).bit k i = s.bit k i := by
  unfold State.bit; rw [nat_note _ _ _ _ _ h]
theorem nat_occur (s : State) (o : Occ) (k : Nat) (h : recorderKey o.code k = false) : (s.occur o).nat k = s.nat k := by
  unfold State.nat State.int; rw [od_occur _ _ _ h]

theorem State.Recorded.variant {s t : State} (h : s.Recorded t) : t.variant = s.variant := by
  unfold State.Recorded at h
  exact (congrArg State.variant h).trans rfl
@[simp] theorem occur_variant (s : State) (o : Occ) : (s.occur o).variant = s.variant := (recorded_occur s o).variant
@[simp] theorem note_variant (s : State) (c d : Nat) (b : Bool) : (s.note c d b).variant = s.variant := (recorded_note s c d b).variant
theorem State.Recorded.now {s t : State} (h : s.Recorded t) : t.now = s.now := by
  unfold State.Recorded at h
  exact (congrArg State.now h).trans rfl
@[simp] theorem occur_now (s : State) (o : Occ) : (s.occur o).now = s.now := (recorded_occur s o).now
@[simp] theorem note_now (s : State) (c d : Nat) (b : Bool) : (s.note c d b).now = s.now := (recorded_note s c d b).now
theorem State.Recorded.ltc {s t : State} (h : s.Recorded t) : t.ltc = s.ltc := by
  unfold State.Recorded at h
  exact (congrArg State.ltc h).trans rfl
@[simp] theorem occur_ltc (s : State) (o : Occ) : (s.occur o).ltc = s.ltc := (recorded_occur s o).ltc
@[simp] theorem note_ltc (s : State) (c d : Nat) (b : Bool) : (s.note c d b).ltc = s.ltc := (recorded_note s c d b).ltc
theorem State.Recorded.free {s t : State} (h : s.Recorded t) : t.free = s.free := by
  unfold State.Recorded at h
  exact (congrArg State.free h).trans rfl
@[simp] theorem occur_free (s : State) (o : Occ) : (s.occur o).free = s.free := (recorded_occur s o).free
@[simp] theorem note_free (s : State) (c d : Nat) (b : Bool) : (s.note c d b).free = s.free := (recorded_note s c d b).free
theorem State.Recorded.arch {s t : State} (h : s.Recorded t) : t.arch = s.arch := by
  unfold State.Recorded at h
  exact (congrArg State.arch h).trans rfl
@[simp] theorem occur_arch (s : State) (o : Occ) : (s.occur o).arch = s.arch := (recorded_occur s o).arch
@[simp] theorem note_arch (s : State) (c d : Nat) (b : Bool) : (s.note c d b).arch = s.arch := (recorded_note s c d b).arch
theorem State.Recorded.power {s t : State} (h : s.Recorded t) : t.power = s.power := by
  unfold State.Recorded at h
  exact (congrArg State.power h).trans rfl
@[simp] theorem occur_power (s : State) (o : Occ) : (s.occur o).power = s.power := (recorded_occur s o).power
@[simp] theorem note_power (s : State) (c d : Nat) (b : Bool) : (s.note c d b).power = s.power := (recorded_note s c d b).power
theorem State.Recorded.tb {s t : State} (h : s.Recorded t) : t.tb = s.tb := by
  unfold State.Recorded at h
  exact (congrArg State.tb h).trans rfl
@[simp] theorem occur_tb (s : State) (o : Occ) : (s.occur o).tb = s.tb := (recorded_occur s o).tb
@[simp] theorem note_tb (s : State) (c d : Nat) (b : Bool) : (s.note c d b).tb = s.tb := (recorded_note s c d b).tb
theorem State.Recorded.pwm {s t : State} (h : s.Recorded t) : t.pwm = s.pwm := by
  unfold State.Recorded at h
  exact (congrArg State.pwm h).trans rfl
@[simp] theorem occur_pwm (s : State) (o : Occ) : (s.occur o).pwm = s.pwm := (recorded_occur s o).pwm
@[simp] theorem note_pwm (s : State) (c d : Nat) (b : Bool) : (s.note c d b).pwm = s.pwm := (recorded_note s c d b).pwm
theorem State.Recorded.arms {s t : State} (h : s.Recorded t) : t.arms = s.arms := by
  unfold State.Recorded at h
  exact (congrArg State.arms h).trans rfl
@[simp] theorem occur_arms (s : State) (o : Occ) : (s.occur o).arms = s.arms := (recorded_occur s o).arms
@[simp] theorem note_arms (s : State) (c d : Nat) (b : Bool) : (s.note c d b).arms = s.arms := (recorded_note s c d b).arms
theorem State.Recorded.ld {s t : State} (h : s.Recorded t) : t.ld = s.ld := by
  unfold State.Recorded at h
  exact (congrArg State.ld h).trans rfl
@[simp] theorem occur_ld (s : State) (o : Occ) : (s.occur o).ld = s.ld := (recorded_occur s o).ld
@[simp] theorem note_ld (s : State) (c d : Nat) (b : Bool) : (s.note c d b).ld = s.ld := (recorded_note s c d b).ld
theorem State.Recorded.sig {s t : State} (h : s.Recorded t) : t.sig = s.sig := by
  unfold State.Recorded at h
  exact (congrArg State.sig h).trans rfl
@[simp] theorem occur_sig (s : State) (o : Occ) : (s.occur o).sig = s.sig := (recorded_occur s o).sig
@[simp] theorem note_sig (s : State) (c d : Nat) (b : Bool) : (s.note c d b).sig = s.sig := (recorded_note s c d b).sig
theorem State.Recorded.maskRun {s t : State} (h : s.Recorded t) : t.maskRun = s.maskRun := by
  unfold State.Recorded at h
  exact (congrArg State.maskRun h).trans rfl
@[simp] theorem occur_maskRun (s : State) (o : Occ) : (s.occur o).maskRun = s.maskRun := (recorded_occur s o).maskRun
@[simp] theorem note_maskRun (s : State) (c d : Nat) (b : Bool) : (s.note c d b).maskRun = s.maskRun := (recorded_note s c d b).maskRun
theorem State.Recorded.lanes {s t : State} (h : s.Recorded t) : t.lanes = s.lanes := by
  unfold State.Recorded at h
  exact (congrArg State.lanes h).trans rfl
@[simp] theorem occur_lanes (s : State) (o : Occ) : (s.occur o).lanes = s.lanes := (recorded_occur s o).lanes
@[simp] theorem note_lanes (s : State) (c d : Nat) (b : Bool) : (s.note c d b).lanes = s.lanes := (recorded_note s c d b).lanes
theorem State.Recorded.frame {s t : State} (h : s.Recorded t) : t.frame = s.frame := by
  unfold State.Recorded at h
  exact (congrArg State.frame h).trans rfl
@[simp] theorem occur_frame (s : State) (o : Occ) : (s.occur o).frame = s.frame := (recorded_occur s o).frame
@[simp] theorem note_frame (s : State) (c d : Nat) (b : Bool) : (s.note c d b).frame = s.frame := (recorded_note s c d b).frame
theorem State.Recorded.sup {s t : State} (h : s.Recorded t) : t.sup = s.sup := by
  unfold State.Recorded at h
  exact (congrArg State.sup h).trans rfl
@[simp] theorem occur_sup (s : State) (o : Occ) : (s.occur o).sup = s.sup := (recorded_occur s o).sup
@[simp] theorem note_sup (s : State) (c d : Nat) (b : Bool) : (s.note c d b).sup = s.sup := (recorded_note s c d b).sup
theorem State.Recorded.adc {s t : State} (h : s.Recorded t) : t.adc = s.adc := by
  unfold State.Recorded at h
  exact (congrArg State.adc h).trans rfl
@[simp] theorem occur_adc (s : State) (o : Occ) : (s.occur o).adc = s.adc := (recorded_occur s o).adc
@[simp] theorem note_adc (s : State) (c d : Nat) (b : Bool) : (s.note c d b).adc = s.adc := (recorded_note s c d b).adc
theorem State.Recorded.adcUnit {s t : State} (h : s.Recorded t) : t.adcUnit = s.adcUnit := by
  unfold State.Recorded at h
  exact (congrArg State.adcUnit h).trans rfl
@[simp] theorem occur_adcUnit (s : State) (o : Occ) : (s.occur o).adcUnit = s.adcUnit := (recorded_occur s o).adcUnit
@[simp] theorem note_adcUnit (s : State) (c d : Nat) (b : Bool) : (s.note c d b).adcUnit = s.adcUnit := (recorded_note s c d b).adcUnit
theorem State.Recorded.chains {s t : State} (h : s.Recorded t) : t.chains = s.chains := by
  unfold State.Recorded at h
  exact (congrArg State.chains h).trans rfl
@[simp] theorem occur_chains (s : State) (o : Occ) : (s.occur o).chains = s.chains := (recorded_occur s o).chains
@[simp] theorem note_chains (s : State) (c d : Nat) (b : Bool) : (s.note c d b).chains = s.chains := (recorded_note s c d b).chains
theorem State.Recorded.link {s t : State} (h : s.Recorded t) : t.link = s.link := by
  unfold State.Recorded at h
  exact (congrArg State.link h).trans rfl
@[simp] theorem occur_link (s : State) (o : Occ) : (s.occur o).link = s.link := (recorded_occur s o).link
@[simp] theorem note_link (s : State) (c d : Nat) (b : Bool) : (s.note c d b).link = s.link := (recorded_note s c d b).link
theorem State.Recorded.pair {s t : State} (h : s.Recorded t) : t.pair = s.pair := by
  unfold State.Recorded at h
  exact (congrArg State.pair h).trans rfl
@[simp] theorem occur_pair (s : State) (o : Occ) : (s.occur o).pair = s.pair := (recorded_occur s o).pair
@[simp] theorem note_pair (s : State) (c d : Nat) (b : Bool) : (s.note c d b).pair = s.pair := (recorded_note s c d b).pair
theorem State.Recorded.servo {s t : State} (h : s.Recorded t) : t.servo = s.servo := by
  unfold State.Recorded at h
  exact (congrArg State.servo h).trans rfl
@[simp] theorem occur_servo (s : State) (o : Occ) : (s.occur o).servo = s.servo := (recorded_occur s o).servo
@[simp] theorem note_servo (s : State) (c d : Nat) (b : Bool) : (s.note c d b).servo = s.servo := (recorded_note s c d b).servo
theorem State.Recorded.safety {s t : State} (h : s.Recorded t) : t.safety = s.safety := by
  unfold State.Recorded at h
  exact (congrArg State.safety h).trans rfl
@[simp] theorem occur_safety (s : State) (o : Occ) : (s.occur o).safety = s.safety := (recorded_occur s o).safety
@[simp] theorem note_safety (s : State) (c d : Nat) (b : Bool) : (s.note c d b).safety = s.safety := (recorded_note s c d b).safety
theorem State.Recorded.security {s t : State} (h : s.Recorded t) : t.security = s.security := by
  unfold State.Recorded at h
  exact (congrArg State.security h).trans rfl
@[simp] theorem occur_security (s : State) (o : Occ) : (s.occur o).security = s.security := (recorded_occur s o).security
@[simp] theorem note_security (s : State) (c d : Nat) (b : Bool) : (s.note c d b).security = s.security := (recorded_note s c d b).security
theorem State.Recorded.hosts {s t : State} (h : s.Recorded t) : t.hosts = s.hosts := by
  unfold State.Recorded at h
  exact (congrArg State.hosts h).trans rfl
@[simp] theorem occur_hosts (s : State) (o : Occ) : (s.occur o).hosts = s.hosts := (recorded_occur s o).hosts
@[simp] theorem note_hosts (s : State) (c d : Nat) (b : Bool) : (s.note c d b).hosts = s.hosts := (recorded_note s c d b).hosts
theorem State.Recorded.boot {s t : State} (h : s.Recorded t) : t.boot = s.boot := by
  unfold State.Recorded at h
  exact (congrArg State.boot h).trans rfl
@[simp] theorem occur_boot (s : State) (o : Occ) : (s.occur o).boot = s.boot := (recorded_occur s o).boot
@[simp] theorem note_boot (s : State) (c d : Nat) (b : Bool) : (s.note c d b).boot = s.boot := (recorded_note s c d b).boot
theorem State.Recorded.can {s t : State} (h : s.Recorded t) : t.can = s.can := by
  unfold State.Recorded at h
  exact (congrArg State.can h).trans rfl
@[simp] theorem occur_can (s : State) (o : Occ) : (s.occur o).can = s.can := (recorded_occur s o).can
@[simp] theorem note_can (s : State) (c d : Nat) (b : Bool) : (s.note c d b).can = s.can := (recorded_note s c d b).can
theorem State.Recorded.launchAt {s t : State} (h : s.Recorded t) : t.launchAt = s.launchAt := by
  unfold State.Recorded at h
  exact (congrArg State.launchAt h).trans rfl
@[simp] theorem occur_launchAt (s : State) (o : Occ) : (s.occur o).launchAt = s.launchAt := (recorded_occur s o).launchAt
@[simp] theorem note_launchAt (s : State) (c d : Nat) (b : Bool) : (s.note c d b).launchAt = s.launchAt := (recorded_note s c d b).launchAt
theorem State.Recorded.launchBusy {s t : State} (h : s.Recorded t) : t.launchBusy = s.launchBusy := by
  unfold State.Recorded at h
  exact (congrArg State.launchBusy h).trans rfl
@[simp] theorem occur_launchBusy (s : State) (o : Occ) : (s.occur o).launchBusy = s.launchBusy := (recorded_occur s o).launchBusy
@[simp] theorem note_launchBusy (s : State) (c d : Nat) (b : Bool) : (s.note c d b).launchBusy = s.launchBusy := (recorded_note s c d b).launchBusy
theorem State.Recorded.ethWait {s t : State} (h : s.Recorded t) : t.ethWait = s.ethWait := by
  unfold State.Recorded at h
  exact (congrArg State.ethWait h).trans rfl
@[simp] theorem occur_ethWait (s : State) (o : Occ) : (s.occur o).ethWait = s.ethWait := (recorded_occur s o).ethWait
@[simp] theorem note_ethWait (s : State) (c d : Nat) (b : Bool) : (s.note c d b).ethWait = s.ethWait := (recorded_note s c d b).ethWait
theorem State.Recorded.pending {s t : State} (h : s.Recorded t) : t.pending = s.pending := by
  unfold State.Recorded at h
  exact (congrArg State.pending h).trans rfl
@[simp] theorem occur_pending (s : State) (o : Occ) : (s.occur o).pending = s.pending := (recorded_occur s o).pending
@[simp] theorem note_pending (s : State) (c d : Nat) (b : Bool) : (s.note c d b).pending = s.pending := (recorded_note s c d b).pending

/-! ### Sessions -/

theorem sessIdx_lt (session : Nat) : sessIdx session < 12 := by
  unfold sessIdx; repeat' split
  all_goals omega

theorem sessPort_lt {session : Nat} (h : sessIdx session < 11) : sessPort session < 5 := by
  unfold sessIdx at h
  unfold sessPort
  repeat' split at h
  all_goals omega

theorem sessionKey_index {i j k : Nat} (h : sessionKey k = false) (hl : 0x9300 ≤ i) (hi : i < 0x9340) (hj : j < 256) : k ≠ OD.key i j := by
  simp only [sessionKey, Bool.and_eq_false_iff, decide_eq_false_iff_not, OD.key] at *
  omega

theorem heard_eq (s : State) (session : Nat) : s.heard session = { s with hosts := (s.heard session).hosts } := by
  unfold State.heard
  dsimp only
  repeat' split
  all_goals rfl

/-- Only the dictionary changes. -/
def State.Entries (s t : State) : Prop := t = { s with dict := t.dict }

theorem State.Entries.trans {s t u : State} (h : s.Entries t) (g : t.Entries u) : s.Entries u := by
  unfold State.Entries at *
  rw [g, h]

theorem entries_put (s : State) (k : Nat) (v : Val) : s.Entries (s.put k v) := rfl

theorem served_eq (s : State) (session cls : Nat) :
    s.served session cls = { s with dict := (s.served session cls).dict, hosts := (s.served session cls).hosts } := by
  have key : ∀ (t : State) (h : Hosts), s.Entries t → t.setHosts h = { s with dict := (t.setHosts h).dict, hosts := (t.setHosts h).hosts } := by
    intro t h ht
    unfold State.Entries at ht
    rw [ht]
    rfl
  unfold State.served
  dsimp only
  split
  · exact key _ _ (((entries_put _ _ _).trans (entries_put _ _ _)).trans (entries_put _ _ _))
  · rfl

theorem keepLast_eq (s : State) (session tag : Nat) (r : Reply) : s.keepLast session tag r = { s with dict := (s.keepLast session tag r).dict } := by
  show s.Entries _
  unfold State.keepLast
  dsimp only
  split
  · exact (((entries_put _ _ _).trans (entries_put _ _ _)).trans (entries_put _ _ _)).trans (entries_put _ _ _)
  · exact ((((entries_put _ _ _).trans (entries_put _ _ _)).trans (entries_put _ _ _)).trans (entries_put _ _ _)).trans (entries_put _ _ _)

theorem answer_eq (s : State) (session tag : Nat) (r : Reply) :
    s.answer session tag r = { s with dict := (s.answer session tag r).dict, out := .reply session tag r :: s.out } := by
  unfold State.answer
  rw [keepLast_eq]
  rfl

@[simp] theorem answer_out (s : State) (session tag : Nat) (r : Reply) : (s.answer session tag r).out = .reply session tag r :: s.out := by
  rw [answer_eq]

@[simp] theorem od_heard (s : State) (session k : Nat) : (s.heard session).od k = s.od k := by rw [heard_eq]; rfl

theorem od_served (s : State) (session cls k : Nat) (h : sessionKey k = false) : (s.served session cls).od k = s.od k := by
  unfold State.served
  dsimp only
  split
  · rename_i hi
    have hp := sessPort_lt hi
    have e1 : k ≠ OD.TX_SERVED (sessIdx session) := sessionKey_index h (by omega) (by omega) (by omega)
    have e2 : k ≠ OD.PORT_SERVED (sessPort session) := sessionKey_index h (by omega) (by omega) (by omega)
    have e3 : k ≠ OD.PORT_USED (sessPort session) := sessionKey_index h (by omega) (by omega) (by omega)
    rw [State.setHosts_od, State.putN, State.od_put_other _ _ _ _ e3, State.bumpW, State.putN, State.od_put_other _ _ _ _ e2,
      State.bumpW, State.putN, State.od_put_other _ _ _ _ e1]
  · rfl

theorem od_keepLast (s : State) (session tag : Nat) (r : Reply) (k : Nat) (h : sessionKey k = false) : (s.keepLast session tag r).od k = s.od k := by
  have hi := sessIdx_lt session
  have e (j : Nat) (hj : j < 256) : k ≠ OD.key (0x9320 + sessIdx session) j := sessionKey_index h (by omega) (by omega) hj
  unfold State.keepLast
  dsimp only
  split
  · simp only [State.putN]
    rw [State.od_put_other _ _ _ _ (e _ (by decide)), State.od_put_other _ _ _ _ (e _ (by decide)), State.od_put_other _ _ _ _ (e _ (by decide)),
      State.od_put_other _ _ _ _ (e _ (by decide))]
  · simp only [State.putN, State.bump, State.count]
    rw [State.od_put_other _ _ _ _ (e _ (by decide)), State.od_put_other _ _ _ _ (e _ (by decide)), State.od_put_other _ _ _ _ (e _ (by decide)),
      State.od_put_other _ _ _ _ (e _ (by decide)), State.od_put_other _ _ _ _ (e _ (by decide))]

theorem od_answer (s : State) (session tag : Nat) (r : Reply) (k : Nat) (h : sessionKey k = false) : (s.answer session tag r).od k = s.od k := by
  unfold State.answer
  rw [State.emit_od, od_keepLast _ _ _ _ _ h]

theorem int_answer (s : State) (session tag : Nat) (r : Reply) (k : Nat) (h : sessionKey k = false) : (s.answer session tag r).int k = s.int k := by
  unfold State.int; rw [od_answer _ _ _ _ _ h]
theorem nat_answer (s : State) (session tag : Nat) (r : Reply) (k : Nat) (h : sessionKey k = false) : (s.answer session tag r).nat k = s.nat k := by
  unfold State.nat; rw [int_answer _ _ _ _ _ h]
theorem int_served (s : State) (session cls k : Nat) (h : sessionKey k = false) : (s.served session cls).int k = s.int k := by
  unfold State.int; rw [od_served _ _ _ _ h]
theorem nat_served (s : State) (session cls k : Nat) (h : sessionKey k = false) : (s.served session cls).nat k = s.nat k := by
  unfold State.nat; rw [int_served _ _ _ _ h]
@[simp] theorem int_heard (s : State) (session k : Nat) : (s.heard session).int k = s.int k := by
  unfold State.int; rw [od_heard]
@[simp] theorem nat_heard (s : State) (session k : Nat) : (s.heard session).nat k = s.nat k := by
  unfold State.nat; rw [int_heard]

theorem nat_atService (s : State) (session k : Nat) (h : sessionKey k = false) : (s.atService session).nat k = s.nat k := by
  unfold State.atService; rw [nat_served _ _ _ _ h, nat_heard]
theorem od_atService (s : State) (session k : Nat) (h : sessionKey k = false) : (s.atService session).od k = s.od k := by
  unfold State.atService; rw [od_served _ _ _ _ h, od_heard]

/-- A command that is not refused acts on the state at its service, and is answered. -/
theorem command_runs (s : State) (session : Nat) (act : State → State × Reply) (hb : s.bit OD.PR_BUSY 1 = false) (hw : s.writesBarred = false) :
    s.command session none act = (act (s.atService session)).1.answer session 0 (act (s.atService session)).2 := by
  simp [State.command, State.commandOf, State.serveCommand, hb, hw, State.atService]

/-- A refused command changes nothing but what counts and answers it. -/
theorem command_refused (s : State) (session : Nat) (act : State → State × Reply) (r : Reply) (hb : s.bit OD.PR_BUSY 1 = false)
    (hw : s.writesBarred = false) : s.command session (some r) act = (s.atService session).answer session 0 r := by
  simp [State.command, State.commandOf, State.serveCommand, hb, hw, State.atService]

@[simp] theorem heard_variant (s : State) (session : Nat) : (s.heard session).variant = s.variant := (congrArg State.variant (heard_eq s session)).trans rfl
@[simp] theorem served_variant (s : State) (session cls : Nat) : (s.served session cls).variant = s.variant := (congrArg State.variant (served_eq s session cls)).trans rfl
@[simp] theorem atService_variant (s : State) (session : Nat) : (s.atService session).variant = s.variant := by rw [State.atService, served_variant, heard_variant]
@[simp] theorem answer_variant (s : State) (session tag : Nat) (r : Reply) : (s.answer session tag r).variant = s.variant := (congrArg State.variant (answer_eq s session tag r)).trans rfl
@[simp] theorem heard_now (s : State) (session : Nat) : (s.heard session).now = s.now := (congrArg State.now (heard_eq s session)).trans rfl
@[simp] theorem served_now (s : State) (session cls : Nat) : (s.served session cls).now = s.now := (congrArg State.now (served_eq s session cls)).trans rfl
@[simp] theorem atService_now (s : State) (session : Nat) : (s.atService session).now = s.now := by rw [State.atService, served_now, heard_now]
@[simp] theorem answer_now (s : State) (session tag : Nat) (r : Reply) : (s.answer session tag r).now = s.now := (congrArg State.now (answer_eq s session tag r)).trans rfl
@[simp] theorem heard_ltc (s : State) (session : Nat) : (s.heard session).ltc = s.ltc := (congrArg State.ltc (heard_eq s session)).trans rfl
@[simp] theorem served_ltc (s : State) (session cls : Nat) : (s.served session cls).ltc = s.ltc := (congrArg State.ltc (served_eq s session cls)).trans rfl
@[simp] theorem atService_ltc (s : State) (session : Nat) : (s.atService session).ltc = s.ltc := by rw [State.atService, served_ltc, heard_ltc]
@[simp] theorem answer_ltc (s : State) (session tag : Nat) (r : Reply) : (s.answer session tag r).ltc = s.ltc := (congrArg State.ltc (answer_eq s session tag r)).trans rfl
@[simp] theorem heard_free (s : State) (session : Nat) : (s.heard session).free = s.free := (congrArg State.free (heard_eq s session)).trans rfl
@[simp] theorem served_free (s : State) (session cls : Nat) : (s.served session cls).free = s.free := (congrArg State.free (served_eq s session cls)).trans rfl
@[simp] theorem atService_free (s : State) (session : Nat) : (s.atService session).free = s.free := by rw [State.atService, served_free, heard_free]
@[simp] theorem answer_free (s : State) (session tag : Nat) (r : Reply) : (s.answer session tag r).free = s.free := (congrArg State.free (answer_eq s session tag r)).trans rfl
@[simp] theorem heard_dict (s : State) (session : Nat) : (s.heard session).dict = s.dict := (congrArg State.dict (heard_eq s session)).trans rfl
@[simp] theorem heard_recorder (s : State) (session : Nat) : (s.heard session).recorder = s.recorder := (congrArg State.recorder (heard_eq s session)).trans rfl
@[simp] theorem served_recorder (s : State) (session cls : Nat) : (s.served session cls).recorder = s.recorder := (congrArg State.recorder (served_eq s session cls)).trans rfl
@[simp] theorem atService_recorder (s : State) (session : Nat) : (s.atService session).recorder = s.recorder := by rw [State.atService, served_recorder, heard_recorder]
@[simp] theorem answer_recorder (s : State) (session tag : Nat) (r : Reply) : (s.answer session tag r).recorder = s.recorder := (congrArg State.recorder (answer_eq s session tag r)).trans rfl
@[simp] theorem heard_arch (s : State) (session : Nat) : (s.heard session).arch = s.arch := (congrArg State.arch (heard_eq s session)).trans rfl
@[simp] theorem served_arch (s : State) (session cls : Nat) : (s.served session cls).arch = s.arch := (congrArg State.arch (served_eq s session cls)).trans rfl
@[simp] theorem atService_arch (s : State) (session : Nat) : (s.atService session).arch = s.arch := by rw [State.atService, served_arch, heard_arch]
@[simp] theorem answer_arch (s : State) (session tag : Nat) (r : Reply) : (s.answer session tag r).arch = s.arch := (congrArg State.arch (answer_eq s session tag r)).trans rfl
@[simp] theorem heard_power (s : State) (session : Nat) : (s.heard session).power = s.power := (congrArg State.power (heard_eq s session)).trans rfl
@[simp] theorem served_power (s : State) (session cls : Nat) : (s.served session cls).power = s.power := (congrArg State.power (served_eq s session cls)).trans rfl
@[simp] theorem atService_power (s : State) (session : Nat) : (s.atService session).power = s.power := by rw [State.atService, served_power, heard_power]
@[simp] theorem answer_power (s : State) (session tag : Nat) (r : Reply) : (s.answer session tag r).power = s.power := (congrArg State.power (answer_eq s session tag r)).trans rfl
@[simp] theorem heard_tb (s : State) (session : Nat) : (s.heard session).tb = s.tb := (congrArg State.tb (heard_eq s session)).trans rfl
@[simp] theorem served_tb (s : State) (session cls : Nat) : (s.served session cls).tb = s.tb := (congrArg State.tb (served_eq s session cls)).trans rfl
@[simp] theorem atService_tb (s : State) (session : Nat) : (s.atService session).tb = s.tb := by rw [State.atService, served_tb, heard_tb]
@[simp] theorem answer_tb (s : State) (session tag : Nat) (r : Reply) : (s.answer session tag r).tb = s.tb := (congrArg State.tb (answer_eq s session tag r)).trans rfl
@[simp] theorem heard_pwm (s : State) (session : Nat) : (s.heard session).pwm = s.pwm := (congrArg State.pwm (heard_eq s session)).trans rfl
@[simp] theorem served_pwm (s : State) (session cls : Nat) : (s.served session cls).pwm = s.pwm := (congrArg State.pwm (served_eq s session cls)).trans rfl
@[simp] theorem atService_pwm (s : State) (session : Nat) : (s.atService session).pwm = s.pwm := by rw [State.atService, served_pwm, heard_pwm]
@[simp] theorem answer_pwm (s : State) (session tag : Nat) (r : Reply) : (s.answer session tag r).pwm = s.pwm := (congrArg State.pwm (answer_eq s session tag r)).trans rfl
@[simp] theorem heard_arms (s : State) (session : Nat) : (s.heard session).arms = s.arms := (congrArg State.arms (heard_eq s session)).trans rfl
@[simp] theorem served_arms (s : State) (session cls : Nat) : (s.served session cls).arms = s.arms := (congrArg State.arms (served_eq s session cls)).trans rfl
@[simp] theorem atService_arms (s : State) (session : Nat) : (s.atService session).arms = s.arms := by rw [State.atService, served_arms, heard_arms]
@[simp] theorem answer_arms (s : State) (session tag : Nat) (r : Reply) : (s.answer session tag r).arms = s.arms := (congrArg State.arms (answer_eq s session tag r)).trans rfl
@[simp] theorem heard_ld (s : State) (session : Nat) : (s.heard session).ld = s.ld := (congrArg State.ld (heard_eq s session)).trans rfl
@[simp] theorem served_ld (s : State) (session cls : Nat) : (s.served session cls).ld = s.ld := (congrArg State.ld (served_eq s session cls)).trans rfl
@[simp] theorem atService_ld (s : State) (session : Nat) : (s.atService session).ld = s.ld := by rw [State.atService, served_ld, heard_ld]
@[simp] theorem answer_ld (s : State) (session tag : Nat) (r : Reply) : (s.answer session tag r).ld = s.ld := (congrArg State.ld (answer_eq s session tag r)).trans rfl
@[simp] theorem heard_sig (s : State) (session : Nat) : (s.heard session).sig = s.sig := (congrArg State.sig (heard_eq s session)).trans rfl
@[simp] theorem served_sig (s : State) (session cls : Nat) : (s.served session cls).sig = s.sig := (congrArg State.sig (served_eq s session cls)).trans rfl
@[simp] theorem atService_sig (s : State) (session : Nat) : (s.atService session).sig = s.sig := by rw [State.atService, served_sig, heard_sig]
@[simp] theorem answer_sig (s : State) (session tag : Nat) (r : Reply) : (s.answer session tag r).sig = s.sig := (congrArg State.sig (answer_eq s session tag r)).trans rfl
@[simp] theorem heard_streams (s : State) (session : Nat) : (s.heard session).streams = s.streams := (congrArg State.streams (heard_eq s session)).trans rfl
@[simp] theorem served_streams (s : State) (session cls : Nat) : (s.served session cls).streams = s.streams := (congrArg State.streams (served_eq s session cls)).trans rfl
@[simp] theorem atService_streams (s : State) (session : Nat) : (s.atService session).streams = s.streams := by rw [State.atService, served_streams, heard_streams]
@[simp] theorem answer_streams (s : State) (session tag : Nat) (r : Reply) : (s.answer session tag r).streams = s.streams := (congrArg State.streams (answer_eq s session tag r)).trans rfl
@[simp] theorem heard_maskRun (s : State) (session : Nat) : (s.heard session).maskRun = s.maskRun := (congrArg State.maskRun (heard_eq s session)).trans rfl
@[simp] theorem served_maskRun (s : State) (session cls : Nat) : (s.served session cls).maskRun = s.maskRun := (congrArg State.maskRun (served_eq s session cls)).trans rfl
@[simp] theorem atService_maskRun (s : State) (session : Nat) : (s.atService session).maskRun = s.maskRun := by rw [State.atService, served_maskRun, heard_maskRun]
@[simp] theorem answer_maskRun (s : State) (session tag : Nat) (r : Reply) : (s.answer session tag r).maskRun = s.maskRun := (congrArg State.maskRun (answer_eq s session tag r)).trans rfl
@[simp] theorem heard_lanes (s : State) (session : Nat) : (s.heard session).lanes = s.lanes := (congrArg State.lanes (heard_eq s session)).trans rfl
@[simp] theorem served_lanes (s : State) (session cls : Nat) : (s.served session cls).lanes = s.lanes := (congrArg State.lanes (served_eq s session cls)).trans rfl
@[simp] theorem atService_lanes (s : State) (session : Nat) : (s.atService session).lanes = s.lanes := by rw [State.atService, served_lanes, heard_lanes]
@[simp] theorem answer_lanes (s : State) (session tag : Nat) (r : Reply) : (s.answer session tag r).lanes = s.lanes := (congrArg State.lanes (answer_eq s session tag r)).trans rfl
@[simp] theorem heard_frame (s : State) (session : Nat) : (s.heard session).frame = s.frame := (congrArg State.frame (heard_eq s session)).trans rfl
@[simp] theorem served_frame (s : State) (session cls : Nat) : (s.served session cls).frame = s.frame := (congrArg State.frame (served_eq s session cls)).trans rfl
@[simp] theorem atService_frame (s : State) (session : Nat) : (s.atService session).frame = s.frame := by rw [State.atService, served_frame, heard_frame]
@[simp] theorem answer_frame (s : State) (session tag : Nat) (r : Reply) : (s.answer session tag r).frame = s.frame := (congrArg State.frame (answer_eq s session tag r)).trans rfl
@[simp] theorem heard_sup (s : State) (session : Nat) : (s.heard session).sup = s.sup := (congrArg State.sup (heard_eq s session)).trans rfl
@[simp] theorem served_sup (s : State) (session cls : Nat) : (s.served session cls).sup = s.sup := (congrArg State.sup (served_eq s session cls)).trans rfl
@[simp] theorem atService_sup (s : State) (session : Nat) : (s.atService session).sup = s.sup := by rw [State.atService, served_sup, heard_sup]
@[simp] theorem answer_sup (s : State) (session tag : Nat) (r : Reply) : (s.answer session tag r).sup = s.sup := (congrArg State.sup (answer_eq s session tag r)).trans rfl
@[simp] theorem heard_adc (s : State) (session : Nat) : (s.heard session).adc = s.adc := (congrArg State.adc (heard_eq s session)).trans rfl
@[simp] theorem served_adc (s : State) (session cls : Nat) : (s.served session cls).adc = s.adc := (congrArg State.adc (served_eq s session cls)).trans rfl
@[simp] theorem atService_adc (s : State) (session : Nat) : (s.atService session).adc = s.adc := by rw [State.atService, served_adc, heard_adc]
@[simp] theorem answer_adc (s : State) (session tag : Nat) (r : Reply) : (s.answer session tag r).adc = s.adc := (congrArg State.adc (answer_eq s session tag r)).trans rfl
@[simp] theorem heard_adcUnit (s : State) (session : Nat) : (s.heard session).adcUnit = s.adcUnit := (congrArg State.adcUnit (heard_eq s session)).trans rfl
@[simp] theorem served_adcUnit (s : State) (session cls : Nat) : (s.served session cls).adcUnit = s.adcUnit := (congrArg State.adcUnit (served_eq s session cls)).trans rfl
@[simp] theorem atService_adcUnit (s : State) (session : Nat) : (s.atService session).adcUnit = s.adcUnit := by rw [State.atService, served_adcUnit, heard_adcUnit]
@[simp] theorem answer_adcUnit (s : State) (session tag : Nat) (r : Reply) : (s.answer session tag r).adcUnit = s.adcUnit := (congrArg State.adcUnit (answer_eq s session tag r)).trans rfl
@[simp] theorem heard_chains (s : State) (session : Nat) : (s.heard session).chains = s.chains := (congrArg State.chains (heard_eq s session)).trans rfl
@[simp] theorem served_chains (s : State) (session cls : Nat) : (s.served session cls).chains = s.chains := (congrArg State.chains (served_eq s session cls)).trans rfl
@[simp] theorem atService_chains (s : State) (session : Nat) : (s.atService session).chains = s.chains := by rw [State.atService, served_chains, heard_chains]
@[simp] theorem answer_chains (s : State) (session tag : Nat) (r : Reply) : (s.answer session tag r).chains = s.chains := (congrArg State.chains (answer_eq s session tag r)).trans rfl
@[simp] theorem heard_link (s : State) (session : Nat) : (s.heard session).link = s.link := (congrArg State.link (heard_eq s session)).trans rfl
@[simp] theorem served_link (s : State) (session cls : Nat) : (s.served session cls).link = s.link := (congrArg State.link (served_eq s session cls)).trans rfl
@[simp] theorem atService_link (s : State) (session : Nat) : (s.atService session).link = s.link := by rw [State.atService, served_link, heard_link]
@[simp] theorem answer_link (s : State) (session tag : Nat) (r : Reply) : (s.answer session tag r).link = s.link := (congrArg State.link (answer_eq s session tag r)).trans rfl
@[simp] theorem heard_pair (s : State) (session : Nat) : (s.heard session).pair = s.pair := (congrArg State.pair (heard_eq s session)).trans rfl
@[simp] theorem served_pair (s : State) (session cls : Nat) : (s.served session cls).pair = s.pair := (congrArg State.pair (served_eq s session cls)).trans rfl
@[simp] theorem atService_pair (s : State) (session : Nat) : (s.atService session).pair = s.pair := by rw [State.atService, served_pair, heard_pair]
@[simp] theorem answer_pair (s : State) (session tag : Nat) (r : Reply) : (s.answer session tag r).pair = s.pair := (congrArg State.pair (answer_eq s session tag r)).trans rfl
@[simp] theorem heard_servo (s : State) (session : Nat) : (s.heard session).servo = s.servo := (congrArg State.servo (heard_eq s session)).trans rfl
@[simp] theorem served_servo (s : State) (session cls : Nat) : (s.served session cls).servo = s.servo := (congrArg State.servo (served_eq s session cls)).trans rfl
@[simp] theorem atService_servo (s : State) (session : Nat) : (s.atService session).servo = s.servo := by rw [State.atService, served_servo, heard_servo]
@[simp] theorem answer_servo (s : State) (session tag : Nat) (r : Reply) : (s.answer session tag r).servo = s.servo := (congrArg State.servo (answer_eq s session tag r)).trans rfl
@[simp] theorem heard_safety (s : State) (session : Nat) : (s.heard session).safety = s.safety := (congrArg State.safety (heard_eq s session)).trans rfl
@[simp] theorem served_safety (s : State) (session cls : Nat) : (s.served session cls).safety = s.safety := (congrArg State.safety (served_eq s session cls)).trans rfl
@[simp] theorem atService_safety (s : State) (session : Nat) : (s.atService session).safety = s.safety := by rw [State.atService, served_safety, heard_safety]
@[simp] theorem answer_safety (s : State) (session tag : Nat) (r : Reply) : (s.answer session tag r).safety = s.safety := (congrArg State.safety (answer_eq s session tag r)).trans rfl
@[simp] theorem heard_security (s : State) (session : Nat) : (s.heard session).security = s.security := (congrArg State.security (heard_eq s session)).trans rfl
@[simp] theorem served_security (s : State) (session cls : Nat) : (s.served session cls).security = s.security := (congrArg State.security (served_eq s session cls)).trans rfl
@[simp] theorem atService_security (s : State) (session : Nat) : (s.atService session).security = s.security := by rw [State.atService, served_security, heard_security]
@[simp] theorem answer_security (s : State) (session tag : Nat) (r : Reply) : (s.answer session tag r).security = s.security := (congrArg State.security (answer_eq s session tag r)).trans rfl
@[simp] theorem answer_hosts (s : State) (session tag : Nat) (r : Reply) : (s.answer session tag r).hosts = s.hosts := (congrArg State.hosts (answer_eq s session tag r)).trans rfl
@[simp] theorem heard_boot (s : State) (session : Nat) : (s.heard session).boot = s.boot := (congrArg State.boot (heard_eq s session)).trans rfl
@[simp] theorem served_boot (s : State) (session cls : Nat) : (s.served session cls).boot = s.boot := (congrArg State.boot (served_eq s session cls)).trans rfl
@[simp] theorem atService_boot (s : State) (session : Nat) : (s.atService session).boot = s.boot := by rw [State.atService, served_boot, heard_boot]
@[simp] theorem answer_boot (s : State) (session tag : Nat) (r : Reply) : (s.answer session tag r).boot = s.boot := (congrArg State.boot (answer_eq s session tag r)).trans rfl
@[simp] theorem heard_can (s : State) (session : Nat) : (s.heard session).can = s.can := (congrArg State.can (heard_eq s session)).trans rfl
@[simp] theorem served_can (s : State) (session cls : Nat) : (s.served session cls).can = s.can := (congrArg State.can (served_eq s session cls)).trans rfl
@[simp] theorem atService_can (s : State) (session : Nat) : (s.atService session).can = s.can := by rw [State.atService, served_can, heard_can]
@[simp] theorem answer_can (s : State) (session tag : Nat) (r : Reply) : (s.answer session tag r).can = s.can := (congrArg State.can (answer_eq s session tag r)).trans rfl
@[simp] theorem heard_launchAt (s : State) (session : Nat) : (s.heard session).launchAt = s.launchAt := (congrArg State.launchAt (heard_eq s session)).trans rfl
@[simp] theorem served_launchAt (s : State) (session cls : Nat) : (s.served session cls).launchAt = s.launchAt := (congrArg State.launchAt (served_eq s session cls)).trans rfl
@[simp] theorem atService_launchAt (s : State) (session : Nat) : (s.atService session).launchAt = s.launchAt := by rw [State.atService, served_launchAt, heard_launchAt]
@[simp] theorem answer_launchAt (s : State) (session tag : Nat) (r : Reply) : (s.answer session tag r).launchAt = s.launchAt := (congrArg State.launchAt (answer_eq s session tag r)).trans rfl
@[simp] theorem heard_launchBusy (s : State) (session : Nat) : (s.heard session).launchBusy = s.launchBusy := (congrArg State.launchBusy (heard_eq s session)).trans rfl
@[simp] theorem served_launchBusy (s : State) (session cls : Nat) : (s.served session cls).launchBusy = s.launchBusy := (congrArg State.launchBusy (served_eq s session cls)).trans rfl
@[simp] theorem atService_launchBusy (s : State) (session : Nat) : (s.atService session).launchBusy = s.launchBusy := by rw [State.atService, served_launchBusy, heard_launchBusy]
@[simp] theorem answer_launchBusy (s : State) (session tag : Nat) (r : Reply) : (s.answer session tag r).launchBusy = s.launchBusy := (congrArg State.launchBusy (answer_eq s session tag r)).trans rfl
@[simp] theorem heard_ethWait (s : State) (session : Nat) : (s.heard session).ethWait = s.ethWait := (congrArg State.ethWait (heard_eq s session)).trans rfl
@[simp] theorem served_ethWait (s : State) (session cls : Nat) : (s.served session cls).ethWait = s.ethWait := (congrArg State.ethWait (served_eq s session cls)).trans rfl
@[simp] theorem atService_ethWait (s : State) (session : Nat) : (s.atService session).ethWait = s.ethWait := by rw [State.atService, served_ethWait, heard_ethWait]
@[simp] theorem answer_ethWait (s : State) (session tag : Nat) (r : Reply) : (s.answer session tag r).ethWait = s.ethWait := (congrArg State.ethWait (answer_eq s session tag r)).trans rfl
@[simp] theorem heard_out (s : State) (session : Nat) : (s.heard session).out = s.out := (congrArg State.out (heard_eq s session)).trans rfl
@[simp] theorem served_out (s : State) (session cls : Nat) : (s.served session cls).out = s.out := (congrArg State.out (served_eq s session cls)).trans rfl
@[simp] theorem atService_out (s : State) (session : Nat) : (s.atService session).out = s.out := by rw [State.atService, served_out, heard_out]
@[simp] theorem heard_pending (s : State) (session : Nat) : (s.heard session).pending = s.pending := (congrArg State.pending (heard_eq s session)).trans rfl
@[simp] theorem served_pending (s : State) (session cls : Nat) : (s.served session cls).pending = s.pending := (congrArg State.pending (served_eq s session cls)).trans rfl
@[simp] theorem atService_pending (s : State) (session : Nat) : (s.atService session).pending = s.pending := by rw [State.atService, served_pending, heard_pending]
@[simp] theorem answer_pending (s : State) (session tag : Nat) (r : Reply) : (s.answer session tag r).pending = s.pending := (congrArg State.pending (answer_eq s session tag r)).trans rfl

/-! ### What may differ -/

theorem State.recorded_iff (s t : State) : s.Recorded t ↔ (t.variant = s.variant ∧ t.now = s.now ∧ t.ltc = s.ltc ∧ t.free = s.free ∧ t.arch = s.arch ∧ t.power = s.power ∧ t.tb = s.tb ∧
    t.pwm = s.pwm ∧ t.arms = s.arms ∧ t.ld = s.ld ∧ t.sig = s.sig ∧ t.maskRun = s.maskRun ∧ t.lanes = s.lanes ∧ t.frame = s.frame ∧
    t.sup = s.sup ∧ t.adc = s.adc ∧ t.adcUnit = s.adcUnit ∧ t.chains = s.chains ∧ t.link = s.link ∧ t.pair = s.pair ∧ t.servo = s.servo ∧
    t.safety = s.safety ∧ t.security = s.security ∧ t.hosts = s.hosts ∧ t.boot = s.boot ∧ t.can = s.can ∧ t.launchAt = s.launchAt ∧ t.launchBusy = s.launchBusy ∧
    t.ethWait = s.ethWait ∧ t.pending = s.pending) := by
  unfold State.Recorded
  constructor
  · intro h; rw [h]; simp
  · intro h
    obtain ⟨h1, h2, h3, h4, h5, h6, h7, h8, h9, h10, h11, h12, h13, h14, h15, h16, h17, h18, h19, h20, h21, h22, h23, h24, h25, h26, h27, h28, h29, h30⟩ := h
    cases t
    simp_all

theorem recorderKey_of_entry {code k : Nat} (h : recorderEntry k = false) (hc : code < 0x2000) : recorderKey code k = false := by
  simp only [recorderEntry, recorderKey, Bool.or_eq_false_iff, Bool.and_eq_false_iff, decide_eq_false_iff_not, OD.REC_OVERFLOW, OD.REC_SUPPRESSED,
    OD.key] at *
  omega

theorem State.alters_refl (s : State) (ks : List Nat) : s.Alters s ks := fun _ _ _ _ => rfl

theorem State.alters_trans {s t u : State} {ks : List Nat} (h : s.Alters t ks) (g : t.Alters u ks) : s.Alters u ks :=
  fun k a b c => (g k a b c).trans (h k a b c)

theorem State.alters_put {s t : State} {ks : List Nat} (h : s.Alters t ks) (k : Nat) (v : Val) (hk : k ∈ ks) : s.Alters (t.put k v) ks := by
  intro j a b c
  rw [State.od_put_other _ _ _ _ (fun e : j = k => a (e ▸ hk))]
  exact h j a b c

theorem State.alters_note {s t : State} {ks : List Nat} (h : s.Alters t ks) (code detail : Nat) (set : Bool) (hc : code < 0x2000) :
    s.Alters (t.note code detail set) ks := by
  intro j a b c
  rw [od_note _ _ _ _ _ (recorderKey_of_entry b hc)]
  exact h j a b c

theorem State.alters_occur {s t : State} {ks : List Nat} (h : s.Alters t ks) (o : Occ) (hc : o.code < 0x2000) : s.Alters (t.occur o) ks := by
  intro j a b c
  rw [od_occur _ _ _ (recorderKey_of_entry b hc)]
  exact h j a b c

theorem State.alters_atService {s : State} (ks : List Nat) (session : Nat) : s.Alters (s.atService session) ks :=
  fun j _ _ c => od_atService s session j c

theorem State.alters_answer {s t : State} {ks : List Nat} (h : s.Alters t ks) (session tag : Nat) (r : Reply) : s.Alters (t.answer session tag r) ks :=
  fun j a b c => (od_answer t session tag r j c).trans (h j a b c)

end Sys2Proof.Machine
end

