-- ==== Sys2Proof/WellFormed.lean ====
section
/-!
DEFINITION. WellFormed.lean: which commands can be sent at all: the bounds the spec gives their operands. What a command asks for beyond them (a
range, a right, a state) is judged by its meaning.
-/
namespace Sys2Proof

/-- A session number of R322. -/
def sessionOk (session : Nat) : Bool :=
  decide (session < 4) || (decide (0x10 ≤ session) && decide (session < 0x14)) || decide (session = 0x20) || decide (session = 0x30) || decide (session = 0x40)

/-- A number that fits in `w` bits (Table 12.1). -/
def wordOk (w n : Nat) : Bool := decide (n < 2 ^ w)

/-- A number up to a bound. -/
def countOk (hi n : Nat) : Bool := decide (n ≤ hi)

/-- A code of an ADC core is 18 bits, two's complement (R59). -/
def adcCodeOk (code : Int) : Bool := decide (-131072 ≤ code) && decide (code ≤ 131071)

/-- Six gauges on a lane die, 16-bit readings (R27). -/
def gaugesOk (vals : List (Option Nat)) : Bool :=
  decide (vals.length = 6) && vals.all fun v => match v with
    | some n => decide (n < 65536)
    | none => true

/-- OPEN comes on E1, E2 or M (Table 12.5, R347). -/
def openPortOk (port : Fin 5) : Bool := decide (port.val ≠ 2) && decide (port.val ≠ 3)

/-- A PDU carries at most 1,024 octets (Table 12.8). -/
def pduOk (data : List (BitVec 8)) : Bool := decide (data.length ≤ 1024)

/-- The octets of a DLC: 0–8, 12, 16, 20, 24, 32, 48, 64 (ISO 11898-1). -/
def dlcOctets (dlc : Nat) : Nat := if dlc ≤ 8 then dlc else [12, 16, 20, 24, 32, 48, 64].getD (dlc - 9) 64

/-- A frame of a CAN port: identifier of 11 or 29 bits, DLC of 4 bits, and the data of its DLC; a classic frame carries at most 8 octets. -/
def canFrameOk (f : CanFrame) : Bool :=
  decide (f.id < if f.ide then 2 ^ 29 else 2 ^ 11) && decide (f.dlc < 16) &&
  (f.rtr || decide (f.data.length = if f.fd then dlcOctets f.dlc else Nat.min f.dlc 8)) && decide (f.stamp < 2 ^ 32)

/-- The stamp of a frame sent is 32 bits (R381). -/
def canOutcomeOk : CanOutcome → Bool
  | .sent stamp _ => decide (stamp < 2 ^ 32)
  | .lost => true
  | .bitError => true
  | .ackError => true
  | .otherError => true

/-- A host address of 18 octets (PEER, Table 12.13). -/
def peerOk (peer : List (BitVec 8)) : Bool := decide (peer.length = 18)

/-- The fields of an Announce message (IEEE 1588). -/
def announceOk (m : Announce) : Bool :=
  decide (m.domain < 256) && decide (m.prio1 < 256) && decide (m.cls < 256) && decide (m.accuracy < 256) && decide (m.variance < 65536) &&
  decide (m.prio2 < 256) && decide (m.identity < 2 ^ 64) && decide (m.steps < 65536) && decide (m.sender < 2 ^ 80)

/-- A run has its header and 1–15 raw parcels (Table 11.6), as each of X0 and X1 delivered it, or nothing of it. -/
def runOk (x0 x1 : List (BitVec 144)) : Bool :=
  let n := Nat.max x0.length x1.length
  decide (2 ≤ n) && decide (n ≤ 16) && (x0.isEmpty || decide (x0.length = n)) && (x1.isEmpty || decide (x1.length = n))

/-- The operands of a command lie in their bounds. -/
def Instr.wf (i : Instr) : Bool :=
  match i with
  | .fabricCodewordArrival _ _ _ _ => true
  | .bankRead _ _ _ _ _ _ badSpares => countOk 32 badSpares
  | .gaugeSample _ vals => gaugesOk vals
  | .gillRenewTimeout _ _ => true
  | .gaugeHealthyAgain _ _ => true
  | .houseSupervisionMiss _ => true
  | .tbAlign _ => true
  | .holdoverRelock _ => true
  | .lossOfLock _ => true
  | .carrierPull _ => true
  | .adcConversionDone _ _ code => adcCodeOk code
  | .adcConversionTimeout _ _ => true
  | .fcSettled _ => true
  | .rsGridsync _ => true
  | .commitPhase _ _ _ => true
  | .fullPathCommit _ _ _ => true
  | .lawStart session => sessionOk session
  | .lawStop session => sessionOk session
  | .setpointWrite session _ _ => sessionOk session
  | .brkClosedWrite session _ => sessionOk session
  | .rtTimerReset _ => true
  | .protDelayExpired _ => true
  | .fbLost _ => true
  | .fbRestored _ => true
  | .degradedStopEnd => true
  | .carrierReload _ => true
  | .compareEdge _ _ => true
  | .deadTimeTurnOn _ => true
  | .safeStep2 => true
  | .clampTimeEnd => true
  | .debugHalt _ _ => true
  | .tripInput _ _ => true
  | .blankWindowEnd _ => true
  | .cmdTimeout => true
  | .tripClear session mask => sessionOk session && wordOk 16 mask
  | .mmcSort _ => true
  | .parcelReceive _ _ => true
  | .blockLockLost _ _ => true
  | .bundleLock _ _ _ => true
  | .trainingBundleReceive _ _ _ _ => true
  | .rxReady _ => true
  | .adaptTimeout _ => true
  | .weakRetry _ => true
  | .onewayMeasured _ => true
  | .linkRetrain _ => true
  | .fastRetrainDone _ _ => true
  | .pstateReq session _ v => sessionOk session && wordOk 8 v
  | .pstateEntry _ => true
  | .uplinkBurstReceive _ => true
  | .uplinkLost _ => true
  | .epRateScan _ _ => true
  | .epBurstAccept _ _ => true
  | .epInsertionApply _ => true
  | .epEdgeExecute _ _ => true
  | .epFrameMissed _ => true
  | .epBridgeExpiry _ => true
  | .epLeaseExpiry _ _ => true
  | .epCfg _ => true
  | .epUplinkBurst _ _ _ => true
  | .epLocalFault _ _ => true
  | .ldCmd session _ v => sessionOk session && wordOk 8 v
  | .ldClear session mask => sessionOk session && wordOk 8 mask
  | .chopperPeriodStart _ => true
  | .ldHoldExpired _ => true
  | .ldPrechargeTimeout _ => true
  | .ldSupplyMeasure _ _ _ _ => true
  | .ldUvlo _ _ => true
  | .ldUvloRecover _ => true
  | .ldShort _ _ => true
  | .ldSoftOffDone _ => true
  | .ldRetryWaitEnd _ => true
  | .ldRetryReload _ => true
  | .ldBootRefresh _ => true
  | .chopperUnavailable _ => true
  | .pathCodeword _ => true
  | .outputCompare => true
  | .eftFault => true
  | .eftWarmingEnd => true
  | .laneRetestDone _ _ => true
  | .laneQualified => true
  | .healthRecompute _ _ => true
  | .loopbackTest _ => true
  | .laneSwap session => sessionOk session
  | .laneRotate => true
  | .laneRequalify session _ => sessionOk session
  | .laneTakeOut session _ => sessionOk session
  | .heartbeatReceive _ _ _ => true
  | .xlRunReceive x0 x1 => runOk x0 x1
  | .forwardedBlockMissing => true
  | .plausibility => true
  | .pairRoleResolve => true
  | .pairHandover session => sessionOk session
  | .pairRequalify session => sessionOk session
  | .autoHandover => true
  | .skewDiverged _ _ => true
  | .dictOpen port _ _ _ => openPortOk port
  | .dictClose session _ => sessionOk session
  | .dictRead session _ _ _ _ _ => sessionOk session
  | .dictWrite session _ _ _ _ _ data => sessionOk session && pduOk data
  | .dictKeepalive session _ => sessionOk session
  | .dictAbort session _ => sessionOk session
  | .sessionTimeout session => sessionOk session
  | .dictCommit session => sessionOk session
  | .configSwitch _ => true
  | .dictDiscard session => sessionOk session
  | .ownRequest session => sessionOk session
  | .ownRelease session => sessionOk session
  | .ownForce session => sessionOk session
  | .ownershipLost => true
  | .transactionServe => true
  | .serviceWindow => true
  | .delayNotice => true
  | .queueExpired => true
  | .segTimeout session => sessionOk session
  | .usdoRequest _ isWrite _ _ data => isWrite || data.isEmpty
  | .usdoWaitExpired _ => true
  | .ethFrameReceive _ _ _ vlan _ => wordOk 12 vlan
  | .ethLink _ _ => true
  | .dtlsHandshake _ _ peer _ => peerOk peer
  | .ptpAnnounceReceive _ msg => announceOk msg
  | .ptpDelayExchange _ _ _ _ _ => true
  | .servoMeasurement _ _ _ _ => true
  | .announceTimeout => true
  | .forceStep session => sessionOk session
  | .leapSecond => true
  | .vaultTimeCopy => true
  | .launchArm session _ _ value => sessionOk session && wordOk 8 value
  | .launch _ _ => true
  | .canRxFrame _ f _ => canFrameOk f
  | .canTxReq session _ _ value => sessionOk session && wordOk 8 value
  | .canTxDone _ _ res => canOutcomeOk res
  | .canIdBackoffEnd _ _ => true
  | .canBusoffRecover _ => true
  | .busRecover session _ => sessionOk session
  | .ttReference _ _ _ => true
  | .ttRefDue _ _ => true
  | .ttSyncLost _ => true
  | .ttColumnOpen _ _ => true
  | .canTsPair _ _ => true
  | .canopenNmt _ cmd node => wordOk 8 cmd && wordOk 7 node
  | .canopenHeartbeat _ => true
  | .recOccurrence code _ _ _ => wordOk 16 code
  | .recTokenRefill code => wordOk 16 code
  | .recWrite => true
  | .recSummaryRetry => true
  | .recDataRead session offset => sessionOk session && wordOk 32 offset
  | .recClear session => sessionOk session
  | .recFreeze session => sessionOk session
  | .recUnfreeze session => sessionOk session
  | .captGridSample _ => true
  | .captArm session _ => sessionOk session
  | .captStop session _ => sessionOk session
  | .trigNow session _ => sessionOk session
  | .captFreeze _ => true
  | .captHoldoffEnd _ => true
  | .captDataRead session _ offset => sessionOk session && wordOk 32 offset
  | .captRearm _ => true
  | .streamRate _ => true
  | .streamPacketSend _ => true
  | .streamPause _ _ _ => true
  | .streamResume _ _ _ => true
  | .sinDemand _ _ => true
  | .sinTestPulse _ _ _ => true
  | .sinDiscrepancy _ => true
  | .sinFaultEnd _ => true
  | .sgbGateDelayExpired _ => true
  | .sgbAutoRelease => true
  | .gateEnFault _ => true
  | .outputOffTest _ _ => true
  | .sos _ => true
  | .sosWireFault _ => true
  | .sosTestInjection _ => true
  | .safetyDiag _ _ => true
  | .islandSelfTestDone => true
  | .safetyLogin session _ => sessionOk session
  | .safetyLoginVerified session => sessionOk session
  | .portLockoutEnd _ => true
  | .safetyLoginTimeout session => sessionOk session
  | .safetyLogout session => sessionOk session
  | .safetyPwNew session _ => sessionOk session
  | .safetyApply session => sessionOk session
  | .safetyDiscard session => sessionOk session
  | .scsAck session _ => sessionOk session
  | .sgbTest session => sessionOk session
  | .marchAbort session _ => sessionOk session
  | .marchTransparent session _ => sessionOk session
  | .marchSs session _ => sessionOk session
  | .marchRowStep _ _ _ _ => true
  | .auxSupply _ _ _ _ _ _ => true
  | .lastGasp => true
  | .thermalStop => true
  | .attestChallenge session _ => sessionOk session
  | .attestResponseReady session => sessionOk session
  | .certChange session _ _ => sessionOk session
  | .fwImageLoad session offset size _ _ => sessionOk session && wordOk 32 offset && countOk 1024 size
  | .fwActivateLane session _ => sessionOk session
  | .fwActivateModule session => sessionOk session
  | .fwAccept session => sessionOk session
  | .tamper _ _ => true
  | .tamperClear session _ => sessionOk session
  | .lcReqReturn session => sessionOk session
  | .lcReqSanitised session => sessionOk session
  | .lcReqRetired session => sessionOk session
  | .lcConfirm session _ => sessionOk session
  | .lcReqExpiry => true
  | .vendorUnlock session _ _ => sessionOk session
  | .vendorRecommission session _ _ => sessionOk session
  | .coldStart _ _ _ _ _ _ => true
  | .bootStageEnd _ _ => true
  | .timeWaitExpired => true
  | .bootTimebaseTimeout => true
  | .resetCmdModule session => sessionOk session
  | .resetCmdLane session _ => sessionOk session
  | .rstNAssert => true
  | .rstNRelease => true
  | .rstStuck => true
  | .rstStuckRelease => true
  | .watchdog _ => true
  | .partialResetCmd session block => sessionOk session && wordOk 8 block
  | .prDrainEnd _ _ _ => true
  | .prBlockRunning _ => true
  | .mConnected _ => true
  | .dtlsAssociationEnd _ => true
  | .laneBootDone _ version => wordOk 16 version
  | .ldPulseEdge _ => true
  | .sinChannelsHigh _ => true
  | .sosBelowHysteresis _ => true
  | .refclkQualified => true
  | .dcrSourceMove => true
  | .dcrTuneWrite => true
  | .tbDivApplied => true
  | .freqAcquisitionDone => true
  | .lockDetectStable => true
  | .refLoss => true
  | .refFallback => true
  | .refReturn => true
  | .tbHoldoverExpired => true
  | .relockDone => true
  | .tbLost => true
  | .tcxoFail => true
  | .tcxoRecover => true
  | .ssChangeApply => true
  | .interleaveDegraded => true
  | .adcStartupCal => true
  | .adcCalDone => true
  | .ichValueUpdate => true
  | .fpBlockRelease => true
  | .frameBoundary => true
  | .speedMarginClear => true
  | .shedRestore => true
  | .speculationStart => true
  | .coldFramesEnd => true
  | .frameSlip => true
  | .bsDelay => true
  | .deadCloseTimeout => true
  | .bsFailed => true
  | .syncOk => true
  | .syncOkWithdrawn => true
  | .stopComplete => true
  | .limExit => true
  | .rotorReleaseEnd => true
  | .obsReturnDone => true
  | .obsBridgeExpiry => true

end Sys2Proof
end

