-- ==== Sys2Proof/Tests/Slice0.lean ====
section
/-!
SUPPORT. Tests/Slice0.lean: ill-formed commands that the checks refuse, the worked examples of spec/ with the numbers it gives, and for every
statement that has hypotheses the states and operands that meet them.
-/
namespace Sys2Proof.Tests
/-! Theorem by theorem: the witnesses are large, and many of them at once take much memory. -/
set_option Elab.async false
open Sys2Proof Sys2Proof.Machine

/-! ### The queue -/

/-- With no command waiting, a tick of the timebase passes (the model's choice, log 1). -/
theorem test_idle_tick : (match step State.reset with | .next t => decide (t.now = 1) && decide (t.ltc = State.reset.ltc + 1) | _ => false) = true := by
  decide +kernel

/-- The command table gives its rows no bits, so no word spells a command (opcode_table.json). -/
theorem test_no_words : decodeTableWord 16 5 = none ∧ State.reset.withFetchWord 16 5 = State.reset := ⟨rfl, rfl⟩

/-! ### Ill-formed commands, one for each check of WellFormed -/

theorem test_wf_session : (Instr.lawStart 5).wf = false := by decide
theorem test_wf_word : (Instr.pstateReq 0 0 256).wf = false := by decide
theorem test_wf_count : countOk 1024 1025 = false := by decide
theorem test_wf_adc_code : (Instr.adcConversionDone 0 .agnd 131072).wf = false := by decide
theorem test_wf_gauges : (Instr.gaugeSample .a [none]).wf = false := by decide
theorem test_wf_open_port : (Instr.dictOpen 2 0 0 0).wf = false := by decide
theorem test_wf_peer : peerOk [] = false := by decide
theorem test_wf_announce : announceOk ⟨true, 1, 256, 0, 0, 0, 0, 0, 0, 0, 0, 0, false, false, false, false, 0⟩ = false := by decide
theorem test_wf_run : (Instr.xlRunReceive [] [0]).wf = false := by decide
theorem test_wf_can_frame : canFrameOk ⟨2048, false, false, false, false, false, 0, [], 0⟩ = false := by decide
theorem test_wf_can_outcome : canOutcomeOk (.sent (2 ^ 32) 0) = false := by decide
theorem test_wf_pdu : pduOk (List.replicate 1025 0) = false := by decide +kernel

/-! ### The Bushel code: the worked codeword of chapter 01 -/

/-- Data symbol 0 is 1: the check field is 0x2053. -/
theorem test_code_worked : bushelEncode 1 = 0x205300000000000000000000000000000001#144 := by decide +kernel

/-- Bit 1 of symbol 0 flipped: the decoder corrects it. -/
theorem test_code_corrects : bushelDecode (bushelEncode 1 ^^^ 2) = .corrected (bushelEncode 1) := by decide +kernel

/-- The syndrome of that word is (0x2, 0xC, 0x0, 0x4). -/
theorem test_code_syndrome : bushelSyndrome (bushelEncode 1 ^^^ 2) = ⟨0x2, 0xC, 0, 0x4⟩ := by decide +kernel

/-- Its poisoned form has the check field 0xDFAC. -/
theorem test_code_poison : bushelPoison (bushelEncode 1) = 0xDFAC00000000000000000000000000000001#144 := by decide +kernel

/-! ### Worked examples of the other chapters -/

/-- Entries written into the state after reset. -/
def cfg (ps : List (Nat × Nat)) : State := ps.foldl (fun s p => s.putN p.1 p.2) State.reset

/-- Chapter 05, the four-stack NPC line-side converter: its configuration. -/
def npc : State :=
  cfg ([(OD.FRAME_PERIOD, 12500), (OD.TOPOLOGY, 1), (OD.N_STACKS, 4), (OD.REF_CARRIER, 0), (OD.CAR_PERIOD 0, 250000), (OD.LIM_H_F, 12),
    (OD.NEG_MODE, 1), (OD.OBS_ENABLE, 1), (OD.GT_ENABLE 0, 1), (OD.GT_ENABLE 1, 1), (OD.HARM_ORDER 0, 5), (OD.HARM_ORDER 1, 7),
    (OD.STREAM_MODE 0, 1)] ++
    (List.range 24).map (fun p => (OD.PAIR_USE p, 1)) ++ (List.range 16).map (fun n => (OD.CH_ROLE n, n + 1)) ++
    (List.range 8).map (fun k => (OD.RISE k, 0x3F800000)) ++ (List.range 8).map (fun j => (OD.SIG 0 j, 0x300 + j)))

/-- Chapter 05: 667 pecks with run-ahead, against a limit of 1,275. -/
theorem test_npc_cost : npc.frameCost [] true = 667 ∧ npc.admitLimit = 1275 ∧ npc.framesPerHalf = 10 := by decide +kernel

/-- Chapter 05: 514 pecks on the full path. -/
theorem test_npc_full_path : npc.frameCost [] false = 514 := by decide +kernel

/-- Chapter 05: at F = 6,250 ticks the commit is refused with 0x41, quantity 667, location 0, and with H_f = 11 the cost is 632. -/
theorem test_npc_refused :
    ((npc.putN OD.FRAME_PERIOD 6250).checkDeadline.map fun r => (r.code, r.qty, r.detail)) = some (0x41, 667, 0) ∧
    ((npc.putN OD.FRAME_PERIOD 6250).putN OD.LIM_H_F 11).frameCost [] true = 632 := by decide +kernel

/-- Chapter 09: an arm hub of 256 submodules on L0 loads 10 parcels down and 43 up, against a limit of 1,110; U_0 = 3.834 µs. -/
def hub : State :=
  cfg [(OD.TOPOLOGY, 3), (OD.N_SM, 256), (OD.EP_ARMS 0, 1), (OD.EP_LANE 0, 0), (OD.LANE_RATE 0, 1), (OD.FAULT_RESERVE 0, 4), (OD.CFG_PER_FRAME, 1),
    (OD.UL_START 0, 1250), (OD.ONEWAY 0, 625)]

/-- The loads of chapter 09's arm hub. -/
theorem test_hub_loads : hub.loadDl 0 = 10 ∧ hub.loadUl 0 = 43 ∧ parcelLimit 12500 1 = 1110 := by decide +kernel

/-- Chapter 09: the last voltage parcel arrives by 3.834 µs, in tenths of a tick of 1.6 ns. -/
theorem test_hub_arrival : ((hub.setSer 0 { hub.ser 0 with trained := true }).arrival 0 0) = 23960 := by decide +kernel

/-- Chapter 02: module 5 of 8 has its valleys 312,500 ticks after those of module 0. -/
theorem test_interleave :
    (State.reset.setTb { State.reset.tb with inForce := { State.reset.tb.inForce with n := 8, idx := 5, trim := 0 } }).interleaveOffset 500000 = 312500 := by
  decide +kernel

/-- Chapter 14, the reference message and the feed-forward: 65 and 73 NTU; the port runs 1 Mbit/s and 5 Mbit/s. -/
theorem test_can_lengths :
    let s := cfg [(OD.NBRP 0, 2), (OD.NTSEG1 0, 31), (OD.NTSEG2 0, 8), (OD.DBRP 0, 2), (OD.DTSEG1 0, 5), (OD.DTSEG2 0, 2)]
    s.ntu 0 = 80 ∧ s.frameNtu 0 1 0 false = 65 ∧ s.frameNtu 0 16 2 false = 73 ∧ s.frameNtu 0 8 0 false = 135 := by decide +kernel

/-- Chapter 14: check 6 at column 2 with an excess of 53 NTU. -/
theorem test_can_qty : schedQty 6 0 2 53 = 0x60040035 := by decide

/-- Chapter 15: a packet of eight signals without marks holds 44 blocks. -/
theorem test_packet_blocks : (packetBlocks 8 0 (List.replicate 60 {})).length = 44 := by decide +kernel

/-- Chapter 15: a third stream on E1 takes the guarantees to 900 Mb/s and is refused with 0x46, location 2. -/
theorem test_stream_share :
    ((cfg [(OD.STREAM_ETH 0, 1), (OD.STREAM_GUAR 0, 400), (OD.STREAM_MAX 0, 400), (OD.STREAM_ETH 1, 1), (OD.STREAM_GUAR 1, 300),
      (OD.STREAM_MAX 1, 300), (OD.STREAM_ETH 2, 1), (OD.STREAM_GUAR 2, 200), (OD.STREAM_MAX 2, 200)]).checkStreams.map
      fun r => (r.code, r.qty, r.detail)) = some (0x46, 900, 2) := by decide +kernel

/-- Chapter 08: an arm of 198 submodules of mean voltage 2,020.0 V asked for `v` p.u. of 179,629 V. -/
def oneArm (v : F32) : State :=
  let s := (cfg [(OD.TOPOLOGY, 3), (OD.N_SM, 200), (OD.INS_STEP_MAX, 512)]).putF OD.V_BASE (fofInt 220000)
  let s := s.setArm 0 { s.arm 0 with order := List.range 198, fresh := true, volts := (List.range 198).map fun j => (j, 20200) }
  s.insertArm { s.law with vArm := vset s.law.vArm 0 v } [] 0

/-- Chapter 08: the upper arm's 0.60341 p.u. insert 54 submodules. -/
theorem test_insertion_upper : (oneArm (fq 60341 100000)).int (OD.N_INS 0) = 54 := by decide +kernel

/-- Chapter 08: the lower arm's 1.60341 p.u. insert 143. -/
theorem test_insertion_lower : (oneArm (fq 160341 100000)).int (OD.N_INS 0) = 143 := by decide +kernel

/-- Chapter 04: core 4 at P_c = 250, CIC N = 3 and R = 50, a FIR set of delay 15.5 that decimates by 2, a grid-locked resampler. -/
def busVoltage : State :=
  (cfg [(OD.ADC_ENABLE 4, 1), (OD.ADC_PERIOD 4, 250), (OD.CIC_ORDER 4, 3), (OD.CIC_DEC 4, 50), (OD.FIR_SET 4, 1), (OD.FIR_DEC 4, 2), (OD.RS_MODE 4, 2)]).putF
    (OD.FIR_DELAY 1) (fq 155 10)

/-- Chapter 04: the word of the CIC is 35 bits and the total group delay 639.4 µs. -/
theorem test_group_delay :
    busVoltage.live (OD.CIC_WIDTH 4) = 35 ∧ busVoltage.live (OD.GROUP_DELAY 4) = ((fq 6394 10).toNat : Int) := by decide +kernel

/-- Chapter 11: a lease of five frames of 20 µs and its guard run out 140.02 µs after the last heartbeat, and not a tick before. -/
theorem test_lease :
    let s := cfg [(OD.FRAME_PERIOD, 12500), (OD.LEASE_LEN, 5)]
    { s with now := 87513 }.leaseOver = true ∧ { s with now := 87512 }.leaseOver = false := by decide +kernel

/-! ### States and operands that meet the hypotheses of the statements -/
/-- A running module: started up, M connected with a service session that owns it, timebase locked. -/
def base : State :=
  let s := State.reset
  let kv : List (Nat × Nat) := [(OD.OWNER_SESSION, 0x40), (OD.SESSION_STATE 10, 1), (OD.SESSION_ROLE 10, 2), (OD.LC_STATE, 1), (OD.BOOT_STATE, 10),
      (OD.TB_STATE, 3),
    (OD.KEY_STATE, 1), (OD.BOOT_READY, 1), (OD.M_CONNECTED, 1), (OD.SYS_LOCKED, 1), (OD.SERVING_LANE, 0)] ++ (List.range 16).map fun d =>
        (OD.PWR_STATE d, 1)
  let s := kv.foldl (fun s x => s.putN x.1 x.2) s
  { s with now := 10 ^ 16, ltc := 10 ^ 12, hosts := { s.hosts with leaseAt := 10 ^ 16 } }
/-- Write entries. -/
def pw (l : List (Nat × Nat)) (s : State) : State := l.foldl (fun s x => s.putN x.1 x.2) s
/-- Change a bank. -/
def bnk (b : Nat) (f : Bank → Bank) (s : State) : State := s.setBank b (f (s.bank b))
/-- Change a part of the state. -/
def lane (l : Lane) (f : LaneRec → LaneRec) (s : State) : State := s.setLaneRec l (f (s.lane l))
/-- Change a part of the state. -/
def goodCfg (s : State) : State :=
  pw ([(OD.TOPOLOGY, 0)] ++ ((List.range 7).map fun n => (OD.CH_ROLE n, if n = 6 then 13 else n + 1)) ++ ((List.range 7).map fun n =>
      (OD.ADC_ENABLE n, 1)) ++
    ((List.range 3).map fun p => (OD.PAIR_USE p, 1)) ++ ((List.range 3).map fun p => (OD.PAIR_PHASE p, p)) ++ ((List.range 8).map fun c =>
        (OD.CAR_EN c, 1))) s
/-- Change a part of the state. -/
def sup (f : Super → Super) (s : State) : State := { s with sup := f s.sup }
/-- Change a part of the state. -/
def lawf (f : Law → Law) (s : State) : State := s.setLawOf .a (f (s.lawOf .a))
/-- Change a part of the state. -/
def ldall (f : LdChan → LdChan) (s : State) : State := { s with ld := Vector.replicate 6 (f (s.ldc 0)) }
/-- Change a part of the state. -/
def cores (f : AdcCore → AdcCore) (s : State) : State := { s with adc := Vector.replicate 32 (f (s.core 0)) }
/-- Change a part of the state. -/
def chns (f : Chain → Chain) (s : State) : State := { s with chains := Vector.replicate 32 (f (s.chain 0)) }
/-- Change a part of the state. -/
def trips (f : TripIn → TripIn) (s : State) : State := { s with pwm := { s.pwm with trips := Vector.replicate 4 (f (s.tripIn 0)) } }
/-- Change a part of the state. -/
def pwmf (f : Pwm → Pwm) (s : State) : State := { s with pwm := f s.pwm }
/-- Change a part of the state. -/
def frm (f : Frame → Frame) (s : State) : State := { s with frame := f s.frame }
/-- Change a part of the state. -/
def pairf (f : PairRec → PairRec) (s : State) : State := { s with pair := f s.pair }
/-- Change a part of the state. -/
def lanesf (f : Lanes → Lanes) (s : State) : State := { s with lanes := f s.lanes }
/-- Change a part of the state. -/
def hostf (f : Hosts → Hosts) (s : State) : State := { s with hosts := f s.hosts }
/-- Change a part of the state. -/
def srv (f : Servo → Servo) (s : State) : State := { s with servo := f s.servo }
/-- Change a part of the state. -/
def saf (f : Safety → Safety) (s : State) : State := { s with safety := f s.safety }
/-- Change a part of the state. -/
def secu (f : Security → Security) (s : State) : State := { s with security := f s.security }
/-- Change a part of the state. -/
def bootf (f : Boot → Boot) (s : State) : State := { s with boot := f s.boot }
/-- Change a part of the state. -/
def recf (f : Recorder → Recorder) (s : State) : State := { s with recorder := f s.recorder }
/-- Change a part of the state. -/
def ann : Announce := { udp := true, interval := 1, domain := 0, prio1 := 1, cls := 6, accuracy := 0x21, variance := 0x4E5D, prio2 := 1, identity := 7, steps := 0, sender := 7, utc := 37, utcValid := true, leap59 := false, leap61 := false, ptpTimescale := true, epoch := 0 }
/-- Change a part of the state. -/
def epcfg : EpCfg := { fullBridge := true, nSm := 48, period := 100000, pairs := [{ pair := 0, period := 100000, dead := 100 }] }
/-- Change a part of the state. -/
def sers (f : SerLane → SerLane) (s : State) : State := { s with link := { s.link with lanes := Vector.replicate 18 (f (s.ser 0)) } }
/-- Change a part of the state. -/
def eps (f : Endpoint → Endpoint) (s : State) : State := { s with link := { s.link with eps := Vector.replicate 16 (f (s.ep 0)) } }
/-- Change a part of the state. -/
def ports (f : EpPort → EpPort) (x : Endpoint) : Endpoint := { x with ports := Vector.replicate 2 (f (x.port 0)) }
/-- Change a part of the state. -/
def views (f : EpView → EpView) (s : State) : State := { s with link := { s.link with views := Vector.replicate 16 (f (s.view 0)) } }
/-- Change a part of the state. -/
def xl (k : Nat) : BitVec 128 := BitVec.ofNat 128 (0xD * 2 ^ 124 + 1 * 2 ^ 120 + k * 2 ^ 116)
/-- Change a part of the state. -/
def lc0 : LaneCommit := { digest := 5 }
/-- Change a part of the state. -/
def rq : Request := { session := 0x40, op := 5, tag := 9, at1 := 0 }
/-- Change a part of the state. -/
def hs (x : Nat) (f : HostSession → HostSession) (s : State) : State := s.setHost x (f (s.host x))
/-- Change a part of the state. -/
def cf (id : Nat) (fd : Bool) : CanFrame := { id := id, ide := false, rtr := false, fd := fd, brs := false, esi := false, dlc := 2, data := [1, 2], stamp := 77 }
/-- Change a part of the state. -/
def canp (f : CanPort → CanPort) (s : State) : State := s.setCan 0 (f (s.canP 0))
/-- Change a part of the state. -/
def tx0 (f : CanTx → CanTx) (s : State) : State := s.setTx 0 0 (f (s.canTx 0 0))
/-- Change a part of the state. -/
def strm0 (f : Stream → Stream) (s : State) : State := s.setStrm 0 (f (s.strm 0))
/-- Change a part of the state. -/
def pw12 : List Byte := List.replicate 12 65
/-- Change a part of the state. -/
def logd (s : State) : State := { s with safety := { s.safety with logins := [(0x40, s.now)] } } |> fun s => s.putN OD.PW_SET 1
/-- Change a part of the state. -/
def tok (kind lc : Nat) : List Byte := (List.range 128).map fun i => BitVec.ofNat 8
    (if i = 31 then 1 else if i = 30 then kind else if i = 25 then lc else 0)
/-- Change a part of the state. -/
def adcAt (j : Nat) (f : AdcCore → AdcCore) (s : State) : State :=
  let s := s.putN (OD.ADC_ENABLE 0) 1
  let s := frm (fun r => { r with begun := true, grid := true, t0 := 10 ^ 12 - 100 - j * s.nat (OD.ADC_PERIOD 0) }) s
  cores f { s with adcUnit := { s.adcUnit with calNeeded := false } }
/-- Change a part of the state. -/
def frameOn (f : Frame → Frame) (s : State) : State :=
  lanesf (fun x => { x with a := { x.a with done := false }, b := { x.b with done := false } })
    (frm (fun r => f { r with begun := true, block := some {}, t0 := 10 ^ 12 }) (pw [(laneKey .a, 5), (laneKey .b, 4)] s))
/-- Change a part of the state. -/
def bothBad (s : State) : State := lanesf (fun x => { x with a := { x.a with frameBad := true }, b := { x.b with frameBad := true } }) s
/-- Change a part of the state. -/
def trs (f : Trainer → Trainer) (s : State) : State := sers (fun x => { x with tr := f x.tr }) s
/-- Change a part of the state. -/
def oneBundle (w : BitVec 128) : BitVec 576 := bundleOf (List.replicate 4 (bushelEncode w))
/-- Change a part of the state. -/
def canOn (s : State) : State := pw [(OD.CANOPEN_EN 0, 1), (OD.NODE_ID 0, 5), (OD.PORT_STATE 0, 2), (OD.PWR_STATE 11, 1)] s

/-- A witness of `Fabric_arrival`. -/
def at_Fabric_arrival_3 : State := (fun s => { s with arch := { s.arch with links := Vector.replicate 3 { wait := some 5 } } }) (base)

/-- A witness of `Timebase_acquires`. -/
def at_Timebase_acquires_4 : State := (fun s => { s with tb := { s.tb with movePending := true } }) (base.putN OD.TB_STATE 3)

/-- A witness of `Timebase_adjusts`. -/
def at_Timebase_adjusts_2 : State := (fun s => { s with tb := { s.tb with pending := some { n := 3 } } }) (base.putN OD.TB_STATE 3)

/-- A witness of `Supply_events`. -/
def at_Supply_events_1 : State := (fun s => pw [(OD.PAIR_STATE, 5), (OD.PARTNER_STATE,
    4)] { s with power := { s.power with hotSince := some 0 } }) (base.putN OD.THERMAL_STATE 3)

/-- A witness of `Supply_events`. -/
def at_Supply_events_2 : State := (fun s => { s with power := { s.power with hotSince := some 0 } }) (base.putN OD.THERMAL_STATE 3)

/-- A witness of `Lane_and_partial_resets`. -/
def at_Lane_and_partial_resets_8 : State := (fun s => { s with boot := { s.boot with resets := [(2, 0, false)] } }) (base)

/-- A witness of `Lane_and_partial_resets`. -/
def at_Lane_and_partial_resets_9 : State := (fun s => { s with boot := { s.boot with resets := [(2, 0, true)] } }) (base)

/-- A witness of `Law_commands`. -/
def at_Law_commands_1 : State := goodCfg (base)

/-- A witness of `Law_start_events`. -/
def at_Law_start_events_6 : State := (sup fun x => { x with syncSince := some 0 }) ((base.putN OD.LAW_STATE 5).putB OD.SYNC_OK false)

/-- A witness of `Law_start_events`. -/
def at_Law_start_events_7 : State := (fun s => pw [(OD.BS_TOPO, 1)] (sup (fun x => { x with syncSince := some 0, freeSync := false }) s))
    ((base.putN OD.LAW_STATE 5).putB OD.SYNC_OK false)

/-- A witness of `Protection_events`. -/
def at_Protection_events_0 : State := (sup fun x => { x with uv := { since := some 0, normal := some 0 } }) (base)

/-- A witness of `Protection_events`. -/
def at_Protection_events_1 : State := (sup fun x => { x with vdcUvSince := some 0, freqSince := some 0, rocofSince := some 0 })
    ((base.putN OD.LAW_STATE 1).putN OD.LAW_STATE 9)

/-- A witness of `Protection_events`. -/
def at_Protection_events_2 : State := (sup fun x => { x with vdcUvSince := some 0, freqSince := some 0, rocofSince := some 0 })
    ((base.putN OD.LAW_STATE 1).putN OD.LAW_STATE 9)

/-- A witness of `Protection_events`. -/
def at_Protection_events_3 : State := (sup fun x => { x with vdcUvSince := some 0, freqSince := some 0, rocofSince := some 0 })
    ((base.putN OD.LAW_STATE 1).putN OD.LAW_STATE 9)

/-- A witness of `Protection_events`. -/
def at_Protection_events_5 : State := (lawf fun l => { l with releaseAt := some 0 }) (base)

/-- A witness of `Feedback_events`. -/
def at_Feedback_events_3 : State := (sup fun x => { x with blend := some 64 }) (base)

/-- A witness of `Feedback_events`. -/
def at_Feedback_events_6 : State := (sup fun x => { x with degFrom := some 0 }) (base)

/-- A witness of `Ld_commands`. -/
def at_Ld_commands_0 : State := base

/-- A witness of `Ld_events`. -/
def at_Ld_events_1 : State := (fun s => ldall (fun c => { c with duties := [(0x3F000000, 0)] }) (pw [(OD.LD_FUNC 1, 1), (OD.LD_STATE 1, 1),
    (OD.SAFETY_STATE, 1)] s)) (base)

/-- A witness of `Ld_events`. -/
def at_Ld_events_7 : State := (fun s => ldall (fun c => { c with on := true }) (pw [(OD.LD_FUNC 1, 4), (OD.LD_STATE 1, 2), (OD.LD_SUPPLY 1, 1),
    (OD.BOOT_REFRESH_EN 1, 0)] s)) (base)

/-- A witness of `Ld_events`. -/
def at_Ld_events_8 : State := (ldall fun c => { c with recoverAt := some 0, uvPos := true }) (base)

/-- A witness of `Ld_events`. -/
def at_Ld_events_9 : State := (fun s => ldall (fun c => { c with lowSince := some 0 }) (pw [(OD.LD_FUNC 1, 1), (OD.LD_STATE 1, 7), (OD.CH_LD,
    1)] s)) (base.putN OD.CH_LD (0 + 1))

/-- A witness of `Ld_events`. -/
def at_Ld_events_12 : State := (fun s => ldall (fun c => { c with softAt := some 0 }) (pw [(OD.LD_FUNC 1, 3), (OD.LD_STATE 1, 3)] s)) (base)

/-- A witness of `Ld_events`. -/
def at_Ld_events_13 : State := (fun s => ldall (fun c => { c with waitAt := some 0 }) (pw [(OD.LD_FUNC 1, 3), (OD.LD_STATE 1, 4)] s)) (base)

/-- A witness of `Pwm_edges`. -/
def at_Pwm_edges_5 : State := (fun s => (pwmf (fun p => { p with channels := Vector.replicate 48 { turnOn := some 0 } }) s)) (base)

/-- A witness of `Pwm_edges`. -/
def at_Pwm_edges_6 : State := (fun s => pw [(OD.TOPOLOGY, 1), (OD.PAIR_USE 0, 1), (OD.PAIR_USE 1, 1), (OD.PAIR_POS 0, 1), (OD.PAIR_POS 1, 2)]
    (pwmf (fun p => { p with channels := Vector.replicate 48 { turnOn := some 0, edgeAt := 10 ^ 16 } }) s)) (base)

/-- A witness of `Pwm_stops`. -/
def at_Pwm_stops_0 : State := (pwmf fun p => { p with seq := some { at1 := 0 } }) (base)

/-- A witness of `Pwm_stops`. -/
def at_Pwm_stops_1 : State := (pwmf fun p => { p with seq := some { clamp := true } }) (base)

/-- A witness of `Pwm_stops`. -/
def at_Pwm_stops_2 : State := (pwmf fun p => { p with seq := some { clamp := true } }) (base)

/-- A witness of `Adc_and_filters`. -/
def at_Adc_and_filters_0 : State := (adcAt 0 fun c => { c with calDone := true }) (base)

/-- A witness of `Adc_and_filters`. -/
def at_Adc_and_filters_3 : State := (fun s => pw [(OD.SEQ_E 0 1, 2 ^ 31), (OD.ADC_SEQ_LEN 0, 4)] (adcAt 50
    (fun c => { c with calDone := true, due := [(1, 5)], calAt := Vector.replicate 3 (10 ^ 16) }) s)) (base)

/-- A witness of `Adc_and_filters`. -/
def at_Adc_and_filters_6 : State := (adcAt 50 fun c => { c with calDone := true, calAt := Vector.replicate 3 (10 ^ 16 - 700000) }) (base)

/-- A witness of `Adc_and_filters`. -/
def at_Adc_and_filters_19 : State := (chns fun c => { c with binGoodAt := some 0 }) (base.putN (OD.RS_MODE 0) 2)

/-- A witness of `Frame_paths`. -/
def at_Frame_paths_1 : State := (fun s => lanesf (fun x => { x with a := { x.a with done := false }, b := { x.b with done := false } }) (frm
    (fun f => { f with begun := true, block := some {}, t0 := 10 ^ 12, afterSlip := true }) (pw [(laneKey .a, 5), (laneKey .b, 4)] s))) (base)

/-- A witness of `Frame_paths`. -/
def at_Frame_paths_2 : State := (fun s => frameOn (fun f => { f with path := none }) (pairf
    (fun p => { p with block := some {}, ownUsed := false }) (pw [(OD.PAIR_MODE, 1), (OD.PAIR_STATE, 4), (OD.RUNAHEAD_EN, 1)] s))) (base)

/-- A witness of `Frame_paths`. -/
def at_Frame_paths_3 : State := (fun s => lanesf (fun x => { x with a := { x.a with done := false }, b := { x.b with done := false } }) (frm
    (fun f => { f with begun := true, block := some {}, t0 := 10 ^ 12, streak := 1 }) (pw [(laneKey .a, 5), (laneKey .b, 4), (OD.RUNAHEAD_EN,
    1)] s))) (base)

/-- A witness of `Frame_paths`. -/
def at_Frame_paths_4 : State := (fun s => lanesf (fun x => { x with a := { x.a with done := false }, b := { x.b with done := false } }) (frm
    (fun f => { f with begun := true, block := some {}, t0 := 10 ^ 12, streak := 7 }) (pw [(laneKey .a, 5), (laneKey .b, 4), (OD.RUNAHEAD_EN,
    1)] s))) (base)

/-- A witness of `Frame_paths`. -/
def at_Frame_paths_5 : State := (fun s => frameOn (fun f => { f with path := none, n := 3 }) (lanesf
    (fun x => { x with a := { x.a with spec := some {} } }) (pairf (fun p => { p with block := some {}, path := some (3, true) })
    (pw [(OD.PAIR_MODE, 1), (OD.PAIR_STATE, 4), (OD.RUNAHEAD_EN, 1)] s)))) (base)

/-- A witness of `Frame_paths`. -/
def at_Frame_paths_6 : State := (fun s => frameOn (fun f => { f with path := none, n := 3 }) (pairf
    (fun p => { p with block := some {}, path := some (3, false) }) (pw [(OD.PAIR_MODE, 1), (OD.PAIR_STATE, 4), (OD.RUNAHEAD_EN, 1)] s))) (base)

/-- A witness of `Frame_paths`. -/
def at_Frame_paths_7 : State := (fun s => lanesf (fun x => { x with a := { x.a with done := false }, b := { x.b with done := false } }) (frm
    (fun f => { f with begun := true, block := some {}, t0 := 10 ^ 12, afterSlip := true }) (pw [(laneKey .a, 5), (laneKey .b, 4)] s))) (base)

/-- A witness of `Frame_paths`. -/
def at_Frame_paths_8 : State := (fun s => lanesf (fun x => { x with a := { x.a with done := false }, b := { x.b with done := false } }) (frm
    (fun f => { f with begun := true, block := some {}, t0 := 10 ^ 12, afterSlip := true }) (pw [(laneKey .a, 5), (laneKey .b, 4)] s))) (base)

/-- A witness of `Frame_paths`. -/
def at_Frame_paths_9 : State := (fun s => lanesf (fun x => { x with a := { x.a with done := false }, b := { x.b with done := false } }) (frm
    (fun f => { f with begun := true, block := some {}, t0 := 10 ^ 12, path := some false }) (pw [(laneKey .a, 5), (laneKey .b, 4)] s))) (base)

/-- A witness of `Frame_paths`. -/
def at_Frame_paths_10 : State := (fun s => lanesf
    (fun x => { x with a := { x.a with done := false }, b := { x.b with done := false, spec := some {} } }) (frm
    (fun f => { f with begun := true, block := some {}, t0 := 10 ^ 12, path := some true }) (pw [(laneKey .a, 5), (laneKey .b, 4)] s))) (base)

/-- A witness of `Frame_recovery`. -/
def at_Frame_recovery_1 : State := (fun s => frm (fun f => { f with marginOkAt := some 0, shedOkAt := some 0, shed := [1, 2] }) (pw [(laneKey .a,
    5), (siKey .a, 2048)] s)) (base.putB OD.SPEED_MARGIN true)

/-- A witness of `Frame_recovery`. -/
def at_Frame_recovery_2 : State := (fun s => frm (fun f => { f with marginOkAt := some 0, shedOkAt := some 0, shed := [1, 2] }) (pw [(laneKey .a,
    5), (siKey .a, 2048)] s)) (base)

/-- A witness of `Network_time`. -/
def at_Network_time_2 : State := (srv fun v => { v with masters := vset v.masters 0 (some (ann, 0)) }) (base.putN OD.SLAVE_PORT 0)

/-- A witness of `Network_time`. -/
def at_Network_time_3 : State := base.putB (OD.LINK_UP 0) true

/-- A witness of `Network_time`. -/
def at_Network_time_4 : State := (fun s => pw [(OD.LINK_UP 0, 1), (OD.SERVO_MODE, 1), (OD.PTP_EN 0, 1), (OD.SLAVE_PORT, 0)] (srv
    (fun v => { v with masters := vset v.masters 0 (some (ann, 0)), pathKnown := Vector.replicate 2 false }) s))
    (((base.putN OD.SLAVE_PORT 0).putN OD.SERVO_MODE 1).putN OD.SERVO_STATE 1)

/-- A witness of `Network_time`. -/
def at_Network_time_5 : State := (fun s => pw [(OD.LINK_UP 0, 1), (OD.SERVO_MODE, 1), (OD.PTP_EN 0, 1), (OD.SLAVE_PORT, 0)] (srv
    (fun v => { v with masters := vset v.masters 0 (some (ann, 0)), pathKnown := Vector.replicate 2 true }) s))
    ((((base.putN OD.SLAVE_PORT 0).putN OD.SERVO_MODE 1).putN OD.SERVO_STATE 1).putN OD.SERVO_MODE 1)

/-- A witness of `Network_time`. -/
def at_Network_time_6 : State := (fun s => pw [(OD.LINK_UP 0, 1), (OD.SERVO_MODE, 1), (OD.PTP_EN 0, 1), (OD.SLAVE_PORT, 0)] (srv
    (fun v => { v with masters := vset v.masters 0 (some (ann, 0)), pathKnown := Vector.replicate 2 true, offs := [3] }) s))
    ((((base.putN OD.SLAVE_PORT 0).putN OD.SERVO_MODE 1).putN OD.SERVO_STATE 2).putN OD.SERVO_MODE 1)

/-- A witness of `Network_time`. -/
def at_Network_time_7 : State := (fun s => pw [(OD.LINK_UP 0, 1), (OD.SERVO_MODE, 1), (OD.ETH_MODE 0, 1), (OD.PTP_EN 0, 1), (OD.SLAVE_PORT, 0),
    (OD.SERVO_STATE, 2)] (srv
    (fun v => { v with masters := vset v.masters 0 (some (ann, 10 ^ 16)), pathKnown := Vector.replicate 2 true, stepDone := true, count := 5 }) s)) ((((base.putN OD.SLAVE_PORT 0).putN OD.SERVO_MODE 1).putN OD.SERVO_STATE 2).putN OD.SERVO_MODE 1)

/-- A witness of `Network_time`. -/
def at_Network_time_11 : State := (fun s => srv (fun v => { v with leap := some (0, 1, false) }) { s with ltc := 10 ^ 15 }) (base)

/-- A witness of `Ethernet_ports`. -/
def at_Ethernet_ports_3 : State := (pw [(OD.ETH_MODE 0, 1), (OD.LINK_UP 0, 1), (OD.VLAN_ID 0, 0)]) (base)

/-- A witness of `Ethernet_ports`. -/
def at_Ethernet_ports_4 : State := (pw [(OD.ETH_MODE 0, 1), (OD.LINK_UP 0, 1), (OD.VLAN_ID 0, 0), (OD.LAUNCH_STATE 0 0, 1)]) (base)

/-- A witness of `Link_lanes`. -/
def at_Link_lanes_0 : State := (trs fun x => { x with fomSince := some 0 }) (base.putN (OD.LANE_STATE 0) 2)

/-- A witness of `Link_lanes`. -/
def at_Link_lanes_13 : State := (sers fun x => { x with powerDue := some (0, 0) }) (base)

/-- A witness of `Link_lanes`. -/
def at_Link_lanes_15 : State := (fun s => sers (fun x => { x with rx := { x.rx with buf := [5] } }) (pw [(OD.EP_STACKS 0, 1), (OD.EP_LANE 0,
    0)] s)) (base)

/-- A witness of `Endpoints`. -/
def at_Endpoints_1 : State := (eps fun x => { x with cfg := some epcfg, state := 4 }) (base)

/-- A witness of `Endpoints`. -/
def at_Endpoints_2 : State :=
    (eps fun x => { x with cfg := some epcfg, state := 4, sets := [{ pair := 0, forceOff := true, start := (({ pair := 0, period := 100000, dead := 100 } : EpPairCfg).reload (x.ltc (10 ^ 16))).1 % 2 ^ 32 }] }) (base)

/-- A witness of `Endpoints`. -/
def at_Endpoints_3 : State := (eps fun x => { x with cfg := some epcfg, state := 4, due := [(0, 0, 0, List.replicate 48 1)] }) (base)

/-- A witness of `Endpoints`. -/
def at_Endpoints_5 : State := (eps fun x => ports
    (fun p => { p with rx := { p.rx with buf := [BitVec.ofNat 128 (2 * 2 ^ 124 + 1 * 2 ^ 122 + 0x3010 * 2 ^ 104), BitVec.ofNat 128 (1 * 2 ^ 124 + 5)] } }) x) (base)

/-- A witness of `Endpoints`. -/
def at_Endpoints_6 : State := (eps fun x => { x with awaited := some 0, state := 4 }) (base)

/-- A witness of `Endpoints`. -/
def at_Endpoints_8 : State := (eps fun x => { ports (fun p => { p with freshUntil := some 0 }) x with obeyed := some 0 }) (base)

/-- A witness of `Endpoints`. -/
def at_Endpoints_9 : State := (eps fun x => { x with items := [(1, 0, 2 * 2 ^ 88), (1, 1, 0)] }) (base)

/-- A witness of `Lane_commands`. -/
def at_Lane_commands_0 : State := (pw [(laneKey .a, 5), (laneKey .b, 4)]) (base)

/-- A witness of `Lane_commands`. -/
def at_Lane_commands_1 : State := base

/-- A witness of `Lane_commands`. -/
def at_Lane_commands_5 : State := (pw [(laneKey .a, 5), (laneKey .b, 4)]) (base)

/-- A witness of `Lane_events`. -/
def at_Lane_events_9 : State := base.putN OD.ROTATE_INTERVAL 1

/-- A witness of `Lane_comparison`. -/
def at_Lane_comparison_0 : State := (fun s => lanesf
    (fun x => { x with a := { x.a with commit := some lc0 }, b := { x.b with commit := some lc0 } }) (pw [(OD.EFT_STATE, 1), (laneKey .a, 5),
    (laneKey .b, 4)] s)) (base.putN OD.EFT_STATE 3)

/-- A witness of `Lane_comparison`. -/
def at_Lane_comparison_1 : State := (fun s => lanesf
    (fun x => { x with a := { x.a with commit := some lc0 }, b := { x.b with commit := some { lc0 with digest := 4 } } }) (pw [(OD.EFT_STATE, 1),
    (laneKey .a, 5), (laneKey .b, 3)] s)) (base)

/-- A witness of `Lane_comparison`. -/
def at_Lane_comparison_2 : State := (fun s => lanesf
    (fun x => { x with a := { x.a with commit := some lc0, diagFail := true }, b := { x.b with commit := some { lc0 with digest := 4 } } })
    (pw [(OD.EFT_STATE, 1), (laneKey .a, 5), (laneKey .b, 4)] s)) (base)

/-- A witness of `Lane_comparison`. -/
def at_Lane_comparison_3 : State := (fun s => lanesf
    (fun x => { x with a := { x.a with commit := some lc0 }, b := { x.b with diagFail := true, commit := some { lc0 with digest := 4 } } })
    (pw [(OD.EFT_STATE, 1), (laneKey .a, 5), (laneKey .b, 4)] s)) (base)

/-- A witness of `Lane_comparison`. -/
def at_Lane_comparison_4 : State := (fun s => lanesf
    (fun x => { x with a := { x.a with commit := some lc0 }, b := { x.b with commit := some { lc0 with digest := 4 } } }) (pw [(OD.EFT_STATE, 1),
    (laneKey .a, 5), (laneKey .b, 4)] s)) (base.putN OD.EFT_STATE 3)

/-- A witness of `Lane_comparison`. -/
def at_Lane_comparison_11 : State := base

/-- A witness of `Lane_comparison`. -/
def at_Lane_comparison_12 : State := base

/-- A witness of `Pair_events`. -/
def at_Pair_events_11 : State := (pairf fun p => { p with plausSince := some 0 }) ((base.putN OD.PAIR_MODE 1).putBit OD.HEALTH_FLAGS 8 false)

/-- A witness of `Pair_events`. -/
def at_Pair_events_15 : State := (fun s => pairf (fun p => { p with healthAhead := some 0 }) (pw [(OD.PAIR_STATE, 5), (OD.PARTNER_STATE, 4)] s))
    ((base.putN OD.PAIR_MODE 1).putN OD.HANDOVER_MARGIN 1)

/-- A witness of `Ownership`. -/
def at_Ownership_1 : State := (hostf fun h => { h with reserve := some (5, 10 ^ 17) }) ((base.putN OD.OWN_LEASE 1).putN OD.OWNER_SESSION 255)

/-- A witness of `Commit_discard_and_m`. -/
def at_Commit_discard_and_m_1 : State := (fun s => hostf
    (fun h => { h with commit := some { session := 0x40, req := rq, set := [(OD.OWN_LEASE, .num 5)], loadedAt := 0 } }) (pw [(OD.PAIR_STATE, 4),
    (OD.PAIR_MODE, 1)] s)) (base)

/-- A witness of `Commit_discard_and_m`. -/
def at_Commit_discard_and_m_2 : State :=
    (hostf fun h => { h with commit := some { session := 0x40, req := rq, set := [(OD.OWN_LEASE, .num 5)], loadedAt := 10 ^ 17 } }) (base)

/-- A witness of `Commit_discard_and_m`. -/
def at_Commit_discard_and_m_3 : State :=
    (hostf fun h => { h with commit := some { session := 0x40, req := rq, set := [(OD.OWN_LEASE, .num 5)], loadedAt := 0 } }) (base)

/-- A witness of `Requests_arrive`. -/
def at_Requests_arrive_2 : State := (hs 0x40 fun h => { h with replies := [(0, 5, Reply.ok)] }) (base.putBit OD.PR_BUSY 1 false)

/-- A witness of `Requests_arrive`. -/
def at_Requests_arrive_9 : State := (hs 0x40 fun h => { h with replies := [(0, 5, Reply.ok)] }) (base.putBit OD.PR_BUSY 1 false)

/-- A witness of `Requests_arrive`. -/
def at_Requests_arrive_16 : State := (hs 0x40 fun h => { h with replies := [(0, 5, Reply.ok)] }) (base.putBit OD.PR_BUSY 1 false)

/-- A witness of `Requests_arrive`. -/
def at_Requests_arrive_23 : State := (hs 0x40 fun h => { h with replies := [(0, 5, Reply.ok)] }) (base.putBit OD.PR_BUSY 1 false)

/-- A witness of `Requests_arrive`. -/
def at_Requests_arrive_28 : State := (hostf fun h => { h with queue := [rq] }) (base.putBit OD.PR_BUSY 1 false)

/-- A witness of `Requests_served`. -/
def at_Requests_served_2 : State := base.putBit OD.PR_BUSY 1 false

/-- A witness of `Requests_served`. -/
def at_Requests_served_4 : State := (hs 0x40 fun h => { h with staged := [(0x200001, { val := .num 1, gen := 0 })] }) (base)

/-- A witness of `Requests_served`. -/
def at_Requests_served_5 : State := base

/-- A witness of `Requests_served`. -/
def at_Requests_served_6 : State := base.putBit OD.PR_BUSY 1 false

/-- A witness of `Requests_served`. -/
def at_Requests_served_7 : State := base

/-- A witness of `Requests_served`. -/
def at_Requests_served_14 : State := (fun s => hostf (fun h => { h with changed := [(0x200001, 5 * 256 + 0x10)] }) (hs 0x40
    (fun h => { h with staged := [(0x200001, { val := .num 1, gen := 0 })] }) s)) (base)

/-- A witness of `Queue_of_requests`. -/
def at_Queue_of_requests_0 : State := (hostf fun h => { h with queue := [rq] }) (base.putBit OD.PR_BUSY 1 false)

/-- A witness of `Sessions`. -/
def at_Sessions_1 : State := (fun s => s.putN (OD.SESSION_STATE 10) 0) (base.putBit OD.PR_BUSY 1 false)

/-- A witness of `Sessions`. -/
def at_Sessions_11 : State := (pw [(OD.CANOPEN_EN 0, 1), (OD.NODE_ID 0, 5), (OD.PORT_STATE 0, 2)]) (base.putBit OD.PR_BUSY 1 false)

/-- A witness of `Can_frames`. -/
def at_Can_frames_1 : State := (pw [(OD.PORT_STATE 0, 2), (OD.RX_ID 0 0, 5), (OD.RX_FLAGS 0 0, 3), (OD.RX_MASK 0 0, 0x7FF)]) (base)

/-- A witness of `Can_frames`. -/
def at_Can_frames_2 : State := (pw [(OD.PORT_STATE 0, 2), (OD.RX_ID 0 0, 5), (OD.RX_FLAGS 0 0, 3), (OD.RX_MASK 0 0, 0x7FF), (OD.RX_INFO 0 0, 8)])
    (base)

/-- A witness of `Can_frames`. -/
def at_Can_frames_3 : State := (pw [(OD.PORT_STATE 0, 2), (OD.RX_ID 0 0, 5), (OD.RX_FLAGS 0 0, 3), (OD.RX_MASK 0 0, 0x7FF)]) (base)

/-- A witness of `Can_frames`. -/
def at_Can_frames_16 : State := (tx0 fun x => { x with backAt := some 0 }) (base)

/-- A witness of `Can_schedule`. -/
def at_Can_schedule_5 : State := (fun s => canp
    (fun c => { c with refAt := 10 ^ 16, refSeen := true, sched := { len := 1000, cols := [2 * 2 ^ 28], trigs := [2 ^ 31 + 3 * 2 ^ 21] } })
    (pw [(OD.TT_STATE 0, 2)] s)) (base.putN (OD.TT_STATE 0) 2)

/-- A witness of `Event_recorder`. -/
def at_Event_recorder_6 : State := (recf fun r => { r with aux := some { code := 0x0501 } }) (base.putBit OD.PR_BUSY 2 false)

/-- A witness of `Capture_streams`. -/
def at_Capture_streams_8 : State := (strm0 fun x => { x with hold := some (0, 1000000) }) (base.putN (OD.HOLD_MODE 0) 0)

/-- A witness of `Capture_streams`. -/
def at_Capture_streams_9 : State := (strm0 fun x => { x with hold := some (0, 1000000) }) (base.putN (OD.HOLD_MODE 0) 1)

/-- A witness of `Capture_streams`. -/
def at_Capture_streams_10 : State := (fun s => frm (fun f => { f with grid := true, t0 := 5 }) (pw [(OD.SIG 0 0, 0x000101)] s)) (base.putN
    (OD.STREAM_STATE 0) 1)

/-- A witness of `Capture_streams`. -/
def at_Capture_streams_14 : State := (fun s => strm0 (fun x => { x with blocks := List.replicate 4000000 {} }) (pw [(OD.SIG 0 0, 0x000101)] s))
    (base.putN (OD.STREAM_STATE 0) 5)

/-- A witness of `Capture_streams`. -/
def at_Capture_streams_16 : State := (fun s => strm0 (fun x => { x with blocks := List.replicate 1100000 {} }) (pw [(OD.SIG 0 0, 0x000101)] s))
    (base.putN (OD.STREAM_STATE 0) 5)

/-- A witness of `Safety_causes`. -/
def at_Safety_causes_6 : State := (saf fun x => { x with bothLow := Vector.replicate 2 true, highSince := Vector.replicate 2 (some 0) })
    (base.putN OD.SAFETY_STATE 5)

/-- A witness of `Safety_causes`. -/
def at_Safety_causes_17 : State := (saf fun x => { x with gateAt := some 0 }) (base)

/-- A witness of `Safety_sessions`. -/
def at_Safety_sessions_0 : State := base

/-- A witness of `Safety_sessions`. -/
def at_Safety_sessions_1 : State := (saf fun x => { x with lockUntil := Vector.replicate 5 (some (10 ^ 17)) }) (base)

/-- A witness of `Safety_sessions`. -/
def at_Safety_sessions_2 : State := base

/-- A witness of `Safety_sessions`. -/
def at_Safety_sessions_4 : State := (saf fun x => { x with verifying := [(0x40, none, pw12)] }) (base)

/-- A witness of `Safety_sessions`. -/
def at_Safety_sessions_5 : State := (saf fun x => { x with verifying := [(0x40, none, pw12)], fails := Vector.replicate 5 4 }) (base)

/-- A witness of `Safety_sessions`. -/
def at_Safety_sessions_6 : State := (saf fun x => { x with lockUntil := Vector.replicate 5 (some 0) }) (base)

/-- A witness of `Safety_sessions`. -/
def at_Safety_sessions_10 : State := logd (base.putB OD.PW_SET false)

/-- A witness of `Safety_sessions`. -/
def at_Safety_sessions_11 : State := base.putB OD.PW_SET true

/-- A witness of `Security_commands`. -/
def at_Security_commands_3 : State := (secu fun x => { x with attest := [(0x40, [1])] }) (base)

/-- A witness of `Security_commands`. -/
def at_Security_commands_8 : State := (secu fun x => { x with load := some (0x40, 1024) }) ((base.putBit OD.PR_BUSY 1 false).putN OD.LC_STATE 5)

/-- A witness of `Security_commands`. -/
def at_Security_commands_9 : State := (secu fun x => { x with load := some (0x40, 1024) }) ((base.putBit OD.PR_BUSY 1 false).putN OD.LC_STATE 5)

/-- A witness of `Security_commands`. -/
def at_Security_commands_10 : State := (secu fun x => { x with load := some (0x40, 1024) }) ((base.putBit OD.PR_BUSY 1 false).putN OD.LC_STATE 5)

/-- A witness of `Security_commands`. -/
def at_Security_commands_11 : State := (secu fun x => { x with load := some (0x40, 1024) }) ((base.putBit OD.PR_BUSY 1 false).putN OD.LC_STATE 5)

/-- A witness of `Security_commands`. -/
def at_Security_commands_30 : State := (fun s => (secu (fun x => { x with lcReq := some (0x40, 1, 10 ^ 16) }) s).put OD.LC_NONCE (.bytes
    (List.replicate 16 7))) (base)

/-- A witness of `Security_commands`. -/
def at_Security_commands_31 : State := (fun s => (secu (fun x => { x with lcReq := some (0x40, 1, 10 ^ 16) }) s).put OD.LC_NONCE (.bytes
    (List.replicate 16 7))) (base)

/-- A witness of `Security_commands`. -/
def at_Security_commands_33 : State := (secu (fun x => { x with lcReq := some (0x40, 1, 0) })) (base)

/-- A witness of `Security_commands`. -/
def at_Security_commands_34 : State := (secu (fun x => { x with lcReq := some (0x40, 1, 10 ^ 16) })) (base)

/-- States and operands that meet the hypotheses of each clause of `Step_idle_ticks`. -/
theorem witness_Step_idle_ticks :
    (∃ (s : State), s.pending = []) :=
    ⟨base, by decide +kernel⟩

/-- States and operands that meet the hypotheses of each clause of `Code_corrects_one_detects_two`. -/
theorem witness_Code_corrects_one_detects_two :
    (∃ (j : Nat) (e : Nat), j < 36 ∧ 0 < e ∧ e < 16) ∧
    (∃ (i : Nat) (j : Nat) (a : Nat) (b : Nat), i < 36 ∧ j < 36 ∧ i ≠ j ∧ 0 < a ∧ a < 16 ∧ 0 < b ∧ b < 16) :=
    ⟨⟨35, 15, by decide +kernel⟩,
     ⟨0, 35, 15, 1, by decide +kernel⟩⟩

/-- States and operands that meet the hypotheses of each clause of `Code_poison`. -/
theorem witness_Code_poison :
    (∃ (i : Nat) (j : Nat) (a : Nat) (b : Nat), i < 36 ∧ j < 36 ∧ i ≠ j ∧ a < 16 ∧ b < 16) ∧
    (∃ (j : Nat) (e : Nat), j < 36 ∧ 0 < e ∧ e < 16) :=
    ⟨⟨0, 35, 15, 3, by decide +kernel⟩,
     ⟨35, 15, by decide +kernel⟩⟩

/-- States and operands that meet the hypotheses of each clause of `Fabric_arrival`. -/
theorem witness_Fabric_arrival :
    (∃ (s : State) (l : Fin 3) (sent : BitVec 144) (err : BitVec 144), bushelDecode
        ((vget { } s.arch.links l.val).wait.getD sent ^^^ err) = Decoded.clean) ∧
    (∃ (s : State) (l : Fin 3) (sent : BitVec 144) (err : BitVec 144) (v : BitVec 144), bushelDecode
        ((vget { } s.arch.links l.val).wait.getD sent ^^^ err) = Decoded.corrected v) ∧
    (∃ (s : State) (l : Fin 3) (sent : BitVec 144) (err : BitVec 144), (vget { } s.arch.links l.val).wait = none ∧ bushelDecode
        (sent ^^^ err) = Decoded.uncorrectable) ∧
    (∃ (s : State) (l : Fin 3) (err : BitVec 144) (w : BitVec 144), (vget { } s.arch.links l.val).wait = some w ∧ bushelDecode
        (w ^^^ err) = Decoded.uncorrectable) :=
    ⟨⟨base, (0 : Fin 3), 0#144, 0#144, by decide +kernel⟩,
     ⟨base, (0 : Fin 3), 0#144, (1 : BitVec 144), 0#144, by decide +kernel⟩,
     ⟨base, (0 : Fin 3), 0#144, 0x101, by decide +kernel⟩,
     ⟨at_Fabric_arrival_3, (0 : Fin 3), 0x100, (((vget { } at_Fabric_arrival_3.arch.links 0).wait).getD (0#144)), by decide +kernel⟩⟩

/-- States and operands that meet the hypotheses of each clause of `Gauges_give_si`. -/
theorem witness_Gauges_give_si :
    (∃ (s : State) (l : Lane) (g : Fin 6), s.past (vget { } (s.gauges l) g.val).renewedAt (us 4) = true) ∧
    (∃ (s : State) (l : Lane) (g : Fin 6), 1000 ≤ (vget { } (s.gauges l) g.val).goodRun) :=
    ⟨⟨base, Lane.a, (0 : Fin 6), by decide +kernel⟩,
     ⟨(fun s => { s with arch := { s.arch with gaugesA := Vector.replicate 6 { goodRun := 1000 } } }) (base), Lane.a, (0 : Fin 6),
         by decide +kernel⟩⟩

/-- States and operands that meet the hypotheses of each clause of `Bank_write`. -/
theorem witness_Bank_write :
    (∃ (s : State) (b : Fin 17) (row : Nat), row < s.bankRows b.val ∧ s.nat (OD.BANK_STATE b.val) = 1 ∧
        (s.bank b.val).fenced.contains row = false) :=
    ⟨base.putN (OD.BANK_STATE 0) 1, (0 : Fin 17), 0, by decide +kernel⟩

/-- States and operands that meet the hypotheses of each clause of `Bank_read_clean`. -/
theorem witness_Bank_read_clean :
    (∃ (s : State) (b : Fin 17) (row : Nat) (col : Fin 32), row < s.bankRows b.val ∧ s.nat (OD.BANK_STATE b.val) = 1 ∧
        (s.bank b.val).fenced.contains row = false ∧ bushelDecode (s.cell b.val row col.val) = Decoded.clean) :=
    ⟨base.putN (OD.BANK_STATE 0) 1, (0 : Fin 17), 0, (0 : Fin 32), by decide +kernel⟩

/-- States and operands that meet the hypotheses of each clause of `March_commands`. -/
theorem witness_March_commands :
    (∃ (s : State) (session : Nat) (bank : BitVec 8), s.Serves ∧ s.roleRefusal session = none ∧ bank.toNat < 17 ∧ s.nat
        (OD.BANK_STATE bank.toNat) = 1 ∧ (s.bank bank.toNat).marchOnRequest = false) ∧
    (∃ (s : State) (session : Nat) (bank : BitVec 8), s.Serves ∧ s.roleRefusal session = none ∧ bank.toNat < 17 ∧ s.nat
        (OD.BANK_STATE bank.toNat) = 1 ∧ (s.bank bank.toNat).marchOnRequest = false ∧ (s.atService session).marchSsOk bank.toNat = true) ∧
    (∃ (s : State) (session : Nat) (bank : BitVec 8), s.Serves ∧ s.roleRefusal session = none ∧ bank.toNat < 17 ∧
        (s.bank bank.toNat).marchOnRequest = true) :=
    ⟨⟨base.putN (OD.BANK_STATE 0) 1, 64, 0#8, by delta State.Serves; decide +kernel⟩,
     ⟨(pw [(laneKey .b, 7)]) (base.putN (OD.BANK_STATE (8)) 1), 64, (8 : BitVec 8), by delta State.Serves; decide +kernel⟩,
     ⟨(bnk 0 fun b => { b with marchOnRequest := true, marchAlg := 2 }) (base), 64, 0#8, by delta State.Serves; decide +kernel⟩⟩

/-- States and operands that meet the hypotheses of each clause of `March_rows`. -/
theorem witness_March_rows :
    (∃ (s : State) (b : Fin 17) (bad : Nat) (ok : Bool), (s.bank b.val).marchOnRequest = true ∧ (s.bank b.val).marchAlg = 2 ∧
        (s.bank b.val).fenced.contains (s.bank b.val).marchRow = false ∧ (ok = true ∨ List.drop bad (s.bank b.val).freeSpares ≠ []) ∧
        (s.bank b.val).marchRow + 1 < s.bankRows b.val) ∧
    (∃ (s : State) (b : Fin 17) (bad : Nat) (ok : Bool), (s.bank b.val).marchOnRequest = true ∧ (s.bank b.val).marchAlg = 2 ∧
        (s.bank b.val).fenced.contains (s.bank b.val).marchRow = false ∧ (ok = true ∨ List.drop bad (s.bank b.val).freeSpares ≠ []) ∧
        s.bankRows b.val ≤ (s.bank b.val).marchRow + 1) ∧
    (∃ (s : State) (b : Fin 17), (s.bank b.val).marchOnRequest = true ∧ (s.bank b.val).marchAlg = 1 ∧ s.stepPaced b.val = true ∧ (∀ (c : Nat),
        c < 32 → bushelDecode (s.cell b.val (s.bank b.val).marchRow c) = Decoded.clean) ∧ (s.bank b.val).marchRow + 1 < s.bankRows b.val) ∧
    (∃ (s : State) (b : Fin 17), (s.bank b.val).marchOnRequest = false ∧ s.bgEligible b.val = true ∧ s.stepPaced b.val = true ∧ (∀ (c : Nat),
        c < 32 → bushelDecode (s.cell b.val (s.bank b.val).bgRow c) = Decoded.clean) ∧ (s.bank b.val).bgRow + 1 < s.bankRows b.val) ∧
    (∃ (s : State) (b : Fin 17), ((s.bank b.val).marchAlg = 1 ∨ (s.bank b.val).marchOnRequest = false) ∧ s.stepPaced b.val = false) :=
    ⟨⟨(bnk 0 fun b => { b with marchOnRequest := true, marchAlg := 2 }) (base), (0 : Fin 17), 0, false, by decide +kernel⟩,
     ⟨(bnk 0 fun b => { b with marchOnRequest := true, marchAlg := 2, marchRow := 100000 }) (base), (0 : Fin 17), 0, false, by decide +kernel⟩,
     ⟨(bnk 0 fun b => { b with marchOnRequest := true, marchAlg := 1 }) (base), (0 : Fin 17), by decide +kernel⟩,
     ⟨(pw [(OD.BG_MARCH_EN, 1), (laneKey .a, 4), (OD.BANK_STATE 0, 1)]) (base), (0 : Fin 17), by decide +kernel⟩,
     ⟨(bnk 0 fun b => { b with stepAt := some (10 ^ 16) }) (base), (0 : Fin 17), by decide +kernel⟩⟩

/-- States and operands that meet the hypotheses of each clause of `Timebase_acquires`. -/
theorem witness_Timebase_acquires :
    (∃ (s : State), s.tb.tcxoFailed = false ∧ s.tb.refQualified = false) ∧
    (∃ (s : State), s.nat OD.TB_STATE = 1 ∧ s.sourceGood = true) ∧
    (∃ (s : State), s.nat OD.TB_STATE = 1 ∧ s.tb.freqAcquired = true) ∧
    (∃ (s : State), s.nat OD.TB_STATE = 2) ∧
    (∃ (s : State) (ref : Bool), s.tb.movePending = true ∧ (s.nat OD.TB_STATE = 3 ∨ s.nat OD.TB_STATE = 4) ∧ ref = decide
        (s.nat OD.TB_REF_SEL = 1) ∧ (ref = false ∨ s.tb.refQualified = true)) :=
    ⟨⟨base, by decide +kernel⟩,
     ⟨base.putN OD.TB_STATE 1, by decide +kernel⟩,
     ⟨(fun s => { s with tb := { s.tb with freqAcquired := true } }) (base.putN OD.TB_STATE 1), by decide +kernel⟩,
     ⟨base.putN OD.TB_STATE 2, by decide +kernel⟩,
     ⟨at_Timebase_acquires_4, decide (at_Timebase_acquires_4.nat OD.TB_REF_SEL = 1), by decide +kernel⟩⟩

/-- States and operands that meet the hypotheses of each clause of `Timebase_holds_over`. -/
theorem witness_Timebase_holds_over :
    (∃ (s : State), s.nat OD.TB_STATE = 3 ∧ s.flag OD.REF_ACTIVE = true) ∧
    (∃ (s : State), s.nat OD.TB_STATE = 4 ∧ s.tb.holdCause = 1 ∧ s.flag OD.REF_FALLBACK = true ∧ s.tb.refQualified = false ∧
        s.tb.tcxoFailed = false ∧ s.past s.tb.refLostAt (ms (s.nat OD.REF_LOSS_QUAL)) = true) ∧
    (∃ (s : State), s.nat OD.TB_STATE = 3 ∧ s.nat OD.TB_REF_SEL = 1 ∧ s.flag OD.REF_ACTIVE = false ∧ s.tb.refQualified = true ∧
        s.past s.tb.refQualAt (sec 10) = true) ∧
    (∃ (s : State), s.nat OD.TB_STATE = 4 ∧ s.tb.holdCause = 1 ∧ s.tb.refQualified = true) ∧
    (∃ (s : State), s.nat OD.TB_STATE = 4 ∧ s.tb.holdExpired = false ∧ s.past s.tb.holdAt (sec (s.nat OD.HOLDOVER_LIMIT)) = true) ∧
    (∃ (s : State), s.nat OD.TB_STATE = 3 ∧ s.sourceGood = true) ∧
    (∃ (s : State), s.nat OD.TB_STATE = 4 ∧ s.tb.holdCause = 2 ∧ s.tb.rephasing = true) ∧
    (∃ (s : State), s.nat OD.TB_STATE ≠ 0) :=
    ⟨⟨(base.putN OD.TB_STATE 3).putB OD.REF_ACTIVE true, by decide +kernel⟩,
     ⟨(fun s => { s with tb := { s.tb with holdCause := 1, refQualified := false } }) ((base.putN OD.TB_STATE 4).putB OD.REF_FALLBACK true),
         by decide +kernel⟩,
     ⟨(fun s => { s with tb := { s.tb with holdCause := 1, refQualified := true } })
         (((base.putN OD.TB_STATE 3).putN OD.TB_REF_SEL 1).putB OD.REF_ACTIVE false), by decide +kernel⟩,
     ⟨(fun s => { s with tb := { s.tb with holdCause := 1, refQualified := true } }) (base.putN OD.TB_STATE 4), by decide +kernel⟩,
     ⟨base.putN OD.TB_STATE 4, by decide +kernel⟩,
     ⟨base.putN OD.TB_STATE 3, by decide +kernel⟩,
     ⟨(fun s => { s with tb := { s.tb with holdCause := 2, rephasing := true } }) (base.putN OD.TB_STATE 4), by decide +kernel⟩,
     ⟨base.putN OD.TB_STATE 1, by decide +kernel⟩⟩

/-- States and operands that meet the hypotheses of each clause of `Timebase_adjusts`. -/
theorem witness_Timebase_adjusts :
    (∃ (s : State) (w : Int), s.nat OD.TB_STATE ≠ 4 ∧ (s.nat OD.SERVO_STATE = 0 ∧ w = s.int OD.TB_TUNE_MAN ∨
        (s.nat OD.SERVO_STATE = 2 ∨ s.nat OD.SERVO_STATE = 3) ∧ w = s.servo.rate)) ∧
    (∃ (s : State), s.nat OD.TB_STATE = 4) ∧
    (∃ (s : State) (d : DivSet), s.tb.pending = some d ∧ s.nat OD.TB_STATE = 3 ∧ s.past s.tb.pendingFrom (us 4) = true ∧ s.past s.tb.lockedAt
        (us 4) = true ∧ s.ltc % 2500 = 0) ∧
    (∃ (s : State), s.tb.ssPending = true) ∧
    (∃ (s : State) (c : Fin 8), (s.car c.val).started = true) :=
    ⟨⟨(base.putN OD.TB_STATE 5).putN OD.SERVO_STATE 0, Int.ofNat 0, by decide +kernel⟩,
     ⟨base.putN OD.TB_STATE 4, by decide +kernel⟩,
     ⟨at_Timebase_adjusts_2, ((at_Timebase_adjusts_2.tb.pending).getD ({ pd := 0, n := 0, trim := Int.ofNat 0, tol := 0, pull := 0 })),
         by decide +kernel⟩,
     ⟨(fun s => { s with tb := { s.tb with ssPending := true } }) (base), by decide +kernel⟩,
     ⟨(fun s => { s with pwm := { s.pwm with carriers := Vector.replicate 8 { started := true } } }) (base), (0 : Fin 8), by decide +kernel⟩⟩

/-- States and operands that meet the hypotheses of each clause of `Supply_events`. -/
theorem witness_Supply_events :
    (∃ (s : State) (lost : Bool), s.domainOn 1 = true ∧ s.power.auxLost ≠ lost) ∧
    (∃ (s : State) (hot : Nat), s.power.hotSince = some hot ∧ s.past hot (ms 100) = true ∧ s.nat OD.THERMAL_STATE ≠ 2 ∧ s.handoverOk = true) ∧
    (∃ (s : State) (hot : Nat), s.power.hotSince = some hot ∧ s.past hot (ms 100) = true ∧ s.nat OD.THERMAL_STATE ≠ 2 ∧ s.handoverOk = false) ∧
    (∃ (s : State), s.domainOn 1 = true) :=
    ⟨⟨(fun s => { s with power := { s.power with auxLost := true } }) (base), false, by decide +kernel⟩,
     ⟨at_Supply_events_1, ((at_Supply_events_1.power.hotSince).getD 0), by decide +kernel⟩,
     ⟨at_Supply_events_2, ((at_Supply_events_2.power.hotSince).getD 0), by decide +kernel⟩,
     ⟨base, by decide +kernel⟩⟩

/-- States and operands that meet the hypotheses of each clause of `Start_up`. -/
theorem witness_Start_up :
    (∃ (s : State), s.domainOn 1 = false) ∧
    (∃ (s : State) (k : Fin 11), s.boot.open_.contains k.val = false) ∧
    (∃ (s : State), s.boot.open_.contains 6 = true ∧ (s.nat OD.TB_STATE = 3 ∨ s.domainOn 12 = false)) ∧
    (∃ (s : State), s.boot.open_.contains 7 = true ∧ s.boot.open_.contains 8 = true ∧ s.timeWaitOver = true) ∧
    (∃ (s : State), s.boot.open_.contains 7 = true ∧ s.boot.open_.contains 8 = true ∧ s.calibrationOver = true) ∧
    (∃ (s : State), s.boot.open_.contains 9 = true ∧ s.laneSyncOver = true) ∧
    (∃ (s : State), s.boot.open_.contains 7 = true ∧ s.boot.open_.contains 8 = true ∧ s.past s.boot.tbDoneAt (ms (s.nat OD.TIME_WAIT)) = true) ∧
    (∃ (s : State), s.boot.open_.contains 6 = true ∧ s.past s.boot.d12At (sec 1) = true ∧ s.nat OD.TB_STATE ≠ 3) :=
    ⟨⟨(pw [(OD.PWR_STATE 1, 0)]) (base), by decide +kernel⟩,
     ⟨base, (0 : Fin 11), by decide +kernel⟩,
     ⟨(fun s => pw [(OD.TB_STATE, 3)] { s with boot := { s.boot with running := true, open_ := [6] } }) (base.putN OD.TB_STATE 3),
         by decide +kernel⟩,
     ⟨(fun s => pw [(OD.PWR_STATE 10, 0)] { s with boot := { s.boot with running := true, open_ := [8, 7] } }) (base), by decide +kernel⟩,
     ⟨(fun s => pw [(OD.PWR_STATE 7, 0)] { s with boot := { s.boot with running := true, open_ := [8, 7] } }) (base), by decide +kernel⟩,
     ⟨(fun s => pw [(OD.SERVING_LANE, 0), (laneKey .b, 4)] { s with boot := { s.boot with running := true, open_ := [9] } }) (base),
         by decide +kernel⟩,
     ⟨(fun s => pw [] { s with boot := { s.boot with running := true, open_ := [8, 7] } }) (base), by decide +kernel⟩,
     ⟨(fun s => pw [(OD.TB_STATE, 1)] { s with boot := { s.boot with running := true, open_ := [6] } }) (base.putN OD.TB_STATE 4),
         by decide +kernel⟩⟩

/-- States and operands that meet the hypotheses of each clause of `Module_resets`. -/
theorem witness_Module_resets :
    (∃ (s : State) (session : Nat), s.Serves ∧ s.resetRefusal session = none ∧ s.pair.handover = none ∧ s.handoverOk = false) ∧
    (∃ (s : State) (session : Nat), s.Serves ∧ s.resetRefusal session = none ∧ s.tbValid = true ∧ s.handoverOk = true) ∧
    (∃ (s : State), s.domainOn 1 = true) ∧
    (∃ (s : State), s.domainOn 1 = true ∧ s.boot.rstLow = false ∧ s.flag OD.RST_STUCK = false ∧ s.nat OD.RST_SCOPE = 0 ∧ s.pair.handover = none ∧
        s.handoverOk = false) ∧
    (∃ (s : State), s.domainOn 1 = true ∧ s.boot.rstLow = true ∧ s.boot.held = 1) ∧
    (∃ (s : State), s.domainOn 1 = true ∧ s.boot.rstLow = true ∧ s.boot.held = 0) ∧
    (∃ (s : State), s.domainOn 1 = true ∧ s.boot.rstLow = true ∧ s.flag OD.RST_STUCK = false ∧ s.past s.boot.rstAt (sec 8) = true ∧
        s.boot.held = 1) ∧
    (∃ (s : State), s.flag OD.RST_STUCK = true ∧ s.boot.rstLow = false ∧ s.past s.boot.rstAt (sec 1) = true) :=
    ⟨⟨base, 64, by delta State.Serves; decide +kernel⟩,
     ⟨(fun s => pw [(OD.PAIR_STATE, 5), (OD.PARTNER_STATE, 4)] s) (base), 64, by delta State.Serves; decide +kernel⟩,
     ⟨base, by decide +kernel⟩,
     ⟨(base.putB OD.RST_STUCK false).putN OD.RST_SCOPE 0, by decide +kernel⟩,
     ⟨(fun s => { s with boot := { s.boot with rstLow := true, held := 1 } }) (base), by decide +kernel⟩,
     ⟨(fun s => { s with boot := { s.boot with rstLow := true } }) (base), by decide +kernel⟩,
     ⟨(fun s => { s with boot := { s.boot with rstLow := true, held := 1 } }) (base.putB OD.RST_STUCK false), by decide +kernel⟩,
     ⟨base.putB OD.RST_STUCK true, by decide +kernel⟩⟩

/-- States and operands that meet the hypotheses of each clause of `Lane_and_partial_resets`. -/
theorem witness_Lane_and_partial_resets :
    (∃ (s : State) (session : Nat) (l : Lane), s.Serves ∧ s.resetRefusal session = none ∧ s.serving ≠ some l) ∧
    (∃ (s : State) (session : Nat) (l : Lane), s.Serves ∧ s.resetRefusal session = none ∧ s.serving = some l ∧ s.laneSt l.other = 4) ∧
    (∃ (s : State) (session : Nat) (l : Lane), s.Serves ∧ s.resetRefusal session = none ∧ s.serving = some l ∧ s.laneSt l.other ≠ 4) ∧
    (∃ (s : State) (l : Lane), s.domainOn 1 = true ∧ s.domainOn (3 + l.num) = true) ∧
    (∃ (s : State) (b : Fin 5), s.domainOn 1 = true ∧ s.bit OD.PR_BUSY (b.val + 1) = false ∧ s.domainOn (blockDomain (b.val + 1)) = true ∧
        (s.boot.wdEnd.any fun (x : Nat × Nat) => decide (x.fst = b.val + 1) && decide (s.now < x.snd + sec 10)) = false) ∧
    (∃ (s : State) (b : Fin 5), s.domainOn 1 = true ∧ s.bit OD.PR_BUSY (b.val + 1) = false ∧ s.domainOn (blockDomain (b.val + 1)) = true ∧
        (s.boot.wdEnd.any fun (x : Nat × Nat) => decide (x.fst = b.val + 1) && decide (s.now < x.snd + sec 10)) = true ∧ s.pair.handover = none ∧
        s.handoverOk = false) ∧
    (∃ (s : State) (session : Nat) (b : Nat), s.Serves ∧ s.resetRefusal session = none ∧ 1 ≤ b ∧ b ≤ 9 ∧ s.prAllowed b = true) ∧
    (∃ (s : State) (session : Nat) (b : Nat), s.Serves ∧ s.resetRefusal session = none ∧ 1 ≤ b ∧ b ≤ 9 ∧ s.prAllowed b = false) ∧
    (∃ (s : State) (b : Fin 10) (t0 : Nat), List.find? (fun (x : Nat × Nat × Bool) => decide (x.fst = b.val)) s.boot.resets = some (b.val, t0,
        false) ∧ s.past t0 (us 5) = true ∧ b.val ∈ [1, 2, 4, 8, 9]) ∧
    (∃ (s : State) (b : Fin 10) (t0 : Nat), List.find? (fun (x : Nat × Nat × Bool) => decide (x.fst = b.val)) s.boot.resets = some (b.val, t0,
        true)) :=
    ⟨⟨(pw [(laneKey .b, 4)]) (base), 64, .b, by delta State.Serves; decide +kernel⟩,
     ⟨(pw [(OD.SERVING_LANE, 0), (laneKey .b, 4)]) ((base.putN OD.SERVING_LANE Lane.a.num).putN (laneKey Lane.a.other) 4), 64, .a,
         by delta State.Serves; decide +kernel⟩,
     ⟨(pw [(OD.SERVING_LANE, 0), (laneKey .b, 1)]) ((base.putN OD.SERVING_LANE Lane.a.num).putN (laneKey Lane.a.other) 5), 64, .a,
         by delta State.Serves; decide +kernel⟩,
     ⟨base, Lane.a, by decide +kernel⟩,
     ⟨base.putBit OD.PR_BUSY (0 + 1) false, (0 : Fin 5), by decide +kernel⟩,
     ⟨(bootf fun x => { x with wdEnd := [(1, 10 ^ 16)] }) (base.putBit OD.PR_BUSY (0 + 1) false), (0 : Fin 5), by decide +kernel⟩,
     ⟨base, 64, 9, by delta State.Serves; decide +kernel⟩,
     ⟨(pw [(OD.OUT_STATE, 1)]) (base), 64, 4, by delta State.Serves; decide +kernel⟩,
     ⟨at_Lane_and_partial_resets_8, (2 : Fin 10), (((List.find? (fun (x : Nat × Nat × Bool) => decide
         (x.fst = 2)) at_Lane_and_partial_resets_8.boot.resets).map (·.2.1)).getD 0), by decide +kernel⟩,
     ⟨at_Lane_and_partial_resets_9, (2 : Fin 10), (((List.find? (fun (x : Nat × Nat × Bool) => decide
         (x.fst = 2)) at_Lane_and_partial_resets_9.boot.resets).map (·.2.1)).getD 0), by decide +kernel⟩⟩

/-- States and operands that meet the hypotheses of each clause of `Law_commands`. -/
theorem witness_Law_commands :
    (∃ (s : State) (session : Nat), s.Serves ∧ s.ownerRefusal session = none ∧ (s.nat OD.LAW_STATE ≠ 0 ∨ s.nat OD.TRIP_LATCH ≠ 0)) ∧
    (∃ (s : State) (session : Nat) (u : State), s.Serves ∧ s.ownerRefusal session = none ∧ u =
        (s.atService session).refreshConfig.putN OD.LINK_CONFIG_STATUS (s.atService session).linkConfig ∧ u.startRefused u.startBlocked = false) ∧
    (∃ (s : State) (session : Nat), s.Serves ∧ s.ownerRefusal session = none ∧ s.gatedState (s.nat OD.LAW_STATE) = true ∧ s.nat OD.LAW_STATE ≠ 7) ∧
    (∃ (s : State) (session : Nat), s.Serves ∧ s.ownerRefusal session = none ∧ s.gatedState (s.nat OD.LAW_STATE) = false ∧ s.nat OD.LAW_STATE ≠ 8) ∧
    (∃ (s : State) (session : Nat), s.Serves ∧ s.ownerRefusal session = none ∧ s.nat OD.LAW_STATE = 8 ∧ s.sup.degFrom = none) ∧
    (∃ (s : State) (session : Nat) (slot : Fin 10) (v : F32), s.Serves ∧ s.ownerRefusal session = none ∧ ffinite v = true ∧ keyInRange
        (setKey slot.val) (BitVec.toNat v).cast = true) ∧
    (∃ (s : State) (session : Nat) (slot : Fin 10) (v : F32), s.Serves ∧ s.ownerRefusal session = none ∧ (ffinite v = false ∨ keyInRange
        (setKey slot.val) (BitVec.toNat v).cast = false)) ∧
    (∃ (s : State) (session : Nat), s.Serves ∧ s.ownerRefusal session = none) :=
    ⟨⟨base.putN OD.LAW_STATE 1, 64, by delta State.Serves; decide +kernel⟩,
     ⟨at_Law_commands_1, 64, (at_Law_commands_1.atService 64).refreshConfig.putN OD.LINK_CONFIG_STATUS (at_Law_commands_1.atService 64).linkConfig,
         by delta State.Serves; decide +kernel⟩,
     ⟨(pw [(OD.LAW_STATE, 4)]) (base.putN OD.LAW_STATE 8), 64, by delta State.Serves; decide +kernel⟩,
     ⟨base.putN OD.LAW_STATE 9, 64, by delta State.Serves; decide +kernel⟩,
     ⟨base.putN OD.LAW_STATE 8, 64, by delta State.Serves; decide +kernel⟩,
     ⟨base, 64, (0 : Fin 10), 0#32, by delta State.Serves; decide +kernel⟩,
     ⟨base, 64, (0 : Fin 10), 0x7F800000, by delta State.Serves; decide +kernel⟩,
     ⟨base, 64, by delta State.Serves; decide +kernel⟩⟩

/-- States and operands that meet the hypotheses of each clause of `Law_start_events`. -/
theorem witness_Law_start_events :
    (∃ (s : State), s.nat OD.LAW_STATE = 2 ∧ s.past s.sup.delayAt (ms (s.nat OD.BS_DELAY_LAST)) = true ∧ s.stillDead = true ∧
        s.nat OD.BS_TOPO = 1) ∧
    (∃ (s : State), s.nat OD.LAW_STATE = 2 ∧ s.past s.sup.delayAt (ms (s.nat OD.BS_DELAY_LAST)) = true ∧ s.stillDead = true ∧
        s.nat OD.BS_TOPO ≠ 1) ∧
    (∃ (s : State), s.nat OD.LAW_STATE = 2 ∧ s.past s.sup.delayAt (ms (s.nat OD.BS_DELAY_LAST)) = true ∧ s.stillDead = false ∧
        s.nat OD.BS_TOPO ≠ 1) ∧
    (∃ (s : State), s.nat OD.LAW_STATE = 2 ∧ s.past s.sup.delayAt (ms (s.nat OD.BS_DELAY_LAST)) = true ∧ s.stillDead = false ∧
        s.nat OD.BS_TOPO = 1) ∧
    (∃ (s : State), s.nat OD.LAW_STATE = 3 ∧ s.past s.sup.closeFrom (ms (s.nat OD.CLOSE_WAIT_MAX)) = true) ∧
    (∃ (s : State), s.nat OD.LAW_STATE = 4 ∧ s.secTicks OD.BS_HOLD_MAX < s.holdTicks) ∧
    (∃ (s : State) (t0 : Nat), s.sup.syncSince = some t0 ∧ s.nat OD.LAW_STATE = 5 ∧ s.flag OD.SYNC_OK = false ∧ s.past t0 (ms
        (s.nat OD.T_SYNC)) = true ∧ s.gatedSync = false) ∧
    (∃ (s : State) (t0 : Nat), s.sup.syncSince = some t0 ∧ s.nat OD.LAW_STATE = 5 ∧ s.flag OD.SYNC_OK = false ∧ s.past t0 (ms
        (s.nat OD.T_SYNC)) = true ∧ s.gatedSync = true) ∧
    (∃ (s : State), s.nat OD.LAW_STATE = 5 ∧ s.flag OD.SYNC_OK = true ∧ s.past s.sup.closeFrom (ms (s.nat OD.CLOSE_WAIT_MAX)) = true) ∧
    (∃ (s : State), s.nat OD.LAW_STATE = 7 ∧ s.past s.sup.stopFrom (ms (s.nat OD.STOP_TIME)) = true) :=
    ⟨⟨(base.putN OD.LAW_STATE 2).putN OD.BS_TOPO 1, by decide +kernel⟩,
     ⟨(base.putN OD.LAW_STATE 2).putN OD.BS_TOPO 2, by decide +kernel⟩,
     ⟨(lawf fun l => { l with rms := [0x3F800000, 0x3F800000, 0x3F800000] }) ((base.putN OD.LAW_STATE 2).putN OD.BS_TOPO 2), by decide +kernel⟩,
     ⟨(lawf fun l => { l with rms := [0x3F800000, 0x3F800000, 0x3F800000] }) ((base.putN OD.LAW_STATE 2).putN OD.BS_TOPO 1), by decide +kernel⟩,
     ⟨base.putN OD.LAW_STATE 3, by decide +kernel⟩,
     ⟨(sup fun x => { x with holdAcc := 10 ^ 15 }) (base.putN OD.LAW_STATE 4), by decide +kernel⟩,
     ⟨at_Law_start_events_6, ((at_Law_start_events_6.sup.syncSince).getD 0), by decide +kernel⟩,
     ⟨at_Law_start_events_7, ((at_Law_start_events_7.sup.syncSince).getD 0), by decide +kernel⟩,
     ⟨(base.putN OD.LAW_STATE 5).putB OD.SYNC_OK true, by decide +kernel⟩,
     ⟨base.putN OD.LAW_STATE 7, by decide +kernel⟩⟩

/-- States and operands that meet the hypotheses of each clause of `Protection_events`. -/
theorem witness_Protection_events :
    (∃ (s : State) (isOver : Bool) (t0 : Nat), ((if isOver = true then s.sup.ov else s.sup.uv).normal = some t0) ∧ s.past t0
        (s.secTicks OD.RT_RESET) = true) ∧
    (∃ (s : State) (t0 : Nat), s.nat OD.LAW_STATE ≠ 0 ∧ s.nat OD.LAW_STATE ≠ 8 ∧ s.sup.vdcUvSince = some t0 ∧ s.past t0 (ms
        (s.nat OD.VDC_UV_TIME)) = true) ∧
    (∃ (s : State) (t0 : Nat), s.nat OD.LAW_STATE ≠ 0 ∧ s.nat OD.LAW_STATE ≠ 8 ∧ s.sup.freqSince = some t0 ∧ s.past t0 (ms
        (s.nat OD.F_TRIP_TIME)) = true) ∧
    (∃ (s : State) (t0 : Nat), s.nat OD.LAW_STATE ≠ 0 ∧ s.nat OD.LAW_STATE ≠ 8 ∧ s.sup.rocofSince = some t0 ∧ s.past t0 (ms
        (s.nat OD.ROCOF_TIME)) = true) ∧
    (∃ (s : State), s.law.limActive = true ∧ s.nat OD.LIM_EXIT_FRAMES ≤ s.law.limQuiet ∧ s.sup.degFrom = none) ∧
    (∃ (s : State) (t0 : Nat), s.law.releaseAt = some t0 ∧ s.past t0 (s.secTicks OD.HOLD_RELEASE) = true) :=
    ⟨⟨at_Protection_events_0, false, (((if false = true then at_Protection_events_0.sup.ov else at_Protection_events_0.sup.uv).normal).getD 0),
        by decide +kernel⟩,
     ⟨at_Protection_events_1, ((at_Protection_events_1.sup.vdcUvSince).getD 0), by decide +kernel⟩,
     ⟨at_Protection_events_2, ((at_Protection_events_2.sup.freqSince).getD 0), by decide +kernel⟩,
     ⟨at_Protection_events_3, ((at_Protection_events_3.sup.rocofSince).getD 0), by decide +kernel⟩,
     ⟨(lawf fun l => { l with limActive := true, limQuiet := 10000 }) (base), by decide +kernel⟩,
     ⟨at_Protection_events_5, ((at_Protection_events_5.law.releaseAt).getD 0), by decide +kernel⟩⟩

/-- States and operands that meet the hypotheses of each clause of `Feedback_events`. -/
theorem witness_Feedback_events :
    (∃ (s : State) (c : Fin 32), s.nat (OD.CH_ROLE c.val) ≠ 0 ∧ s.fbCheck c.val ≠ 0 ∧ s.bit OD.FB_LOST_MASK c.val = false ∧
        s.nat OD.LAW_STATE ≠ 0 ∧ s.nat OD.LAW_STATE ≠ 8 ∧ lossClass (s.nat (OD.CH_ROLE c.val)) ≠ 1) ∧
    (∃ (s : State) (c : Fin 32), s.nat (OD.CH_ROLE c.val) ≠ 0 ∧ s.fbCheck c.val ≠ 0 ∧ s.bit OD.FB_LOST_MASK c.val = false ∧
        s.nat OD.LAW_STATE ≠ 0 ∧ s.nat OD.LAW_STATE ≠ 8 ∧ lossClass (s.nat (OD.CH_ROLE c.val)) = 1 ∧ s.nat (OD.CH_ROLE c.val) < 10 ∧ s.gatedState
        (s.nat OD.LAW_STATE) = true ∧ s.flag OD.OBS_ENABLE = true ∧ s.nat OD.T_BRIDGE ≠ 0) ∧
    (∃ (s : State) (c : Fin 32), s.bit OD.FB_LOST_MASK c.val = true ∧ 64 ≤ (vget { } s.sup.fb c.val).good) ∧
    (∃ (s : State) (k : Nat), s.sup.blend = some k ∧ 64 ≤ k ∧ s.sup.degFrom = none) ∧
    (∃ (s : State), s.sup.bridging = true ∧ s.sup.blend = none ∧ s.sup.degFrom = none ∧ s.gatedState (s.nat OD.LAW_STATE) = true ∧ ms
        (s.nat OD.T_BRIDGE) ≤ s.bridgeTicks ∧ s.nat OD.DEG_STOP_TIME = 0) ∧
    (∃ (s : State), s.sup.bridging = true ∧ s.sup.blend = none ∧ s.sup.degFrom = none ∧ s.gatedState (s.nat OD.LAW_STATE) = true ∧ ms
        (s.nat OD.T_BRIDGE) ≤ s.bridgeTicks ∧ s.nat OD.DEG_STOP_TIME ≠ 0) ∧
    (∃ (s : State) (t0 : Nat), s.sup.degFrom = some t0 ∧ (s.past t0 (ms (s.nat OD.DEG_STOP_TIME)) = true ∨ t0 < s.frame.commitAt ∧
        fisZero s.law.l0 = true)) :=
    ⟨⟨(fun s => sup (fun x => { x with fb := Vector.replicate 32 { notFresh := 1000 } }) (pw [(OD.LAW_STATE, 6)] s)) ((((base.putN
        (OD.CH_ROLE 0) 1).putBit OD.FB_LOST_MASK 0 false).putN OD.LAW_STATE 1).putN OD.LAW_STATE 9), (0 : Fin 32), by decide +kernel⟩,
     ⟨(fun s => sup (fun x => { x with fb := Vector.replicate 32 { notFresh := 1000 } }) (pw [(OD.LAW_STATE, 6), (OD.CH_ROLE 8, 4), (OD.OBS_ENABLE,
         1)] s)) ((((((base.putN
         (OD.CH_ROLE 8) 1).putBit OD.FB_LOST_MASK 8 false).putN OD.LAW_STATE 1).putN OD.LAW_STATE 9).putB OD.OBS_ENABLE true).putN OD.T_BRIDGE 1),
         (8 : Fin 32), by decide +kernel⟩,
     ⟨(sup fun x => { x with fb := Vector.replicate 32 { good := 64 } }) (base.putBit OD.FB_LOST_MASK 0 true), (0 : Fin 32), by decide +kernel⟩,
     ⟨at_Feedback_events_3, ((at_Feedback_events_3.sup.blend).getD 0), by decide +kernel⟩,
     ⟨(fun s => pw [(OD.LAW_STATE, 6)] (sup (fun x => { x with bridging := true, bridgeUsed := 10 ^ 12 }) s)) (base.putN OD.DEG_STOP_TIME 0),
         by decide +kernel⟩,
     ⟨(fun s => pw [(OD.LAW_STATE, 6)] (sup (fun x => { x with bridging := true, bridgeUsed := 10 ^ 12 }) s)) (base.putN OD.DEG_STOP_TIME 1),
         by decide +kernel⟩,
     ⟨at_Feedback_events_6, ((at_Feedback_events_6.sup.degFrom).getD 0), by decide +kernel⟩⟩

/-- States and operands that meet the hypotheses of each clause of `Ld_commands`. -/
theorem witness_Ld_commands :
    (∃ (s : State) (session : Nat) (x : Fin 6) (v : Nat) (r : Reply), s.Serves ∧ s.ownerRefusal session = none ∧ s.ldCmdRefused x.val v = some r) ∧
    (∃ (s : State) (session : Nat) (x : Fin 6) (v : Nat), s.Serves ∧ s.ownerRefusal session = none ∧ s.ldCmdRefused x.val v = none ∧
        (s.ldFunc x.val < 2 ∨ s.ldCmdNow x.val = v ∧ s.ldSt x.val = 2)) ∧
    (∃ (s : State) (session : Nat) (x : Fin 6), s.Serves ∧ s.ownerRefusal session = none ∧ 2 ≤ s.ldFunc x.val ∧
        (s.ldCmdNow x.val ≠ 0 ∨ s.ldSt x.val ≠ 2)) ∧
    (∃ (s : State) (session : Nat) (x : Fin 6), s.Serves ∧ s.ownerRefusal session = none ∧ s.ldCmdRefused x.val 1 = none ∧
        (s.ldSt x.val = 1 ∨ s.ldSt x.val = 2 ∧ s.ldCmdNow x.val ≠ 1) ∧ 2 ≤ s.ldFunc x.val ∧ s.ldPowered x.val = true ∧ s.sgb = false ∧
        s.tbValid = true ∧ (s.ldc x.val).softAt = none ∧ (s.ldc x.val).refreshAt = none) ∧
    (∃ (s : State) (session : Nat) (mask : Nat), s.Serves ∧ s.ownerRefusal session = none ∧ (∃ (x : Nat), x < 6 ∧ mask.testBit x = true ∧
        (s.ldc x).desatHigh = true)) ∧
    (∃ (s : State) (session : Nat) (mask : Nat), s.Serves ∧ s.ownerRefusal session = none ∧ (∀ (x : Nat), x < 6 → mask.testBit x = true →
        (s.ldc x).desatHigh = false)) :=
    ⟨⟨at_Ld_commands_0, 64, (0 : Fin 6), 7, ((at_Ld_commands_0.ldCmdRefused 0 7).getD ({ })), by delta State.Serves; decide +kernel⟩,
     ⟨base, 64, (0 : Fin 6), 0, by delta State.Serves; decide +kernel⟩,
     ⟨(pw [(OD.LD_FUNC 1, 3), (OD.LD_CMD 1, 1)]) (base), 64, (0 : Fin 6), by delta State.Serves; decide +kernel⟩,
     ⟨(pw [(OD.LD_FUNC 1, 3), (OD.LD_STATE 1, 1), (OD.SAFETY_STATE, 1)]) (base), 64, (0 : Fin 6), by delta State.Serves; decide +kernel⟩,
     ⟨(ldall fun c => { c with desatHigh := true }) (base), 64, 1, by delta State.Serves; decide +kernel⟩,
     ⟨base, 64, 0, by delta State.Serves; decide +kernel⟩⟩

/-- States and operands that meet the hypotheses of each clause of `Ld_events`. -/
theorem witness_Ld_events :
    (∃ (s : State) (x : Fin 6), s.ldFunc x.val = 1 ∧ s.ltc % s.ldPeriod x.val = 0 ∧ (s.ldc x.val).duties = [] ∧ (s.ldc x.val).unavailable = false ∧
        (s.ldc x.val).refreshAt = none ∧ s.ldFree x.val = true) ∧
    (∃ (s : State) (x : Fin 6) (p : F32 × Nat), s.ldFunc x.val = 1 ∧ s.ltc % s.ldPeriod x.val = 0 ∧ List.find? (fun (q : F32 × Nat) => decide
        (q.snd + 64 < s.now)) (s.ldc x.val).duties = some p) ∧
    (∃ (s : State) (x : Fin 6), s.ldFunc x.val = 1 ∧ (s.ldc x.val).refreshAt = none ∧ (s.ldc x.val).on = true ∧ s.past (s.ldc x.val).periodAt
        (s.ldOnTicks x.val) = true ∧ s.ldOnTicks x.val + 625 ≤ s.ldPeriod x.val) ∧
    (∃ (s : State) (x : Fin 6), s.ldFunc x.val = 1 ∧ (s.ldc x.val).holdOff = false ∧ s.ldSt x.val = 2 ∧ s.past s.frame.commitAt ((us
        (s.nat OD.CMD_TIMEOUT)).max (5 * s.nat OD.FRAME_PERIOD)) = true) ∧
    (∃ (s : State) (x : Fin 6), s.ldFunc x.val = 2 ∧ (s.ldc x.val).on = true ∧ s.past (s.ldc x.val).runSince (ms (s.nat (OD.PRECH_TIME_MAX
        (x.val + 1)))) = true) ∧
    (∃ (s : State) (x : Fin 6), s.ldFunc x.val ≠ 0 ∧ s.ldPowered x.val = true) ∧
    (∃ (s : State) (x : Fin 6) (vneg : Bool), s.ldFunc x.val ≠ 0 ∧ s.ldPowered x.val = true ∧ (vneg = true → s.vnegUsed x.val = true) ∧
        ((if vneg = true then (s.ldc x.val).uvNeg else (s.ldc x.val).uvPos) = false) ∧ (s.ldc x.val).softAt = none ∧
        (vneg = true ∨ s.bootEmpty x.val = false)) ∧
    (∃ (s : State) (x : Fin 6) (vneg : Bool), s.ldFunc x.val ≠ 0 ∧ s.ldPowered x.val = true ∧ (vneg = true → s.vnegUsed x.val = true) ∧
        ((if vneg = true then (s.ldc x.val).uvNeg else (s.ldc x.val).uvPos) = false) ∧ (s.ldc x.val).softAt = none ∧ vneg = false ∧
        s.bootEmpty x.val = true) ∧
    (∃ (s : State) (x : Fin 6) (t0 : Nat), (s.ldc x.val).recoverAt = some t0 ∧ s.past t0 (ms 1) = true ∧ s.ldSt x.val ≠ 8) ∧
    (∃ (s : State) (x : Fin 6) (t0 : Nat), (s.ldc x.val).lowSince = some t0 ∧ s.ldFunc x.val = 1 ∧ s.nat OD.CH_LD = x.val + 1 ∧
        (s.ldSt x.val = 7 ∨ s.ldSt x.val = 8) ∧ (s.ldc x.val).unavailable = false ∧ s.past t0 (sec 1) = true) ∧
    (∃ (s : State) (x : Fin 6) (hard : Bool), (s.ldc x.val).on = true ∧ s.flag (OD.DESAT_EN (x.val + 1)) = true ∧ s.shortSeen x.val hard = true ∧
        s.shortGroup x.val = []) ∧
    (∃ (s : State) (x : Fin 6) (hard : Bool), (s.ldc x.val).on = true ∧ s.flag (OD.DESAT_EN (x.val + 1)) = true ∧ s.shortSeen x.val hard = true ∧
        s.shortGroup x.val ≠ []) ∧
    (∃ (s : State) (x : Fin 6) (t0 : Nat), (s.ldc x.val).softAt = some t0 ∧ s.past t0 (s.usTicks (OD.SOFT_OFF (x.val + 1))) = true ∧
        s.ldSt x.val = 3) ∧
    (∃ (s : State) (x : Fin 6) (t0 : Nat), (s.ldc x.val).waitAt = some t0 ∧ s.ldSt x.val = 4 ∧ s.past t0 (ms (s.nat (OD.RETRY_WAIT
        (x.val + 1)))) = true) ∧
    (∃ (s : State) (x : Fin 6), s.ldSt x.val = 2 ∧ s.past (s.ldc x.val).runSince (sec 60) = true) ∧
    (∃ (s : State) (x : Fin 6), s.nat (OD.LD_SUPPLY (x.val + 1)) = 1 ∧ s.flag (OD.BOOT_REFRESH_EN (x.val + 1)) = true ∧ (s.ldc x.val).on = true ∧
        s.past (s.ldc x.val).contOnAt (us (s.nat (OD.BOOT_INTERVAL (x.val + 1)))) = true) :=
    ⟨⟨(pw [(OD.LD_FUNC 1, 1), (OD.LD_STATE 1, 1), (OD.SAFETY_STATE, 1)]) (base), (0 : Fin 6), by decide +kernel⟩,
     ⟨at_Ld_events_1, (0 : Fin 6), ((List.find? (fun (q : F32 × Nat) => decide (q.snd + 64 < at_Ld_events_1.now))
         (at_Ld_events_1.ldc 0).duties).getD ((0#32, 0))), by decide +kernel⟩,
     ⟨(fun s => ldall (fun c => { c with on := true }) (pw [(OD.LD_FUNC 1, 1), (OD.LD_STATE 1, 2), (OD.SAFETY_STATE, 1)] s)) (base), (0 : Fin 6),
         by decide +kernel⟩,
     ⟨(fun s => ldall (fun c => { c with on := true }) (pw [(OD.LD_FUNC 1, 1), (OD.LD_STATE 1, 2), (OD.SAFETY_STATE, 1)] s)) (base), (0 : Fin 6),
         by decide +kernel⟩,
     ⟨(fun s => ldall (fun c => { c with on := true }) (pw [(OD.LD_FUNC 1, 2), (OD.LD_STATE 1, 2), (OD.SAFETY_STATE, 1)] s)) (base), (0 : Fin 6),
         by decide +kernel⟩,
     ⟨(pw [(OD.LD_FUNC 1, 1), (OD.LD_STATE 1, 1)]) (base), (0 : Fin 6), by decide +kernel⟩,
     ⟨(pw [(OD.LD_FUNC 1, 1), (OD.LD_STATE 1, 1)]) (base), (0 : Fin 6), false, by decide +kernel⟩,
     ⟨at_Ld_events_7, (0 : Fin 6), false, by decide +kernel⟩,
     ⟨at_Ld_events_8, (0 : Fin 6), (((at_Ld_events_8.ldc 0).recoverAt).getD 0), by decide +kernel⟩,
     ⟨at_Ld_events_9, (0 : Fin 6), (((at_Ld_events_9.ldc 0).lowSince).getD 0), by decide +kernel⟩,
     ⟨(fun s => ldall (fun c => { c with on := true }) (pw [(OD.LD_FUNC 1, 3), (OD.LD_STATE 1, 2), (OD.DESAT_EN 1, 1)] s)) (base.putB (OD.DESAT_EN
         (0 + 1)) true), (0 : Fin 6), false, by decide +kernel⟩,
     ⟨(fun s => ldall (fun c => { c with on := true, detectAt := some (10 ^ 16) }) (pw [(OD.LD_FUNC 1, 3), (OD.LD_STATE 1, 2), (OD.DESAT_EN 1,
         1)] s)) (base.putB (OD.DESAT_EN (0 + 1)) true), (0 : Fin 6), false, by decide +kernel⟩,
     ⟨at_Ld_events_12, (0 : Fin 6), (((at_Ld_events_12.ldc 0).softAt).getD 0), by decide +kernel⟩,
     ⟨at_Ld_events_13, (0 : Fin 6), (((at_Ld_events_13.ldc 0).waitAt).getD 0), by decide +kernel⟩,
     ⟨(fun s => ldall (fun c => { c with on := true }) (pw [(OD.LD_FUNC 1, 3), (OD.LD_STATE 1, 2)] s)) (base), (0 : Fin 6), by decide +kernel⟩,
     ⟨(fun s => ldall (fun c => { c with on := true }) (pw [(OD.LD_FUNC 1, 3), (OD.LD_STATE 1, 2), (OD.LD_SUPPLY 1, 1), (OD.BOOT_REFRESH_EN 1,
         1)] s)) ((base.putN (OD.LD_SUPPLY (0 + 1)) 1).putB (OD.BOOT_REFRESH_EN (0 + 1)) true), (0 : Fin 6), by decide +kernel⟩⟩

/-- States and operands that meet the hypotheses of each clause of `Pwm_edges`. -/
theorem witness_Pwm_edges :
    (∃ (s : State) (c : Fin 8), (s.nat OD.OUT_STATE = 1 ∨ s.nat OD.OUT_STATE = 2) ∧ s.flag (OD.CAR_EN c.val) = true ∧ s.atReload c.val = true ∧
        (s.car c.val).at1 ≠ s.ltc.cast) ∧
    (∃ (s : State) (p : Fin 24) (high : Bool) (on : Nat) (off : Nat), (on = if high = true then 2 * p.val else 2 * p.val + 1) ∧
        (off = if high = true then 2 * p.val + 1 else 2 * p.val) ∧ s.nat (OD.PAIR_USE p.val) = 1 ∧ (s.pair' p.val).switching = true ∧
        s.pwm.seq = none ∧ forceOff (s.pair' p.val).active = false ∧ (s.pair' p.val).delayed = none ∧ s.compareState p.val = high ∧
        (s.pair' p.val).seen ≠ some high ∧ ((s.chan off).active = false ∧ (s.chan off).stretched = false ∨ (s.chan off).active = true ∧
        s.guardOff off ≤ s.now ∧ (s.nat OD.MIN_PULSE = 0 ∨ s.pulseOk off ≤ s.now))) ∧
    (∃ (s : State) (p : Fin 24) (high : Bool) (on : Nat) (off : Nat), (on = if high = true then 2 * p.val else 2 * p.val + 1) ∧
        (off = if high = true then 2 * p.val + 1 else 2 * p.val) ∧ s.nat (OD.PAIR_USE p.val) = 1 ∧ (s.pair' p.val).switching = true ∧
        s.pwm.seq = none ∧ forceOff (s.pair' p.val).active = false ∧ (s.pair' p.val).delayed = none ∧ s.compareState p.val = high ∧
        (s.pair' p.val).seen ≠ some high ∧ (s.chan off).active = true ∧ s.guardOff off ≤ s.now ∧ s.nat OD.MIN_PULSE ≠ 0 ∧ s.now < s.pulseOk off) ∧
    (∃ (s : State) (p : Fin 24) (high : Bool) (on : Nat) (off : Nat), (on = if high = true then 2 * p.val else 2 * p.val + 1) ∧
        (off = if high = true then 2 * p.val + 1 else 2 * p.val) ∧ s.nat (OD.PAIR_USE p.val) = 1 ∧ (s.pair' p.val).switching = true ∧
        s.pwm.seq = none ∧ forceOff (s.pair' p.val).active = false ∧ (s.pair' p.val).delayed = none ∧ s.compareState p.val = high ∧
        (s.pair' p.val).seen ≠ some high ∧ (s.chan off).active = false ∧ (s.chan off).stretched = true) ∧
    (∃ (s : State) (p : Fin 24) (high : Bool), (s.pair' p.val).delayed = none ∧ (s.compareState p.val ≠ high ∨ (s.pair' p.val).seen = some high)) ∧
    (∃ (s : State) (ch : Fin 48) (t0 : Nat), (s.chan ch.val).turnOn = some t0 ∧ t0 ≤ s.now ∧ s.pwm.seq = none ∧ s.guardOn ch.val ≤ s.now) ∧
    (∃ (s : State) (ch : Fin 48) (t0 : Nat), (s.chan ch.val).turnOn = some t0 ∧ t0 ≤ s.now ∧ s.pwm.seq = none ∧ s.now < s.guardOn ch.val) :=
    ⟨⟨(fun s => (pw [(OD.OUT_STATE, 2), (OD.PAIR_USE 0, 1), (OD.PAIR_CARRIER 0, 0)] s).setPair 0 { pending := some 0x12345678 })
        ((base.putN OD.OUT_STATE 1).putB (OD.CAR_EN 0) true), (0 : Fin 8), by decide +kernel⟩,
     ⟨(fun s => (pwmf (fun p => { p with channels := Vector.replicate 48 { active := true, edgeAt := 0 } })
         (s.setPair 0 { switching := true, active := 0x1000 }))) (base.putN (OD.PAIR_USE 0) 1), (0 : Fin 24), false, 1, 0, by decide +kernel⟩,
     ⟨(fun s => (pwmf (fun p => { p with channels := Vector.replicate 48 { active := true, edgeAt := 10 ^ 16 } })
         (s.setPair 0 { switching := true, active := 0x1000 }))) ((base.putN (OD.PAIR_USE 0) 1).putN OD.MIN_PULSE 1), (0 : Fin 24), false, 1, 0,
         by decide +kernel⟩,
     ⟨(fun s => (pwmf (fun p => { p with channels := Vector.replicate 48 { stretched := true } })
         (s.setPair 0 { switching := true, active := 0x1000 }))) (base.putN (OD.PAIR_USE 0) 1), (0 : Fin 24), false, 1, 0, by decide +kernel⟩,
     ⟨base, (0 : Fin 24), false, by decide +kernel⟩,
     ⟨at_Pwm_edges_5, (0 : Fin 48), (((at_Pwm_edges_5.chan 0).turnOn).getD 0), by decide +kernel⟩,
     ⟨at_Pwm_edges_6, (0 : Fin 48), (((at_Pwm_edges_6.chan 0).turnOn).getD 0), by decide +kernel⟩⟩

/-- States and operands that meet the hypotheses of each clause of `Pwm_stops`. -/
theorem witness_Pwm_stops :
    (∃ (s : State) (q : StopSeq), s.pwm.seq = some q ∧ q.step2 = true ∧ s.past q.at1 (q.span (s.nat OD.T_OI)) = true ∧ q.clamp = false) ∧
    (∃ (s : State) (q : StopSeq), s.pwm.seq = some q ∧ q.step2 = true ∧ s.past q.at1 (q.span (s.nat OD.T_OI)) = true ∧ q.clamp = true) ∧
    (∃ (s : State) (q : StopSeq), s.pwm.seq = some q ∧ q.clamp = true ∧ s.past q.at1 ((q.span (ms (s.nat OD.CLAMP_TIME))).max (q.span
        (s.nat OD.T_OI))) = true) ∧
    (∃ (s : State) (l : Lane), s.serving = some l) ∧
    (∃ (s : State) (l : Lane), s.serving ≠ some l) ∧
    (∃ (s : State) (i : Fin 4) (level : Bool), s.tripAsserts i.val level = false) ∧
    (∃ (s : State) (i : Fin 4) (level : Bool), s.tripAsserts i.val level = true ∧ s.past ((s.tripIn i.val).assertedAt.getD s.now) (s.nat
        (OD.TRIP_FILT i.val)) = true ∧ s.now < (s.tripIn i.val).blankUntil) ∧
    (∃ (s : State) (i : Fin 4) (level : Bool), s.tripAsserts i.val level = true ∧ s.past ((s.tripIn i.val).assertedAt.getD s.now) (s.nat
        (OD.TRIP_FILT i.val)) = true ∧ (s.tripIn i.val).blankUntil ≤ s.now ∧ s.flag (OD.TRIP_EN i.val) = true ∧ s.bit OD.TRIP_LATCH i.val = false) ∧
    (∃ (s : State) (i : Fin 4), (s.tripIn i.val).waiting = true ∧ (s.tripIn i.val).blankUntil ≤ s.now ∧ (s.tripIn i.val).assertedAt = none) ∧
    (∃ (s : State) (i : Fin 4), (s.tripIn i.val).waiting = true ∧ (s.tripIn i.val).blankUntil ≤ s.now ∧ (s.tripIn i.val).assertedAt.isSome = true ∧
        s.flag (OD.TRIP_EN i.val) = true ∧ s.bit OD.TRIP_LATCH i.val = false) ∧
    (∃ (s : State), s.nat OD.OUT_STATE = 2 ∧ s.past s.pwm.loadAllAt ((us (s.nat OD.CMD_TIMEOUT)).max (5 * s.nat OD.FRAME_PERIOD)) = true) ∧
    (∃ (s : State) (session : Nat) (mask : Nat), s.Serves ∧ s.ownerRefusal session = none ∧ (∃ (b : Nat), b < 9 ∧ mask.testBit b = true ∧
        s.tripPersists b = true)) ∧
    (∃ (s : State) (session : Nat) (mask : Nat), s.Serves ∧ s.ownerRefusal session = none ∧ (∀ (b : Nat),
        b < 9 → mask.testBit b = true → s.tripPersists b = false) ∧ mask.testBit 8 = false) :=
    ⟨⟨at_Pwm_stops_0, ((at_Pwm_stops_0.pwm.seq).getD ({ step2 := false, endState := 0 })), by decide +kernel⟩,
     ⟨at_Pwm_stops_1, ((at_Pwm_stops_1.pwm.seq).getD ({ step2 := false, endState := 0 })), by decide +kernel⟩,
     ⟨at_Pwm_stops_2, ((at_Pwm_stops_2.pwm.seq).getD ({ step2 := false, endState := 0 })), by decide +kernel⟩,
     ⟨base.putN OD.SERVING_LANE Lane.a.num, .a, by decide +kernel⟩,
     ⟨base, .b, by decide +kernel⟩,
     ⟨base, (0 : Fin 4), true, by decide +kernel⟩,
     ⟨(trips fun x => { x with assertedAt := some 0, blankUntil := 10 ^ 17 }) (base), (0 : Fin 4), false, by decide +kernel⟩,
     ⟨(fun s => trips (fun x => { x with assertedAt := some 0 }) (pw [(OD.TRIP_EN 0, 1)] s)) ((base.putB
         (OD.TRIP_EN 0) true).putBit OD.TRIP_LATCH 0 false), (0 : Fin 4), false, by decide +kernel⟩,
     ⟨(trips fun x => { x with waiting := true }) (base), (0 : Fin 4), by decide +kernel⟩,
     ⟨(fun s => trips (fun x => { x with waiting := true, assertedAt := some 0 }) (pw [(OD.TRIP_EN 0, 1)] s)) ((base.putB
         (OD.TRIP_EN 0) true).putBit OD.TRIP_LATCH 0 false), (0 : Fin 4), by decide +kernel⟩,
     ⟨base.putN OD.OUT_STATE 2, by decide +kernel⟩,
     ⟨(fun s => trips (fun x => { x with assertedAt := some 0 }) (pw [(OD.TRIP_EN 0, 1)] s)) (base), 64, 1, by delta State.Serves; decide +kernel⟩,
     ⟨base, 64, 0, by delta State.Serves; decide +kernel⟩⟩

/-- States and operands that meet the hypotheses of each clause of `Adc_and_filters`. -/
theorem witness_Adc_and_filters :
    (∃ (s : State) (c : Fin 32) (k : Int), s.coreRuns c.val = true ∧ s.inFlight c.val = false ∧ s.slotNow c.val = some k ∧
        s.coreFeeds c.val = true) ∧
    (∃ (s : State) (c : Fin 32) (k : Int), s.coreRuns c.val = true ∧ (s.inFlight c.val = true ∨ s.slotNow c.val = some k ∧
        s.coreFeeds c.val = false)) ∧
    (∃ (s : State) (c : Fin 32) (k : Int), s.coreRuns c.val = true ∧ s.inFlight c.val = false ∧ s.slotNow c.val ≠ some k) ∧
    (∃ (s : State) (c : Fin 32) (e : Fin 15) (h : Nat), s.coreRuns c.val = true ∧ s.placeBefore c.val 100 = some h ∧
        (s.dueSweep c.val).seqHead c.val (h / 2) = some (e.val + 1) ∧ s.calFirst c.val = false) ∧
    (∃ (s : State) (c : Fin 32) (code : Int), s.coreRuns c.val = true ∧ (s.core c.val).calDone = false ∧ s.adcUnit.calNeeded = false ∧
        (s.slotNow c.val).isSome = true ∧ (s.core c.val).calAgnd + 1 < 64 ∧ agndBad (satCode code) = false ∧ (s.core c.val).ownBad < 3) ∧
    (∃ (s : State) (c : Fin 32) (code : Int), s.coreRuns c.val = true ∧ (s.core c.val).calDone = false ∧ s.adcUnit.calNeeded = false ∧
        (s.slotNow c.val).isSome = true ∧ (s.core c.val).calAgnd + 1 < 64 ∧ agndBad (satCode code) = true ∧ (s.core c.val).agndBad = 2) ∧
    (∃ (s : State) (c : Fin 32) (h : Nat) (code : Int), s.coreRuns c.val = true ∧ (s.core c.val).calDone = true ∧
        s.placeBefore c.val 100 = some h ∧ s.calDue c.val 0 0 = true ∧ s.calFirst c.val = false ∧ (s.dueSweep c.val).seqHead c.val (h / 2) = none ∧
        agndBad (satCode code) = false ∧ (s.core c.val).ownBad < 3 ∧ -32768 ≤ s.int (OD.ADC_OFFSET_CAL c.val) ∧ s.int
        (OD.ADC_OFFSET_CAL c.val) ≤ 32767) ∧
    (∃ (s : State) (c : Fin 32) (window : Bool), s.coreRuns c.val = true ∧ s.holdLate c.val window = true ∧ (s.core c.val).faulted = false) ∧
    (∃ (s : State) (c : Fin 32) (window : Bool), s.holdLate c.val window = false) ∧
    (∃ (s : State), s.adcUnit.calNeeded = true ∧ s.domainOn 7 = true ∧ s.tbValid = true) ∧
    (∃ (s : State), s.nat OD.ADC_CAL_STATE = 1 ∧ s.adcUnit.calNeeded = false ∧ (∀ (c : Fin 32), s.coreOn c.val = true →
        (s.core c.val).calDone = true)) ∧
    (∃ (s : State), s.nat OD.ADC_CAL_STATE = 1 ∧ s.adcUnit.calNeeded = false ∧ (∀ (c : Fin 32), s.coreOn c.val = true →
        (s.core c.val).calDone = true ∨ (s.core c.val).calBad = true) ∧ (∃ (c : Fin 32), s.coreOn c.val = true ∧ (s.core c.val).calDone = false)) ∧
    (∃ (s : State), s.nat OD.ADC_CAL_STATE = 1 ∧ s.adcUnit.calNeeded = true) ∧
    (∃ (s : State), s.domainOn 7 = true ∧ s.tbValid = true) ∧
    (∃ (s : State) (n : Fin 32), s.domainOn 8 = true ∧ s.chanValid n.val = true) ∧
    (∃ (s : State) (n : Fin 32), s.domainOn 8 = true ∧ s.chanValid n.val = true ∧ (s.chain n.val).cicLeft ≠ 0) ∧
    (∃ (s : State) (n : Fin 32), s.domainOn 8 = true ∧ s.chanValid n.val = true ∧ s.firOn n.val = true ∧ (s.chain n.val).firLeft ≠ 0) ∧
    (∃ (s : State) (n : Fin 32), (s.chain n.val).cicLeft = 0 ∧ (s.chain n.val).firLeft = 0 ∧ (s.chain n.val).rsLeft = 0 ∧
        (s.chain n.val).settled = false ∧ s.chanValid n.val = true) ∧
    (∃ (s : State) (n : Fin 32) (t0 : Nat), (s.chain n.val).gridsync = false ∧ (s.chain n.val).binGoodAt = some t0 ∧ s.nat (OD.RS_MODE n.val) = 2 ∧
        (s.past t0 (4 * 625000000 / if s.nat OD.F_NOM = 1 then 60 else 50) = true)) ∧
    (∃ (s : State) (n : Fin 32), (s.chain n.val).gridsync = true ∧ flt (fq 1 (2 * s.nat (OD.RS_K n.val))) (s.chain n.val).binErr = true) :=
    ⟨⟨at_Adc_and_filters_0, (0 : Fin 32), ((at_Adc_and_filters_0.slotNow 0).getD (Int.ofNat 0)), by decide +kernel⟩,
     ⟨(adcAt 0 fun c => { c with switchAt := some (10 ^ 12 - 50) }) (base), (0 : Fin 32), Int.ofNat 0, by decide +kernel⟩,
     ⟨(cores fun c => { c with calDone := true }) (base), (0 : Fin 32), Int.ofNat 0, by decide +kernel⟩,
     ⟨at_Adc_and_filters_3, (0 : Fin 32), (0 : Fin 15), ((at_Adc_and_filters_3.placeBefore 0 100).getD 0), by decide +kernel⟩,
     ⟨(adcAt 0 id) (base), (0 : Fin 32), Int.ofNat 0, by decide +kernel⟩,
     ⟨(adcAt 0 fun c => { c with agndBad := 2 }) (base), (0 : Fin 32), 5000, by decide +kernel⟩,
     ⟨at_Adc_and_filters_6, (0 : Fin 32), ((at_Adc_and_filters_6.placeBefore 0 100).getD 0), Int.ofNat 0, by decide +kernel⟩,
     ⟨base, (0 : Fin 32), false, by decide +kernel⟩,
     ⟨(cores fun c => { c with lastHold := 10 ^ 13 }) (base), (0 : Fin 32), false, by decide +kernel⟩,
     ⟨base, by decide +kernel⟩,
     ⟨(fun s => cores (fun c => { c with calDone := true }) { s with adcUnit := { s.adcUnit with calNeeded := false } })
         (base.putN OD.ADC_CAL_STATE 1), by decide +kernel⟩,
     ⟨(fun s => cores (fun c => { c with calBad := true }) (pw [(OD.ADC_ENABLE 0,
         1)] { s with adcUnit := { s.adcUnit with calNeeded := false } })) (base.putN OD.ADC_CAL_STATE 1), by decide +kernel, by decide +kernel,
         by decide +kernel, ⟨0, by decide +kernel⟩⟩,
     ⟨base.putN OD.ADC_CAL_STATE 1, by decide +kernel⟩,
     ⟨base, by decide +kernel⟩,
     ⟨(adcAt 0 fun c => { c with calDone := true }) (base), (0 : Fin 32), by decide +kernel⟩,
     ⟨(fun s => chns (fun c => { c with cicLeft := 5 }) (adcAt 0 (fun c => { c with calDone := true }) s)) (base), (0 : Fin 32), by decide +kernel⟩,
     ⟨(fun s => chns (fun c => { c with firLeft := 5 }) (pw [(OD.FIR_SET 0, 0)] (adcAt 0 (fun c => { c with calDone := true }) s))) (base),
         (0 : Fin 32), by decide +kernel⟩,
     ⟨(fun s => chns (fun c => { c with cicLeft := 0 }) (cores (fun c => { c with calDone := true }) (pw [(OD.ADC_ENABLE 0, 1)] s))) (base),
         (0 : Fin 32), by decide +kernel⟩,
     ⟨at_Adc_and_filters_19, (0 : Fin 32), (((at_Adc_and_filters_19.chain 0).binGoodAt).getD 0), by decide +kernel⟩,
     ⟨(chns fun c => { c with gridsync := true, binErr := 0x40000000 }) (base), (0 : Fin 32), by decide +kernel⟩⟩

/-- States and operands that meet the hypotheses of each clause of `Frame_boundary_and_block`. -/
theorem witness_Frame_boundary_and_block :
    (∃ (s : State), s.tbValid = true ∧ s.frame.grid = true ∧ s.stopBursts.owedBursts.boundaryCame = true ∧
        s.stopBursts.owedBursts.switchFirst = false ∧ s.boot.resetDue = none ∧ s.lanes.afterSwapOff = []) ∧
    (∃ (s : State), s.tbValid = true ∧ s.frame.grid = false ∧ s.frame.begun = false ∧ s.boot.resetDue = none ∧ s.lanes.afterSwapOff = []) ∧
    (∃ (s : State), s.tbValid = false) ∧
    (∃ (s : State), s.frame.grid = true ∧ (s.stopBursts.owedBursts.boundaryCame = false ∨ s.stopBursts.owedBursts.switchFirst = true)) ∧
    (∃ (s : State), s.frame.grid = true) ∧
    (∃ (s : State), s.frame.grid = true ∧ s.ltc ≤ s.gridAfter (s.frame.t0 + s.fTicks / 2) + s.fTicks + 1125) ∧
    (∃ (s : State), s.frame.grid = false) ∧
    (∃ (s : State), s.frame.begun = true ∧ s.frame.block = none ∧ s.frame.missed = false ∧ s.frame.t0 + 875 ≤ s.ltc ∧ s.tbValid = true ∧
        s.domainOn 8 = true ∧ s.frame.chainReset = false ∧ s.bit OD.PR_BUSY 5 = false) ∧
    (∃ (s : State), s.frame.begun = true ∧ s.frame.block = none ∧ s.frame.missed = false ∧ s.frame.t0 + 875 ≤ s.ltc ∧
        (s.tbValid = false ∨ s.domainOn 8 = false ∨ s.frame.chainReset = true ∨ s.bit OD.PR_BUSY 5 = true)) ∧
    (∃ (s : State), (s.frame.begun = false ∨ s.frame.block ≠ none ∨ s.frame.missed = true ∨ s.ltc < s.frame.t0 + 875)) :=
    ⟨⟨(frm fun f => { f with grid := true, t0 := 10 ^ 12 - 2000 }) (base), by decide +kernel⟩,
     ⟨base, by decide +kernel⟩,
     ⟨(pw [(OD.TB_STATE, 1)]) (base), by decide +kernel⟩,
     ⟨(frm fun f => { f with grid := true, begun := true, t0 := 10 ^ 12 }) (base), by decide +kernel⟩,
     ⟨(frm fun f => { f with begun := true, grid := true }) (base), by decide +kernel⟩,
     ⟨(frm fun f => { f with grid := true, begun := true, t0 := 10 ^ 12 }) (base), by decide +kernel⟩,
     ⟨base, by decide +kernel⟩,
     ⟨(frm fun f => { f with begun := true, grid := true }) (base.putBit OD.PR_BUSY 5 false), by decide +kernel⟩,
     ⟨(fun s => frm (fun f => { f with begun := true, grid := true }) (pw [(OD.PWR_STATE 8, 0)] s)) (base), by decide +kernel⟩,
     ⟨base, by decide +kernel⟩⟩

/-- States and operands that meet the hypotheses of each clause of `Frame_paths`. -/
theorem witness_Frame_paths :
    (∃ (s : State), s.frame.begun = true ∧ s.blockUsed = none ∧ s.frame.specOn = false ∧ s.fullOnly = false ∧ s.frame.path = none) ∧
    (∃ (s : State) (l : Lane) (b : FpBlock), s.serving = some l ∧ s.blockUsed = some b ∧ s.frame.begun = true ∧ s.frame.path = none ∧
        s.laneDone l = false ∧ (s.lane l).frameBad = false ∧ s.ltc ≤ s.deadline ∧ s.fullOnly = true) ∧
    (∃ (s : State) (l : Lane) (b : FpBlock), s.serving = some l ∧ s.blockUsed = some b ∧ s.frame.begun = true ∧ s.frame.path = none ∧
        s.laneDone l = false ∧ (s.lane l).frameBad = false ∧ s.ltc ≤ s.deadline ∧ s.fullOnly = false ∧ s.awaitsPath = true) ∧
    (∃ (s : State) (l : Lane) (b : FpBlock) (done : Bool) (c : Nat), s.serving = some l ∧ s.blockUsed = some b ∧ s.frame.begun = true ∧
        s.frame.path = none ∧ s.laneDone l = false ∧ (s.lane l).frameBad = false ∧ s.ltc ≤ s.deadline ∧ s.fullOnly = false ∧
        s.followsPartner = false ∧ s.squashCause l b done = some c ∧ s.frame.streak + 1 < 8) ∧
    (∃ (s : State) (l : Lane) (b : FpBlock) (done : Bool) (c : Nat), s.serving = some l ∧ s.blockUsed = some b ∧ s.frame.begun = true ∧
        s.frame.path = none ∧ s.laneDone l = false ∧ (s.lane l).frameBad = false ∧ s.ltc ≤ s.deadline ∧ s.fullOnly = false ∧
        s.followsPartner = false ∧ s.squashCause l b done = some c ∧ 8 ≤ s.frame.streak + 1) ∧
    (∃ (s : State) (l : Lane) (b : FpBlock) (done : Bool) (sp : Law), s.serving = some l ∧ s.blockUsed = some b ∧ s.frame.begun = true ∧
        s.frame.path = none ∧ s.laneDone l = false ∧ (s.lane l).frameBad = false ∧ s.ltc ≤ s.deadline ∧ s.fullOnly = false ∧ s.awaitsPath = false ∧
        (s.lane l).spec = some sp ∧ (s.followsPartner = false ∧ s.squashCause l b done = none ∨ s.followsPartner = true ∧
        s.namedPath = some true)) ∧
    (∃ (s : State) (l : Lane) (b : FpBlock), s.serving = some l ∧ s.blockUsed = some b ∧ s.frame.begun = true ∧ s.frame.path = none ∧
        s.laneDone l = false ∧ (s.lane l).frameBad = false ∧ s.ltc ≤ s.deadline ∧ s.fullOnly = false ∧ s.followsPartner = true ∧
        s.namedPath = some false) ∧
    (∃ (s : State) (l : Lane) (b : FpBlock), s.blockUsed = some b ∧ s.frame.begun = true ∧ s.computing l = true ∧ (s.lane l).done = false ∧
        (s.lane l).frameBad = false ∧ s.ltc ≤ s.deadline ∧ s.awaitsPath = false ∧ (s.frame.path = some false ∨ s.fullOnly = true) ∧
        s.serving = some l) ∧
    (∃ (s : State) (l : Lane) (b : FpBlock), s.blockUsed = some b ∧ s.frame.begun = true ∧ s.computing l = true ∧ (s.lane l).done = false ∧
        (s.lane l).frameBad = false ∧ s.ltc ≤ s.deadline ∧ s.awaitsPath = false ∧ (s.frame.path = some false ∨ s.fullOnly = true) ∧
        s.serving ≠ some l) ∧
    (∃ (s : State) (l : Lane) (b : FpBlock), s.serving = some l ∧ s.blockUsed = some b ∧ s.computing l.other = true ∧
        (s.lane l.other).done = false ∧ (s.lane l.other).frameBad = false ∧ s.ltc ≤ s.deadline ∧ s.frame.path = some false) ∧
    (∃ (s : State) (l : Lane) (b : FpBlock), s.serving = some l ∧ s.blockUsed = some b ∧ s.computing l.other = true ∧
        (s.lane l.other).done = false ∧ (s.lane l.other).frameBad = false ∧ s.ltc ≤ s.deadline ∧ s.frame.path = some true) ∧
    (∃ (s : State), s.owedBursts.frame.begun = true ∧ s.owedBursts.frameOver = false ∧ s.owedBursts.blockUsed = none ∧
        s.owedBursts.deadline ≤ s.owedBursts.ltc) ∧
    (∃ (s : State), s.owedBursts.frame.begun = true ∧ s.owedBursts.frameOver = false ∧ s.owedBursts.blockUsed ≠ none ∧ 2 ≤ (List.filter (fun
        (l : Lane) => (s.owedBursts.lane l).frameBad) (List.filter (fun (l : Lane) => !s.owedBursts.laneDone l) [Lane.a, Lane.b])).length) ∧
    (∃ (s : State), s.owedBursts.frame.begun = true ∧ s.owedBursts.frameOver = false ∧ s.owedBursts.blockUsed ≠ none ∧ (List.filter (fun
        (l : Lane) => (s.owedBursts.lane l).frameBad) (List.filter (fun (l : Lane) => !s.owedBursts.laneDone l) [Lane.a, Lane.b])).length = 1 ∧
        (List.filter (fun (l : Lane) => !s.owedBursts.laneDone l) [Lane.a, Lane.b]).length = 1) ∧
    (∃ (s : State), s.owedBursts.frame.begun = true ∧ s.owedBursts.frameOver = false ∧ s.owedBursts.blockUsed ≠ none ∧ List.filter (fun
        (l : Lane) => (s.owedBursts.lane l).frameBad) (List.filter (fun (l : Lane) => !s.owedBursts.laneDone l) [Lane.a, Lane.b]) = [] ∧
        s.owedBursts.deadline ≤ s.owedBursts.ltc ∧ (List.filter (fun (l : Lane) => !s.owedBursts.laneDone l) [Lane.a, Lane.b]).length = 1) ∧
    (∃ (s : State), s.owedBursts.frame.begun = true ∧ s.owedBursts.frameOver = false ∧ s.owedBursts.blockUsed ≠ none ∧ List.filter (fun
        (l : Lane) => (s.owedBursts.lane l).frameBad) (List.filter (fun (l : Lane) => !s.owedBursts.laneDone l) [Lane.a, Lane.b]) = [] ∧
        s.owedBursts.ltc < s.owedBursts.deadline) :=
    ⟨⟨(frm fun f => { f with begun := true, grid := true }) (base), by decide +kernel⟩,
     ⟨at_Frame_paths_1, ((at_Frame_paths_1.serving).getD Lane.a), ((at_Frame_paths_1.blockUsed).getD ({ })), by decide +kernel⟩,
     ⟨at_Frame_paths_2, ((at_Frame_paths_2.serving).getD Lane.a), ((at_Frame_paths_2.blockUsed).getD ({ })), by decide +kernel⟩,
     ⟨at_Frame_paths_3, ((at_Frame_paths_3.serving).getD Lane.a), ((at_Frame_paths_3.blockUsed).getD ({ })), false, 5, by decide +kernel⟩,
     ⟨at_Frame_paths_4, ((at_Frame_paths_4.serving).getD Lane.a), ((at_Frame_paths_4.blockUsed).getD ({ })), false, 5, by decide +kernel⟩,
     ⟨at_Frame_paths_5, ((at_Frame_paths_5.serving).getD Lane.a), ((at_Frame_paths_5.blockUsed).getD ({ })), true, (((at_Frame_paths_5.lane
         (((at_Frame_paths_5.serving).getD Lane.a))).spec).getD
         ({ pf := 0#32, qf := 0#32, vMag := 0#32, vPos := { a := 0#32, b := 0#32 }, vNeg := { a := 0#32, b := 0#32 }, capPos := { a := 0#32, b := 0#32 }, busPos := { a := 0#32, b := 0#32 }, busMag := 0#32, thB := 0#32, thBPrev := 0#32, omegaB := 0#32, rocof := 0#32, jump := 0#32, ramps := Vector.replicate 12 0#32, thHi := 0#32, thLo := 0#32, omega := 0#32, pOrder := 0#32, pLim := Int.ofNat 0, dpr := 0#32, pdc := 0#32, eE := 0#32, ei := 0#32, e := 0#32, eStart := 0#32, eTarget := 0#32, dRf := 0#32, dXf := 0#32, resA := { e1 := 0#32, e2 := 0#32, y1 := 0#32, y2 := 0#32 }, resB := { e1 := 0#32, e2 := 0#32, y1 := 0#32, y2 := 0#32 }, harmA := Vector.replicate 8 { e1 := 0#32, e2 := 0#32, y1 := 0#32, y2 := 0#32 }, harmB := Vector.replicate 8 { e1 := 0#32, e2 := 0#32, y1 := 0#32, y2 := 0#32 }, vref := { a := 0#32, b := 0#32 }, iref := { a := 0#32, b := 0#32 }, irefDq := { a := 0#32, b := 0#32 }, ilim := { a := 0#32, b := 0#32 }, ineg := { a := 0#32, b := 0#32 }, horizon := 0, tauO := 0#32, l0 := 0#32, dZ := 0#32, delta := 0#32, uOut := { a := 0#32, b := 0#32 }, u0 := 0#32, ic := { a := 0#32, b := 0#32 }, iGrid := { a := 0#32, b := 0#32 }, icap := { a := 0#32, b := 0#32 }, vf := { a := 0#32, b := 0#32 }, eW := 0#32, w := 0#32, xw := 0#32, pff := 0#32, duty := 0#32, eCh := 0#32, wk := Vector.replicate 6 0#32, xz := Vector.replicate 3 0#32, resZ := Vector.replicate 3 { e1 := 0#32, e2 := 0#32, y1 := 0#32, y2 := 0#32 }, vArm := Vector.replicate 6 0#32, xs := Vector.replicate 8 (Vector.replicate 3 0#32), du := Vector.replicate 8 (Vector.replicate 3 0#32), shareDev := 0#32, gain := Vector.replicate 3 0#32, obsB := { a := 0#32, b := 0#32 }, vHat := { a := 0#32, b := 0#32 }, obsResid := 0#32, vdc := 0#32, vdcUp := 0#32, vdcLo := 0#32 })), by decide +kernel⟩,
     ⟨at_Frame_paths_6, ((at_Frame_paths_6.serving).getD Lane.a), ((at_Frame_paths_6.blockUsed).getD ({ })), by decide +kernel⟩,
     ⟨at_Frame_paths_7, ((at_Frame_paths_7.serving).getD Lane.a), ((at_Frame_paths_7.blockUsed).getD ({ })), by decide +kernel⟩,
     ⟨at_Frame_paths_8, .b, ((at_Frame_paths_8.blockUsed).getD ({ })), by decide +kernel⟩,
     ⟨at_Frame_paths_9, ((at_Frame_paths_9.serving).getD Lane.a), ((at_Frame_paths_9.blockUsed).getD ({ })), by decide +kernel⟩,
     ⟨at_Frame_paths_10, ((at_Frame_paths_10.serving).getD Lane.a), ((at_Frame_paths_10.blockUsed).getD ({ })), by decide +kernel⟩,
     ⟨(fun s => lanesf (fun x => { x with a := { x.a with done := false }, b := { x.b with done := false } }) (frm
         (fun f => { f with begun := true, t0 := 0 }) (pw [(laneKey .a, 5), (laneKey .b, 4)] s))) (base), by decide +kernel⟩,
     ⟨(fun s => bothBad (frameOn id s)) (base), by decide +kernel⟩,
     ⟨(fun s => lanesf (fun x => { x with a := { x.a with frameBad := true }, b := { x.b with done := true } }) (frameOn id s)) (base),
         by decide +kernel⟩,
     ⟨(fun s => lanesf (fun x => { x with b := { x.b with done := true } }) (frameOn (fun f => { f with t0 := 0 }) s)) (base), by decide +kernel⟩,
     ⟨(frameOn id) (base), by decide +kernel⟩⟩

/-- States and operands that meet the hypotheses of each clause of `Frame_recovery`. -/
theorem witness_Frame_recovery :
    (∃ (s : State), s.nat OD.COLD_LEFT = 0 ∧ s.nat OD.FRAME_STATE = 2) ∧
    (∃ (s : State) (t0 : Nat), s.frame.marginOkAt = some t0 ∧ s.past t0 (ms 10) = true ∧ 108 * 1024 ≤ s.siNow * 100 ∧
        s.flag OD.SPEED_MARGIN = true) ∧
    (∃ (s : State) (t0 : Nat), s.frame.shedOkAt = some t0 ∧ s.past t0 (ms 100) = true ∧ 102 * 1024 ≤ s.siNow * 100 ∧ s.frame.shed ≠ [] ∧
        s.frame.restore = false) ∧
    (∃ (s : State), s.frame.restore = true ∧ 102 * 1024 ≤ s.siNow * 100 ∧ (∀ (l : Lane), s.fitsFullyShed l = true)) :=
    ⟨⟨(base.putN OD.COLD_LEFT 0).putN OD.FRAME_STATE 2, by decide +kernel⟩,
     ⟨at_Frame_recovery_1, ((at_Frame_recovery_1.frame.marginOkAt).getD 0), by decide +kernel⟩,
     ⟨at_Frame_recovery_2, ((at_Frame_recovery_2.frame.shedOkAt).getD 0), by decide +kernel⟩,
     ⟨(fun s => frm (fun f => { f with restore := true, shed := [1, 2] }) (pw [(laneKey .a, 5), (siKey .a, 2048), (siKey .b, 2048)] s)) (base),
         by decide +kernel, by decide +kernel, fun l => by cases l <;> decide +kernel⟩⟩

/-- States and operands that meet the hypotheses of each clause of `Network_time`. -/
theorem witness_Network_time :
    (∃ (s : State) (k : Fin 2) (m : Announce), s.ptpOn k.val = true ∧ s.flag (OD.LINK_UP k.val) = true ∧ s.inProfile m = false) ∧
    (∃ (s : State) (k : Fin 2) (m : Announce), s.ptpOn k.val = true ∧ s.flag (OD.LINK_UP k.val) = true ∧ s.inProfile m = true ∧
        m.domain = s.nat OD.PTP_DOMAIN ∧ m.steps ≤ 255 ∧ m.cls ≠ 255 ∧ m.ptpTimescale = true ∧ s.masterOn (1 - k.val) = none) ∧
    (∃ (s : State) (k : Fin 2) (m : Announce) (t0 : Nat), s.nat OD.SLAVE_PORT = k.val ∧ vget none s.servo.masters k.val = some (m, t0) ∧ s.past t0
        (sec (3 * m.interval)) = true ∧ s.masterOn (1 - k.val) = none) ∧
    (∃ (s : State) (k : Fin 2) (t1 : Int) (t2 : Int) (t3 : Int) (t4 : Int) (d : Int), s.ptpOn k.val = true ∧ s.flag (OD.LINK_UP k.val) = true ∧
        (d = if s.nat OD.PTP_PROFILE = 2 then (s.rxRef k.val t4 - s.txRef k.val t1 - (t3 - t2)) / 2 else (s.rxRef k.val t2 - t1 +
        (t4 - s.txRef k.val t3)) / 2)) ∧
    (∃ (s : State) (k : Fin 2) (m : Announce) (t0 : Nat) (li : Int), s.syncInProfile li = true ∧ s.masterOn k.val = some (m, t0) ∧
        s.nat OD.SLAVE_PORT = k.val ∧ s.nat OD.SERVO_MODE ≠ 0 ∧ s.nat OD.SERVO_STATE = 1 ∧ vget false s.servo.pathKnown k.val = false) ∧
    (∃ (s : State) (k : Fin 2) (m : Announce) (t0 : Nat) (li : Int), s.syncInProfile li = true ∧ s.masterOn k.val = some (m, t0) ∧
        s.nat OD.SLAVE_PORT = k.val ∧ s.nat OD.SERVO_MODE ≠ 0 ∧ s.nat OD.SERVO_STATE = 1 ∧ vget false s.servo.pathKnown k.val = true ∧
        s.nat OD.SERVO_MODE = 1 ∧ s.servo.stepDone = false ∧ s.servo.offs = []) ∧
    (∃ (s : State) (k : Fin 2) (m : Announce) (t0 : Nat) (li : Int) (sent : Int) (rcv : Int) (p : Int), s.syncInProfile li = true ∧
        s.masterOn k.val = some (m, t0) ∧ s.nat OD.SLAVE_PORT = k.val ∧ s.nat OD.SERVO_MODE ≠ 0 ∧ s.nat OD.SERVO_STATE = 2 ∧
        vget false s.servo.pathKnown k.val = true ∧ s.nat OD.SERVO_MODE = 1 ∧ s.servo.stepDone = false ∧ s.servo.offs.head? = some p ∧
        (s.offsetOf k.val sent rcv - p).natAbs ≤ 10000) ∧
    (∃ (s : State) (k : Fin 2) (m : Announce) (t0 : Nat) (li : Int) (sent : Int) (rcv : Int), s.syncInProfile li = true ∧ s.masterOn k.val = some
        (m, t0) ∧ s.nat OD.SLAVE_PORT = k.val ∧ s.nat OD.SERVO_MODE ≠ 0 ∧ (s.nat OD.SERVO_STATE = 2 ∨ s.nat OD.SERVO_STATE = 3) ∧
        vget false s.servo.pathKnown k.val = true ∧ s.nat OD.SERVO_MODE = 1 ∧ s.servo.stepDone = true ∧ s.servo.count ≠ 0 ∧
        s.offsetOf k.val sent rcv ≤ 1000000) ∧
    (∃ (s : State) (k : Fin 2) (li : Int), s.syncInProfile li = false ∧ s.ptpOn k.val = true ∧ s.flag (OD.LINK_UP k.val) = true) ∧
    (∃ (s : State) (session : Nat), s.Serves ∧ s.roleRefusal session = none ∧
        (s.announceTimeout.nat OD.SERVO_STATE = 2 ∨ s.announceTimeout.nat OD.SERVO_STATE = 3 ∨ s.announceTimeout.nat OD.SERVO_STATE = 5)) ∧
    (∃ (s : State) (session : Nat), s.Serves ∧ s.roleRefusal session = none ∧
        (s.announceTimeout.nat OD.SERVO_STATE = 0 ∨ s.announceTimeout.nat OD.SERVO_STATE = 1 ∨ s.announceTimeout.nat OD.SERVO_STATE = 4)) ∧
    (∃ (s : State) (day : Nat) (ch : Int), s.servo.leap = some (day, ch, false) ∧ (day.cast + 1) * 86400 + ch ≤ utcSecond s.taiNs
        (s.int OD.UTC_OFFSET)) ∧
    (∃ (s : State), s.nat OD.SERVO_STATE = 3 ∧ s.past s.power.vaultAt (sec 1) = true) :=
    ⟨⟨(pw [(OD.SERVO_MODE, 1), (OD.PTP_PROFILE, 2), (OD.LINK_UP 0, 1)]) (base.putB (OD.LINK_UP 0) true), (0 : Fin 2),
        { udp := false, interval := 0, domain := 0, prio1 := 0, cls := 0, accuracy := 0, variance := 0, prio2 := 0, identity := 0, steps := 0, sender := 0, utc := Int.ofNat 0, utcValid := false, leap59 := false, leap61 := false, ptpTimescale := false, epoch := 0 }, by decide +kernel⟩,
     ⟨(pw [(OD.SERVO_MODE, 1), (OD.PTP_PROFILE, 0), (OD.LINK_UP 0, 1)]) (base.putB (OD.LINK_UP 0) true), (0 : Fin 2), ann, by decide +kernel⟩,
     ⟨at_Network_time_2, (0 : Fin 2), (((vget none at_Network_time_2.servo.masters 0).map (·.1)).getD
         ({ udp := false, interval := 0, domain := 0, prio1 := 0, cls := 0, accuracy := 0, variance := 0, prio2 := 0, identity := 0, steps := 0, sender := 0, utc := Int.ofNat 0, utcValid := false, leap59 := false, leap61 := false, ptpTimescale := false, epoch := 0 })), (((vget none at_Network_time_2.servo.masters 0).map (·.2)).getD 0), by decide +kernel⟩,
     ⟨at_Network_time_3, (0 : Fin 2), Int.ofNat 0, Int.ofNat 0, Int.ofNat 0, Int.ofNat 0, if at_Network_time_3.nat OD.PTP_PROFILE = 2 then
         (at_Network_time_3.rxRef 0 (Int.ofNat 0) - at_Network_time_3.txRef 0 (Int.ofNat 0) - (Int.ofNat 0 - Int.ofNat 0)) / 2 else
         (at_Network_time_3.rxRef 0 (Int.ofNat 0) - Int.ofNat 0 + (Int.ofNat 0 - at_Network_time_3.txRef 0 (Int.ofNat 0))) / 2, by decide +kernel⟩,
     ⟨at_Network_time_4, (0 : Fin 2), (((at_Network_time_4.masterOn 0).map (·.1)).getD
         ({ udp := false, interval := 0, domain := 0, prio1 := 0, cls := 0, accuracy := 0, variance := 0, prio2 := 0, identity := 0, steps := 0, sender := 0, utc := Int.ofNat 0, utcValid := false, leap59 := false, leap61 := false, ptpTimescale := false, epoch := 0 })), (((at_Network_time_4.masterOn 0).map (·.2)).getD 0), Int.ofNat 0, by decide +kernel⟩,
     ⟨at_Network_time_5, (0 : Fin 2), (((at_Network_time_5.masterOn 0).map (·.1)).getD
         ({ udp := false, interval := 0, domain := 0, prio1 := 0, cls := 0, accuracy := 0, variance := 0, prio2 := 0, identity := 0, steps := 0, sender := 0, utc := Int.ofNat 0, utcValid := false, leap59 := false, leap61 := false, ptpTimescale := false, epoch := 0 })), (((at_Network_time_5.masterOn 0).map (·.2)).getD 0), Int.ofNat 0, by decide +kernel⟩,
     ⟨at_Network_time_6, (0 : Fin 2), (((at_Network_time_6.masterOn 0).map (·.1)).getD
         ({ udp := false, interval := 0, domain := 0, prio1 := 0, cls := 0, accuracy := 0, variance := 0, prio2 := 0, identity := 0, steps := 0, sender := 0, utc := Int.ofNat 0, utcValid := false, leap59 := false, leap61 := false, ptpTimescale := false, epoch := 0 })), (((at_Network_time_6.masterOn 0).map (·.2)).getD 0), Int.ofNat 0, Int.ofNat 0, 5, ((at_Network_time_6.servo.offs.head?).getD (Int.ofNat 0)), by decide +kernel⟩,
     ⟨at_Network_time_7, (0 : Fin 2), (((at_Network_time_7.masterOn 0).map (·.1)).getD
         ({ udp := false, interval := 0, domain := 0, prio1 := 0, cls := 0, accuracy := 0, variance := 0, prio2 := 0, identity := 0, steps := 0, sender := 0, utc := Int.ofNat 0, utcValid := false, leap59 := false, leap61 := false, ptpTimescale := false, epoch := 0 })), (((at_Network_time_7.masterOn 0).map (·.2)).getD 0), Int.ofNat 0, Int.ofNat 0, 5, by decide +kernel⟩,
     ⟨(pw [(OD.LINK_UP 0, 1), (OD.ETH_MODE 0, 1), (OD.PTP_EN 0, 1)]) (base.putB (OD.LINK_UP 0) true), (0 : Fin 2), 3, by decide +kernel⟩,
     ⟨(fun s => pw [(OD.LINK_UP 0, 1), (OD.ETH_MODE 0, 1), (OD.PTP_EN 0, 1), (OD.SLAVE_PORT, 0), (OD.SERVO_STATE, 2)] (srv
         (fun v => { v with masters := vset v.masters 0 (some (ann, 10 ^ 16)) }) s)) (base), 64, by delta State.Serves; decide +kernel⟩,
     ⟨base, 64, by delta State.Serves; decide +kernel⟩,
     ⟨at_Network_time_11, (((at_Network_time_11.servo.leap).map (·.1)).getD 0), (((at_Network_time_11.servo.leap).map (·.2.1)).getD (Int.ofNat 0)),
         by decide +kernel⟩,
     ⟨base.putN OD.SERVO_STATE 3, by decide +kernel⟩⟩

/-- States and operands that meet the hypotheses of each clause of `Ethernet_ports`. -/
theorem witness_Ethernet_ports :
    (∃ (s : State) (k : Fin 2), s.ethUp k.val = false) ∧
    (∃ (s : State) (k : Fin 2) (len : Nat) (fcs : Bool), s.ethUp k.val = true ∧ (1522 < len ∨ fcs = false)) ∧
    (∃ (s : State) (k : Fin 2) (len : Nat) (vlan : Nat), s.ethUp k.val = true ∧ len ≤ 1522 ∧ vlan ≠ s.nat (OD.VLAN_ID k.val) ∧ vlan ≠ s.nat
        (OD.PTP_VLAN_ID k.val)) ∧
    (∃ (s : State) (k : Fin 2) (len : Nat) (vlan : Nat) (kind : EthKind), s.ethUp k.val = true ∧ len ≤ 1522 ∧ vlan = s.nat (OD.VLAN_ID k.val) ∧
        (kind = EthKind.neighbour ∨ kind = EthKind.echo6 ∨ s.flag (OD.IPV4_ADDR k.val) = true ∧ (kind = EthKind.arp ∨ kind = EthKind.echo4)) ∧
        s.launchGuard k.val = false) ∧
    (∃ (s : State) (k : Fin 2) (len : Nat) (vlan : Nat) (kind : EthKind), s.ethUp k.val = true ∧ len ≤ 1522 ∧ vlan = s.nat (OD.VLAN_ID k.val) ∧
        (kind = EthKind.neighbour ∨ kind = EthKind.echo6 ∨ s.flag (OD.IPV4_ADDR k.val) = true ∧ (kind = EthKind.arp ∨ kind = EthKind.echo4)) ∧
        s.launchGuard k.val = true) ∧
    (∃ (s : State) (k : Fin 2) (up : Bool), s.flag (OD.LINK_UP k.val) ≠ up ∧ (up = true → s.nat (OD.ETH_MODE k.val) ≠ 0)) ∧
    (∃ (s : State) (k : Fin 2) (i : Fin 16), s.nat (OD.LAUNCH_STATE k.val i.val) = 1 ∧ s.launchNext k.val i.val ≤ s.taiNs ∧ s.ethUp k.val = false) ∧
    (∃ (s : State) (k : Fin 2) (i : Fin 16), s.nat (OD.LAUNCH_STATE k.val i.val) = 1 ∧ s.launchNext k.val i.val ≤ s.taiNs ∧ s.ethUp k.val = true ∧
        s.launchBehind k.val i.val = true) ∧
    (∃ (s : State) (k : Fin 2) (i : Fin 16), s.nat (OD.LAUNCH_STATE k.val i.val) = 1 ∧ s.launchNext k.val i.val ≤ s.taiNs ∧ s.ethUp k.val = true ∧
        s.launchBehind k.val i.val = false ∧ (s.taiNs ≤ s.launchNext k.val i.val + 16 ∨ s.nat (OD.LATE_POLICY k.val) ≠ 0)) ∧
    (∃ (s : State) (k : Fin 2) (i : Fin 16), s.nat (OD.LAUNCH_STATE k.val i.val) = 1 ∧ s.launchNext k.val i.val ≤ s.taiNs ∧ s.ethUp k.val = true ∧
        s.launchBehind k.val i.val = false ∧ s.launchNext k.val i.val + 16 < s.taiNs ∧ s.nat (OD.LATE_POLICY k.val) = 0) ∧
    (∃ (s : State) (k : Fin 2) (session : Nat) (i : Fin 16), s.Serves ∧ s.unlessBusy (8 + k.val) (s.roleRefusal session) = none ∧ s.nat
        (OD.LAUNCH_STATE k.val i.val) = 1) ∧
    (∃ (s : State) (k : Fin 2) (session : Nat) (i : Fin 16), s.Serves ∧ s.unlessBusy (8 + k.val) (s.roleRefusal session) = none ∧ s.nat
        (OD.LAUNCH_TIME k.val i.val) / 2 ^ 64 = s.nat OD.TIME_EPOCH ∧ s.ethUp k.val = true ∧ s.octets (OD.LAUNCH_FRAME k.val i.val) ≠ [] ∧
        s.launchOverlap k.val i.val (s.nat (OD.LAUNCH_TIME k.val i.val) % 2 ^ 64) = false ∧ s.taiNs ≤ s.nat
        (OD.LAUNCH_TIME k.val i.val) % 2 ^ 64 + 16) ∧
    (∃ (s : State) (k : Fin 2) (session : Nat) (i : Fin 16), s.Serves ∧ s.unlessBusy (8 + k.val) (s.roleRefusal session) = none ∧ (s.nat
        (OD.LAUNCH_TIME k.val i.val) / 2 ^ 64 ≠ s.nat OD.TIME_EPOCH ∨ s.ethUp k.val = false ∨ s.octets
        (OD.LAUNCH_FRAME k.val i.val) = [] ∨ s.launchOverlap k.val i.val (s.nat (OD.LAUNCH_TIME k.val i.val) % 2 ^ 64) = true)) ∧
    (∃ (s : State) (k : Fin 2) (session : Nat) (v : Nat), s.Serves ∧ s.unlessBusy (8 + k.val) (s.roleRefusal session) = none ∧ 2 ≤ v) :=
    ⟨⟨base, (0 : Fin 2), by decide +kernel⟩,
     ⟨(pw [(OD.ETH_MODE 0, 1), (OD.LINK_UP 0, 1)]) (base), (0 : Fin 2), 0, false, by decide +kernel⟩,
     ⟨(pw [(OD.ETH_MODE 0, 1), (OD.LINK_UP 0, 1)]) (base), (0 : Fin 2), 0, 7, by decide +kernel⟩,
     ⟨at_Ethernet_ports_3, (0 : Fin 2), 0, at_Ethernet_ports_3.nat (OD.VLAN_ID 0), .echo6, by decide +kernel⟩,
     ⟨at_Ethernet_ports_4, (0 : Fin 2), 0, at_Ethernet_ports_4.nat (OD.VLAN_ID 0), .echo6, by decide +kernel⟩,
     ⟨(pw [(OD.LINK_UP 0, 1)]) (base), (0 : Fin 2), false, by decide +kernel⟩,
     ⟨base.putN (OD.LAUNCH_STATE 0 0) 1, (0 : Fin 2), (0 : Fin 16), by decide +kernel⟩,
     ⟨(fun s => pw [(OD.ETH_MODE 0, 1), (OD.LINK_UP 0, 1)] { s with launchBusy := Vector.replicate 2 (10 ^ 17) }) (base.putN
         (OD.LAUNCH_STATE 0 0) 1), (0 : Fin 2), (0 : Fin 16), by decide +kernel⟩,
     ⟨(pw [(OD.ETH_MODE 0, 1), (OD.LINK_UP 0, 1), (OD.LATE_POLICY 0, 1)]) (base.putN (OD.LAUNCH_STATE 0 0) 1), (0 : Fin 2), (0 : Fin 16),
         by decide +kernel⟩,
     ⟨(pw [(OD.ETH_MODE 0, 1), (OD.LINK_UP 0, 1), (OD.LATE_POLICY 0, 0)]) ((base.putN (OD.LAUNCH_STATE 0 0) 1).putN (OD.LATE_POLICY 0) 0),
         (0 : Fin 2), (0 : Fin 16), by decide +kernel⟩,
     ⟨base.putN (OD.LAUNCH_STATE 0 0) 1, (0 : Fin 2), 64, (0 : Fin 16), by delta State.Serves; decide +kernel⟩,
     ⟨(fun s => (pw [(OD.ETH_MODE 0, 1), (OD.LINK_UP 0, 1), (OD.LATE_POLICY 0, 0), (OD.LAUNCH_TIME 0 0, 10 ^ 15)] s).put (OD.LAUNCH_FRAME 0 0)
         (.bytes [1, 2])) (base), (0 : Fin 2), 64, (0 : Fin 16), by delta State.Serves; decide +kernel⟩,
     ⟨base, (0 : Fin 2), 64, (0 : Fin 16), by delta State.Serves; decide +kernel⟩,
     ⟨base, (0 : Fin 2), 64, 2, by delta State.Serves; decide +kernel⟩⟩

/-- States and operands that meet the hypotheses of each clause of `Link_receivers`. -/
theorem witness_Link_receivers :
    (∃ (l : Fin 18) (w : BitVec 144), bushelDecode w = Decoded.clean ∧ typeValid (RxPort.lane l) (ptype (bushelData w)) = true ∧ ptype
        (bushelData w) ≠ 0) ∧
    (∃ (l : Fin 18) (w : BitVec 144) (v : BitVec 144), bushelDecode w = Decoded.corrected v ∧ typeValid (RxPort.lane l) (ptype
        (bushelData v)) = true ∧ ptype (bushelData v) ≠ 0) ∧
    (∃ (l : Fin 18) (w : BitVec 144), (bushelDecode w = Decoded.poison ∨ bushelDecode w = Decoded.uncorrectable ∨ bushelDecode w = Decoded.clean ∧
        typeValid (RxPort.lane l) (ptype (bushelData w)) = false)) ∧
    (∃ (e : Fin 16) (k : Fin 2) (w : BitVec 144), bushelDecode w = Decoded.clean ∧ typeValid (RxPort.endpoint e k) (ptype (bushelData w)) = true ∧
        ptype (bushelData w) ≠ 0) ∧
    (∃ (w : BitVec 144), (bushelDecode w = Decoded.poison ∨ bushelDecode w = Decoded.uncorrectable)) ∧
    (∃ (s : State) (r : RxPort) (n : Fin 65), 16 ≤ n.val ∧ (s.rx r).blockLock = true) ∧
    (∃ (s : State) (r : RxPort) (n : Fin 65), n.val < 16 ∧ (s.rx r).blockLock = true) ∧
    (∃ (s : State) (r : RxPort) (n : Fin 65), n.val ≠ 0 ∧ (s.rx r).blockLock = false) ∧
    (∃ (s : State) (r : RxPort) (n : Fin 65), n.val = 0 ∧ (s.rx r).blockLock = false) ∧
    (∃ (s : State) (r : RxPort), (s.rx r).blockLock = false) ∧
    (∃ (b : BitVec 576) (w : BitVec 128), (∀ (p : Fin 4), bushelDecode (bundleParcel b p.val) = Decoded.clean) ∧ w = bushelData
        (bundleParcel b 0) ∧ ptype w = 14) ∧
    (∃ (b : BitVec 576), (∀ (p : Fin 4), bushelDecode (bundleParcel b p.val) = Decoded.poison ∨ bushelDecode
        (bundleParcel b p.val) = Decoded.uncorrectable)) :=
    ⟨⟨(0 : Fin 18), bushelEncode (BitVec.ofNat 128 (2 ^ 127)), by decide +kernel⟩,
     ⟨(0 : Fin 18), bushelEncode (BitVec.ofNat 128 (2 ^ 127)) ^^^ 1, bushelEncode (BitVec.ofNat 128 (2 ^ 127)), by decide +kernel⟩,
     ⟨(0 : Fin 18), 0x101, by decide +kernel⟩,
     ⟨(0 : Fin 16), (0 : Fin 2), bushelEncode (BitVec.ofNat 128 (2 ^ 125)), by decide +kernel⟩,
     ⟨0x101, by decide +kernel⟩,
     ⟨(sers fun x => { x with rx := { x.rx with blockLock := true } }) (base), RxPort.lane (0), (16 : Fin 65), by decide +kernel⟩,
     ⟨(sers fun x => { x with rx := { x.rx with blockLock := true } }) (base), RxPort.lane (0), (3 : Fin 65), by decide +kernel⟩,
     ⟨base, RxPort.lane (0), (3 : Fin 65), by decide +kernel⟩,
     ⟨base, RxPort.lane (0), (0 : Fin 65), by decide +kernel⟩,
     ⟨base, RxPort.lane (0), by decide +kernel⟩,
     ⟨oneBundle (BitVec.ofNat 128 (0xE * 2 ^ 124)), BitVec.ofNat 128 (0xE * 2 ^ 124), by decide +kernel⟩,
     ⟨bundleOf (List.replicate 4 0x101), by decide +kernel⟩⟩

/-- States and operands that meet the hypotheses of each clause of `Link_lanes`. -/
theorem witness_Link_lanes :
    (∃ (s : State) (l : Fin 18) (t0 : Nat), s.nat (OD.LANE_STATE l.val) = 2 ∧ (s.ser l.val).tr.fomSince = some t0 ∧ s.past t0 (ms 1) = true) ∧
    (∃ (s : State) (l : Fin 18), s.nat (OD.LANE_STATE l.val) = 2 ∧ (s.ser l.val).tr.asked = false ∧ s.past (s.ser l.val).tr.adaptAt
        (ms 50) = true ∧ (s.ser l.val).tr.bestFom < s.nat (OD.FOM_MIN l.val)) ∧
    (∃ (s : State) (l : Fin 18), s.nat (OD.LANE_STATE l.val) = 2 ∧ (s.ser l.val).tr.asked = false ∧ s.past (s.ser l.val).tr.adaptAt
        (ms 50) = true ∧ s.nat (OD.FOM_MIN l.val) ≤ (s.ser l.val).tr.bestFom ∧ (s.ser l.val).tr.mayAsk s.now = true) ∧
    (∃ (s : State) (l : Fin 18), s.nat (OD.LANE_STATE l.val) = 2 ∧ (s.ser l.val).tr.asked = false ∧ s.past (s.ser l.val).tr.adaptAt
        (ms 50) = true ∧ s.nat (OD.FOM_MIN l.val) ≤ (s.ser l.val).tr.bestFom ∧ (s.ser l.val).tr.mayAsk s.now = false) ∧
    (∃ (s : State) (l : Fin 18), s.nat (OD.LANE_STATE l.val) = 8 ∧ s.past (s.ser l.val).weakAt (sec 1) = true) ∧
    (∃ (s : State) (l : Fin 18), (s.ser l.val).exchanges.length = 16) ∧
    (∃ (s : State) (l : Fin 18), s.nat (OD.LANE_STATE l.val) = 4 ∧
        ((s.ser l.val).rx.bundleLock = false ∨ s.nat OD.RETRAIN_UNCORR ≤ s.recentUncorr l.val)) ∧
    (∃ (s : State) (l : Fin 18) (fom : Fin 256), s.nat (OD.LANE_STATE l.val) = 7 ∧ s.nat (OD.FOM_MIN l.val) ≤ fom.val ∧ s.now ≤
        (s.ser l.val).retrainAt + us 200 ∧ (s.ser l.val).rx.bundleLock = true) ∧
    (∃ (s : State) (l : Fin 18) (fom : Fin 256), s.nat (OD.LANE_STATE l.val) = 7 ∧ (fom.val < s.nat (OD.FOM_MIN l.val) ∨
        (s.ser l.val).retrainAt + us 200 < s.now ∨ (s.ser l.val).rx.bundleLock = false)) ∧
    (∃ (s : State) (session : Nat) (v : Nat), s.Serves ∧ s.unlessBusy 4 (s.ownerRefusal session) = none ∧ 2 < v) ∧
    (∃ (s : State) (l : Fin 18) (session : Nat), s.Serves ∧ s.unlessBusy 4 (s.ownerRefusal session) = none ∧ s.nat (OD.LANE_STATE l.val) = 5) ∧
    (∃ (s : State) (l : Fin 18) (session : Nat) (v : Nat), s.Serves ∧ s.unlessBusy 4 (s.ownerRefusal session) = none ∧ (v = 1 ∨ v = 2) ∧ s.nat
        (OD.LANE_STATE l.val) ≠ 4 ∧ s.nat (OD.LANE_STATE l.val) ≠ v + 4) ∧
    (∃ (s : State) (l : Fin 18) (session : Nat) (v : Nat), s.Serves ∧ s.unlessBusy 4 (s.ownerRefusal session) = none ∧ (v = 1 ∨ v = 2) ∧ s.nat
        (OD.LANE_STATE l.val) = 4 ∧ s.laneEp l.val = none) ∧
    (∃ (s : State) (l : Fin 18) (v : Nat) (d : Nat), (s.ser l.val).powerDue = some (v, d) ∧ d ≤ s.ltc) ∧
    (∃ (s : State) (k : Fin 16), s.laneEp k.val = none) ∧
    (∃ (s : State) (k : Fin 16) (e : Nat), s.laneEp k.val = some e ∧ (s.ser k.val).rx.buf.isEmpty = false) ∧
    (∃ (s : State) (e : Fin 16), s.epUsed e.val = true ∧ (s.view e.val).seen = false ∧ (s.view e.val).lost = false ∧ s.pairOn = false ∧ s.nat
        (OD.EP_LANE e.val) ≤ 15 ∧ s.running = false) ∧
    (∃ (s : State) (e : Fin 16), s.epUsed e.val = true ∧ (s.view e.val).seen = false ∧ (s.view e.val).lost = false ∧ s.pairOn = false ∧ s.nat
        (OD.EP_LANE e.val) ≤ 15 ∧ s.running = true ∧ s.nat (OD.BRIDGE_N e.val) ≤ (s.view e.val).silent + 1) :=
    ⟨⟨at_Link_lanes_0, (0 : Fin 18), (((at_Link_lanes_0.ser 0).tr.fomSince).getD 0), by decide +kernel⟩,
     ⟨(base.putN (OD.LANE_STATE 0) 2).putN (OD.FOM_MIN 0) (base.ser 0).tr.bestFom.succ, (0 : Fin 18), by decide +kernel⟩,
     ⟨(trs fun x => { x with bestFom := 255 }) (base.putN (OD.LANE_STATE 0) 2), (0 : Fin 18), by decide +kernel⟩,
     ⟨(trs fun x => { x with bestFom := 255, waits := true }) (base.putN (OD.LANE_STATE 0) 2), (0 : Fin 18), by decide +kernel⟩,
     ⟨base.putN (OD.LANE_STATE 0) 8, (0 : Fin 18), by decide +kernel⟩,
     ⟨(sers fun x => { x with exchanges := List.replicate 16 100 }) (base), (0 : Fin 18), by decide +kernel⟩,
     ⟨base.putN (OD.LANE_STATE 0) 4, (0 : Fin 18), by decide +kernel⟩,
     ⟨(sers fun x => { x with retrainAt := 10 ^ 16, rx := { x.rx with bundleLock := true } }) (base.putN (OD.LANE_STATE 0) 7), (0 : Fin 18),
         (255 : Fin 256), by decide +kernel⟩,
     ⟨(base.putN (OD.LANE_STATE 0) 7).putN (OD.FOM_MIN 0) 1, (0 : Fin 18), (0 : Fin 256), by decide +kernel⟩,
     ⟨base, 64, 3, by delta State.Serves; decide +kernel⟩,
     ⟨base.putN (OD.LANE_STATE 0) 5, (0 : Fin 18), 64, by delta State.Serves; decide +kernel⟩,
     ⟨(base.putN (OD.LANE_STATE 0) 5).putN (OD.LANE_STATE 0) (1 + 4).succ, (0 : Fin 18), 64, 1, by delta State.Serves; decide +kernel⟩,
     ⟨base.putN (OD.LANE_STATE 0) 4, (0 : Fin 18), 64, 1, by delta State.Serves; decide +kernel⟩,
     ⟨at_Link_lanes_13, (0 : Fin 18), ((((at_Link_lanes_13.ser 0).powerDue).map (·.1)).getD 0), ((((at_Link_lanes_13.ser 0).powerDue).map
         (·.2)).getD 0), by decide +kernel⟩,
     ⟨base, (0 : Fin 16), by decide +kernel⟩,
     ⟨at_Link_lanes_15, (0 : Fin 16), ((at_Link_lanes_15.laneEp 0).getD 0), by decide +kernel⟩,
     ⟨(fun s => views (fun x => { x with silent := 30 }) (pw [(OD.EP_STACKS 0, 1), (OD.EP_LANE 0, 0)] s)) (base.putN OD.PAIR_MODE 0), (0 : Fin 16),
         by decide +kernel⟩,
     ⟨(fun s => views (fun x => { x with silent := 30 }) (pw [(OD.EP_STACKS 0, 1), (OD.EP_LANE 0, 0), (OD.OUT_STATE, 1), (OD.LAW_STATE, 6)] s))
         (base.putN OD.PAIR_MODE 0), (0 : Fin 16), by decide +kernel⟩⟩

/-- States and operands that meet the hypotheses of each clause of `Endpoints`. -/
theorem witness_Endpoints :
    (∃ (s : State) (e : Fin 16) (k : Fin 2), ((s.ep e.val).port k.val).rx.bundleLock = false ∧ s.past ((s.ep e.val).port k.val).dwellAt
        (ms 20) = true) ∧
    (∃ (s : State) (e : Fin 16) (p : Fin 24) (c : EpCfg) (q : EpPairCfg), (s.ep e.val).cfg = some c ∧ List.find? (fun (r : EpPairCfg) => decide
        (r.pair = p.val)) c.pairs = some q ∧ (s.ep e.val).executes = true ∧ (s.ep e.val).legsOff.contains (q.stack, q.phase) = false ∧ List.find?
        (fun (z : EdgeSet) => decide (z.pair = p.val) && decide (z.start = (q.reload ((s.ep e.val).ltc s.now)).fst % 2 ^ 32))
        (s.ep e.val).sets = none ∧ List.find? (fun (z : EdgeSet) => decide (z.pair = p.val) && decide (z.down = (q.reload
        ((s.ep e.val).ltc s.now)).snd)) (s.ep e.val).lastSets = none) ∧
    (∃ (s : State) (e : Fin 16) (p : Fin 24) (c : EpCfg) (q : EpPairCfg) (z : EdgeSet), (s.ep e.val).cfg = some c ∧ List.find? (fun
        (r : EpPairCfg) => decide (r.pair = p.val)) c.pairs = some q ∧ (s.ep e.val).executes = true ∧ (s.ep e.val).legsOff.contains (q.stack,
        q.phase) = false ∧ List.find? (fun (z : EdgeSet) => decide (z.pair = p.val) && decide (z.start = (q.reload
        ((s.ep e.val).ltc s.now)).fst % 2 ^ 32)) (s.ep e.val).sets = some z ∧ z.forceOff = true) ∧
    (∃ (s : State) (e : Fin 16) (c : EpCfg) (tick : Nat) (arm : Fin 6) (part : Nat) (codes : List Nat), (s.ep e.val).cfg = some c ∧
        (s.ep e.val).executes = true ∧ (s.ep e.val).due = [(tick, arm.val, part, codes)] ∧ tick ≤ (s.ep e.val).ltc s.now ∧ c.fullBridge = true ∧
        (s.ep e.val).bypassed = []) ∧
    (∃ (s : State) (e : Fin 16) (k : Fin 2), findType 2 ((s.ep e.val).port k.val).rx.buf = none) ∧
    (∃ (s : State) (e : Fin 16) (k : Fin 2) (cl : BitVec 128) (y : BitVec 128) (u : Endpoint), findType 2 ((s.ep e.val).port k.val).rx.buf = some cl ∧ findType 1 ((s.ep e.val).port k.val).rx.buf = some y ∧ (u = have v := ((s.ep e.val).setPort k.val (have __src := (s.ep e.val).port k.val; { rx := have __src := ((s.ep e.val).port k.val).rx; { blockLock := __src.blockLock, bundleLock := __src.bundleLock, offset := __src.offset, good := __src.good, bad := __src.bad }, tx := __src.tx, tr := __src.tr, lane := __src.lane, fom := __src.fom, retrainAt := __src.retrainAt, rate := __src.rate, dwellAt := __src.dwellAt, corr := __src.corr, uncorr := __src.uncorr, claim := __src.claim, claimAt := __src.claimAt, epoch := __src.epoch, freshUntil := __src.freshUntil, sender := __src.sender, frameNo := __src.frameNo, oneway := __src.oneway, taps := __src.taps, power := __src.power })).noteClaim k.val s.now cl; v.setPort k.val (have __src := v.port k.val; { rx := __src.rx, tx := __src.tx, tr := __src.tr, lane := __src.lane, fom := __src.fom, retrainAt := __src.retrainAt, rate := __src.rate, dwellAt := __src.dwellAt, corr := __src.corr, uncorr := __src.uncorr, claim := __src.claim, claimAt := __src.claimAt, epoch := __src.epoch, freshUntil := __src.freshUntil, sender := __src.sender, frameNo := fld y 64 32, oneway := __src.oneway, taps := __src.taps, power := __src.power })) ∧ (∀ (g : EpCfg), u.cfg = some g → g.mode = fld cl 122 2) ∧ u.obeyedPort (fld cl 122 2) s.now = some k.val ∧ u.later (fld y 64 32) = true) ∧
    (∃ (s : State) (e : Fin 16) (t0 : Nat), (s.ep e.val).awaited = some t0 ∧ (t0 + (s.ep e.val).fTicks + 1500 + match (s.ep e.val).obeyed with | some k => ((s.ep e.val).port k).oneway | none => ((s.ep e.val).port 0).oneway.max ((s.ep e.val).port 1).oneway) + 625 ≤ (s.ep e.val).ltc s.now) ∧
    (∃ (s : State) (e : Fin 16), (s.ep e.val).state = 5 ∧ (s.ep e.val).stop = none ∧ (s.ep e.val).bridgeN ≤ (s.ep e.val).missed) ∧
    (∃ (s : State) (e : Fin 16) (k : Fin 2) (t0 : Nat), ((s.ep e.val).port k.val).freshUntil = some t0 ∧ t0 ≤ s.now) ∧
    (∃ (s : State) (e : Fin 16) (g : EpCfg), (s.ep e.val).generation = some g ∧ (s.ep e.val).cfg ≠ some g) ∧
    (∃ (f : LocalFault), (f.kind = 4 ∨ f.kind = 5)) ∧
    (∃ (f : LocalFault), f.kind = 3 ∧ f.forces = false) ∧
    (∃ (s : State) (e : Fin 16), (¬((s.ep e.val).ulStart s.now ≠ none ∧ (s.ep e.val).ulStart s.now = (s.ep e.val).ulSent))) ∧
    (∃ (s : State) (e : Fin 16), (s.ep e.val).ulStart s.now ≠ none ∧ (s.ep e.val).ulStart s.now = (s.ep e.val).ulSent) :=
    ⟨⟨base, (0 : Fin 16), (0 : Fin 2), by decide +kernel⟩,
     ⟨at_Endpoints_1, (0 : Fin 16), (0 : Fin 24), (((at_Endpoints_1.ep 0).cfg).getD ({ bridgeN := 0, toi := 0, ulStart := 0, reserve := 0 })),
         ((List.find? (fun (r : EpPairCfg) => decide (r.pair = 0)) ((((at_Endpoints_1.ep 0).cfg).getD
         ({ bridgeN := 0, toi := 0, ulStart := 0, reserve := 0 }))).pairs).getD ({ polarity := 0 })), by decide +kernel⟩,
     ⟨at_Endpoints_2, (0 : Fin 16), (0 : Fin 24), (((at_Endpoints_2.ep 0).cfg).getD ({ bridgeN := 0, toi := 0, ulStart := 0, reserve := 0 })),
         ((List.find? (fun (r : EpPairCfg) => decide (r.pair = 0)) ((((at_Endpoints_2.ep 0).cfg).getD
         ({ bridgeN := 0, toi := 0, ulStart := 0, reserve := 0 }))).pairs).getD ({ polarity := 0 })), ((List.find? (fun (z : EdgeSet) => decide
         (z.pair = 0) && decide (z.start = ((((List.find? (fun (r : EpPairCfg) => decide (r.pair = 0)) ((((at_Endpoints_2.ep 0).cfg).getD
         ({ bridgeN := 0, toi := 0, ulStart := 0, reserve := 0 }))).pairs).getD ({ polarity := 0 }))).reload
         ((at_Endpoints_2.ep 0).ltc at_Endpoints_2.now)).fst % 2 ^ 32)) (at_Endpoints_2.ep 0).sets).getD ({ })), by decide +kernel⟩,
     ⟨at_Endpoints_3, (0 : Fin 16), (((at_Endpoints_3.ep 0).cfg).getD ({ bridgeN := 0, toi := 0, ulStart := 0, reserve := 0 })), 0, (0 : Fin 6), 0,
         List.replicate 48 1, by decide +kernel⟩,
     ⟨base, (0 : Fin 16), (0 : Fin 2), by decide +kernel⟩,
     ⟨at_Endpoints_5, (0 : Fin 16), (0 : Fin 2), ((findType 2 ((at_Endpoints_5.ep 0).port 0).rx.buf).getD (0#128)), ((findType 1 ((at_Endpoints_5.ep 0).port 0).rx.buf).getD (0#128)), have v := ((at_Endpoints_5.ep 0).setPort 0 (have __src := (at_Endpoints_5.ep 0).port 0; { rx := have __src := ((at_Endpoints_5.ep 0).port 0).rx; { blockLock := __src.blockLock, bundleLock := __src.bundleLock, offset := __src.offset, good := __src.good, bad := __src.bad }, tx := __src.tx, tr := __src.tr, lane := __src.lane, fom := __src.fom, retrainAt := __src.retrainAt, rate := __src.rate, dwellAt := __src.dwellAt, corr := __src.corr, uncorr := __src.uncorr, claim := __src.claim, claimAt := __src.claimAt, epoch := __src.epoch, freshUntil := __src.freshUntil, sender := __src.sender, frameNo := __src.frameNo, oneway := __src.oneway, taps := __src.taps, power := __src.power })).noteClaim 0 at_Endpoints_5.now (((findType 2 ((at_Endpoints_5.ep 0).port 0).rx.buf).getD (0#128))); v.setPort 0 (have __src := v.port 0; { rx := __src.rx, tx := __src.tx, tr := __src.tr, lane := __src.lane, fom := __src.fom, retrainAt := __src.retrainAt, rate := __src.rate, dwellAt := __src.dwellAt, corr := __src.corr, uncorr := __src.uncorr, claim := __src.claim, claimAt := __src.claimAt, epoch := __src.epoch, freshUntil := __src.freshUntil, sender := __src.sender, frameNo := fld (((findType 1 ((at_Endpoints_5.ep 0).port 0).rx.buf).getD (0#128))) 64 32, oneway := __src.oneway, taps := __src.taps, power := __src.power }), by decide +kernel⟩,
     ⟨at_Endpoints_6, (0 : Fin 16), (((at_Endpoints_6.ep 0).awaited).getD 0), by decide +kernel⟩,
     ⟨(eps fun x => { x with state := 5, missed := 3 }) (base), (0 : Fin 16), by decide +kernel⟩,
     ⟨at_Endpoints_8, (0 : Fin 16), (0 : Fin 2), ((((at_Endpoints_8.ep 0).port 0).freshUntil).getD 0), by decide +kernel⟩,
     ⟨at_Endpoints_9, (0 : Fin 16), (((at_Endpoints_9.ep 0).generation).getD ({ bridgeN := 0, toi := 0, ulStart := 0, reserve := 0 })),
         by decide +kernel⟩,
     ⟨{ kind := 4, group := 1, index := 3, device := 0, value := 5, forces := false }, by decide +kernel⟩,
     ⟨{ kind := 3, group := 1, index := 3, device := 0, value := 5, forces := false }, by decide +kernel⟩,
     ⟨base, (0 : Fin 16), by decide +kernel⟩,
     ⟨(eps fun x => let y := { x with cfg := some epcfg, awaited := some 5 }; { y with ulSent := y.ulStart (10 ^ 16) }) (base), (0 : Fin 16),
         by decide +kernel⟩⟩

/-- States and operands that meet the hypotheses of each clause of `Lane_commands`. -/
theorem witness_Lane_commands :
    (∃ (s : State) (session : Nat) (l : Lane), s.Serves ∧ s.ownerRefusal session = none ∧ s.serving = some l ∧
        (s.laneSt l.other = 4 ∨ s.laneSt l.other = 6 ∧ (s.lane l.other).skewRun = 0 ∧ s.past (s.lane l.other).shadowAt (sec
        (s.nat OD.SKEW_MIN_TIME)) = true)) ∧
    (∃ (s : State) (session : Nat) (l : Lane), s.Serves ∧ s.ownerRefusal session = none ∧ s.serving = some l ∧ s.laneSt l.other ≠ 4 ∧
        s.laneSt l.other ≠ 6) ∧
    (∃ (s : State) (session : Nat) (l : Lane), s.Serves ∧ s.ownerRefusal session = none ∧ s.laneSt l = 7) ∧
    (∃ (s : State) (session : Nat) (l : Lane), s.Serves ∧ s.ownerRefusal session = none ∧ s.laneSt l ≠ 7) ∧
    (∃ (s : State) (session : Nat) (l : Lane), s.Serves ∧ s.ownerRefusal session = none ∧ s.laneSt l ≠ 0 ∧ s.serving ≠ some l) ∧
    (∃ (s : State) (session : Nat) (l : Lane), s.Serves ∧ s.ownerRefusal session = none ∧ s.laneSt l ≠ 0 ∧ s.serving = some l ∧
        s.laneSt l.other = 4) ∧
    (∃ (s : State) (session : Nat) (l : Lane), s.Serves ∧ s.ownerRefusal session = none ∧ (s.laneSt l = 0 ∨ s.serving = some l ∧
        s.laneSt l.other ≠ 4)) :=
    ⟨⟨at_Lane_commands_0, 64, ((at_Lane_commands_0.serving).getD Lane.a), by delta State.Serves; decide +kernel⟩,
     ⟨at_Lane_commands_1, 64, ((at_Lane_commands_1.serving).getD Lane.a), by delta State.Serves; decide +kernel⟩,
     ⟨base.putN (laneKey Lane.a) 7, 64, Lane.a, by delta State.Serves; decide +kernel⟩,
     ⟨base.putN (laneKey Lane.a) 8, 64, Lane.a, by delta State.Serves; decide +kernel⟩,
     ⟨base.putN (laneKey Lane.b) 1, 64, .b, by delta State.Serves; decide +kernel⟩,
     ⟨at_Lane_commands_5, 64, ((at_Lane_commands_5.serving).getD Lane.a), by delta State.Serves; decide +kernel⟩,
     ⟨base.putN (laneKey Lane.a) 0, 64, Lane.a, by delta State.Serves; decide +kernel⟩⟩

/-- States and operands that meet the hypotheses of each clause of `Lane_events`. -/
theorem witness_Lane_events :
    (∃ (s : State) (l : Lane), s.laneSt l = 0 ∧ s.domainOn (3 + l.num) = true ∧ (s.lane l).fenced = true) ∧
    (∃ (s : State) (l : Lane), s.laneSt l = 0 ∧ s.domainOn (3 + l.num) = true ∧ (s.lane l).fenced = false ∧ s.serving ≠ none) ∧
    (∃ (s : State) (l : Lane), s.laneSt l = 0 ∧ s.domainOn (3 + l.num) = true ∧ (s.lane l).fenced = false ∧ s.serving = none ∧
        s.flag OD.BOOT_READY = true) ∧
    (∃ (s : State) (l : Lane), s.laneSt l = 1 ∧ (s.lane l).fenced = false) ∧
    (∃ (s : State) (l : Lane) (pass : Bool), s.laneSt l = 1 ∧ (pass = false ∨ (s.lane l).fenced = true)) ∧
    (∃ (s : State) (l : Lane), s.laneSt l ≠ 1) ∧
    (∃ (s : State) (l : Lane), s.laneSt l = 3 ∧ 256 ≤ (s.lane l).stepCount ∧ s.laneSt l.other ≠ 3 ∧ s.pairOn = false) ∧
    (∃ (s : State) (l : Lane), s.laneSt l = 6 ∧ 16 ≤ (s.lane l).skewRun) ∧
    (∃ (s : State), s.nat OD.PAIR_STATE = 8 ∧ 16 ≤ s.pair.skewRun) ∧
    (∃ (s : State) (l : Lane), s.serving = some l ∧ s.nat OD.ROTATE_INTERVAL ≠ 0 ∧ s.past (s.lane l).servedSince (sec
        (3600 * s.nat OD.ROTATE_INTERVAL)) = true) ∧
    (∃ (s : State), s.pairOn = true ∧ s.moduleRole = 2) ∧
    (∃ (s : State), s.nat OD.EFT_STATE = 1 ∧ 32 ≤ s.lanes.eftWarm) ∧
    (∃ (s : State), s.nat OD.EFT_STATE = 2 ∧ s.nat OD.EFT_DISAGREE_MAX ≤ s.lanes.eftDisagree) :=
    ⟨⟨(lanesf fun x => { x with a := { x.a with fenced := true } }) (base.putN (laneKey Lane.a) 0), Lane.a, by decide +kernel⟩,
     ⟨base.putN (laneKey Lane.a) 0, Lane.a, by decide +kernel⟩,
     ⟨(pw [(OD.SERVING_LANE, 0xFF)]) ((base.putN (laneKey Lane.a) 0).putB OD.BOOT_READY true), Lane.a, by decide +kernel⟩,
     ⟨base.putN (laneKey Lane.a) 1, Lane.a, by decide +kernel⟩,
     ⟨base.putN (laneKey Lane.a) 1, Lane.a, false, by decide +kernel⟩,
     ⟨base.putN (laneKey Lane.a) 2, Lane.a, by decide +kernel⟩,
     ⟨(lanesf fun x => { x with a := { x.a with stepCount := 256 } }) (((base.putN (laneKey Lane.a) 3).putN
         (laneKey Lane.a.other) 4).putN OD.PAIR_MODE 0), Lane.a, by decide +kernel⟩,
     ⟨(lanesf fun x => { x with a := { x.a with skewRun := 16 } }) (base.putN (laneKey Lane.a) 6), Lane.a, by decide +kernel⟩,
     ⟨(pairf fun x => { x with skewRun := 16 }) (base.putN OD.PAIR_STATE 8), by decide +kernel⟩,
     ⟨at_Lane_events_9, ((at_Lane_events_9.serving).getD Lane.a), by decide +kernel⟩,
     ⟨(pw [(OD.PAIR_STATE, 4)]) (base.putN OD.PAIR_MODE 1), by decide +kernel⟩,
     ⟨(lanesf fun x => { x with eftWarm := 32 }) (base.putN OD.EFT_STATE 1), by decide +kernel⟩,
     ⟨(lanesf fun x => { x with eftDisagree := 10 ^ 9 }) (base.putN OD.EFT_STATE 2), by decide +kernel⟩⟩

/-- States and operands that meet the hypotheses of each clause of `Lane_comparison`. -/
theorem witness_Lane_comparison :
    (∃ (s : State) (l : Lane) (c : LaneCommit) (d : LaneCommit), s.serving = some l ∧ s.laneSt l = 5 ∧ (s.lane l).commit = some c ∧
        (s.lane l.other).commit = some d ∧ d.frame = c.frame ∧ c.slip = false ∧ d.slip = false ∧ c.digest = d.digest ∧
        (s.laneSt l.other = 3 ∨ s.laneSt l.other = 4) ∧ s.nat OD.EFT_STATE ≠ 2) ∧
    (∃ (s : State) (l : Lane) (c : LaneCommit) (d : LaneCommit), s.serving = some l ∧ s.laneSt l = 5 ∧ (s.lane l).commit = some c ∧
        (s.lane l.other).commit = some d ∧ d.frame = c.frame ∧ c.slip = false ∧ d.slip = false ∧ c.digest ≠ d.digest ∧ s.laneSt l.other = 3) ∧
    (∃ (s : State) (l : Lane) (c : LaneCommit) (d : LaneCommit), s.serving = some l ∧ s.laneSt l = 5 ∧ (s.lane l).commit = some c ∧
        (s.lane l.other).commit = some d ∧ d.frame = c.frame ∧ c.slip = false ∧ d.slip = false ∧ c.digest ≠ d.digest ∧ s.laneSt l.other = 4 ∧
        (s.lane l).diagFail = true ∧ (s.lane l.other).diagFail = false ∧ (s.lane l.other).frameBad = false) ∧
    (∃ (s : State) (l : Lane) (c : LaneCommit) (d : LaneCommit), s.serving = some l ∧ s.laneSt l = 5 ∧ (s.lane l).commit = some c ∧
        (s.lane l.other).commit = some d ∧ d.frame = c.frame ∧ c.slip = false ∧ d.slip = false ∧ c.digest ≠ d.digest ∧ s.laneSt l.other = 4 ∧
        (s.lane l.other).diagFail = true ∧ (s.lane l).diagFail = false ∧ (s.lane l).frameBad = false) ∧
    (∃ (s : State) (l : Lane) (c : LaneCommit) (d : LaneCommit), s.serving = some l ∧ s.laneSt l = 5 ∧ (s.lane l).commit = some c ∧
        (s.lane l.other).commit = some d ∧ d.frame = c.frame ∧ c.slip = false ∧ d.slip = false ∧ c.digest ≠ d.digest ∧ s.laneSt l.other = 4 ∧
        s.nat OD.EFT_STATE ≠ 2 ∧ (s.lane l).diagFail = (s.lane l.other).diagFail ∧ (s.lane l).frameBad = false ∧
        (s.lane l.other).frameBad = false) ∧
    (∃ (kaA : KaResult) (kaB : KaResult), kaA ≠ KaResult.completed ∧ kaB ≠ KaResult.completed) ∧
    (∃ (kaA : KaResult), kaA = KaResult.failed) ∧
    (∃ (kaB : KaResult), kaB = KaResult.failed) :=
    ⟨⟨at_Lane_comparison_0, ((at_Lane_comparison_0.serving).getD Lane.a), (((at_Lane_comparison_0.lane
        (((at_Lane_comparison_0.serving).getD Lane.a))).commit).getD ({ digest := 0#128 })), (((at_Lane_comparison_0.lane
        (((at_Lane_comparison_0.serving).getD Lane.a)).other).commit).getD ({ digest := 0#128 })), by decide +kernel⟩,
     ⟨at_Lane_comparison_1, ((at_Lane_comparison_1.serving).getD Lane.a), (((at_Lane_comparison_1.lane
         (((at_Lane_comparison_1.serving).getD Lane.a))).commit).getD ({ digest := 0#128 })), (((at_Lane_comparison_1.lane
         (((at_Lane_comparison_1.serving).getD Lane.a)).other).commit).getD ({ digest := 0#128 })), by decide +kernel⟩,
     ⟨at_Lane_comparison_2, ((at_Lane_comparison_2.serving).getD Lane.a), (((at_Lane_comparison_2.lane
         (((at_Lane_comparison_2.serving).getD Lane.a))).commit).getD ({ digest := 0#128 })), (((at_Lane_comparison_2.lane
         (((at_Lane_comparison_2.serving).getD Lane.a)).other).commit).getD ({ digest := 0#128 })), by decide +kernel⟩,
     ⟨at_Lane_comparison_3, ((at_Lane_comparison_3.serving).getD Lane.a), (((at_Lane_comparison_3.lane
         (((at_Lane_comparison_3.serving).getD Lane.a))).commit).getD ({ digest := 0#128 })), (((at_Lane_comparison_3.lane
         (((at_Lane_comparison_3.serving).getD Lane.a)).other).commit).getD ({ digest := 0#128 })), by decide +kernel⟩,
     ⟨at_Lane_comparison_4, ((at_Lane_comparison_4.serving).getD Lane.a), (((at_Lane_comparison_4.lane
         (((at_Lane_comparison_4.serving).getD Lane.a))).commit).getD ({ digest := 0#128 })), (((at_Lane_comparison_4.lane
         (((at_Lane_comparison_4.serving).getD Lane.a)).other).commit).getD ({ digest := 0#128 })), by decide +kernel⟩,
     ⟨KaResult.none, KaResult.none, by decide +kernel⟩,
     ⟨KaResult.failed, by decide +kernel⟩,
     ⟨KaResult.failed, by decide +kernel⟩⟩

/-- States and operands that meet the hypotheses of each clause of `Pair_events`. -/
theorem witness_Pair_events :
    (∃ (s : State) (x0 : Option (BitVec 144)) (x1 : Option (BitVec 144)) (hb : BitVec 128), s.pairOn = true ∧ crossPick x0 x1 = some hb ∧
        ptype hb = 13 ∧ fld hb 120 4 = 0) ∧
    (∃ (s : State) (x0 : Option (BitVec 144)) (x1 : Option (BitVec 144)), s.pairOn = true ∧ (∀ (hb : BitVec 128),
        crossPick x0 x1 = some hb → ptype hb ≠ 13 ∨ fld hb 120 4 ≠ 0)) ∧
    (∃ (s : State) (h : BitVec 128) (raw : List (BitVec 128)) (ws : List (BitVec 144)), s.pairOn = true ∧ (∀ (w : BitVec 144),
        w ∈ ws → bushelDecode w = Decoded.clean) ∧ List.map bushelData ws = h :: raw ∧ ptype h = 13 ∧ fld h 120 4 = 1 ∧ fld h 116 4 = 0 ∧
        raw.length = 10 ∧ s.frame.block = none ∧ s.nat OD.PAIR_STATE ≠ 6) ∧
    (∃ (s : State) (h : BitVec 128) (raw : List (BitVec 128)) (ws : List (BitVec 144)), s.pairOn = true ∧ (∀ (w : BitVec 144),
        w ∈ ws → bushelDecode w = Decoded.clean) ∧ List.map bushelData ws = h :: raw ∧ ptype h = 13 ∧ fld h 120 4 = 1 ∧ fld h 116 4 = 2 ∧
        s.nat OD.PAIR_STATE = 2 ∧ s.nat OD.COPY_LEFT ≠ 0) ∧
    (∃ (s : State) (h : BitVec 128) (raw : List (BitVec 128)) (ws : List (BitVec 144)) (own : LaneCommit), s.pairOn = true ∧ (∀ (w : BitVec 144),
        w ∈ ws → bushelDecode w = Decoded.clean) ∧ List.map bushelData ws = h :: raw ∧ ptype h = 13 ∧ fld h 120 4 = 1 ∧ fld h 116 4 = 3 ∧
        s.pair.own = some own ∧ own.frame = fld h 52 32 ∧ own.slip = false ∧ fld h 42 1 = 0 ∧ s.nat OD.PARTNER_STATE ≠ 8 ∧
        own.digest = raw.getD 0 0 ∧ s.nat OD.PAIR_STATE = 3) ∧
    (∃ (s : State) (h : BitVec 128) (raw : List (BitVec 128)) (ws : List (BitVec 144)) (own : LaneCommit), s.pairOn = true ∧ (∀ (w : BitVec 144),
        w ∈ ws → bushelDecode w = Decoded.clean) ∧ List.map bushelData ws = h :: raw ∧ ptype h = 13 ∧ fld h 120 4 = 1 ∧ fld h 116 4 = 3 ∧
        s.pair.own = some own ∧ own.frame = fld h 52 32 ∧ own.slip = false ∧ fld h 42 1 = 0 ∧ s.nat OD.PARTNER_STATE ≠ 8 ∧
        own.digest ≠ raw.getD 0 0 ∧ s.nat OD.PAIR_STATE = 3) ∧
    (∃ (s : State) (h : BitVec 128) (raw : List (BitVec 128)) (ws : List (BitVec 144)) (own : LaneCommit), s.pairOn = true ∧ (∀ (w : BitVec 144),
        w ∈ ws → bushelDecode w = Decoded.clean) ∧ List.map bushelData ws = h :: raw ∧ ptype h = 13 ∧ fld h 120 4 = 1 ∧ fld h 116 4 = 3 ∧
        s.pair.own = some own ∧ own.frame = fld h 52 32 ∧ own.slip = false ∧ fld h 42 1 = 0 ∧ s.nat OD.PARTNER_STATE ≠ 8 ∧
        own.digest ≠ raw.getD 0 0 ∧ (s.nat OD.PAIR_STATE = 4 ∨ s.nat OD.PAIR_STATE = 5) ∧ ((s.lane Lane.a).commit = none ∨
        (s.lane Lane.b).commit = none ∨ Option.map (fun (x : LaneCommit) => x.digest) (s.lane Lane.a).commit = Option.map (fun
        (x : LaneCommit) => x.digest) (s.lane Lane.b).commit)) ∧
    (∃ (s : State) (h : BitVec 128) (raw : List (BitVec 128)) (ws : List (BitVec 144)), s.pairOn = true ∧ (∀ (w : BitVec 144),
        w ∈ ws → bushelDecode w = Decoded.clean) ∧ List.map bushelData ws = h :: raw ∧ ptype h = 13 ∧ fld h 120 4 = 1 ∧ fld h 116 4 = 1 ∧
        s.nat OD.PAIR_STATE = 5) ∧
    (∃ (s : State) (w : BitVec 144) (ws : List (BitVec 144)) (h : BitVec 128), s.pairOn = true ∧ bushelDecode w = Decoded.clean ∧
        h = bushelData w ∧ (∃ (x : BitVec 144), x ∈ ws ∧ bushelGood x = none) ∧ ptype h = 13 ∧ fld h 120 4 = 1 ∧ fld h 116 4 = 1 ∧
        (s.nat OD.PAIR_STATE = 3 ∨ s.nat OD.PAIR_STATE = 4 ∨ s.nat OD.PAIR_STATE = 8)) ∧
    (∃ (s : State) (w : BitVec 144) (ws : List (BitVec 144)) (h : BitVec 128), s.pairOn = true ∧ bushelDecode w = Decoded.clean ∧
        h = bushelData w ∧ (∃ (x : BitVec 144), x ∈ ws ∧ bushelGood x = none) ∧ ptype h = 13 ∧ fld h 120 4 = 1 ∧ fld h 116 4 ≠ 1) ∧
    (∃ (s : State), s.pairOn = true ∧ (s.nat OD.PAIR_STATE = 3 ∨ s.nat OD.PAIR_STATE = 4 ∨ s.nat OD.PAIR_STATE = 7 ∨ s.nat OD.PAIR_STATE = 8) ∧
        s.pair.blockIn = false ∧ s.frame.begun = true ∧ s.frame.t0 + 1500 + s.nat (OD.ONEWAY 16) ≤ s.ltc) ∧
    (∃ (s : State) (t0 : Nat), s.pairOn = true ∧ s.pair.plausSince = some t0 ∧ s.past t0 (sec 1) = true ∧ s.bit OD.HEALTH_FLAGS 8 = false) ∧
    (∃ (s : State), s.pairOn = true ∧ s.nat OD.PAIR_STATE = 1 ∧ s.flag OD.BOOT_READY = true ∧ s.nat OD.UPDATE_STAGE ≠ 3 ∧
        (s.witnessed = true ∨ s.pair.heard = true ∧ (s.nat OD.PARTNER_CLAIM / 4096 = 3 ∨ s.uncappedClaim ≤ s.nat OD.PARTNER_CLAIM % 4096))) ∧
    (∃ (s : State), s.pairOn = true ∧ s.nat OD.PAIR_STATE = 1 ∧ s.flag OD.BOOT_READY = true ∧ s.nat OD.UPDATE_STAGE ≠ 3 ∧ s.witnessed = false ∧
        s.flag OD.PAIR_AUTO_START = false ∧ (s.pair.heard = true ∧ s.nat OD.PARTNER_CLAIM / 4096 ≠ 3 ∧
        s.nat OD.PARTNER_CLAIM % 4096 < s.uncappedClaim ∨ s.pair.heard = false ∧ s.past s.pair.startAt (sec 1) = true)) ∧
    (∃ (s : State), s.pairOn = true ∧ s.nat OD.PAIR_STATE = 1 ∧ s.flag OD.BOOT_READY = true ∧ s.nat OD.UPDATE_STAGE ≠ 3 ∧ s.witnessed = false ∧
        s.pair.heard = false ∧ s.past s.pair.startAt (sec 1) = false) ∧
    (∃ (s : State) (t0 : Nat), s.pairOn = true ∧ s.pair.healthAhead = some t0 ∧ s.past t0 (sec 10) = true ∧ s.nat OD.HANDOVER_MARGIN ≠ 0 ∧
        s.handoverOk = true ∧ s.pair.handover = none) :=
    ⟨⟨base.putN OD.PAIR_MODE 1, some (bushelEncode (BitVec.ofNat 128 (0xD * 2 ^ 124 + 0x2010 * 2 ^ 104 + 7 * 2 ^ 72))), none, BitVec.ofNat 128
        (0xD * 2 ^ 124 + 0x2010 * 2 ^ 104 + 7 * 2 ^ 72), by decide +kernel⟩,
     ⟨base.putN OD.PAIR_MODE 1, none, none, by decide +kernel, fun _ h => by simp [crossPick] at h⟩,
     ⟨(base.putN OD.PAIR_MODE 1).putN OD.PAIR_STATE 7, xl 0, List.replicate 10 7, (xl 0 :: List.replicate 10 7).map bushelEncode,
         by decide +kernel, fun w hw => of_decide_eq_true ((List.all_eq_true.mp (by decide +kernel : (List.all _ fun w => decide
         (bushelDecode w = Decoded.clean)) = true)) w hw), by decide +kernel, by decide +kernel, by decide +kernel, by decide +kernel,
         by decide +kernel, by decide +kernel, by decide +kernel⟩,
     ⟨((base.putN OD.PAIR_MODE 1).putN OD.PAIR_STATE 2).putN OD.COPY_LEFT 1, xl 2, [1, 2], [xl 2, 1, 2].map bushelEncode, by decide +kernel,
         fun w hw => of_decide_eq_true ((List.all_eq_true.mp (by decide +kernel : (List.all _ fun w => decide
         (bushelDecode w = Decoded.clean)) = true)) w hw), by decide +kernel, by decide +kernel, by decide +kernel, by decide +kernel,
         by decide +kernel, by decide +kernel⟩,
     ⟨(pairf fun p => { p with own := some lc0 }) (((base.putN OD.PAIR_MODE 1).putN OD.PARTNER_STATE 9).putN OD.PAIR_STATE 3), xl 3, [5], [xl 3,
         5].map bushelEncode, lc0, by decide +kernel, fun w hw => of_decide_eq_true ((List.all_eq_true.mp (by decide +kernel :
         (List.all _ fun w => decide (bushelDecode w = Decoded.clean)) = true)) w hw), by decide +kernel, by decide +kernel, by decide +kernel,
         by decide +kernel, by decide +kernel, by decide +kernel, by decide +kernel, by decide +kernel, by decide +kernel, by decide +kernel,
         by decide +kernel⟩,
     ⟨(pairf fun p => { p with own := some lc0 }) (((base.putN OD.PAIR_MODE 1).putN OD.PARTNER_STATE 9).putN OD.PAIR_STATE 3), xl 3, [6], [xl 3,
         6].map bushelEncode, lc0, by decide +kernel, fun w hw => of_decide_eq_true ((List.all_eq_true.mp (by decide +kernel :
         (List.all _ fun w => decide (bushelDecode w = Decoded.clean)) = true)) w hw), by decide +kernel, by decide +kernel, by decide +kernel,
         by decide +kernel, by decide +kernel, by decide +kernel, by decide +kernel, by decide +kernel, by decide +kernel, by decide +kernel,
         by decide +kernel⟩,
     ⟨(pairf fun p => { p with own := some lc0 }) (((base.putN OD.PAIR_MODE 1).putN OD.PARTNER_STATE 9).putN OD.PAIR_STATE 4), xl 3, [6], [xl 3,
         6].map bushelEncode, lc0, by decide +kernel, fun w hw => of_decide_eq_true ((List.all_eq_true.mp (by decide +kernel :
         (List.all _ fun w => decide (bushelDecode w = Decoded.clean)) = true)) w hw), by decide +kernel, by decide +kernel, by decide +kernel,
         by decide +kernel, by decide +kernel, by decide +kernel, by decide +kernel, by decide +kernel, by decide +kernel, by decide +kernel,
         by decide +kernel, by decide +kernel⟩,
     ⟨(base.putN OD.PAIR_MODE 1).putN OD.PAIR_STATE 5, xl 1, [6], [xl 1, 6].map bushelEncode, by decide +kernel, fun w hw => of_decide_eq_true
         ((List.all_eq_true.mp (by decide +kernel : (List.all _ fun w => decide (bushelDecode w = Decoded.clean)) = true)) w hw),
         by decide +kernel, by decide +kernel, by decide +kernel, by decide +kernel, by decide +kernel⟩,
     ⟨(base.putN OD.PAIR_MODE 1).putN OD.PAIR_STATE 3, bushelEncode (xl 1), [0x101], xl 1, by decide +kernel, by decide +kernel, by decide +kernel,
         ⟨0x101, by decide +kernel⟩, by decide +kernel, by decide +kernel, by decide +kernel, by decide +kernel⟩,
     ⟨base.putN OD.PAIR_MODE 1, bushelEncode (xl 3), [0x101], xl 3, by decide +kernel, by decide +kernel, by decide +kernel, ⟨0x101,
         by decide +kernel⟩, by decide +kernel, by decide +kernel, by decide +kernel⟩,
     ⟨(frm fun f => { f with begun := true }) ((base.putN OD.PAIR_MODE 1).putN OD.PAIR_STATE 3), by decide +kernel⟩,
     ⟨at_Pair_events_11, ((at_Pair_events_11.pair.plausSince).getD 0), by decide +kernel⟩,
     ⟨(fun s => pairf (fun p => { p with heard := true }) (pw [(OD.PARTNER_CLAIM, 0x3000)] s))
         ((((base.putN OD.PAIR_MODE 1).putN OD.PAIR_STATE 1).putB OD.BOOT_READY true).putN OD.UPDATE_STAGE 4), by decide +kernel⟩,
     ⟨((((base.putN OD.PAIR_MODE 1).putN OD.PAIR_STATE 1).putB OD.BOOT_READY true).putN OD.UPDATE_STAGE 4).putB OD.PAIR_AUTO_START false,
         by decide +kernel⟩,
     ⟨(pairf fun p => { p with startAt := 10 ^ 16 })
         ((((base.putN OD.PAIR_MODE 1).putN OD.PAIR_STATE 1).putB OD.BOOT_READY true).putN OD.UPDATE_STAGE 4), by decide +kernel⟩,
     ⟨at_Pair_events_15, ((at_Pair_events_15.pair.healthAhead).getD 0), by decide +kernel⟩⟩

/-- States and operands that meet the hypotheses of each clause of `Pair_commands`. -/
theorem witness_Pair_commands :
    (∃ (s : State) (session : Nat), s.Serves ∧ s.ownerRefusal session = none ∧ s.handoverOk = true) ∧
    (∃ (s : State) (session : Nat), s.Serves ∧ s.ownerRefusal session = none ∧ s.handoverOk = false) ∧
    (∃ (s : State) (session : Nat), s.Serves ∧ s.ownerRefusal session = none ∧ s.nat OD.PAIR_STATE = 5 ∧ s.pair.heard = true ∧ s.pair.missRun < 2) ∧
    (∃ (s : State) (session : Nat), s.Serves ∧ s.ownerRefusal session = none ∧
        (s.nat OD.PAIR_STATE ≠ 5 ∨ s.pair.heard = false ∨ 2 ≤ s.pair.missRun)) :=
    ⟨⟨(pw [(OD.PAIR_STATE, 5), (OD.PARTNER_STATE, 4)]) (base), 64, by delta State.Serves; decide +kernel⟩,
     ⟨base, 64, by delta State.Serves; decide +kernel⟩,
     ⟨(pairf fun p => { p with heard := true }) (base.putN OD.PAIR_STATE 5), 64, by delta State.Serves; decide +kernel⟩,
     ⟨base.putN OD.PAIR_STATE 6, 64, by delta State.Serves; decide +kernel⟩⟩

/-- States and operands that meet the hypotheses of each clause of `Ownership`. -/
theorem witness_Ownership :
    (∃ (s : State) (session : Nat), s.Serves ∧ session ≠ 255 ∧ 0 < s.nat OD.OWN_LEASE ∧ s.ownRefusal session = none ∧
        s.nat OD.OWNER_SESSION = 255 ∧ s.hosts.reserve = none) ∧
    (∃ (s : State) (session : Nat) (i : BitVec 384) (t0 : Nat), s.Serves ∧ session ≠ 255 ∧ 0 < s.nat OD.OWN_LEASE ∧ s.ownRefusal session = none ∧
        s.nat OD.OWNER_SESSION = 255 ∧ s.hosts.reserve = some (i, t0) ∧ s.now < t0 ∧ s.identityOf session ≠ some i) ∧
    (∃ (s : State) (session : Nat), s.Serves ∧ session ≠ 255 ∧ 0 < s.nat OD.OWN_LEASE ∧ s.ownRefusal session = none ∧
        s.nat OD.OWNER_SESSION = session ∧ s.leaseExpired = false) ∧
    (∃ (s : State) (session : Nat), s.Serves ∧ session ≠ 255 ∧ 0 < s.nat OD.OWN_LEASE ∧ s.ownRefusal session = none ∧
        s.nat OD.OWNER_SESSION ≠ session ∧ s.nat OD.OWNER_SESSION ≠ 255 ∧ s.leaseExpired = false) ∧
    (∃ (s : State) (session : Nat), s.Serves ∧ session ≠ 255 ∧ 0 < s.nat OD.OWN_LEASE ∧ s.ownRefusal session = none ∧
        s.nat OD.OWNER_SESSION ≠ session ∧ (s.nat OD.OWNER_SESSION = 255 ∨ s.leaseExpired = false)) ∧
    (∃ (s : State) (session : Nat), s.Serves ∧ session ≠ 255 ∧ 0 < s.nat OD.OWN_LEASE ∧ s.forceRefusal session = none ∧
        s.nat OD.OWNER_SESSION ≠ session ∧ s.nat OD.OWNER_SESSION ≠ 255 ∧ s.leaseExpired = false) ∧
    (∃ (s : State) (session : Nat), s.Serves ∧ session ≠ 255 ∧ 0 < s.nat OD.OWN_LEASE ∧ s.nat OD.OWNER_SESSION ≠ 255 ∧ s.leaseExpired = true ∧
        s.nat OD.OWNER_LOSS_ACTION ≠ 1) ∧
    (∃ (s : State) (session : Nat), s.Serves ∧ session ≠ 255 ∧ 0 < s.nat OD.OWN_LEASE ∧ s.leaseExpired = false) :=
    ⟨⟨(base.putN OD.OWN_LEASE 1).putN OD.OWNER_SESSION 255, 64, by delta State.Serves; decide +kernel⟩,
     ⟨at_Ownership_1, 64, (((at_Ownership_1.hosts.reserve).map (·.1)).getD (0#384)), (((at_Ownership_1.hosts.reserve).map (·.2)).getD 0),
         by delta State.Serves; decide +kernel⟩,
     ⟨(base.putN OD.OWN_LEASE 1).putN OD.OWNER_SESSION 64, 64, by delta State.Serves; decide +kernel⟩,
     ⟨((base.putN OD.OWN_LEASE 1).putN OD.OWNER_SESSION 65).putN OD.OWNER_SESSION 256, 64, by delta State.Serves; decide +kernel⟩,
     ⟨((base.putN OD.OWN_LEASE 1).putN OD.OWNER_SESSION 65).putN OD.OWNER_SESSION 255, 64, by delta State.Serves; decide +kernel⟩,
     ⟨((base.putN OD.OWN_LEASE 1).putN OD.OWNER_SESSION 65).putN OD.OWNER_SESSION 256, 64, by delta State.Serves; decide +kernel⟩,
     ⟨(hostf fun h => { h with leaseAt := 0 }) (((base.putN OD.OWN_LEASE 1).putN OD.OWNER_SESSION 256).putN OD.OWNER_LOSS_ACTION 2), 64,
         by delta State.Serves; decide +kernel⟩,
     ⟨base.putN OD.OWN_LEASE 1, 64, by delta State.Serves; decide +kernel⟩⟩

/-- States and operands that meet the hypotheses of each clause of `Commit_discard_and_m`. -/
theorem witness_Commit_discard_and_m :
    (∃ (s : State) (session : Nat), s.Serves ∧ s.commitRefusal session false = none) ∧
    (∃ (s : State) (c : CommitRun), s.hosts.commit = some c ∧ s.standbyModule = true) ∧
    (∃ (s : State) (c : CommitRun), s.hosts.commit = some c ∧ s.standbyModule = false ∧ s.switchDue c.loadedAt c.named = false) ∧
    (∃ (s : State) (c : CommitRun), s.hosts.commit = some c ∧ s.standbyModule = false ∧ s.switchDue c.loadedAt c.named = true) ∧
    (∃ (s : State), s.hosts.commit = none ∧ s.pair.mirrorSet = none) ∧
    (∃ (s : State), s.domainOn 1 = true ∧ s.flag OD.M_CONNECTED = false ∧ s.tb.tcxoFailed = false) ∧
    (∃ (s : State), s.domainOn 1 = true ∧ s.flag OD.M_CONNECTED = true) ∧
    (∃ (s : State) (session : Nat), s.isOpen session = true) :=
    ⟨⟨base, 64, by delta State.Serves; decide +kernel⟩,
     ⟨at_Commit_discard_and_m_1, ((at_Commit_discard_and_m_1.hosts.commit).getD
         ({ session := 0, req := { op := 0, last := false, tagged := false }, set := [], loadedAt := 0, answer := false })), by decide +kernel⟩,
     ⟨at_Commit_discard_and_m_2, ((at_Commit_discard_and_m_2.hosts.commit).getD
         ({ session := 0, req := { op := 0, last := false, tagged := false }, set := [], loadedAt := 0, answer := false })), by decide +kernel⟩,
     ⟨at_Commit_discard_and_m_3, ((at_Commit_discard_and_m_3.hosts.commit).getD
         ({ session := 0, req := { op := 0, last := false, tagged := false }, set := [], loadedAt := 0, answer := false })), by decide +kernel⟩,
     ⟨base, by decide +kernel⟩,
     ⟨base.putB OD.M_CONNECTED false, by decide +kernel⟩,
     ⟨base.putB OD.M_CONNECTED true, by decide +kernel⟩,
     ⟨base, 64, by decide +kernel⟩⟩

/-- States and operands that meet the hypotheses of each clause of `Requests_arrive`. -/
theorem witness_Requests_arrive :
    (∃ (s : State) (session : Nat), s.isOpen session = false) ∧
    (∃ (s : State) (session : Nat), s.isOpen session = true ∧ s.bit OD.PR_BUSY 1 = true) ∧
    (∃ (s : State) (session : Nat) (tag : BitVec 16) (a : Reply), s.isOpen session = true ∧ s.bit OD.PR_BUSY 1 = false ∧
        s.cached { session := session, op := 2, tag := tag.toNat, at1 := s.now } = some a) ∧
    (∃ (s : State) (session : Nat) (tag : BitVec 16), s.isOpen session = true ∧ s.bit OD.PR_BUSY 1 = false ∧
        s.cached { session := session, op := 2, tag := tag.toNat, at1 := s.now } = none ∧
        s.outstanding { session := session, op := 2, tag := tag.toNat, at1 := s.now } = true) ∧
    (∃ (s : State) (session : Nat) (tag : BitVec 16), s.isOpen session = true ∧ s.bit OD.PR_BUSY 1 = false ∧
        s.cached { session := session, op := 2, tag := tag.toNat, at1 := s.now } = none ∧
        s.outstanding { session := session, op := 2, tag := tag.toNat, at1 := s.now } = false ∧ s.queueFull session = true) ∧
    (∃ (s : State) (session : Nat) (tag : BitVec 16), s.isOpen session = true ∧ s.bit OD.PR_BUSY 1 = false ∧
        s.cached { session := session, op := 2, tag := tag.toNat, at1 := s.now } = none ∧
        s.outstanding { session := session, op := 2, tag := tag.toNat, at1 := s.now } = false ∧ s.queueFull session = false ∧
        (s.engineIdle = false ∨ s.waitsForCommit { session := session, op := 2, tag := tag.toNat, at1 := s.now } = true)) ∧
    (∃ (s : State) (session : Nat) (tag : BitVec 16), s.isOpen session = true ∧ s.bit OD.PR_BUSY 1 = false ∧
        s.cached { session := session, op := 2, tag := tag.toNat, at1 := s.now } = none ∧
        s.outstanding { session := session, op := 2, tag := tag.toNat, at1 := s.now } = false ∧ s.queueFull session = false ∧ s.engineIdle = true ∧
        s.waitsForCommit { session := session, op := 2, tag := tag.toNat, at1 := s.now } = false) ∧
    (∃ (s : State) (session : Nat) (tag : BitVec 16) (a : Reply), s.isOpen session = true ∧ s.bit OD.PR_BUSY 1 = false ∧
        s.cached { session := session, tag := tag.toNat, at1 := s.now } = some a) ∧
    (∃ (s : State) (session : Nat) (tag : BitVec 16), s.isOpen session = true ∧ s.bit OD.PR_BUSY 1 = false ∧
        s.cached { session := session, tag := tag.toNat, at1 := s.now } = none ∧
        s.outstanding { session := session, tag := tag.toNat, at1 := s.now } = true) ∧
    (∃ (s : State) (session : Nat) (tag : BitVec 16), s.isOpen session = true ∧ s.bit OD.PR_BUSY 1 = false ∧
        s.cached { session := session, tag := tag.toNat, at1 := s.now } = none ∧
        s.outstanding { session := session, tag := tag.toNat, at1 := s.now } = false ∧ s.queueFull session = true) ∧
    (∃ (s : State) (session : Nat) (tag : BitVec 16), s.isOpen session = true ∧ s.bit OD.PR_BUSY 1 = false ∧
        s.cached { session := session, tag := tag.toNat, at1 := s.now } = none ∧
        s.outstanding { session := session, tag := tag.toNat, at1 := s.now } = false ∧ s.queueFull session = false ∧
        (s.engineIdle = false ∨ s.waitsForCommit { session := session, tag := tag.toNat, at1 := s.now } = true)) ∧
    (∃ (s : State) (session : Nat) (tag : BitVec 16), s.isOpen session = true ∧ s.bit OD.PR_BUSY 1 = false ∧
        s.cached { session := session, tag := tag.toNat, at1 := s.now } = none ∧
        s.outstanding { session := session, tag := tag.toNat, at1 := s.now } = false ∧ s.queueFull session = false ∧ s.engineIdle = true ∧
        s.waitsForCommit { session := session, tag := tag.toNat, at1 := s.now } = false) ∧
    (∃ (s : State) (session : Nat) (tag : BitVec 16) (index : BitVec 16) (sub : Byte) (offset : BitVec 32) (staged : Bool) (a : Reply),
        s.isOpen session = true ∧ s.bit OD.PR_BUSY 1 = false ∧
        s.cached { session := session, op := 3, index := index.toNat, sub := BitVec.toNat sub, tag := tag.toNat, offset := offset.toNat, readStaged := staged, at1 := s.now } = some a) ∧
    (∃ (s : State) (session : Nat) (tag : BitVec 16) (index : BitVec 16) (sub : Byte) (offset : BitVec 32) (staged : Bool),
        s.isOpen session = true ∧ s.bit OD.PR_BUSY 1 = false ∧
        s.cached { session := session, op := 3, index := index.toNat, sub := BitVec.toNat sub, tag := tag.toNat, offset := offset.toNat, readStaged := staged, at1 := s.now } = none ∧ s.outstanding { session := session, op := 3, index := index.toNat, sub := BitVec.toNat sub, tag := tag.toNat, offset := offset.toNat, readStaged := staged, at1 := s.now } = true) ∧
    (∃ (s : State) (session : Nat) (tag : BitVec 16) (index : BitVec 16) (sub : Byte) (offset : BitVec 32) (staged : Bool),
        s.isOpen session = true ∧ s.bit OD.PR_BUSY 1 = false ∧
        s.cached { session := session, op := 3, index := index.toNat, sub := BitVec.toNat sub, tag := tag.toNat, offset := offset.toNat, readStaged := staged, at1 := s.now } = none ∧ s.outstanding { session := session, op := 3, index := index.toNat, sub := BitVec.toNat sub, tag := tag.toNat, offset := offset.toNat, readStaged := staged, at1 := s.now } = false ∧ s.queueFull session = true) ∧
    (∃ (s : State) (session : Nat) (tag : BitVec 16) (index : BitVec 16) (sub : Byte) (offset : BitVec 32) (staged : Bool),
        s.isOpen session = true ∧ s.bit OD.PR_BUSY 1 = false ∧
        s.cached { session := session, op := 3, index := index.toNat, sub := BitVec.toNat sub, tag := tag.toNat, offset := offset.toNat, readStaged := staged, at1 := s.now } = none ∧ s.outstanding { session := session, op := 3, index := index.toNat, sub := BitVec.toNat sub, tag := tag.toNat, offset := offset.toNat, readStaged := staged, at1 := s.now } = false ∧ s.queueFull session = false ∧ (s.engineIdle = false ∨ s.waitsForCommit { session := session, op := 3, index := index.toNat, sub := BitVec.toNat sub, tag := tag.toNat, offset := offset.toNat, readStaged := staged, at1 := s.now } = true)) ∧
    (∃ (s : State) (session : Nat) (tag : BitVec 16) (index : BitVec 16) (sub : Byte) (offset : BitVec 32) (staged : Bool),
        s.isOpen session = true ∧ s.bit OD.PR_BUSY 1 = false ∧
        s.cached { session := session, op := 3, index := index.toNat, sub := BitVec.toNat sub, tag := tag.toNat, offset := offset.toNat, readStaged := staged, at1 := s.now } = none ∧ s.outstanding { session := session, op := 3, index := index.toNat, sub := BitVec.toNat sub, tag := tag.toNat, offset := offset.toNat, readStaged := staged, at1 := s.now } = false ∧ s.queueFull session = false ∧ s.engineIdle = true ∧ s.waitsForCommit { session := session, op := 3, index := index.toNat, sub := BitVec.toNat sub, tag := tag.toNat, offset := offset.toNat, readStaged := staged, at1 := s.now } = false) ∧
    (∃ (s : State) (session : Nat) (tag : BitVec 16) (index : BitVec 16) (sub : Byte) (offset : BitVec 32) (last : Bool) (data : List Byte)
        (a : Reply), s.isOpen session = true ∧ s.bit OD.PR_BUSY 1 = false ∧
        s.cached { session := session, op := 4, index := index.toNat, sub := BitVec.toNat sub, tag := tag.toNat, offset := offset.toNat, last := last, data := data, at1 := s.now } = some a) ∧
    (∃ (s : State) (session : Nat) (tag : BitVec 16) (index : BitVec 16) (sub : Byte) (offset : BitVec 32) (last : Bool) (data : List Byte),
        s.isOpen session = true ∧ s.bit OD.PR_BUSY 1 = false ∧
        s.cached { session := session, op := 4, index := index.toNat, sub := BitVec.toNat sub, tag := tag.toNat, offset := offset.toNat, last := last, data := data, at1 := s.now } = none ∧ s.outstanding { session := session, op := 4, index := index.toNat, sub := BitVec.toNat sub, tag := tag.toNat, offset := offset.toNat, last := last, data := data, at1 := s.now } = true) ∧
    (∃ (s : State) (session : Nat) (tag : BitVec 16) (index : BitVec 16) (sub : Byte) (offset : BitVec 32) (last : Bool) (data : List Byte),
        s.isOpen session = true ∧ s.bit OD.PR_BUSY 1 = false ∧
        s.cached { session := session, op := 4, index := index.toNat, sub := BitVec.toNat sub, tag := tag.toNat, offset := offset.toNat, last := last, data := data, at1 := s.now } = none ∧ s.outstanding { session := session, op := 4, index := index.toNat, sub := BitVec.toNat sub, tag := tag.toNat, offset := offset.toNat, last := last, data := data, at1 := s.now } = false ∧ s.queueFull session = true) ∧
    (∃ (s : State) (session : Nat) (tag : BitVec 16) (index : BitVec 16) (sub : Byte) (offset : BitVec 32) (last : Bool) (data : List Byte),
        s.isOpen session = true ∧ s.bit OD.PR_BUSY 1 = false ∧
        s.cached { session := session, op := 4, index := index.toNat, sub := BitVec.toNat sub, tag := tag.toNat, offset := offset.toNat, last := last, data := data, at1 := s.now } = none ∧ s.outstanding { session := session, op := 4, index := index.toNat, sub := BitVec.toNat sub, tag := tag.toNat, offset := offset.toNat, last := last, data := data, at1 := s.now } = false ∧ s.queueFull session = false ∧ (s.engineIdle = false ∨ s.waitsForCommit { session := session, op := 4, index := index.toNat, sub := BitVec.toNat sub, tag := tag.toNat, offset := offset.toNat, last := last, data := data, at1 := s.now } = true)) ∧
    (∃ (s : State) (session : Nat) (tag : BitVec 16) (index : BitVec 16) (sub : Byte) (offset : BitVec 32) (last : Bool) (data : List Byte),
        s.isOpen session = true ∧ s.bit OD.PR_BUSY 1 = false ∧
        s.cached { session := session, op := 4, index := index.toNat, sub := BitVec.toNat sub, tag := tag.toNat, offset := offset.toNat, last := last, data := data, at1 := s.now } = none ∧ s.outstanding { session := session, op := 4, index := index.toNat, sub := BitVec.toNat sub, tag := tag.toNat, offset := offset.toNat, last := last, data := data, at1 := s.now } = false ∧ s.queueFull session = false ∧ s.engineIdle = true ∧ s.waitsForCommit { session := session, op := 4, index := index.toNat, sub := BitVec.toNat sub, tag := tag.toNat, offset := offset.toNat, last := last, data := data, at1 := s.now } = false) ∧
    (∃ (s : State) (session : Nat) (tag : BitVec 16) (q : Request), s.isOpen session = true ∧ s.bit OD.PR_BUSY 1 = false ∧ List.find?
        (sameTag { session := session, op := 6, tag := tag.toNat }) s.hosts.queue = some q) ∧
    (∃ (s : State) (session : Nat) (tag : BitVec 16), s.isOpen session = true ∧ s.bit OD.PR_BUSY 1 = false ∧ List.find?
        (sameTag { session := session, op := 6, tag := tag.toNat }) s.hosts.queue = none) ∧
    (∃ (s : State) (k : Fin 2), s.portServed (2 + k.val) = false) ∧
    (∃ (s : State) (k : Fin 2) (isWrite : Bool) (index : BitVec 16) (sub : Byte) (data : List Byte), s.portServed (2 + k.val) = true ∧
        s.bit OD.PR_BUSY 1 = false ∧ s.queueFull (canSession k.val) = false ∧ s.isOpen (canSession k.val) = true ∧ s.engineIdle = true ∧
        (s.waitsForCommit { session := canSession k.val, op := if isWrite = true then 4 else 3, index := index.toNat, sub := BitVec.toNat sub, data := data, usdo := true, tagged := false, at1 := s.now } = false)) ∧
    (∃ (s : State) (k : Fin 2), s.portServed (2 + k.val) = true ∧ s.bit OD.PR_BUSY 1 = false ∧ s.queueFull (canSession k.val) = false ∧
        s.engineIdle = false) ∧
    (∃ (s : State) (k : Fin 2), s.portServed (2 + k.val) = true ∧ s.bit OD.PR_BUSY 1 = false ∧ s.queueFull (canSession k.val) = true) :=
    ⟨⟨base, 0x30, by decide +kernel⟩,
     ⟨base.putBit OD.PR_BUSY 1 true, 64, by decide +kernel⟩,
     ⟨at_Requests_arrive_2, 64, 0#16, ((at_Requests_arrive_2.cached { session := 64, op := 2, tag := 0, at1 := at_Requests_arrive_2.now }).getD
         ({ })), by decide +kernel⟩,
     ⟨(hostf fun h => { h with queue := [{ session := 0x40, tag := 0 }] }) (base.putBit OD.PR_BUSY 1 false), 64, 0#16, by decide +kernel⟩,
     ⟨(hostf fun h => { h with queue := List.replicate 32 rq }) (base.putBit OD.PR_BUSY 1 false), 64, 0#16, by decide +kernel⟩,
     ⟨(hostf fun h => { h with queue := [rq] }) (base.putBit OD.PR_BUSY 1 false), 64, 0#16, by decide +kernel⟩,
     ⟨base.putBit OD.PR_BUSY 1 false, 64, 0#16, by decide +kernel⟩,
     ⟨at_Requests_arrive_9, 64, 0#16, ((at_Requests_arrive_9.cached { session := 64, tag := 0, at1 := at_Requests_arrive_9.now }).getD ({ })),
         by decide +kernel⟩,
     ⟨(hostf fun h => { h with queue := [{ session := 0x40, tag := 0 }] }) (base.putBit OD.PR_BUSY 1 false), 64, 0#16, by decide +kernel⟩,
     ⟨(hostf fun h => { h with queue := List.replicate 32 rq }) (base.putBit OD.PR_BUSY 1 false), 64, 0#16, by decide +kernel⟩,
     ⟨(hostf fun h => { h with queue := [rq] }) (base.putBit OD.PR_BUSY 1 false), 64, 0#16, by decide +kernel⟩,
     ⟨base.putBit OD.PR_BUSY 1 false, 64, 0#16, by decide +kernel⟩,
     ⟨at_Requests_arrive_16, 64, 0#16, 0#16, 0#8, 0#32, false,
         ((at_Requests_arrive_16.cached { session := 64, op := 3, index := 0, sub := 0, tag := 0, offset := 0, at1 := at_Requests_arrive_16.now }).getD ({ })), by decide +kernel⟩,
     ⟨(hostf fun h => { h with queue := [{ session := 0x40, tag := 0 }] }) (base.putBit OD.PR_BUSY 1 false), 64, 0#16, 0#16, 0#8, 0#32, false,
         by decide +kernel⟩,
     ⟨(hostf fun h => { h with queue := List.replicate 32 rq }) (base.putBit OD.PR_BUSY 1 false), 64, 0#16, 0#16, 0#8, 0#32, false,
         by decide +kernel⟩,
     ⟨(hostf fun h => { h with queue := [rq] }) (base.putBit OD.PR_BUSY 1 false), 64, 0#16, 0#16, 0#8, 0#32, false, by decide +kernel⟩,
     ⟨base.putBit OD.PR_BUSY 1 false, 64, 0#16, 0#16, 0#8, 0#32, false, by decide +kernel⟩,
     ⟨at_Requests_arrive_23, 64, 0#16, 0#16, 0#8, 0#32, false, [],
         ((at_Requests_arrive_23.cached { session := 64, op := 4, index := 0, sub := 0, tag := 0, offset := 0, last := false, at1 := at_Requests_arrive_23.now }).getD ({ })), by decide +kernel⟩,
     ⟨(hostf fun h => { h with queue := [{ session := 0x40, tag := 0 }] }) (base.putBit OD.PR_BUSY 1 false), 64, 0#16, 0#16, 0#8, 0#32, false, [],
         by decide +kernel⟩,
     ⟨(hostf fun h => { h with queue := List.replicate 32 rq }) (base.putBit OD.PR_BUSY 1 false), 64, 0#16, 0#16, 0#8, 0#32, false, [],
         by decide +kernel⟩,
     ⟨(hostf fun h => { h with queue := [rq] }) (base.putBit OD.PR_BUSY 1 false), 64, 0#16, 0#16, 0#8, 0#32, false, [], by decide +kernel⟩,
     ⟨base.putBit OD.PR_BUSY 1 false, 64, 0#16, 0#16, 0#8, 0#32, false, [], by decide +kernel⟩,
     ⟨at_Requests_arrive_28, 64, (9 : BitVec 16), ((List.find?
         (sameTag { session := 64, op := 6, tag := 9 }) at_Requests_arrive_28.hosts.queue).getD ({ op := 0, last := false, tagged := false })),
         by decide +kernel⟩,
     ⟨base.putBit OD.PR_BUSY 1 false, 64, 0#16, by decide +kernel⟩,
     ⟨base, (0 : Fin 2), by decide +kernel⟩,
     ⟨(fun s => pw [(OD.SESSION_STATE (sessIdx (canSession 0)), 1)] (canOn s)) (base.putBit OD.PR_BUSY 1 false), (0 : Fin 2), false, 0#16, 0#8, [],
         by decide +kernel⟩,
     ⟨(fun s => hostf (fun h => { h with queue := [rq] }) (canOn s)) (base.putBit OD.PR_BUSY 1 false), (0 : Fin 2), by decide +kernel⟩,
     ⟨(fun s => hostf (fun h => { h with queue := List.replicate 256 rq }) (canOn s)) (base.putBit OD.PR_BUSY 1 false), (0 : Fin 2),
         by decide +kernel⟩⟩

/-- States and operands that meet the hypotheses of each clause of `Requests_served`. -/
theorem witness_Requests_served :
    (∃ (s : State) (session : Nat) (tag : BitVec 16), (s.isOpen session = true ∧ s.bit OD.PR_BUSY 1 = false ∧
        s.cached { session := session, tag := tag.toNat, at1 := s.now } = none ∧
        s.outstanding { session := session, tag := tag.toNat, at1 := s.now } = false ∧ s.queueFull session = false ∧ s.engineIdle = true ∧
        s.waitsForCommit { session := session, tag := tag.toNat, at1 := s.now } = false)) ∧
    (∃ (s : State) (session : Nat) (tag : BitVec 16), (s.isOpen session = true ∧ s.bit OD.PR_BUSY 1 = false ∧
        s.cached { session := session, op := 2, tag := tag.toNat, at1 := s.now } = none ∧
        s.outstanding { session := session, op := 2, tag := tag.toNat, at1 := s.now } = false ∧ s.queueFull session = false ∧ s.engineIdle = true ∧
        s.waitsForCommit { session := session, op := 2, tag := tag.toNat, at1 := s.now } = false) ∧ session ≠ 255) ∧
    (∃ (s : State) (session : Nat) (tag : BitVec 16) (index : BitVec 16) (sub : Byte) (offset : BitVec 32) (staged : Bool) (r : Reply),
        (s.isOpen session = true ∧ s.bit OD.PR_BUSY 1 = false ∧
        s.cached { session := session, op := 3, index := index.toNat, sub := BitVec.toNat sub, tag := tag.toNat, offset := offset.toNat, readStaged := staged, at1 := s.now } = none ∧ s.outstanding { session := session, op := 3, index := index.toNat, sub := BitVec.toNat sub, tag := tag.toNat, offset := offset.toNat, readStaged := staged, at1 := s.now } = false ∧ s.queueFull session = false ∧ s.engineIdle = true ∧ s.waitsForCommit { session := session, op := 3, index := index.toNat, sub := BitVec.toNat sub, tag := tag.toNat, offset := offset.toNat, readStaged := staged, at1 := s.now } = false) ∧ s.entryAbsent index.toNat (BitVec.toNat sub) = some r) ∧
    (∃ (s : State) (session : Nat) (tag : BitVec 16) (index : BitVec 16) (sub : Byte) (offset : BitVec 32) (staged : Bool),
        (s.isOpen session = true ∧ s.bit OD.PR_BUSY 1 = false ∧
        s.cached { session := session, op := 3, index := index.toNat, sub := BitVec.toNat sub, tag := tag.toNat, offset := offset.toNat, readStaged := staged, at1 := s.now } = none ∧ s.outstanding { session := session, op := 3, index := index.toNat, sub := BitVec.toNat sub, tag := tag.toNat, offset := offset.toNat, readStaged := staged, at1 := s.now } = false ∧ s.queueFull session = false ∧ s.engineIdle = true ∧ s.waitsForCommit { session := session, op := 3, index := index.toNat, sub := BitVec.toNat sub, tag := tag.toNat, offset := offset.toNat, readStaged := staged, at1 := s.now } = false) ∧ s.entryAbsent index.toNat (BitVec.toNat sub) = none ∧ entryAccess index.toNat (BitVec.toNat sub) = Access.WO) ∧
    (∃ (s : State) (session : Nat) (tag : BitVec 16) (index : BitVec 16) (sub : Byte) (offset : BitVec 32) (staged : Bool) (x : Nat × Staged),
        (s.isOpen session = true ∧ s.bit OD.PR_BUSY 1 = false ∧
        s.cached { session := session, op := 3, index := index.toNat, sub := BitVec.toNat sub, tag := tag.toNat, offset := offset.toNat, readStaged := staged, at1 := s.now } = none ∧ s.outstanding { session := session, op := 3, index := index.toNat, sub := BitVec.toNat sub, tag := tag.toNat, offset := offset.toNat, readStaged := staged, at1 := s.now } = false ∧ s.queueFull session = false ∧ s.engineIdle = true ∧ s.waitsForCommit { session := session, op := 3, index := index.toNat, sub := BitVec.toNat sub, tag := tag.toNat, offset := offset.toNat, readStaged := staged, at1 := s.now } = false) ∧ s.entryAbsent index.toNat (BitVec.toNat sub) = none ∧ entryAccess index.toNat (BitVec.toNat sub) = Access.RWC ∧ s.entryBarred index.toNat = false ∧ s.entryBusy index.toNat = none ∧ 8192 ≤ index.toNat ∧ index.toNat ≤ 28671 ∧ staged = true ∧ List.find? (fun (x : Nat × Staged) => decide (x.fst = OD.key index.toNat (BitVec.toNat sub))) (s.host session).staged = some x) ∧
    (∃ (s : State) (session : Nat) (tag : BitVec 16) (index : BitVec 16) (sub : Byte) (offset : BitVec 32) (staged : Bool),
        (s.isOpen session = true ∧ s.bit OD.PR_BUSY 1 = false ∧
        s.cached { session := session, op := 3, index := index.toNat, sub := BitVec.toNat sub, tag := tag.toNat, offset := offset.toNat, readStaged := staged, at1 := s.now } = none ∧ s.outstanding { session := session, op := 3, index := index.toNat, sub := BitVec.toNat sub, tag := tag.toNat, offset := offset.toNat, readStaged := staged, at1 := s.now } = false ∧ s.queueFull session = false ∧ s.engineIdle = true ∧ s.waitsForCommit { session := session, op := 3, index := index.toNat, sub := BitVec.toNat sub, tag := tag.toNat, offset := offset.toNat, readStaged := staged, at1 := s.now } = false) ∧ s.entryAbsent index.toNat (BitVec.toNat sub) = none ∧ entryAccess index.toNat (BitVec.toNat sub) = Access.RWC ∧ s.entryBarred index.toNat = false ∧ s.entryBusy index.toNat = none ∧ 8192 ≤ index.toNat ∧ index.toNat ≤ 28671 ∧ staged = false) ∧
    (∃ (s : State) (session : Nat) (tag : BitVec 16) (index : BitVec 16) (sub : Byte) (offset : BitVec 32) (last : Bool) (data : List Byte) (r : Reply), (s.isOpen session = true ∧ s.bit OD.PR_BUSY 1 = false ∧ s.cached { session := session, op := 4, index := index.toNat, sub := BitVec.toNat sub, tag := tag.toNat, offset := offset.toNat, last := last, data := data, at1 := s.now } = none ∧ s.outstanding { session := session, op := 4, index := index.toNat, sub := BitVec.toNat sub, tag := tag.toNat, offset := offset.toNat, last := last, data := data, at1 := s.now } = false ∧ s.queueFull session = false ∧ s.engineIdle = true ∧ s.waitsForCommit { session := session, op := 4, index := index.toNat, sub := BitVec.toNat sub, tag := tag.toNat, offset := offset.toNat, last := last, data := data, at1 := s.now } = false) ∧ s.boot.resetDue = none ∧ data.length ≤ 1024 ∧ ((have v := (s.heard session).served session (s.classOf { session := session, op := 4, index := index.toNat, sub := BitVec.toNat sub, tag := tag.toNat, offset := offset.toNat, last := last, data := data, at1 := s.now }); v.setHosts (have __src := v.hosts; { sessions := __src.sessions, queue := __src.queue, busyUntil := s.now + serviceTicks, windowAt := __src.windowAt, safetyUsed := __src.safetyUsed, ownerUsed := __src.ownerUsed, commit := __src.commit, leaseAt := __src.leaseAt, changed := __src.changed, reserve := __src.reserve, served := __src.served, assocs := __src.assocs, mirrored := __src.mirrored })).writeRefusal session index.toNat (BitVec.toNat sub) = some r)) ∧
    (∃ (s : State) (session : Nat) (tag : BitVec 16) (index : BitVec 16) (sub : Byte) (offset : BitVec 32) (last : Bool) (data : List Byte), (s.isOpen session = true ∧ s.bit OD.PR_BUSY 1 = false ∧ s.cached { session := session, op := 4, index := index.toNat, sub := BitVec.toNat sub, tag := tag.toNat, offset := offset.toNat, last := last, data := data, at1 := s.now } = none ∧ s.outstanding { session := session, op := 4, index := index.toNat, sub := BitVec.toNat sub, tag := tag.toNat, offset := offset.toNat, last := last, data := data, at1 := s.now } = false ∧ s.queueFull session = false ∧ s.engineIdle = true ∧ s.waitsForCommit { session := session, op := 4, index := index.toNat, sub := BitVec.toNat sub, tag := tag.toNat, offset := offset.toNat, last := last, data := data, at1 := s.now } = false) ∧ s.boot.resetDue = none ∧ data.length ≤ 1024 ∧ ((have v := (s.heard session).served session (s.classOf { session := session, op := 4, index := index.toNat, sub := BitVec.toNat sub, tag := tag.toNat, offset := offset.toNat, last := last, data := data, at1 := s.now }); v.setHosts (have __src := v.hosts; { sessions := __src.sessions, queue := __src.queue, busyUntil := s.now + serviceTicks, windowAt := __src.windowAt, safetyUsed := __src.safetyUsed, ownerUsed := __src.ownerUsed, commit := __src.commit, leaseAt := __src.leaseAt, changed := __src.changed, reserve := __src.reserve, served := __src.served, assocs := __src.assocs, mirrored := __src.mirrored })).writeRefusal session index.toNat (BitVec.toNat sub) = none) ∧ OD.key index.toNat (BitVec.toNat sub) ≠ OD.FW_IMAGE ∧ offset.toNat = 0 ∧ last = false) ∧
    (∃ (s : State) (session : Nat) (tag : BitVec 16) (index : BitVec 16) (sub : Byte) (offset : BitVec 32) (last : Bool) (data : List Byte), (s.isOpen session = true ∧ s.bit OD.PR_BUSY 1 = false ∧ s.cached { session := session, op := 4, index := index.toNat, sub := BitVec.toNat sub, tag := tag.toNat, offset := offset.toNat, last := last, data := data, at1 := s.now } = none ∧ s.outstanding { session := session, op := 4, index := index.toNat, sub := BitVec.toNat sub, tag := tag.toNat, offset := offset.toNat, last := last, data := data, at1 := s.now } = false ∧ s.queueFull session = false ∧ s.engineIdle = true ∧ s.waitsForCommit { session := session, op := 4, index := index.toNat, sub := BitVec.toNat sub, tag := tag.toNat, offset := offset.toNat, last := last, data := data, at1 := s.now } = false) ∧ s.boot.resetDue = none ∧ data.length ≤ 1024 ∧ ((have v := (s.heard session).served session (s.classOf { session := session, op := 4, index := index.toNat, sub := BitVec.toNat sub, tag := tag.toNat, offset := offset.toNat, last := last, data := data, at1 := s.now }); v.setHosts (have __src := v.hosts; { sessions := __src.sessions, queue := __src.queue, busyUntil := s.now + serviceTicks, windowAt := __src.windowAt, safetyUsed := __src.safetyUsed, ownerUsed := __src.ownerUsed, commit := __src.commit, leaseAt := __src.leaseAt, changed := __src.changed, reserve := __src.reserve, served := __src.served, assocs := __src.assocs, mirrored := __src.mirrored })).writeRefusal session index.toNat (BitVec.toNat sub) = none) ∧ OD.key index.toNat (BitVec.toNat sub) ≠ OD.FW_IMAGE ∧ offset.toNat ≠ 0 ∧ s.segOf session (OD.key index.toNat (BitVec.toNat sub)) = none) ∧
    (∃ (s : State) (session : Nat) (tag : BitVec 16) (index : BitVec 16) (sub : Byte) (offset : BitVec 32) (last : Bool) (data : List Byte) (r : Reply), (s.isOpen session = true ∧ s.bit OD.PR_BUSY 1 = false ∧ s.cached { session := session, op := 4, index := index.toNat, sub := BitVec.toNat sub, tag := tag.toNat, offset := offset.toNat, last := last, data := data, at1 := s.now } = none ∧ s.outstanding { session := session, op := 4, index := index.toNat, sub := BitVec.toNat sub, tag := tag.toNat, offset := offset.toNat, last := last, data := data, at1 := s.now } = false ∧ s.queueFull session = false ∧ s.engineIdle = true ∧ s.waitsForCommit { session := session, op := 4, index := index.toNat, sub := BitVec.toNat sub, tag := tag.toNat, offset := offset.toNat, last := last, data := data, at1 := s.now } = false) ∧ s.boot.resetDue = none ∧ data.length ≤ 1024 ∧ ((have v := (s.heard session).served session (s.classOf { session := session, op := 4, index := index.toNat, sub := BitVec.toNat sub, tag := tag.toNat, offset := offset.toNat, last := last, data := data, at1 := s.now }); v.setHosts (have __src := v.hosts; { sessions := __src.sessions, queue := __src.queue, busyUntil := s.now + serviceTicks, windowAt := __src.windowAt, safetyUsed := __src.safetyUsed, ownerUsed := __src.ownerUsed, commit := __src.commit, leaseAt := __src.leaseAt, changed := __src.changed, reserve := __src.reserve, served := __src.served, assocs := __src.assocs, mirrored := __src.mirrored })).writeRefusal session index.toNat (BitVec.toNat sub) = none) ∧ OD.key index.toNat (BitVec.toNat sub) ≠ OD.FW_IMAGE ∧ offset.toNat = 0 ∧ last = true ∧ checkVal index.toNat (BitVec.toNat sub) data = Except.error r) ∧
    (∃ (s : State) (session : Nat) (tag : BitVec 16) (index : BitVec 16) (sub : Byte) (offset : BitVec 32) (last : Bool) (data : List Byte) (v : Val), (s.isOpen session = true ∧ s.bit OD.PR_BUSY 1 = false ∧ s.cached { session := session, op := 4, index := index.toNat, sub := BitVec.toNat sub, tag := tag.toNat, offset := offset.toNat, last := last, data := data, at1 := s.now } = none ∧ s.outstanding { session := session, op := 4, index := index.toNat, sub := BitVec.toNat sub, tag := tag.toNat, offset := offset.toNat, last := last, data := data, at1 := s.now } = false ∧ s.queueFull session = false ∧ s.engineIdle = true ∧ s.waitsForCommit { session := session, op := 4, index := index.toNat, sub := BitVec.toNat sub, tag := tag.toNat, offset := offset.toNat, last := last, data := data, at1 := s.now } = false) ∧ s.boot.resetDue = none ∧ data.length ≤ 1024 ∧ ((have v := (s.heard session).served session (s.classOf { session := session, op := 4, index := index.toNat, sub := BitVec.toNat sub, tag := tag.toNat, offset := offset.toNat, last := last, data := data, at1 := s.now }); v.setHosts (have __src := v.hosts; { sessions := __src.sessions, queue := __src.queue, busyUntil := s.now + serviceTicks, windowAt := __src.windowAt, safetyUsed := __src.safetyUsed, ownerUsed := __src.ownerUsed, commit := __src.commit, leaseAt := __src.leaseAt, changed := __src.changed, reserve := __src.reserve, served := __src.served, assocs := __src.assocs, mirrored := __src.mirrored })).writeRefusal session index.toNat (BitVec.toNat sub) = none) ∧ OD.key index.toNat (BitVec.toNat sub) ≠ OD.FW_IMAGE ∧ offset.toNat = 0 ∧ last = true ∧ checkVal index.toNat (BitVec.toNat sub) data = Except.ok v ∧ entryAccess index.toNat (BitVec.toNat sub) = Access.RWC ∧ s.stateLocked index.toNat (BitVec.toNat sub) v false = false ∧ (List.filter (fun (x : Nat × Staged) => decide (x.fst ≠ OD.key index.toNat (BitVec.toNat sub))) (s.host session).staged ++ [(OD.key index.toNat (BitVec.toNat sub), Staged.mk v (s.nat OD.CONFIG_GEN))]).length ≤ 1024 ∧ List.foldl (fun (n : Nat) (x : Nat × Staged) => n + valSize x.fst x.snd.val) 0 (List.filter (fun (x : Nat × Staged) => decide (x.fst ≠ OD.key index.toNat (BitVec.toNat sub))) (s.host session).staged ++ [(OD.key index.toNat (BitVec.toNat sub), Staged.mk v (s.nat OD.CONFIG_GEN))]) ≤ 65536) ∧
    (∃ (s : State) (session : Nat) (tag : BitVec 16) (index : BitVec 16) (sub : Byte) (offset : BitVec 32) (last : Bool) (data : List Byte) (v : Val), (s.isOpen session = true ∧ s.bit OD.PR_BUSY 1 = false ∧ s.cached { session := session, op := 4, index := index.toNat, sub := BitVec.toNat sub, tag := tag.toNat, offset := offset.toNat, last := last, data := data, at1 := s.now } = none ∧ s.outstanding { session := session, op := 4, index := index.toNat, sub := BitVec.toNat sub, tag := tag.toNat, offset := offset.toNat, last := last, data := data, at1 := s.now } = false ∧ s.queueFull session = false ∧ s.engineIdle = true ∧ s.waitsForCommit { session := session, op := 4, index := index.toNat, sub := BitVec.toNat sub, tag := tag.toNat, offset := offset.toNat, last := last, data := data, at1 := s.now } = false) ∧ s.boot.resetDue = none ∧ data.length ≤ 1024 ∧ ((have v := (s.heard session).served session (s.classOf { session := session, op := 4, index := index.toNat, sub := BitVec.toNat sub, tag := tag.toNat, offset := offset.toNat, last := last, data := data, at1 := s.now }); v.setHosts (have __src := v.hosts; { sessions := __src.sessions, queue := __src.queue, busyUntil := s.now + serviceTicks, windowAt := __src.windowAt, safetyUsed := __src.safetyUsed, ownerUsed := __src.ownerUsed, commit := __src.commit, leaseAt := __src.leaseAt, changed := __src.changed, reserve := __src.reserve, served := __src.served, assocs := __src.assocs, mirrored := __src.mirrored })).writeRefusal session index.toNat (BitVec.toNat sub) = none) ∧ OD.key index.toNat (BitVec.toNat sub) ≠ OD.FW_IMAGE ∧ offset.toNat = 0 ∧ last = true ∧ checkVal index.toNat (BitVec.toNat sub) data = Except.ok v ∧ entryAccess index.toNat (BitVec.toNat sub) = Access.RWC ∧ s.stateLocked index.toNat (BitVec.toNat sub) v false = true) ∧
    (∃ (s : State) (session : Nat) (tag : BitVec 16) (index : BitVec 16) (sub : Byte) (offset : BitVec 32) (last : Bool) (data : List Byte) (v : Val), (s.isOpen session = true ∧ s.bit OD.PR_BUSY 1 = false ∧ s.cached { session := session, op := 4, index := index.toNat, sub := BitVec.toNat sub, tag := tag.toNat, offset := offset.toNat, last := last, data := data, at1 := s.now } = none ∧ s.outstanding { session := session, op := 4, index := index.toNat, sub := BitVec.toNat sub, tag := tag.toNat, offset := offset.toNat, last := last, data := data, at1 := s.now } = false ∧ s.queueFull session = false ∧ s.engineIdle = true ∧ s.waitsForCommit { session := session, op := 4, index := index.toNat, sub := BitVec.toNat sub, tag := tag.toNat, offset := offset.toNat, last := last, data := data, at1 := s.now } = false) ∧ s.boot.resetDue = none ∧ data.length ≤ 1024 ∧ ((have v := (s.heard session).served session (s.classOf { session := session, op := 4, index := index.toNat, sub := BitVec.toNat sub, tag := tag.toNat, offset := offset.toNat, last := last, data := data, at1 := s.now }); v.setHosts (have __src := v.hosts; { sessions := __src.sessions, queue := __src.queue, busyUntil := s.now + serviceTicks, windowAt := __src.windowAt, safetyUsed := __src.safetyUsed, ownerUsed := __src.ownerUsed, commit := __src.commit, leaseAt := __src.leaseAt, changed := __src.changed, reserve := __src.reserve, served := __src.served, assocs := __src.assocs, mirrored := __src.mirrored })).writeRefusal session index.toNat (BitVec.toNat sub) = none) ∧ OD.key index.toNat (BitVec.toNat sub) ≠ OD.FW_IMAGE ∧ offset.toNat = 0 ∧ last = true ∧ checkVal index.toNat (BitVec.toNat sub) data = Except.ok v ∧ entryAccess index.toNat (BitVec.toNat sub) ≠ Access.RWC ∧ OD.key index.toNat (BitVec.toNat sub) ≠ OD.COMMIT ∧ OD.key index.toNat (BitVec.toNat sub) ≠ OD.SAFETY_LOGIN) ∧
    (∃ (s : State) (session : Nat), s.Serves ∧ s.commitRefusal session true = none ∧ s.hosts.commit = none ∧ (s.host session).staged = []) ∧
    (∃ (s : State) (session : Nat) (r : Reply), s.Serves ∧ s.commitRefusal session true = none ∧ s.hosts.commit = none ∧
        (s.host session).staged ≠ [] ∧ (((s.heard session).served session (s.classOf
        (commitRequest session s.now))).commitChecks session).snd = some r) ∧
    (∃ (s : State) (session : Nat), s.Serves ∧ s.commitRefusal session true = none ∧ s.hosts.commit = none ∧ (s.host session).staged ≠ [] ∧
        (((s.heard session).served session (s.classOf (commitRequest session s.now))).commitChecks session).snd = none) :=
    ⟨⟨base.putBit OD.PR_BUSY 1 false, 64, 0#16, by decide +kernel⟩,
     ⟨base.putBit OD.PR_BUSY 1 false, 64, 0#16, by decide +kernel⟩,
     ⟨at_Requests_served_2, 64, 0#16, 0#16, 0#8, 0#32, false, ((at_Requests_served_2.entryAbsent 0 0).getD ({ })), by decide +kernel⟩,
     ⟨base.putBit OD.PR_BUSY 1 false, 64, 0#16, 0x5110, (2 : Byte), 0#32, false, by decide +kernel⟩,
     ⟨at_Requests_served_4, 64, 0#16, 0x2000, (1 : Byte), 0#32, true, ((List.find? (fun (x : Nat × Staged) => decide (x.fst = OD.key (8192) (1)))
         (at_Requests_served_4.host 64).staged).getD ((0, { val := Val.num (Int.ofNat 0), gen := 0 }))), by decide +kernel⟩,
     ⟨at_Requests_served_5, 64, 0#16, 0x2000, (1 : Byte), 0#32, false, by decide +kernel⟩,
     ⟨at_Requests_served_6, 64, 0#16, 0#16, 0#8, 0#32, false, [], (((have v := (at_Requests_served_6.heard 64).served 64 (at_Requests_served_6.classOf { session := 64, op := 4, index := 0, sub := 0, tag := 0, offset := 0, last := false, at1 := at_Requests_served_6.now }); v.setHosts (have __src := v.hosts; { sessions := __src.sessions, queue := __src.queue, busyUntil := at_Requests_served_6.now + serviceTicks, windowAt := __src.windowAt, safetyUsed := __src.safetyUsed, ownerUsed := __src.ownerUsed, commit := __src.commit, leaseAt := __src.leaseAt, changed := __src.changed, reserve := __src.reserve, served := __src.served, assocs := __src.assocs, mirrored := __src.mirrored })).writeRefusal 64 0 0).getD ({ })), by decide +kernel⟩,
     ⟨at_Requests_served_7, 64, 0#16, 0x1F00, (1 : Byte), 0#32, false, [1], by decide +kernel⟩,
     ⟨base.putBit OD.PR_BUSY 1 false, 64, 0#16, 0x2000, (1 : Byte), (1 : BitVec 32), false, [1], by decide +kernel⟩,
     ⟨base.putBit OD.PR_BUSY 1 false, 64, 0#16, 0x2000, (1 : Byte), 0#32, true, [7], Reply.outOfRange, by decide +kernel, by decide +kernel,
         by decide +kernel, by decide +kernel, by decide +kernel, by decide +kernel, by decide +kernel, rfl⟩,
     ⟨base.putBit OD.PR_BUSY 1 false, 64, 0#16, 0x2000, (1 : Byte), 0#32, true, [1], .num 1, by decide +kernel, by decide +kernel,
         by decide +kernel, by decide +kernel, by decide +kernel, by decide +kernel, by decide +kernel, rfl, by decide +kernel, by decide +kernel,
         by decide +kernel, by decide +kernel⟩,
     ⟨(pw [(OD.LAW_STATE, 6)]) (base.putBit OD.PR_BUSY 1 false), 64, 0#16, 0x3010, (1 : Byte), 0#32, true, [1], .num 1, by decide +kernel,
         by decide +kernel, by decide +kernel, by decide +kernel, by decide +kernel, by decide +kernel, by decide +kernel, rfl, by decide +kernel,
         by decide +kernel⟩,
     ⟨base.putBit OD.PR_BUSY 1 false, 64, 0#16, 0x5110, (2 : Byte), 0#32, true, [1, 0], .num 1, by decide +kernel, by decide +kernel,
         by decide +kernel, by decide +kernel, by decide +kernel, by decide +kernel, by decide +kernel, rfl, by decide +kernel, by decide +kernel,
         by decide +kernel⟩,
     ⟨base, 64, by delta State.Serves; decide +kernel⟩,
     ⟨at_Requests_served_14, 64, (((((at_Requests_served_14.heard 64).served 64 (at_Requests_served_14.classOf
         (commitRequest 64 at_Requests_served_14.now))).commitChecks 64).snd).getD ({ })), by delta State.Serves; decide +kernel⟩,
     ⟨(hs 0x40 fun h => { h with staged := [(0x200001, { val := .num 1, gen := 0 })] }) (base), 64, by delta State.Serves; decide +kernel⟩⟩

/-- States and operands that meet the hypotheses of each clause of `Queue_of_requests`. -/
theorem witness_Queue_of_requests :
    (∃ (s : State) (q : Request), s.bit OD.PR_BUSY 1 = false ∧ s.past s.hosts.busyUntil 0 = true ∧ s.pick s.turns = some q) ∧
    (∃ (s : State), (s.bit OD.PR_BUSY 1 = true ∨ s.past s.hosts.busyUntil 0 = false ∨ s.pick s.turns = none)) ∧
    (∃ (s : State) (q : Request), q ∈ s.hosts.queue ∧ s.waitsForCommit q = false ∧ olderSame s.hosts.queue q = false ∧ s.classOf q = 1 ∧
        s.hosts.safetyUsed < 40) ∧
    (∃ (s : State) (q : Request), q ∈ s.hosts.queue ∧ s.waitsForCommit q = false ∧ olderSame s.hosts.queue q = false) ∧
    (∃ (s : State) (q : Request), q ∈ s.hosts.queue ∧ s.waitsForCommit q = false ∧ olderSame s.hosts.queue q = false ∧ s.classOf q = 2 ∧
        s.hosts.ownerUsed < 120) ∧
    (∃ (s : State), s.past s.hosts.windowAt (ms 100) = true) ∧
    (∃ (s : State), s.past s.hosts.windowAt (ms 100) = false) ∧
    (∃ (s : State) (q : Request), s.hosts.queue = [q] ∧ s.noticeDue q = true ∧ s.hosts.commit = none ∧ s.safety.verifying = [] ∧
        sessIdx q.session < 11) ∧
    (∃ (s : State) (q : Request), s.hosts.queue = [q] ∧ s.past q.at1 (ms (s.nat OD.QUEUE_MAX_WAIT)) = true ∧ q.late = false ∧ q.usdo = false) ∧
    (∃ (s : State) (k : Fin 2) (q : Request), s.hosts.queue = [q] ∧ s.usdoLate (canSession k.val) q = true ∧ s.hosts.commit = none ∧
        s.safety.verifying = []) ∧
    (∃ (s : State) (session : Nat) (x : SegXfer), s.isOpen session = true ∧ (s.host session).segs = [x] ∧ s.past x.at1 (ms
        (s.nat OD.SEG_TIMEOUT)) = true ∧ s.security.load = none) :=
    ⟨⟨at_Queue_of_requests_0, ((at_Queue_of_requests_0.pick at_Queue_of_requests_0.turns).getD ({ op := 0, last := false, tagged := false })),
        by decide +kernel⟩,
     ⟨base.putBit OD.PR_BUSY 1 true, by decide +kernel⟩,
     ⟨(hostf fun h => { h with queue := [rq, { rq with op := 3, index := OD.SAFETY_LOGIN / 256, sub := OD.SAFETY_LOGIN % 256 }] }) (base),
         { rq with op := 3, index := OD.SAFETY_LOGIN / 256, sub := OD.SAFETY_LOGIN % 256 }, by decide +kernel⟩,
     ⟨(hostf fun h => { h with queue := [rq] }) (base), rq, by decide +kernel⟩,
     ⟨(hostf fun h => { h with queue := [rq] }) (base), rq, by decide +kernel⟩,
     ⟨base, by decide +kernel⟩,
     ⟨(hostf fun h => { h with windowAt := 10 ^ 16 }) (base), by decide +kernel⟩,
     ⟨(hostf fun h => { h with queue := [rq] }) (base), rq, by decide +kernel⟩,
     ⟨(hostf fun h => { h with queue := [rq] }) (base), rq, by decide +kernel⟩,
     ⟨(hostf fun h => { h with queue := [{ rq with session := 0x20, usdo := true }] }) (base), (0 : Fin 2),
         { rq with session := 0x20, usdo := true }, by decide +kernel⟩,
     ⟨(hs 0x40 fun h => { h with segs := [{ key := 0x200001, tag := 4, size := 1, data := [1], at1 := 0 }] }) (base), 64,
         { key := 0x200001, tag := 4, size := 1, data := [1], at1 := 0 }, by decide +kernel⟩⟩

/-- States and operands that meet the hypotheses of each clause of `Sessions`. -/
theorem witness_Sessions :
    (∃ (s : State) (port : Fin 5) (assoc : Nat) (role : Byte), (port.val < 2 ∨ port.val = 4) ∧ s.portServed port.val = true ∧ (port.val < 2 →
        (s.hosts.assocs.any fun (a : Nat × Nat × CertChain × List Byte) => decide (a.fst = assoc) && decide (a.snd.fst = port.val)) = true) ∧
        s.bit OD.PR_BUSY 1 = false ∧ s.sessionOf port.val assoc = none ∧ 2 < BitVec.toNat role) ∧
    (∃ (s : State) (port : Fin 5) (assoc : Nat) (role : Byte) (x : Nat), (port.val < 2 ∨ port.val = 4) ∧ s.portServed port.val = true ∧
        (port.val < 2 → (s.hosts.assocs.any fun (a : Nat × Nat × CertChain × List Byte) => decide (a.fst = assoc) && decide
        (a.snd.fst = port.val)) = true) ∧ s.bit OD.PR_BUSY 1 = false ∧ s.sessionOf port.val assoc = none ∧ BitVec.toNat role ≤ 2 ∧ List.find? (fun
        (x : Nat) => decide (sessPort x = port.val) && !s.isOpen x) allSessions = some x) ∧
    (∃ (s : State) (port : Fin 5) (assoc : Nat) (role : Byte), (port.val < 2 ∨ port.val = 4) ∧ s.portServed port.val = true ∧ (port.val < 2 →
        (s.hosts.assocs.any fun (a : Nat × Nat × CertChain × List Byte) => decide (a.fst = assoc) && decide (a.snd.fst = port.val)) = true) ∧
        s.bit OD.PR_BUSY 1 = false ∧ s.sessionOf port.val assoc = none ∧ BitVec.toNat role ≤ 2 ∧ List.find? (fun (x : Nat) => decide
        (sessPort x = port.val) && !s.isOpen x) allSessions = none) ∧
    (∃ (s : State) (port : Fin 5), (port.val = 2 ∨ port.val = 3 ∨ s.portServed port.val = false)) ∧
    (∃ (s : State) (session : Nat), session ≠ 255 ∧ s.isOpen session = true ∧ s.past (s.host session).lastAt (sec
        (s.nat OD.SESSION_TIMEOUT)) = true) ∧
    (∃ (s : State) (session : Nat), s.past (s.host session).lastAt (sec (s.nat OD.SESSION_TIMEOUT)) = false) ∧
    (∃ (s : State) (k : Fin 2) (chain : CertChain), s.portServed k.val = true ∧ s.nat OD.KEY_STATE = 1 ∧ s.chainOk chain = true) ∧
    (∃ (s : State) (k : Fin 2) (chain : CertChain), s.portServed k.val = true ∧ s.nat OD.KEY_STATE = 1 ∧ s.chainOk chain = false) ∧
    (∃ (s : State) (k : Fin 2), (s.portServed k.val = false ∨ s.nat OD.KEY_STATE ≠ 1)) ∧
    (∃ (s : State) (k : Fin 2), s.portServed (2 + k.val) = false) ∧
    (∃ (s : State) (k : Fin 2) (isWrite : Bool) (index : BitVec 16) (sub : Byte), s.portServed (2 + k.val) = true ∧ s.bit OD.PR_BUSY 1 = false ∧
        s.engineIdle = true ∧ s.entryAbsent index.toNat (BitVec.toNat sub) = some Reply.noEntry ∧ isWrite = false) ∧
    (∃ (s : State), s.tb.tcxoFailed = false) ∧
    (∃ (s : State), s.tb.tcxoFailed = true) :=
    ⟨⟨(fun s => s.putN (OD.SESSION_STATE 10) 0) (base.putBit OD.PR_BUSY 1 false), (4 : Fin 5), 0, (3 : Byte), by decide +kernel⟩,
     ⟨at_Sessions_1, (4 : Fin 5), 0, (1 : Byte), ((List.find? (fun (x : Nat) => decide
         (sessPort x = 4) && !at_Sessions_1.isOpen x) allSessions).getD 0), by decide +kernel⟩,
     ⟨(fun s => hostf (fun h => { h with assocs := [(5, 0, { anchor := [], length := 1, algorithmOk := true, names := [], notBefore := 0, notAfter := 10 ^ 9, role := 1, identity := 3 }, [])] }) (pw ([(OD.ETH_MODE 0, 1), (OD.LINK_UP 0, 1)] ++ (List.range 4).map fun i => (OD.SESSION_STATE i, 1)) s)) (base.putBit OD.PR_BUSY 1 false), (0 : Fin 5), 5, (1 : Byte), by decide +kernel⟩,
     ⟨base, (0 : Fin 5), by decide +kernel⟩,
     ⟨base, 64, by decide +kernel⟩,
     ⟨(hs 0x40 fun h => { h with lastAt := 10 ^ 16 }) (base), 64, by decide +kernel⟩,
     ⟨(fun s => (pw [(OD.ETH_MODE 0, 1), (OD.LINK_UP 0, 1)] s).put (OD.ANCHOR 0) (.bytes [1])) (base.putN OD.KEY_STATE 1), (0 : Fin 2),
         { anchor := [1], length := 1, algorithmOk := true, names := [], notBefore := 0, notAfter := 10 ^ 9, role := 1, identity := 3 },
         by decide +kernel⟩,
     ⟨(fun s => (pw [(OD.ETH_MODE 0, 1), (OD.LINK_UP 0, 1)] s).put (OD.ANCHOR 0) (.bytes [1])) (base.putN OD.KEY_STATE 1), (0 : Fin 2),
         { anchor := [2], length := 1, algorithmOk := true, names := [], notBefore := 0, notAfter := 10 ^ 9, role := 1, identity := 3 },
         by decide +kernel⟩,
     ⟨base, (0 : Fin 2), by decide +kernel⟩,
     ⟨base, (0 : Fin 2), by decide +kernel⟩,
     ⟨at_Sessions_11, (0 : Fin 2), false, 0x2000, (99 : Byte), by decide +kernel⟩,
     ⟨base, by decide +kernel⟩,
     ⟨(fun s => { s with tb := { s.tb with tcxoFailed := true } }) (base), by decide +kernel⟩⟩

/-- States and operands that meet the hypotheses of each clause of `Can_frames`. -/
theorem witness_Can_frames :
    (∃ (s : State) (k : Fin 2) (f : CanFrame), s.canOnBus k.val = true ∧ s.tec k.val ≤ 255 ∧ s.rec' k.val ≤ 255 ∧ f.fd = true ∧ s.flag
        (OD.FD_EN k.val) = false) ∧
    (∃ (s : State) (k : Fin 2) (f : CanFrame) (r : Nat), s.canOnBus k.val = true ∧ s.tec k.val ≤ 255 ∧ s.rec' k.val ≤ 255 ∧ (f.fd = false ∨ s.flag
        (OD.FD_EN k.val) = true) ∧ f.rtr = false ∧ List.find? (fun (r : Nat) => s.rxMatches k.val r f) (List.range 60) = some r ∧ vget none
        (s.canP k.val).shadow r = none ∧ s.bit (OD.RX_INFO k.val r) 3 = false) ∧
    (∃ (s : State) (k : Fin 2) (f : CanFrame) (r : Nat), s.canOnBus k.val = true ∧ s.tec k.val ≤ 255 ∧ s.rec' k.val ≤ 255 ∧ (f.fd = false ∨ s.flag
        (OD.FD_EN k.val) = true) ∧ f.rtr = false ∧ List.find? (fun (r : Nat) => s.rxMatches k.val r f) (List.range 60) = some r ∧ vget none
        (s.canP k.val).shadow r = none ∧ s.bit (OD.RX_INFO k.val r) 3 = true) ∧
    (∃ (s : State) (k : Fin 2) (f : CanFrame) (r : Nat), s.canOnBus k.val = true ∧ s.tec k.val ≤ 255 ∧ s.rec' k.val ≤ 255 ∧ (f.fd = false ∨ s.flag
        (OD.FD_EN k.val) = true) ∧ f.rtr = false ∧ List.find? (fun (r : Nat) => s.rxMatches k.val r f) (List.range 60) = some r ∧ vget none
        (s.canP k.val).shadow r = none) ∧
    (∃ (s : State) (k : Fin 2) (f : CanFrame), s.canOnBus k.val = true ∧ s.tec k.val ≤ 255 ∧ s.rec' k.val ≤ 255 ∧ (f.fd = false ∨ s.flag
        (OD.FD_EN k.val) = true) ∧ f.rtr = false ∧ List.find? (fun (r : Nat) => s.rxMatches k.val r f) (List.range 60) = none ∧
        s.canOpenTakes k.val f = false) ∧
    (∃ (s : State) (k : Fin 2), s.canOnBus k.val = false) ∧
    (∃ (s : State) (k : Fin 2) (o : Fin 32), s.txActive k.val o.val = true ∧ s.tec k.val + 8 ≤ 255 ∧ s.rec' k.val ≤ 255 ∧ s.nat
        (OD.TDC_MODE k.val) ≠ 1) ∧
    (∃ (s : State) (k : Fin 2) (o : Fin 32), s.txActive k.val o.val = true ∧ s.tec k.val + 8 ≤ 255 ∧ s.rec' k.val ≤ 255) ∧
    (∃ (s : State) (k : Fin 2) (o : Fin 32), s.txActive k.val o.val = true ∧ s.tec k.val + 8 ≤ 255 ∧ s.rec' k.val ≤ 255 ∧
        (s.canTx k.val o.val).ackErrs + 1 < 256 ∧ s.nat (OD.PORT_STATE k.val) = 2) ∧
    (∃ (s : State) (k : Fin 2) (o : Fin 32), s.txActive k.val o.val = true ∧ s.tec k.val + 8 ≤ 255 ∧ s.rec' k.val ≤ 255 ∧
        (s.canTx k.val o.val).ackErrs + 1 < 256 ∧ s.nat (OD.PORT_STATE k.val) = 3) ∧
    (∃ (s : State) (k : Fin 2) (o : Fin 32), s.txActive k.val o.val = true ∧ s.tec k.val + 8 ≤ 255 ∧ s.rec' k.val ≤ 255 ∧ 256 ≤
        (s.canTx k.val o.val).ackErrs + 1) ∧
    (∃ (s : State) (k : Fin 2) (o : Fin 32), s.txActive k.val o.val = true ∧ s.tec k.val + 8 ≤ 255 ∧ s.rec' k.val ≤ 255 ∧
        (s.canTx k.val o.val).bitErrs + 1 < 3) ∧
    (∃ (s : State) (k : Fin 2) (o : Fin 32), s.txActive k.val o.val = true ∧ s.tec k.val + 8 ≤ 255 ∧ s.rec' k.val ≤ 255 ∧ 3 ≤
        (s.canTx k.val o.val).bitErrs + 1) ∧
    (∃ (s : State) (k : Fin 2) (o : Fin 32), s.txActive k.val o.val = true ∧ 255 < s.tec k.val + 8) ∧
    (∃ (s : State) (k : Fin 2) (o : Fin 32), s.txActive k.val o.val = false) ∧
    (∃ (s : State) (k : Fin 2) (o : Fin 32) (a : Nat), (s.canTx k.val o.val).backAt = some a ∧ s.past a (ms (s.nat (OD.ID_BACKOFF k.val))) = true) ∧
    (∃ (s : State) (k : Fin 2), s.nat (OD.PORT_STATE k.val) = 4 ∧ (s.flag (OD.BUSOFF_AUTO k.val) = true ∧ s.past (s.canP k.val).busoffAt (ms
        (s.nat (OD.BUSOFF_DELAY k.val))) = true ∨ s.flag (OD.BUSOFF_AUTO k.val) = false ∧ (s.canP k.val).recoverAsked = true)) ∧
    (∃ (s : State) (k : Fin 2) (session : Nat), s.Serves ∧ s.unlessBusy (6 + k.val) (s.roleRefusal session) = none ∧ s.nat
        (OD.PORT_STATE k.val) = 4) ∧
    (∃ (s : State) (k : Fin 2) (session : Nat), s.Serves ∧ s.unlessBusy (6 + k.val) (s.roleRefusal session) = none ∧ s.nat
        (OD.PORT_STATE k.val) ≠ 4) ∧
    (∃ (s : State) (k : Fin 2) (session : Nat) (o : Fin 32), s.Serves ∧ s.unlessBusy (6 + k.val) (s.roleRefusal session) = none ∧ o.val < 28 ∧
        s.bit (OD.TX_STATE k.val o.val) 3 = false ∧ (s.nat (OD.TT_MODE k.val) = 0 ∨ s.triggered k.val o.val = false)) ∧
    (∃ (s : State) (k : Fin 2) (session : Nat) (v : Nat), s.Serves ∧ s.unlessBusy (6 + k.val) (s.roleRefusal session) = none ∧ v ≠ 1) ∧
    (∃ (s : State) (k : Fin 2) (session : Nat) (o : Fin 32), s.Serves ∧ s.unlessBusy (6 + k.val) (s.roleRefusal session) = none ∧ 28 ≤ o.val) ∧
    (∃ (s : State) (k : Fin 2), s.canOnBus k.val = true) ∧
    (∃ (s : State) (k : Fin 2) (node : Nat), s.canOnBus k.val = true ∧ s.canOpen k.val = true ∧ (node = 0 ∨ node = s.nat (OD.NODE_ID k.val))) ∧
    (∃ (s : State) (k : Fin 2), s.canOnBus k.val = true ∧ s.canOpen k.val = true ∧ s.nat (OD.HB_PERIOD k.val) ≠ 0 ∧ s.past (s.canP k.val).hbAt (ms
        (s.nat (OD.HB_PERIOD k.val))) = true) :=
    ⟨⟨(pw [(OD.PORT_STATE 0, 2), (OD.FD_EN 0, 0)]) (base.putB (OD.FD_EN 0) false), (0 : Fin 2), cf 5 true, by decide +kernel⟩,
     ⟨at_Can_frames_1, (0 : Fin 2), cf 5 false, ((List.find? (fun (r : Nat) => at_Can_frames_1.rxMatches 0 r (cf 5 false))
         (List.range 60)).getD 0), by decide +kernel⟩,
     ⟨at_Can_frames_2, (0 : Fin 2), cf 5 false, ((List.find? (fun (r : Nat) => at_Can_frames_2.rxMatches 0 r (cf 5 false))
         (List.range 60)).getD 0), by decide +kernel⟩,
     ⟨at_Can_frames_3, (0 : Fin 2), cf 5 false, ((List.find? (fun (r : Nat) => at_Can_frames_3.rxMatches 0 r (cf 5 false))
         (List.range 60)).getD 0), by decide +kernel⟩,
     ⟨(pw [(OD.PORT_STATE 0, 2)]) (base), (0 : Fin 2), cf 5 false, by decide +kernel⟩,
     ⟨base, (0 : Fin 2), by decide +kernel⟩,
     ⟨(pw [(OD.PORT_STATE 0, 2), (OD.TX_STATE 0 0, 2)]) (base.putN (OD.TDC_MODE 0) 2), (0 : Fin 2), (0 : Fin 32), by decide +kernel⟩,
     ⟨(pw [(OD.PORT_STATE 0, 2), (OD.TX_STATE 0 0, 2)]) (base), (0 : Fin 2), (0 : Fin 32), by decide +kernel⟩,
     ⟨(pw [(OD.PORT_STATE 0, 2), (OD.TX_STATE 0 0, 2)]) (base.putN (OD.PORT_STATE 0) 2), (0 : Fin 2), (0 : Fin 32), by decide +kernel⟩,
     ⟨(pw [(OD.PORT_STATE 0, 3), (OD.TX_STATE 0 0, 2)]) (base.putN (OD.PORT_STATE 0) 3), (0 : Fin 2), (0 : Fin 32), by decide +kernel⟩,
     ⟨(fun s => tx0 (fun x => { x with ackErrs := 255 }) (pw [(OD.PORT_STATE 0, 3), (OD.TX_STATE 0 0, 2)] s)) (base), (0 : Fin 2), (0 : Fin 32),
         by decide +kernel⟩,
     ⟨(pw [(OD.PORT_STATE 0, 2), (OD.TX_STATE 0 0, 2)]) (base), (0 : Fin 2), (0 : Fin 32), by decide +kernel⟩,
     ⟨(fun s => tx0 (fun x => { x with bitErrs := 2 }) (pw [(OD.PORT_STATE 0, 3), (OD.TX_STATE 0 0, 2)] s)) (base), (0 : Fin 2), (0 : Fin 32),
         by decide +kernel⟩,
     ⟨(fun s => (pw [(OD.PORT_STATE 0, 3), (OD.TX_STATE 0 0, 2), (OD.TEC_REC 0, 255 * 256)] s)) (base), (0 : Fin 2), (0 : Fin 32),
         by decide +kernel⟩,
     ⟨base, (0 : Fin 2), (0 : Fin 32), by decide +kernel⟩,
     ⟨at_Can_frames_16, (0 : Fin 2), (0 : Fin 32), (((at_Can_frames_16.canTx 0 0).backAt).getD 0), by decide +kernel⟩,
     ⟨(base.putN (OD.PORT_STATE 0) 4).putB (OD.BUSOFF_AUTO 0) true, (0 : Fin 2), by decide +kernel⟩,
     ⟨base.putN (OD.PORT_STATE 0) 4, (0 : Fin 2), 64, by delta State.Serves; decide +kernel⟩,
     ⟨base.putN (OD.PORT_STATE 0) 5, (0 : Fin 2), 64, by delta State.Serves; decide +kernel⟩,
     ⟨(base.putBit (OD.TX_STATE 0 0) 3 false).putN (OD.TT_MODE 0) 0, (0 : Fin 2), 64, (0 : Fin 32), by delta State.Serves; decide +kernel⟩,
     ⟨base, (0 : Fin 2), 64, 0, by delta State.Serves; decide +kernel⟩,
     ⟨base, (0 : Fin 2), 64, (28 : Fin 32), by delta State.Serves; decide +kernel⟩,
     ⟨(pw [(OD.PORT_STATE 0, 2), (OD.CANOPEN_EN 0, 1), (OD.NODE_ID 0, 5), (OD.HB_PERIOD 0, 100)]) (base), (0 : Fin 2), by decide +kernel⟩,
     ⟨(pw [(OD.PORT_STATE 0, 2), (OD.CANOPEN_EN 0, 1), (OD.NODE_ID 0, 5), (OD.HB_PERIOD 0, 100)]) (base), (0 : Fin 2), 0, by decide +kernel⟩,
     ⟨(pw [(OD.PORT_STATE 0, 2), (OD.CANOPEN_EN 0, 1), (OD.NODE_ID 0, 5), (OD.HB_PERIOD 0, 100)]) (base.putN (OD.HB_PERIOD 0) 1), (0 : Fin 2),
         by decide +kernel⟩⟩

/-- States and operands that meet the hypotheses of each clause of `Can_schedule`. -/
theorem witness_Can_schedule :
    (∃ (s : State) (k : Fin 2), s.nat (OD.TT_MODE k.val) ≠ 0 ∧ s.canOnBus k.val = true) ∧
    (∃ (s : State) (k : Fin 2), (s.nat (OD.TT_MODE k.val) = 0 ∨ s.canOnBus k.val = false)) ∧
    (∃ (s : State) (k : Fin 2), s.nat (OD.TT_MODE k.val) = 1 ∧ s.canOnBus k.val = true ∧ s.standbyModule = false ∧ s.refDue k.val = true) ∧
    (∃ (s : State) (k : Fin 2), 1 ≤ s.nat (OD.TT_STATE k.val) ∧ s.nat (OD.TT_STATE k.val) ≤ 3 ∧ (s.canP k.val).sched.len ≠ 0 ∧ s.past
        (s.canP k.val).refAt (s.ntuTicks k.val (2 * (s.canP k.val).sched.len)) = true) ∧
    (∃ (s : State) (k : Fin 2) (w : Fin 32) (o : Nat), (s.nat (OD.TT_STATE k.val) = 2 ∨ s.nat (OD.TT_STATE k.val) = 3) ∧
        (s.canP k.val).refSeen = true ∧ s.past (s.canP k.val).refAt (s.ntuTicks k.val (colStart ((s.canP k.val).sched.cols.getD w.val 0))) = true ∧
        s.standbyModule = false ∧ s.now ≤ (s.canP k.val).refAt + s.ntuTicks k.val (colStart ((s.canP k.val).sched.cols.getD w.val 0) + colTx
        ((s.canP k.val).sched.cols.getD w.val 0)) ∧ colType ((s.canP k.val).sched.cols.getD w.val 0) = 2 ∧ (List.map trigObj (List.filter (fun
        (t : Nat) => decide (trigCol t = w.val) && trigDue t (s.nat (OD.CYCLE_COUNT k.val))) (s.canP k.val).sched.trigs)).head? = some o ∧ s.bit
        (OD.TX_STATE k.val o) 2 = false ∧ (s.nat OD.FF_PORT ≠ k.val + 1 ∨ s.nat OD.FF_TX_OBJECT ≠ o ∨ s.nat OD.DC_MODE = 0)) ∧
    (∃ (s : State) (k : Fin 2) (w : Fin 32), (s.nat (OD.TT_STATE k.val) = 2 ∨ s.nat (OD.TT_STATE k.val) = 3) ∧ (s.canP k.val).refSeen = true ∧
        s.past (s.canP k.val).refAt (s.ntuTicks k.val (colStart ((s.canP k.val).sched.cols.getD w.val 0))) = true ∧ s.standbyModule = false ∧
        (s.canP k.val).refAt + s.ntuTicks k.val (colStart ((s.canP k.val).sched.cols.getD w.val 0) + colTx
        ((s.canP k.val).sched.cols.getD w.val 0)) < s.now ∧ (colType ((s.canP k.val).sched.cols.getD w.val 0) = 2 ∨ colType
        ((s.canP k.val).sched.cols.getD w.val 0) = 3)) ∧
    (∃ (s : State) (k : Fin 2) (w : Fin 32), (s.nat (OD.TT_STATE k.val) = 2 ∨ s.nat (OD.TT_STATE k.val) = 3) ∧ (s.canP k.val).refSeen = true ∧
        s.past (s.canP k.val).refAt (s.ntuTicks k.val (colStart ((s.canP k.val).sched.cols.getD w.val 0))) = true ∧ s.standbyModule = false ∧
        s.now ≤ (s.canP k.val).refAt + s.ntuTicks k.val (colStart ((s.canP k.val).sched.cols.getD w.val 0) + colTx
        ((s.canP k.val).sched.cols.getD w.val 0)) ∧ (colType ((s.canP k.val).sched.cols.getD w.val 0) = 3 ∨ colType
        ((s.canP k.val).sched.cols.getD w.val 0) = 4)) ∧
    (∃ (s : State) (k : Fin 2) (w : Fin 32), (s.nat (OD.TT_STATE k.val) = 2 ∨ s.nat (OD.TT_STATE k.val) = 3) ∧ (s.canP k.val).refSeen = true ∧
        s.past (s.canP k.val).refAt (s.ntuTicks k.val (colStart ((s.canP k.val).sched.cols.getD w.val 0))) = true ∧ s.standbyModule = false ∧
        colType ((s.canP k.val).sched.cols.getD w.val 0) = 0) :=
    ⟨⟨(pw [(OD.PORT_STATE 0, 2), (OD.TT_MODE 0, 1)]) (base.putN (OD.TT_MODE 0) 1), (0 : Fin 2), by decide +kernel⟩,
     ⟨base.putN (OD.TT_MODE 0) 0, (0 : Fin 2), by decide +kernel⟩,
     ⟨(pw [(OD.PORT_STATE 0, 2), (OD.TT_MODE 0, 1)]) (base.putN (OD.TT_MODE 0) 1), (0 : Fin 2), by decide +kernel⟩,
     ⟨(canp fun c => { c with sched := { c.sched with len := 1000 } }) (base.putN (OD.TT_STATE 0) 1), (0 : Fin 2), by decide +kernel⟩,
     ⟨at_Can_schedule_5, (0 : Fin 2), (0 : Fin 32), (((List.map trigObj (List.filter (fun (t : Nat) => decide (trigCol t = 0) && trigDue t
         (at_Can_schedule_5.nat (OD.CYCLE_COUNT 0))) (at_Can_schedule_5.canP 0).sched.trigs)).head?).getD 0), by decide +kernel⟩,
     ⟨(fun s => canp (fun c => { c with refSeen := true, sched := { len := 1000, cols := [2 * 2 ^ 28], trigs := [2 ^ 31 + 3 * 2 ^ 21] } })
         (pw [(OD.TT_STATE 0, 2)] s)) (base.putN (OD.TT_STATE 0) 2), (0 : Fin 2), (0 : Fin 32), by decide +kernel⟩,
     ⟨(fun s => canp (fun c => { c with refAt := 10 ^ 16, refSeen := true, sched := { len := 1000, cols := [3 * 2 ^ 28], trigs := [2 ^ 31 + 3 * 2 ^ 21] } }) (pw [(OD.TT_STATE 0, 2)] s)) (base.putN (OD.TT_STATE 0) 2), (0 : Fin 2), (0 : Fin 32), by decide +kernel⟩,
     ⟨(fun s => canp (fun c => { c with refSeen := true, sched := { len := 1000, cols := [0], trigs := [2 ^ 31 + 3 * 2 ^ 21] } })
         (pw [(OD.TT_STATE 0, 2)] s)) (base.putN (OD.TT_STATE 0) 2), (0 : Fin 2), (0 : Fin 32), by decide +kernel⟩⟩

/-- States and operands that meet the hypotheses of each clause of `Event_recorder`. -/
theorem witness_Event_recorder :
    (∃ (s : State) (code : Nat), (¬(code = Ev.REC_CLEARED ∨ code = Ev.REC_OVERFLOW ∨ code = Ev.REC_FROZEN)) ∧ (s.bucket code).used < s.burst code ∧
        s.recorder.frozen = false ∧ s.recorder.fifo.length < 128 ∧ code ≠ Ev.AUX_SUPPLY) ∧
    (∃ (s : State) (code : Nat), (¬(code = Ev.REC_CLEARED ∨ code = Ev.REC_OVERFLOW ∨ code = Ev.REC_FROZEN)) ∧ s.burst code ≤ (s.bucket code).used) ∧
    (∃ (s : State) (code : Nat), (¬(code = Ev.REC_CLEARED ∨ code = Ev.REC_OVERFLOW ∨ code = Ev.REC_FROZEN)) ∧ (s.bucket code).used < s.burst code ∧
        s.recorder.frozen = true) ∧
    (∃ (s : State) (code : Nat), 0 < (s.bucket code).used ∧ s.past (s.bucket code).since (s.refill code) = true ∧ (s.bucket code).pend = 0) ∧
    (∃ (s : State) (code : Nat), 0 < (s.bucket code).used ∧ s.past (s.bucket code).since (s.refill code) = true ∧ (s.bucket code).pend ≠ 0 ∧
        s.recorder.frozen = false ∧ s.recorder.fifo.length < 128) ∧
    (∃ (s : State) (r : Rec) (rest : List Rec), s.bit OD.PR_BUSY 2 = false ∧ s.recorder.aux = none ∧ s.recorder.fifo = r :: rest ∧
        s.recorder.lost = [] ∧ List.foldl (fun (x1 x2 : Nat) => x1 + x2) 0 (List.map recWords s.recorder.ring) + recWords r ≤ 520192 - 32 *
        (vget { } s.power.banks 13).fenced.length) ∧
    (∃ (s : State) (r : Rec), s.bit OD.PR_BUSY 2 = false ∧ s.recorder.aux = some r) ∧
    (∃ (s : State), s.bit OD.PR_BUSY 2 = true) ∧
    (∃ (s : State) (r : Rec), s.recorder.waiting = [r] ∧ s.recorder.frozen = false ∧ s.recorder.fifo.length < 128) ∧
    (∃ (s : State), s.Serves ∧ s.unlessBusy 2 none = none) ∧
    (∃ (s : State) (offset : Nat), s.Serves ∧ s.unlessBusy 2 none = none ∧ offset ≠ 0) ∧
    (∃ (s : State), s.Serves ∧ s.unlessBusy 2 none = none ∧ s.recorder.frozen = true) ∧
    (∃ (s : State), s.Serves ∧ s.unlessBusy 2 none = none ∧ s.recorder.frozen = false ∧ (vget { } s.power.banks 13).fenced = []) ∧
    (∃ (s : State) (session : Nat), s.Serves ∧ s.unlessBusy 2 (s.roleRefusal session) = none ∧ s.recorder.frozen = false) ∧
    (∃ (s : State) (session : Nat), s.Serves ∧ s.unlessBusy 2 (s.roleRefusal session) = none ∧ s.recorder.frozen = true) ∧
    (∃ (s : State) (session : Nat), s.Serves ∧ s.unlessBusy 2 (s.roleRefusal session) = none ∧ s.recorder.frozen = true ∧ s.nat OD.LC_STATE ≠ 2 ∧
        s.nat OD.LC_STATE ≠ 3) ∧
    (∃ (s : State) (session : Nat), s.Serves ∧ s.unlessBusy 2 (s.roleRefusal session) = none ∧ (s.nat OD.LC_STATE = 2 ∨ s.nat OD.LC_STATE = 3)) :=
    ⟨⟨(pw [(OD.REC_CFG 0x0501, 0x08000000)]) (base), 0x0501, by decide +kernel⟩,
     ⟨base, 0, by decide +kernel⟩,
     ⟨(recf fun r => { r with frozen := true }) (base), 0x0501, by decide +kernel⟩,
     ⟨(recf fun r => { r with buckets := [(0x0501, { used := 2 })] }) (base), 0x0501, by decide +kernel⟩,
     ⟨(recf fun r => { r with buckets := [(0x0501, { used := 2, pend := 3 })] }) (base), 0x0501, by decide +kernel⟩,
     ⟨(recf fun r => { r with fifo := [{ code := 0x0501 }, { code := 0x0502 }] }) (base.putBit OD.PR_BUSY 2 false), { code := 0x0501 },
         [{ code := 0x0502 }], by decide +kernel⟩,
     ⟨at_Event_recorder_6, ((at_Event_recorder_6.recorder.aux).getD ({ set := false, session := 0, count := 0 })), by decide +kernel⟩,
     ⟨base.putBit OD.PR_BUSY 2 true, by decide +kernel⟩,
     ⟨(recf fun r => { r with waiting := [{ code := 0x0501 }] }) (base), { code := 0x0501 }, by decide +kernel⟩,
     ⟨base, by delta State.Serves; decide +kernel⟩,
     ⟨base, 5, by delta State.Serves; decide +kernel⟩,
     ⟨(recf fun r => { r with frozen := true }) (base), by delta State.Serves; decide +kernel⟩,
     ⟨(recf fun r => { r with ring := [{ code := 3 }] }) (base), by delta State.Serves; decide +kernel⟩,
     ⟨base, 64, by delta State.Serves; decide +kernel⟩,
     ⟨(recf fun r => { r with frozen := true }) (base), 64, by delta State.Serves; decide +kernel⟩,
     ⟨(fun s => recf (fun r => { r with frozen := true }) (pw [(OD.LC_STATE, 1)] s)) ((base.putN OD.LC_STATE 3).putN OD.LC_STATE 4), 64,
         by delta State.Serves; decide +kernel⟩,
     ⟨base.putN OD.LC_STATE 2, 64, by delta State.Serves; decide +kernel⟩⟩

/-- States and operands that meet the hypotheses of each clause of `Capture_streams`. -/
theorem witness_Capture_streams :
    (∃ (s : State) (q : Fin 4) (session : Nat), s.Serves ∧ s.unlessBusy 3 (s.roleRefusal session) = none ∧ s.nat (OD.STREAM_MODE q.val) ≠ 0 ∧
        s.nSig q.val ≠ 0 ∧ s.domainOn 15 = true ∧ s.captFenced q.val = false) ∧
    (∃ (s : State) (q : Fin 4) (session : Nat), s.Serves ∧ s.unlessBusy 3 (s.roleRefusal session) = none ∧ (s.nat
        (OD.STREAM_MODE q.val) = 0 ∨ s.nSig q.val = 0 ∨ s.domainOn 15 = false ∨ s.captFenced q.val = true)) ∧
    (∃ (s : State) (session : Nat), s.Serves ∧ s.unlessBusy 3 (s.roleRefusal session) = none) ∧
    (∃ (s : State) (q : Fin 4) (session : Nat), s.Serves ∧ s.unlessBusy 3 (s.roleRefusal session) = none ∧ (s.nat
        (OD.STREAM_STATE q.val) = 1 ∨ s.nat (OD.STREAM_STATE q.val) = 5 ∨ s.nat (OD.STREAM_STATE q.val) = 6)) ∧
    (∃ (s : State) (q : Fin 4) (session : Nat), s.Serves ∧ s.unlessBusy 3 (s.roleRefusal session) = none ∧ (s.nat
        (OD.STREAM_STATE q.val) = 2 ∨ s.nat (OD.STREAM_STATE q.val) = 3)) ∧
    (∃ (s : State) (q : Fin 4) (session : Nat), s.Serves ∧ s.unlessBusy 3 (s.roleRefusal session) = none ∧ (s.nat
        (OD.STREAM_STATE q.val) = 0 ∨ s.nat (OD.STREAM_STATE q.val) = 4)) ∧
    (∃ (s : State) (q : Fin 4) (offset : Nat), s.Serves ∧ s.unlessBusy 3 none = none ∧ (s.windowBytes q.val).length < offset) ∧
    (∃ (s : State) (q : Fin 4) (offset : Nat), s.Serves ∧ s.unlessBusy 3 none = none ∧ offset ≤ (s.windowBytes q.val).length) ∧
    (∃ (s : State) (q : Fin 4) (t0 : Nat) (n : Nat), (s.strm q.val).hold = some (t0, n) ∧ s.nat (OD.HOLD_MODE q.val) = 0 ∧ s.past t0 (us (s.nat
        (OD.HOLD_TIME q.val))) = true) ∧
    (∃ (s : State) (q : Fin 4) (t0 : Nat) (n : Nat), (s.strm q.val).hold = some (t0, n) ∧ s.nat (OD.HOLD_MODE q.val) ≠ 0 ∧ s.nat
        (OD.HOLD_EVENTS q.val) ≤ n) ∧
    (∃ (s : State) (q : Fin 4) (g : Nat), s.domainOn 15 = true ∧ s.gridInstant q.val = some g ∧ g ≠ (s.strm q.val).lastAt ∧ (s.nat
        (OD.STREAM_STATE q.val) = 1 ∨ s.nat (OD.STREAM_STATE q.val) = 2 ∨ s.nat (OD.STREAM_STATE q.val) = 5 ∨ s.nat (OD.STREAM_STATE q.val) = 6) ∧
        (s.strm q.val).decPending = none ∧ s.derivedShed q.val = (s.strm q.val).shedding ∧ (s.strm q.val).evTrig = [] ∧ (∀ (p : List Nat),
        (s.strm q.val).prev = some p → s.trigCond q.val p (s.blockValues q.val) = false) ∧ (∀ (m : Nat), m < 8 → s.flag (OD.MASK_EN m) = false)) ∧
    (∃ (s : State) (q : Fin 4), (s.streamHears q.val = false ∨ s.domainOn 15 = false ∨ s.gridInstant q.val = none ∨ s.gridInstant q.val = some
        (s.strm q.val).lastAt)) ∧
    (∃ (s : State) (q : Fin 4), (s.strm q.val).postLeft = some 0) ∧
    (∃ (s : State) (q : Fin 4), s.nat (OD.STREAM_MODE q.val) = 2 ∧ s.nat (OD.STREAM_STATE q.val) = 3 ∧ (s.strm q.val).hold = none ∧
        ((s.strm q.val).readEnd = true ∨ (s.strm q.val).blocks.length ≤ (s.strm q.val).sent)) ∧
    (∃ (s : State) (q : Fin 4), (s.nat (OD.STREAM_STATE q.val) = 5 ∨ s.nat (OD.STREAM_STATE q.val) = 6) ∧ (∀ (c : Nat),
        (s.strm q.val).changedAt = some c → s.past c (ms 10) = true) ∧ 12582912 < (s.strm q.val).blocks.length * 4 * s.nSig q.val ∧
        (s.strm q.val).decPending.getD (s.strm q.val).dec < 15) ∧
    (∃ (s : State) (q : Fin 4), (s.nat (OD.STREAM_STATE q.val) = 5 ∨ s.nat (OD.STREAM_STATE q.val) = 6) ∧ (∀ (c : Nat),
        (s.strm q.val).changedAt = some c → s.past c (ms 10) = true) ∧ (s.strm q.val).blocks.length * 4 * s.nSig q.val < 4194304 ∧ s.nat
        (OD.DEC_EXP_MIN q.val) < (s.strm q.val).decPending.getD (s.strm q.val).dec) ∧
    (∃ (s : State) (q : Fin 4), (s.nat (OD.STREAM_STATE q.val) = 5 ∨ s.nat (OD.STREAM_STATE q.val) = 6) ∧ (∀ (c : Nat),
        (s.strm q.val).changedAt = some c → s.past c (ms 10) = true) ∧ 4194304 ≤ (s.strm q.val).blocks.length * 4 * s.nSig q.val ∧
        (s.strm q.val).blocks.length * 4 * s.nSig q.val ≤ 12582912) ∧
    (∃ (s : State) (q : Fin 4), s.nat (OD.STREAM_ETH q.val) ≠ 0 ∧ s.ethUp (s.nat (OD.STREAM_ETH q.val) - 1) = true ∧
        (s.strm q.val).paused = false ∧ ((s.octets (OD.STREAM_DEST q.val)).any fun (x : Byte) => decide (x ≠ 0)) = true ∧ (s.nat
        (OD.STREAM_STATE q.val) = 5 ∨ s.nat (OD.STREAM_STATE q.val) = 3 ∨ s.nat (OD.STREAM_STATE q.val) = 4 ∨ s.nat (OD.STREAM_STATE q.val) = 2 ∧
        s.nat (OD.STREAM_MODE q.val) = 3) ∧ (s.strm q.val).sent < (s.strm q.val).blocks.length ∧ (s.strm q.val).sendAt ≤ s.now ∧ s.launchGuard
        (s.nat (OD.STREAM_ETH q.val) - 1) = false) ∧
    (∃ (s : State) (q : Fin 4) (src : BitVec 128) (srcPort : BitVec 16), s.nat (OD.STREAM_ETH q.val) ≠ 0 ∧ s.octets
        (OD.STREAM_DEST q.val) = beBytes 16 src.toNat ++ beBytes 2 srcPort.toNat) ∧
    (∃ (s : State) (q : Fin 4) (src : BitVec 128) (srcPort : BitVec 16), (s.nat (OD.STREAM_ETH q.val) = 0 ∨ s.octets
        (OD.STREAM_DEST q.val) ≠ beBytes 16 src.toNat ++ beBytes 2 srcPort.toNat)) :=
    ⟨⟨(pw [(OD.STREAM_MODE 0, 1), (OD.SIG 0 0, 0x000101)]) (base.putN (OD.STREAM_MODE 0) 1), (0 : Fin 4), 64,
        by delta State.Serves; decide +kernel⟩,
     ⟨base.putN (OD.STREAM_MODE 0) 0, (0 : Fin 4), 64, by delta State.Serves; decide +kernel⟩,
     ⟨base, 64, by delta State.Serves; decide +kernel⟩,
     ⟨base.putN (OD.STREAM_STATE 0) 1, (0 : Fin 4), 64, by delta State.Serves; decide +kernel⟩,
     ⟨base.putN (OD.STREAM_STATE 0) 2, (0 : Fin 4), 64, by delta State.Serves; decide +kernel⟩,
     ⟨base.putN (OD.STREAM_STATE 0) 0, (0 : Fin 4), 64, by delta State.Serves; decide +kernel⟩,
     ⟨base, (0 : Fin 4), 3, by delta State.Serves; decide +kernel⟩,
     ⟨base, (0 : Fin 4), 0, by delta State.Serves; decide +kernel⟩,
     ⟨at_Capture_streams_8, (0 : Fin 4), ((((at_Capture_streams_8.strm 0).hold).map (·.1)).getD 0), ((((at_Capture_streams_8.strm 0).hold).map
         (·.2)).getD 0), by decide +kernel⟩,
     ⟨at_Capture_streams_9, (0 : Fin 4), ((((at_Capture_streams_9.strm 0).hold).map (·.1)).getD 0), ((((at_Capture_streams_9.strm 0).hold).map
         (·.2)).getD 0), by decide +kernel⟩,
     ⟨at_Capture_streams_10, (0 : Fin 4), ((at_Capture_streams_10.gridInstant 0).getD 0), by decide +kernel⟩,
     ⟨base, (0 : Fin 4), by decide +kernel⟩,
     ⟨(strm0 fun x => { x with postLeft := some 0 }) (base), (0 : Fin 4), by decide +kernel⟩,
     ⟨(base.putN (OD.STREAM_MODE 0) 2).putN (OD.STREAM_STATE 0) 3, (0 : Fin 4), by decide +kernel⟩,
     ⟨at_Capture_streams_14, (0 : Fin 4), .inl (by decide +kernel), (by intro c h; cases h), by rw [show (at_Capture_streams_14.strm (0 : Fin 4).val).blocks = List.replicate 4000000 ({} : CapBlock) from rfl, List.length_replicate, show at_Capture_streams_14.nSig (0 : Fin 4).val = 1 by decide +kernel]; decide, by decide +kernel⟩,
     ⟨(strm0 fun x => { x with dec := 5 }) (base.putN (OD.STREAM_STATE 0) 5), (0 : Fin 4), by decide +kernel⟩,
     ⟨at_Capture_streams_16, (0 : Fin 4), .inl (by decide +kernel), (by intro c h; cases h), by rw [show (at_Capture_streams_16.strm (0 : Fin 4).val).blocks = List.replicate 1100000 ({} : CapBlock) from rfl, List.length_replicate, show at_Capture_streams_16.nSig (0 : Fin 4).val = 1 by decide +kernel]; decide, by rw [show (at_Capture_streams_16.strm (0 : Fin 4).val).blocks = List.replicate 1100000 ({} : CapBlock) from rfl, List.length_replicate, show at_Capture_streams_16.nSig (0 : Fin 4).val = 1 by decide +kernel]; decide⟩,
     ⟨(fun s => strm0 (fun x => { x with blocks := [{ vals := [1] }] }) ((pw [(OD.STREAM_ETH 0, 1), (OD.ETH_MODE 0, 1), (OD.LINK_UP 0, 1),
         (OD.SIG 0 0, 0x000101)] s).put (OD.STREAM_DEST 0) (.bytes (List.replicate 18 1)))) ((base.putN (OD.STREAM_ETH 0) 1).putN
         (OD.STREAM_STATE 0) 5), (0 : Fin 4), by decide +kernel⟩,
     ⟨base.putN (OD.STREAM_ETH 0) 1, (0 : Fin 4), 0#128, 0#16, by decide +kernel⟩,
     ⟨base.putN (OD.STREAM_ETH 0) 0, (0 : Fin 4), 0#128, 0#16, by decide +kernel⟩⟩

/-- States and operands that meet the hypotheses of each clause of `Safety_causes`. -/
theorem witness_Safety_causes :
    (∃ (s : State) (i : Fin 2), s.variant = Variant.S ∧ s.nat OD.SAFETY_STATE ≠ 4 ∧ s.sinMode i.val ≠ 0) ∧
    (∃ (s : State) (i : Fin 2), s.variant = Variant.S ∧ s.nat OD.SAFETY_STATE ≠ 4 ∧ (s.sinMode i.val ≠ 0 ∨ s.bit OD.SGB_CAUSE (1 + i.val) = true)) ∧
    (∃ (s : State) (i : Fin 2), s.variant = Variant.S ∧ s.nat OD.SAFETY_STATE ≠ 4 ∧ s.sinMode i.val = 0) ∧
    (∃ (s : State) (i : Fin 2), s.variant = Variant.S ∧ s.nat OD.SAFETY_STATE ≠ 4 ∧ s.sinMode i.val = 0 ∧ s.bit OD.SGB_CAUSE (1 + i.val) = false) ∧
    (∃ (s : State) (i : Fin 2) (t0 : Nat), s.variant = Variant.S ∧ s.nat OD.SAFETY_STATE ≠ 4 ∧ vget false s.safety.bothLow i.val = true ∧
        vget none s.safety.highSince i.val = some t0 ∧ s.past t0 (ms 100) = true) ∧
    (∃ (s : State) (i : Fin 2), s.variant = Variant.S ∧ s.nat OD.SAFETY_STATE ≠ 4 ∧
        (vget false s.safety.bothLow i.val = false ∨ vget none s.safety.highSince i.val = none)) ∧
    (∃ (s : State) (i : Fin 2) (chB : Bool), s.variant = Variant.S ∧ s.nat OD.SAFETY_STATE ≠ 4 ∧ s.sinMode i.val = 1 ∧
        (vget false s.safety.pulseFail (2 * i.val + if chB = true then 1 else 0) = true) ∧ s.sinFaulty i.val = false) ∧
    (∃ (s : State) (i : Fin 2) (chB : Bool), s.variant = Variant.S ∧ s.nat OD.SAFETY_STATE ≠ 4 ∧ s.sinMode i.val = 1 ∧
        (vget false s.safety.pulseFail (2 * i.val + if chB = true then 1 else 0) = true) ∧ s.sinFaulty i.val = true) ∧
    (∃ (s : State) (i : Fin 2) (chB : Bool), s.variant = Variant.S ∧ s.nat OD.SAFETY_STATE ≠ 4 ∧ s.sinMode i.val = 1 ∧
        (vget false s.safety.pulseFail (2 * i.val + if chB = true then 1 else 0) = false)) ∧
    (∃ (s : State) (i : Fin 2), s.variant = Variant.S ∧ s.nat OD.SAFETY_STATE ≠ 4 ∧ s.sinMode i.val = 1) ∧
    (∃ (s : State) (v : F32), s.variant = Variant.S ∧ s.nat OD.SAFETY_STATE ≠ 4 ∧ s.flag OD.SOS_EN = true ∧ flt (s.f32 OD.SOS_THRESH) v = true) ∧
    (∃ (s : State) (v : F32), s.variant = Variant.S ∧ s.nat OD.SAFETY_STATE ≠ 4 ∧ s.flag OD.SOS_EN = true ∧ s.sosWireBad v = true) ∧
    (∃ (s : State), s.variant = Variant.S ∧ s.nat OD.SAFETY_STATE ≠ 4 ∧ s.flag OD.SOS_EN = true) ∧
    (∃ (s : State) (v : F32), s.variant = Variant.S ∧ s.nat OD.SAFETY_STATE ≠ 4 ∧ flt v (fsub (s.f32 OD.SOS_THRESH) (s.f32 OD.SOS_HYST)) = true ∧
        s.sosWireBad v = false) ∧
    (∃ (s : State) (t0 : Nat), s.variant = Variant.S ∧ s.safety.gateAt = some t0 ∧ s.past t0 (us (s.nat OD.SGB_GATE_DELAY)) = true) ∧
    (∃ (s : State), s.variant = Variant.S ∧ s.nat OD.SAFETY_STATE = 3 ∧ s.nat OD.SGB_RESET_MODE = 1 ∧ s.nat OD.SGB_CAUSE < 8 ∧ (∀ (i : Nat),
        i < 2 → s.sinMode i = 0 ∨ ∃ (t0 : Nat), vget none s.safety.highSince i = some t0 ∧ s.past t0 (ms 100) = true)) ∧
    (∃ (s : State), s.variant = Variant.S ∧ (s.nat OD.SGB_RESET_MODE ≠ 1 ∨ 8 ≤ s.nat OD.SGB_CAUSE)) ∧
    (∃ (s : State) (row : Nat), s.variant = Variant.S ∧ 1 ≤ row ∧ row ≤ 7) ∧
    (∃ (s : State), s.variant = Variant.S) ∧
    (∃ (s : State) (k : Fin 3), s.variant = Variant.S ∧ s.bit OD.OUT_LEVEL k.val = true) ∧
    (∃ (s : State), s.variant = Variant.S ∧ s.nat OD.SAFETY_STATE = 0 ∧ s.nat OD.SGB_CAUSE = 1 ∧ s.flag OD.PW_SET = true ∧
        s.nat OD.SCS_ACK = s.scs) ∧
    (∃ (s : State), s.variant = Variant.S ∧ s.nat OD.SAFETY_STATE = 0 ∧ s.nat OD.SGB_CAUSE = 1 ∧ s.flag OD.PW_SET = false) :=
    ⟨⟨base.putN OD.SAFETY_STATE 5, (0 : Fin 2), by decide +kernel⟩,
     ⟨base.putN OD.SAFETY_STATE 5, (0 : Fin 2), by decide +kernel⟩,
     ⟨(pw [(OD.SIN1_MODE, 0)]) (base.putN OD.SAFETY_STATE 5), (0 : Fin 2), by decide +kernel⟩,
     ⟨(pw [(OD.SIN1_MODE, 0)]) ((base.putN OD.SAFETY_STATE 5).putBit OD.SGB_CAUSE (1 + 0) false), (0 : Fin 2), by decide +kernel⟩,
     ⟨at_Safety_causes_6, (0 : Fin 2), ((vget none at_Safety_causes_6.safety.highSince 0).getD 0), by decide +kernel⟩,
     ⟨base.putN OD.SAFETY_STATE 5, (0 : Fin 2), by decide +kernel⟩,
     ⟨(saf fun x => { x with pulseFail := Vector.replicate 4 true }) (base.putN OD.SAFETY_STATE 5), (0 : Fin 2), false, by decide +kernel⟩,
     ⟨(fun s => pw [(OD.SGB_CAUSE, 32)] (saf (fun x => { x with pulseFail := Vector.replicate 4 true }) s)) (base.putN OD.SAFETY_STATE 5),
         (0 : Fin 2), false, by decide +kernel⟩,
     ⟨base.putN OD.SAFETY_STATE 5, (0 : Fin 2), false, by decide +kernel⟩,
     ⟨base.putN OD.SAFETY_STATE 5, (0 : Fin 2), by decide +kernel⟩,
     ⟨(base.putN OD.SAFETY_STATE 5).putB OD.SOS_EN true, 0x42000000, by decide +kernel⟩,
     ⟨(base.putN OD.SAFETY_STATE 5).putB OD.SOS_EN true, 0#32, by decide +kernel⟩,
     ⟨(base.putN OD.SAFETY_STATE 5).putB OD.SOS_EN true, by decide +kernel⟩,
     ⟨base.putN OD.SAFETY_STATE 5, 0x3F800000, by decide +kernel⟩,
     ⟨at_Safety_causes_17, ((at_Safety_causes_17.safety.gateAt).getD 0), by decide +kernel⟩,
     ⟨(saf fun x => { x with highSince := Vector.replicate 2 (some 0) }) ((base.putN OD.SAFETY_STATE 3).putN OD.SGB_RESET_MODE 1),
         by decide +kernel⟩,
     ⟨base.putN OD.SGB_RESET_MODE 2, by decide +kernel⟩,
     ⟨base, 1, by decide +kernel⟩,
     ⟨base, by decide +kernel⟩,
     ⟨base.putBit OD.OUT_LEVEL 0 true, (0 : Fin 3), by decide +kernel⟩,
     ⟨(((base.putN OD.SAFETY_STATE 0).putN OD.SGB_CAUSE 1).putB OD.PW_SET true).putN OD.SCS_ACK base.scs, by decide +kernel⟩,
     ⟨((base.putN OD.SAFETY_STATE 0).putN OD.SGB_CAUSE 1).putB OD.PW_SET false, by decide +kernel⟩⟩

/-- States and operands that meet the hypotheses of each clause of `Safety_sessions`. -/
theorem witness_Safety_sessions :
    (∃ (s : State) (session : Nat) (pw : List Byte) (n : Nat), s.variant = Variant.S ∧ s.Serves ∧ s.roleRefusal session = none ∧
        utf8Chars pw = some n ∧ 12 ≤ n ∧ n ≤ 64 ∧ s.lockoutTicks (sessPort session) = 0) ∧
    (∃ (s : State) (session : Nat) (pw : List Byte) (n : Nat), s.variant = Variant.S ∧ s.Serves ∧ s.roleRefusal session = none ∧
        utf8Chars pw = some n ∧ 12 ≤ n ∧ n ≤ 64 ∧ s.lockoutTicks (sessPort session) ≠ 0) ∧
    (∃ (s : State) (session : Nat) (pw : List Byte) (n : Nat), s.variant = Variant.S ∧ s.Serves ∧ s.roleRefusal session = none ∧
        utf8Chars pw = some n ∧ (n < 12 ∨ 64 < n)) ∧
    (∃ (s : State) (session : Nat) (pw : List Byte), s.variant = Variant.S ∧ s.Serves ∧ sessPort session < 5 ∧ List.find? (fun
        (x : Nat × Option Request × List Byte) => decide (x.fst = session)) s.safety.verifying = some (session, none, pw) ∧
        s.passwordOk pw = true) ∧
    (∃ (s : State) (session : Nat) (pw : List Byte), s.variant = Variant.S ∧ s.Serves ∧ sessPort session < 5 ∧ List.find? (fun
        (x : Nat × Option Request × List Byte) => decide (x.fst = session)) s.safety.verifying = some (session, none, pw) ∧
        s.passwordOk pw = false ∧ vget 0 s.safety.fails (sessPort session) + 1 < 5) ∧
    (∃ (s : State) (session : Nat) (pw : List Byte), s.variant = Variant.S ∧ s.Serves ∧ sessPort session < 5 ∧ List.find? (fun
        (x : Nat × Option Request × List Byte) => decide (x.fst = session)) s.safety.verifying = some (session, none, pw) ∧
        s.passwordOk pw = false ∧ 5 ≤ vget 0 s.safety.fails (sessPort session) + 1) ∧
    (∃ (s : State) (k : Fin 5) (t0 : Nat), s.variant = Variant.S ∧ s.Serves ∧ vget none s.safety.lockUntil k.val = some t0 ∧ t0 ≤ s.now) ∧
    (∃ (s : State) (session : Nat), s.variant = Variant.S ∧ s.Serves ∧ (s.safety.logins.any fun (x : Nat × Nat) => decide
        (x.fst = session) && s.past x.snd (sec 900)) = true) ∧
    (∃ (s : State) (session : Nat), s.variant = Variant.S ∧ s.Serves ∧ s.roleRefusal session = none) ∧
    (∃ (s : State) (session : Nat) (pw : List Byte) (n : Nat), s.variant = Variant.S ∧ s.Serves ∧ s.roleRefusal session = none ∧
        utf8Chars pw = some n ∧ (s.flag OD.PW_SET = false ∧ session = 64 ∨ s.loggedIn session = true ∧ s.flag OD.PW_SET = true) ∧ 12 ≤ n ∧ n ≤ 64 ∧
        s.secretsBarred = false) ∧
    (∃ (s : State) (session : Nat) (pw : List Byte) (n : Nat), s.variant = Variant.S ∧ s.Serves ∧ s.roleRefusal session = none ∧
        utf8Chars pw = some n ∧ (s.flag OD.PW_SET = true ∨ session ≠ 64) ∧ s.loggedIn session = false) ∧
    (∃ (s : State) (session : Nat) (v : BitVec 32), s.variant = Variant.S ∧ s.Serves ∧ s.rwsRefusal session = none ∧ v.toNat = s.nat OD.SCS) ∧
    (∃ (s : State) (session : Nat) (v : BitVec 32), s.variant = Variant.S ∧ s.Serves ∧ s.rwsRefusal session = none ∧ v.toNat ≠ s.nat OD.SCS) ∧
    (∃ (s : State) (session : Nat), s.variant = Variant.S ∧ s.Serves ∧ s.rwsRefusal session = none) ∧
    (∃ (s : State) (session : Nat), s.variant = Variant.S ∧ s.Serves ∧ s.rwsRefusal session = none ∧
        (s.secretsBarred = true ∨ s.nat OD.SGB_CAUSE = 0 ∨ s.nat OD.SAFETY_STATE = 4)) ∧
    (∃ (s : State) (session : Nat), s.variant = Variant.S ∧ s.Serves ∧ s.rwsRefusal session = none ∧ s.secretsBarred = false ∧
        s.nat OD.SGB_CAUSE ≠ 0 ∧ s.nat OD.SAFETY_STATE ≠ 4 ∧ ((s.safetyStaged session).all fun (x : Nat × Val) => decide (s.od
        (OD.key 28688 x.fst) = x.snd)) = false) :=
    ⟨⟨at_Safety_sessions_0, 64, pw12, ((utf8Chars pw12).getD 0), by delta State.Serves; decide +kernel⟩,
     ⟨at_Safety_sessions_1, 64, pw12, ((utf8Chars pw12).getD 0), by delta State.Serves; decide +kernel⟩,
     ⟨at_Safety_sessions_2, 64, [], ((utf8Chars []).getD 0), by delta State.Serves; decide +kernel⟩,
     ⟨(saf fun x => { x with verifying := [(0x40, none, pw12)], hash := some (5, Config.passwordHash 5 pw12) }) (base), 64, pw12, by decide +kernel, by delta State.Serves; decide +kernel, by decide +kernel, by decide +kernel, by show decide (Config.passwordHash 5 pw12 = Config.passwordHash 5 pw12) = true; simp⟩,
     ⟨at_Safety_sessions_4, 64, (((List.find? (fun (x : Nat × Option Request × List Byte) => decide
         (x.fst = 64)) at_Safety_sessions_4.safety.verifying).map (·.2.2)).getD ([])), by delta State.Serves; decide +kernel⟩,
     ⟨at_Safety_sessions_5, 64, (((List.find? (fun (x : Nat × Option Request × List Byte) => decide
         (x.fst = 64)) at_Safety_sessions_5.safety.verifying).map (·.2.2)).getD ([])), by delta State.Serves; decide +kernel⟩,
     ⟨at_Safety_sessions_6, (0 : Fin 5), ((vget none at_Safety_sessions_6.safety.lockUntil 0).getD 0), by delta State.Serves; decide +kernel⟩,
     ⟨(saf fun x => { x with logins := [(0x40, 0)] }) (base), 64, by delta State.Serves; decide +kernel⟩,
     ⟨base, 64, by delta State.Serves; decide +kernel⟩,
     ⟨at_Safety_sessions_10, 64, pw12, ((utf8Chars pw12).getD 0), by delta State.Serves; decide +kernel⟩,
     ⟨at_Safety_sessions_11, 64, [], ((utf8Chars []).getD 0), by delta State.Serves; decide +kernel⟩,
     ⟨logd (base), 64, 0#32, by delta State.Serves; decide +kernel⟩,
     ⟨logd (base), 64, (7 : BitVec 32), by delta State.Serves; decide +kernel⟩,
     ⟨logd (base), 64, by delta State.Serves; decide +kernel⟩,
     ⟨(fun s => logd (pw [(OD.SGB_CAUSE, 0)] s)) (base), 64, by delta State.Serves; decide +kernel⟩,
     ⟨(fun s => logd (saf (fun x => { x with staged := [(0x40, [(3, .num 5)])] }) (pw [(OD.SAFETY_STATE, 3)] s)))
         ((base.putN OD.SGB_CAUSE 1).putN OD.SAFETY_STATE 5), 64, by delta State.Serves; decide +kernel⟩⟩

/-- States and operands that meet the hypotheses of each clause of `Security_commands`. -/
theorem witness_Security_commands :
    (∃ (s : State) (session : Nat) (challenge : List Byte), s.bit OD.PR_BUSY 1 = false ∧ s.roleRefusal session = none ∧ challenge.length = 48 ∧
        s.nat OD.KEY_STATE = 1) ∧
    (∃ (s : State) (session : Nat) (challenge : List Byte), s.bit OD.PR_BUSY 1 = false ∧ s.roleRefusal session = none ∧ challenge.length = 48 ∧
        s.nat OD.KEY_STATE ≠ 1) ∧
    (∃ (s : State) (session : Nat) (challenge : List Byte), s.bit OD.PR_BUSY 1 = false ∧ s.roleRefusal session = none ∧ 48 < challenge.length) ∧
    (∃ (s : State) (session : Nat) (a : Nat × List Byte), List.find? (fun (a : Nat × List Byte) => decide
        (a.fst = session)) s.security.attest = some a) ∧
    (∃ (s : State) (session : Nat) (target : Fin 5) (data : List Byte), s.Serves ∧ s.serviceRefusal session = none ∧ s.secretsBarred = false ∧
        target.val < 4 ∧ data.length ≤ 1024) ∧
    (∃ (s : State) (session : Nat) (target : Fin 5) (data : List Byte), s.Serves ∧ s.serviceRefusal session = none ∧ s.secretsBarred = false ∧
        target.val = 4 ∧ data.length ≤ 2304 ∧ data.length % 36 = 0) ∧
    (∃ (s : State) (session : Nat) (target : Fin 5) (data : List Byte), s.Serves ∧ s.serviceRefusal session = none ∧ s.secretsBarred = false ∧
        ((if target.val < 4 then 1024 else 2304) < data.length)) ∧
    (∃ (s : State) (session : Nat) (size : Nat), s.bit OD.PR_BUSY 1 = false ∧ s.imageRefusal session = none ∧ s.nat OD.LC_STATE ≠ 4 ∧ (∀
        (l : Lane), (s.lane l).booted = false ∨ vget 0 s.security.laneSlot l.num ≠ s.targetSlot) ∧ size ≤ 1024) ∧
    (∃ (s : State) (session : Nat) (n : Nat) (size : Nat), s.bit OD.PR_BUSY 1 = false ∧ s.imageRefusal session = none ∧ s.nat OD.LC_STATE ≠ 4 ∧ (∀
        (l : Lane), (s.lane l).booted = false ∨ vget 0 s.security.laneSlot l.num ≠ s.targetSlot) ∧ s.security.load = some (session, n) ∧ n ≠ 0 ∧
        size ≤ 1024 ∧ n + size ≤ 25165824) ∧
    (∃ (s : State) (session : Nat) (n : Nat) (size : Nat) (found : ImageInfo), s.bit OD.PR_BUSY 1 = false ∧ s.imageRefusal session = none ∧
        s.nat OD.LC_STATE ≠ 4 ∧ (∀ (l : Lane), (s.lane l).booted = false ∨ vget 0 s.security.laneSlot l.num ≠ s.targetSlot) ∧
        s.security.load = some (session, n) ∧ n ≠ 0 ∧ size ≤ 1024 ∧ n + size ≤ 25165824 ∧ found.good = true ∧ s.nat OD.SVN_FLOOR ≤ found.svn) ∧
    (∃ (s : State) (session : Nat) (n : Nat) (size : Nat) (found : ImageInfo), s.bit OD.PR_BUSY 1 = false ∧ s.imageRefusal session = none ∧
        s.nat OD.LC_STATE ≠ 4 ∧ (∀ (l : Lane), (s.lane l).booted = false ∨ vget 0 s.security.laneSlot l.num ≠ s.targetSlot) ∧
        s.security.load = some (session, n) ∧ n ≠ 0 ∧ size ≤ 1024 ∧ n + size ≤ 25165824 ∧ (found.good = false ∨ found.svn < s.nat OD.SVN_FLOOR)) ∧
    (∃ (s : State) (session : Nat) (n : Nat) (size : Nat) (offset : Nat), s.bit OD.PR_BUSY 1 = false ∧ s.imageRefusal session = none ∧
        s.nat OD.LC_STATE ≠ 4 ∧ (∀ (l : Lane), (s.lane l).booted = false ∨ vget 0 s.security.laneSlot l.num ≠ s.targetSlot) ∧
        s.security.load = some (session, n) ∧ n ≠ 0 ∧ size ≤ 1024 ∧ n + size ≤ 25165824 ∧ offset ≠ 0 ∧ offset ≠ n ∧ offset + size ≤ 25165824) ∧
    (∃ (s : State) (session : Nat) (l : Lane), s.bit OD.PR_BUSY 1 = false ∧ s.imageRefusal session = none ∧ s.nat OD.LC_STATE ≠ 4 ∧
        s.boot.resetDue = none ∧ (s.slot s.targetSlot).valid = true ∧ (s.laneSt l = 4 ∨ s.laneSt l = 6 ∨ s.laneSt l = 7 ∨ s.laneSt l = 0) ∧
        s.serving = some l.other ∧ (s.slot s.security.running).laneMin ≤ (s.slot s.targetSlot).version ∧ (s.slot s.targetSlot).version ≤
        (s.slot s.security.running).laneMax) ∧
    (∃ (s : State) (session : Nat), s.bit OD.PR_BUSY 1 = false ∧ s.imageRefusal session = none ∧ s.nat OD.LC_STATE ≠ 4 ∧ s.boot.resetDue = none ∧
        (s.slot s.targetSlot).valid = false) ∧
    (∃ (s : State) (session : Nat), s.bit OD.PR_BUSY 1 = false ∧ s.imageRefusal session = none ∧ s.nat OD.LC_STATE ≠ 4 ∧ s.boot.resetDue = none ∧
        (s.slot s.targetSlot).valid = true ∧ s.tbValid = true ∧ s.handoverOk = true) ∧
    (∃ (s : State) (session : Nat), s.bit OD.PR_BUSY 1 = false ∧ s.imageRefusal session = none ∧ s.nat OD.LC_STATE ≠ 4 ∧ s.boot.resetDue = none ∧
        (s.slot s.targetSlot).valid = true ∧ s.nat OD.LAW_STATE = 0 ∧ s.handoverOk = false ∧ s.pair.handover = none) ∧
    (∃ (s : State) (session : Nat), s.bit OD.PR_BUSY 1 = false ∧ s.serviceRefusal session = none ∧ s.nat OD.LC_STATE ≠ 4 ∧
        ((s.lane Lane.a).booted && decide (vget 0 s.security.laneSlot Lane.a.num = s.security.running) && ((s.lane Lane.b).booted && decide
        (vget 0 s.security.laneSlot Lane.b.num = s.security.running))) = true) ∧
    (∃ (s : State) (session : Nat), s.bit OD.PR_BUSY 1 = false ∧ s.serviceRefusal session = none ∧ s.nat OD.LC_STATE ≠ 4 ∧
        ((s.lane Lane.a).booted && decide (vget 0 s.security.laneSlot Lane.a.num = s.security.running) && ((s.lane Lane.b).booted && decide
        (vget 0 s.security.laneSlot Lane.b.num = s.security.running))) = false) ∧
    (∃ (s : State) (i : Fin 5) (b : Bool), s.security.tamperPresent.testBit i.val = b) ∧
    (∃ (s : State) (i : Fin 5), s.security.tamperPresent.testBit i.val = true) ∧
    (∃ (s : State) (i : Fin 5), s.security.tamperPresent.testBit i.val = false ∧ i.val ≠ 4 ∧ s.bit OD.TAMPER_EN i.val = false) ∧
    (∃ (s : State) (i : Fin 5), s.security.tamperPresent.testBit i.val = false ∧ i.val ≠ 4 ∧ s.bit OD.TAMPER_EN i.val = true ∧
        s.domainOn 1 = true) ∧
    (∃ (s : State) (i : Fin 5), s.security.tamperPresent.testBit i.val = false ∧ i.val ≠ 4 ∧ s.bit OD.TAMPER_EN i.val = true ∧
        s.domainOn 1 = false) ∧
    (∃ (s : State) (i : Fin 5), s.security.tamperPresent.testBit i.val = false ∧ i.val = 4 ∧ s.domainOn 1 = true) ∧
    (∃ (s : State) (i : Fin 5), s.security.tamperPresent.testBit i.val = false ∧ i.val = 4 ∧ s.domainOn 1 = false) ∧
    (∃ (s : State) (session : Nat) (mask : BitVec 8), s.Serves ∧ s.serviceRefusal session = none ∧ mask.toNat ≤ 31) ∧
    (∃ (s : State) (session : Nat) (mask : BitVec 8), s.Serves ∧ s.serviceRefusal session = none ∧ 31 < mask.toNat) ∧
    (∃ (s : State) (session : Nat) (c : Instr) (req : Nat), (c = Instr.lcReqReturn session ∧ req = 1 ∨ c = Instr.lcReqSanitised session ∧
        req = 2 ∨ c = Instr.lcReqRetired session ∧ req = 3) ∧ s.Serves ∧ s.lcRefusal req session = none ∧ s.lcAllowed req = true) ∧
    (∃ (s : State) (session : Nat) (c : Instr) (req : Nat), (c = Instr.lcReqReturn session ∧ req = 1 ∨ c = Instr.lcReqSanitised session ∧
        req = 2 ∨ c = Instr.lcReqRetired session ∧ req = 3) ∧ s.Serves ∧ s.lcRefusal req session = none ∧ s.lcAllowed req = false) ∧
    (∃ (s : State) (session : Nat) (nonce : List Byte) (req : Nat) (at1 : Nat), s.Serves ∧ s.serviceRefusal session = none ∧ nonce.length = 16 ∧
        s.security.lcReq = some (session, req, at1) ∧ nonce = s.octets OD.LC_NONCE ∧ s.now ≤ at1 + sec 60) ∧
    (∃ (s : State) (session : Nat) (nonce : List Byte) (who : Nat) (req : Nat) (at1 : Nat), s.Serves ∧ s.serviceRefusal session = none ∧
        nonce.length = 16 ∧ s.security.lcReq = some (who, req, at1) ∧ (who ≠ session ∨ nonce ≠ s.octets OD.LC_NONCE ∨ at1 + sec 60 < s.now)) ∧
    (∃ (s : State) (session : Nat) (nonce : List Byte), s.Serves ∧ s.serviceRefusal session = none ∧ nonce.length = 16 ∧ s.security.lcReq = none) ∧
    (∃ (s : State) (who : Nat) (req : Nat) (at1 : Nat), s.security.lcReq = some (who, req, at1) ∧ at1 + sec 60 < s.now) ∧
    (∃ (s : State) (who : Nat) (req : Nat) (at1 : Nat), s.security.lcReq = some (who, req, at1) ∧ s.now ≤ at1 + sec 60) ∧
    (∃ (s : State) (session : Nat) (c : Instr) (token : List Byte) (good : Bool),
        (c = Instr.vendorUnlock session token good ∨ c = Instr.vendorRecommission session token good) ∧ s.Serves ∧ s.vendorRefusal session = none ∧
        token.length = 128 ∧ s.tokenOk token good = false) ∧
    (∃ (s : State) (session : Nat) (c : Instr) (token : List Byte) (good : Bool),
        (c = Instr.vendorUnlock session token good ∨ c = Instr.vendorRecommission session token good) ∧ s.Serves ∧ s.vendorRefusal session = none ∧
        token.length = 128 ∧ s.tokenOk token good = true ∧ s.nat OD.LC_STATE ≠ 2 ∧ s.nat OD.LC_STATE ≠ 3) ∧
    (∃ (s : State) (session : Nat) (c : Instr) (token : List Byte) (good : Bool),
        (c = Instr.vendorUnlock session token good ∨ c = Instr.vendorRecommission session token good) ∧ s.Serves ∧ s.vendorRefusal session = none ∧
        token.length = 128 ∧ s.tokenOk token good = true ∧ (s.nat OD.LC_STATE = 2 ∨ s.nat OD.LC_STATE = 3) ∧ tokenField token 240 8 = 1) ∧
    (∃ (s : State) (session : Nat) (c : Instr) (token : List Byte) (good : Bool),
        (c = Instr.vendorUnlock session token good ∨ c = Instr.vendorRecommission session token good) ∧ s.Serves ∧ s.vendorRefusal session = none ∧
        token.length = 128 ∧ s.tokenOk token good = true ∧ (s.nat OD.LC_STATE = 2 ∨ s.nat OD.LC_STATE = 3) ∧ tokenField token 240 8 = 2 ∧
        s.nat OD.LC_TRANSITIONS < 64) ∧
    (∃ (s : State) (session : Nat) (c : Instr) (token : List Byte) (good : Bool),
        (c = Instr.vendorUnlock session token good ∨ c = Instr.vendorRecommission session token good) ∧ s.Serves ∧ s.vendorRefusal session = none ∧
        token.length = 128 ∧ s.tokenOk token good = true ∧ (s.nat OD.LC_STATE = 2 ∨ s.nat OD.LC_STATE = 3) ∧ tokenField token 240 8 = 2 ∧
        64 ≤ s.nat OD.LC_TRANSITIONS) :=
    ⟨⟨(base.putBit OD.PR_BUSY 1 false).putN OD.KEY_STATE 1, 64, List.replicate 48 0, by decide +kernel⟩,
     ⟨(base.putBit OD.PR_BUSY 1 false).putN OD.KEY_STATE 2, 64, List.replicate 48 0, by decide +kernel⟩,
     ⟨base.putBit OD.PR_BUSY 1 false, 64, List.replicate 49 0, by decide +kernel⟩,
     ⟨at_Security_commands_3, 64, ((List.find? (fun (a : Nat × List Byte) => decide (a.fst = 64)) at_Security_commands_3.security.attest).getD ((0,
         []))), by decide +kernel⟩,
     ⟨base, 64, (0 : Fin 5), [], by delta State.Serves; decide +kernel⟩,
     ⟨base, 64, (4 : Fin 5), [], by delta State.Serves; decide +kernel⟩,
     ⟨base, 64, (0 : Fin 5), List.replicate 1025 0, by delta State.Serves; decide +kernel⟩,
     ⟨(base.putBit OD.PR_BUSY 1 false).putN OD.LC_STATE 5, 64, 0, by decide +kernel, by decide +kernel, by decide +kernel,
         fun l => by cases l <;> decide +kernel, by decide +kernel⟩,
     ⟨at_Security_commands_8, (((at_Security_commands_8.security.load).map (·.1)).getD 0), (((at_Security_commands_8.security.load).map
         (·.2)).getD 0), 0, by decide +kernel, by decide +kernel, by decide +kernel, fun l => by cases l <;> decide +kernel, by decide +kernel,
         by decide +kernel, by decide +kernel, by decide +kernel⟩,
     ⟨at_Security_commands_9, (((at_Security_commands_9.security.load).map (·.1)).getD 0), (((at_Security_commands_9.security.load).map
         (·.2)).getD 0), 0, { good := true, version := 2, svn := 5, laneMin := 1, laneMax := 3 }, by decide +kernel, by decide +kernel,
         by decide +kernel, fun l => by cases l <;> decide +kernel, by decide +kernel, by decide +kernel, by decide +kernel, by decide +kernel,
         by decide +kernel, by decide +kernel⟩,
     ⟨at_Security_commands_10, (((at_Security_commands_10.security.load).map (·.1)).getD 0), (((at_Security_commands_10.security.load).map
         (·.2)).getD 0), 0, { good := false, version := 0, svn := 0, laneMin := 0, laneMax := 0 }, by decide +kernel, by decide +kernel,
         by decide +kernel, fun l => by cases l <;> decide +kernel, by decide +kernel, by decide +kernel, by decide +kernel, by decide +kernel,
         by decide +kernel⟩,
     ⟨at_Security_commands_11, (((at_Security_commands_11.security.load).map (·.1)).getD 0), (((at_Security_commands_11.security.load).map
         (·.2)).getD 0), 0, 7, by decide +kernel, by decide +kernel, by decide +kernel, fun l => by cases l <;> decide +kernel, by decide +kernel,
         by decide +kernel, by decide +kernel, by decide +kernel, by decide +kernel, by decide +kernel, by decide +kernel⟩,
     ⟨(fun s => secu (fun x => { x with slots := Vector.replicate 2 { valid := true, laneMax := 65535 } }) (pw [(laneKey .b, 4), (laneKey .a,
         5)] s)) ((((base.putBit OD.PR_BUSY 1 false).putN OD.LC_STATE 5).putN (laneKey Lane.b) 4).putN OD.SERVING_LANE Lane.b.other.num), 64, .b,
         by decide +kernel⟩,
     ⟨(base.putBit OD.PR_BUSY 1 false).putN OD.LC_STATE 5, 64, by decide +kernel⟩,
     ⟨(fun s => secu (fun x => { x with slots := Vector.replicate 2 { valid := true, laneMax := 65535 } }) (pw [(OD.PAIR_STATE, 5),
         (OD.PARTNER_STATE, 4)] s)) ((base.putBit OD.PR_BUSY 1 false).putN OD.LC_STATE 5), 64, by decide +kernel⟩,
     ⟨(fun s => secu (fun x => { x with slots := Vector.replicate 2 { valid := true, laneMax := 65535 } }) s)
         (((base.putBit OD.PR_BUSY 1 false).putN OD.LC_STATE 5).putN OD.LAW_STATE 0), 64, by decide +kernel⟩,
     ⟨(lanesf fun x => { x with a := { x.a with booted := true }, b := { x.b with booted := true } })
         ((base.putBit OD.PR_BUSY 1 false).putN OD.LC_STATE 5), 64, by decide +kernel⟩,
     ⟨(base.putBit OD.PR_BUSY 1 false).putN OD.LC_STATE 5, 64, by decide +kernel⟩,
     ⟨base, (0 : Fin 5), false, by decide +kernel⟩,
     ⟨(secu fun x => { x with tamperPresent := 1 }) (base), (0 : Fin 5), by decide +kernel⟩,
     ⟨base.putBit OD.TAMPER_EN 0 false, (0 : Fin 5), by decide +kernel⟩,
     ⟨base.putBit OD.TAMPER_EN 0 true, (0 : Fin 5), by decide +kernel⟩,
     ⟨(pw [(OD.PWR_STATE 1, 0)]) (base.putBit OD.TAMPER_EN 0 true), (0 : Fin 5), by decide +kernel⟩,
     ⟨base, (4 : Fin 5), by decide +kernel⟩,
     ⟨(pw [(OD.PWR_STATE 1, 0)]) (base), (4 : Fin 5), by decide +kernel⟩,
     ⟨base, 64, 0#8, by delta State.Serves; decide +kernel⟩,
     ⟨base, 64, 0x20, by delta State.Serves; decide +kernel⟩,
     ⟨(fun s => recf (fun r => { r with frozen := true }) (pw [(OD.LC_STATE, 1)] s)) (base), 64, .lcReqReturn 0x40, 1,
         by delta State.Serves; decide +kernel⟩,
     ⟨base, 64, .lcReqReturn 0x40, 1, by delta State.Serves; decide +kernel⟩,
     ⟨at_Security_commands_30, (((at_Security_commands_30.security.lcReq).map (·.1)).getD 0), List.replicate 16 7,
         (((at_Security_commands_30.security.lcReq).map (·.2.1)).getD 0), (((at_Security_commands_30.security.lcReq).map (·.2.2)).getD 0),
         by delta State.Serves; decide +kernel⟩,
     ⟨at_Security_commands_31, 64, List.replicate 16 6, (((at_Security_commands_31.security.lcReq).map (·.1)).getD 0),
         (((at_Security_commands_31.security.lcReq).map (·.2.1)).getD 0), (((at_Security_commands_31.security.lcReq).map (·.2.2)).getD 0),
         by delta State.Serves; decide +kernel⟩,
     ⟨base, 64, List.replicate 16 6, by delta State.Serves; decide +kernel⟩,
     ⟨at_Security_commands_33, (((at_Security_commands_33.security.lcReq).map (·.1)).getD 0), (((at_Security_commands_33.security.lcReq).map
         (·.2.1)).getD 0), (((at_Security_commands_33.security.lcReq).map (·.2.2)).getD 0), by decide +kernel⟩,
     ⟨at_Security_commands_34, (((at_Security_commands_34.security.lcReq).map (·.1)).getD 0), (((at_Security_commands_34.security.lcReq).map
         (·.2.1)).getD 0), (((at_Security_commands_34.security.lcReq).map (·.2.2)).getD 0), by decide +kernel⟩,
     ⟨base, 64, .vendorUnlock 0x40 (List.replicate 128 0) false, List.replicate 128 0, false, by delta State.Serves; decide +kernel⟩,
     ⟨(fun s => (pw [(OD.LC_STATE, 1), (OD.SERIAL, 0)] s).put OD.UNLOCK_NONCE (.bytes (List.replicate 16 0)))
         ((base.putN OD.LC_STATE 3).putN OD.LC_STATE 4), 64, .vendorUnlock 0x40 (tok 1 1) true, tok 1 1, true,
         by delta State.Serves; decide +kernel⟩,
     ⟨(fun s => (pw [(OD.LC_STATE, 2), (OD.SERIAL, 0)] s).put OD.UNLOCK_NONCE (.bytes (List.replicate 16 0))) (base.putN OD.LC_STATE 2), 64,
         .vendorUnlock 0x40 (tok 1 2) true, tok 1 2, true, by delta State.Serves; decide +kernel⟩,
     ⟨(fun s => (pw [(OD.LC_STATE, 2), (OD.SERIAL, 0), (OD.LC_TRANSITIONS, 3)] s).put OD.UNLOCK_NONCE (.bytes (List.replicate 16 0)))
         (base.putN OD.LC_STATE 2), 64, .vendorUnlock 0x40 (tok 2 2) true, tok 2 2, true, by delta State.Serves; decide +kernel⟩,
     ⟨(fun s => (pw [(OD.LC_STATE, 2), (OD.SERIAL, 0), (OD.LC_TRANSITIONS, 64)] s).put OD.UNLOCK_NONCE (.bytes (List.replicate 16 0)))
         ((base.putN OD.LC_STATE 2).putN OD.LC_TRANSITIONS 64), 64, .vendorUnlock 0x40 (tok 2 2) true, tok 2 2, true,
         by delta State.Serves; decide +kernel⟩⟩

/-- States and operands that meet the hypotheses of each clause of `Refused_commands`. -/
theorem witness_Refused_commands :
    (∃ (s : State), s.bit OD.PR_BUSY 1 = true) ∧
    (∃ (s : State), s.bit OD.PR_BUSY 1 = false ∧ s.writesBarred = true) ∧
    (∃ (s : State) (refusal : Option Reply) (r : Reply), s.Serves ∧ refusal = some r) ∧
    (∃ (s : State) (refusal : Option Reply), s.Serves ∧ refusal = none) ∧
    (∃ (s : State), s.standbyModule = true) ∧
    (∃ (s : State) (session : Nat), s.standbyModule = false ∧ s.nat OD.OWNER_SESSION ≠ session ∧ s.nat (OD.SESSION_ROLE (sessIdx session)) = 0) ∧
    (∃ (s : State) (session : Nat), s.standbyModule = false ∧ s.nat OD.OWNER_SESSION ≠ session ∧ s.nat (OD.SESSION_ROLE (sessIdx session)) ≠ 0) ∧
    (∃ (s : State) (session : Nat), s.standbyModule = false ∧ s.nat OD.OWNER_SESSION = session ∧ sessIdx session < 11 ∧ s.leaseExpired = false) :=
    ⟨⟨base.putBit OD.PR_BUSY 1 true, by decide +kernel⟩,
     ⟨(pw [(OD.LC_STATE, 4)]) (base.putBit OD.PR_BUSY 1 false), by decide +kernel⟩,
     ⟨base, some Reply.roleDenied, Reply.roleDenied, by delta State.Serves; decide +kernel⟩,
     ⟨base, none, by delta State.Serves; decide +kernel⟩,
     ⟨(pw [(OD.PAIR_MODE, 1), (OD.PAIR_STATE, 4)]) (base), by decide +kernel⟩,
     ⟨(base.putN OD.OWNER_SESSION 65).putN (OD.SESSION_ROLE (sessIdx 64)) 0, 64, by decide +kernel⟩,
     ⟨(base.putN OD.OWNER_SESSION 65).putN (OD.SESSION_ROLE (sessIdx 64)) 1, 64, by decide +kernel⟩,
     ⟨base.putN OD.OWNER_SESSION 64, 64, by decide +kernel⟩⟩

/-- A state that meets the hypotheses of `Step_runs_front`. -/
theorem witness_Step_runs_front : ∃ (s : State) (c : Instr) (rest : List Instr), s.pending = c :: rest :=
  ⟨{ State.reset with pending := [.safeStep2] }, .safeStep2, [], rfl⟩

/-- A command that is not refused on the state after reset, and the fault of `Commands_complete`. -/
theorem witness_Commands_complete :
    (match exec (.bankRead 0 1000000 0 0 none false 0) State.reset with | .fault f => decide (f = .noSuchRow 0 1000000) | _ => false) = true := by
  decide +kernel

/-- A next state for `Commands_persist`. -/
theorem witness_Commands_persist : ∃ t, exec (.houseSupervisionMiss .a) State.reset = .next t := ⟨_, rfl⟩

/-- A canonical state from which a step answers a next state. -/
theorem witness_Step_keeps_canonical : ∃ s t : State, s.Canonical ∧ step s = .next t := ⟨base, _, ⟨by decide +kernel, fun b => by
    show Memory.wf ((vget {} (Vector.replicate 17 ({} : Bank)) b).cells) = true
    unfold vget; rw [Vector.getElem?_replicate]; split <;> rfl⟩, rfl⟩


end Sys2Proof.Tests
end

section
/-! ### The field GF(16) of the Bushel code (R16) -/
namespace Sys2Proof

@[simp] theorem gfMul_zero_left (y : Nat) : gfMul 0 y = 0 := by
  simp only [gfMul, Nat.zero_testBit, Bool.false_eq_true, if_false, Nat.xor_eq, Nat.xor_self]

@[simp] theorem gfMul_zero_right (x : Nat) : gfMul x 0 = 0 := by
  have h : gfDouble 0 = 0 := rfl
  simp only [gfMul, h, ite_self, Nat.xor_eq, Nat.xor_self]

/-- Multiplication is additive in its first operand, which it reads bit by bit. -/
theorem gfMul_xor_left (x x' y : Nat) : gfMul (x ^^^ x') y = gfMul x y ^^^ gfMul x' y := by
  have bit (k v : Nat) : (if (x ^^^ x').testBit k then v else 0) =
      (if x.testBit k then v else 0) ^^^ (if x'.testBit k then v else 0) := by
    rw [Nat.testBit_xor]
    cases x.testBit k <;> cases x'.testBit k <;>
      simp only [bne_self_eq_false, Bool.bne_true, Bool.bne_false, Bool.not_false, Bool.false_eq_true, if_true, if_false, Nat.xor_self,
        Nat.zero_xor, Nat.xor_zero]
  simp only [gfMul, bit, Nat.xor_eq]
  ac_rfl

theorem gfXor_lt {x y : Nat} (hx : x < 16) (hy : y < 16) : x ^^^ y < 16 := Nat.xor_lt_two_pow (n := 4) hx hy

theorem gfXor_cancel_left (x y : Nat) : x ^^^ (x ^^^ y) = y := by
  rw [← Nat.xor_assoc, Nat.xor_self, Nat.zero_xor]

theorem gfXor_left_comm (x y z : Nat) : x ^^^ (y ^^^ z) = y ^^^ (x ^^^ z) := by
  rw [← Nat.xor_assoc, Nat.xor_comm x, Nat.xor_assoc]

theorem eq_of_gfXor_eq_zero {x y : Nat} (h : x ^^^ y = 0) : x = y := by
  rw [← gfXor_cancel_left x y, h, Nat.xor_zero]

theorem gfMul_lt : ∀ x < 16, ∀ y < 16, gfMul x y < 16 := by decide +kernel

theorem gfMul_comm : ∀ x < 16, ∀ y < 16, gfMul x y = gfMul y x := by decide +kernel

theorem gfMul_assoc : ∀ x < 16, ∀ y < 16, ∀ z < 16, gfMul (gfMul x y) z = gfMul x (gfMul y z) := by decide +kernel

theorem gfMul_one_left : ∀ x < 16, gfMul 1 x = x := by decide +kernel

theorem gfMul_eq_zero : ∀ x < 16, ∀ y < 16, gfMul x y = 0 → x = 0 ∨ y = 0 := by decide +kernel

theorem gfInv_lt : ∀ x < 16, gfInv x < 16 := by decide +kernel

theorem gfMul_quotient : ∀ a < 16, a ≠ 0 → ∀ x < 16, gfMul a (gfMul x (gfInv a)) = x := by decide +kernel

theorem gfMul_gfInv_cancel : ∀ a < 16, 0 < a → ∀ x < 16, gfMul (gfMul a x) (gfInv a) = x := by decide +kernel

/-- The form f of R16 is anisotropic. -/
theorem gfForm_eq_zero : ∀ s < 16, ∀ t < 16, gfForm s t = 0 → s = 0 ∧ t = 0 := by decide +kernel

theorem gfMul_xor_right {x y z : Nat} (hx : x < 16) (hy : y < 16) (hz : z < 16) :
    gfMul x (y ^^^ z) = gfMul x y ^^^ gfMul x z := by
  rw [gfMul_comm x hx _ (gfXor_lt hy hz), gfMul_xor_left, gfMul_comm y hy x hx, gfMul_comm z hz x hx]

theorem gfForm_lt : ∀ s < 16, ∀ t < 16, gfForm s t < 16 := by decide +kernel

@[simp] theorem gfForm_zero : gfForm 0 0 = 0 := by decide

/-- An element of GF(16). -/
@[ext] structure Gf16 where
  val : Nat
  lt : val < 16

/-- The model's addition on the elements of GF(16). -/
@[reducible] def Gf16.addOp : Add Gf16 := ⟨fun x y => ⟨x.val ^^^ y.val, gfXor_lt x.lt y.lt⟩⟩

/-- The model's multiplication on the elements of GF(16). -/
@[reducible] def Gf16.mulOp : Mul Gf16 := ⟨fun x y => ⟨gfMul x.val y.val, gfMul_lt _ x.lt _ y.lt⟩⟩

end Sys2Proof
end

section
/-! ### The elliptic quadric through the check columns (R16, Table 1.5) -/
namespace Sys2Proof

/-- The laws of a commutative ring of characteristic two that the quadric rests on. -/
structure CharTwo (F : Type) [Add F] [Mul F] : Prop where
  add_comm (x y : F) : x + y = y + x
  add_assoc (x y z : F) : x + y + z = x + (y + z)
  add_cancel (x y : F) : x + (x + y) = y
  mul_comm (x y : F) : x * y = y * x
  mul_assoc (x y z : F) : x * y * z = x * (y * z)
  mul_add (x y z : F) : x * (y + z) = x * y + x * z

/-- GF(16) obeys them, with the operations of the model. -/
theorem Gf16.charTwo : @CharTwo Gf16 Gf16.addOp Gf16.mulOp :=
  letI := Gf16.addOp
  letI := Gf16.mulOp
  { add_comm := fun _ _ => Gf16.ext (Nat.xor_comm ..)
    add_assoc := fun _ _ _ => Gf16.ext (Nat.xor_assoc ..)
    add_cancel := fun _ _ => Gf16.ext (gfXor_cancel_left ..)
    mul_comm := fun x y => Gf16.ext (gfMul_comm _ x.lt _ y.lt)
    mul_assoc := fun x y z => Gf16.ext (gfMul_assoc _ x.lt _ y.lt _ z.lt)
    mul_add := fun x y z => Gf16.ext (gfMul_xor_right x.lt y.lt z.lt) }

section
variable {F : Type} [Add F] [Mul F]

/-- f(s, t) = s² + s·t + c·t². -/
def quadForm (c s t : F) : F := s * s + s * t + c * (t * t)

/-- The quadric x0·x1 + f(x2, x3), which the column (1, f(s, t), s, t) of every point lies on. -/
def quadric (c x0 x1 x2 x3 : F) : F := x0 * x1 + quadForm c x2 x3

variable (h : CharTwo F)
include h

theorem CharTwo.add_left_comm (x y z : F) : x + (y + z) = y + (x + z) := by
  rw [← h.add_assoc, h.add_comm x, h.add_assoc]

theorem CharTwo.add_cancel_right (x y : F) : x + (y + y) = x := by
  rw [h.add_comm, h.add_assoc, h.add_comm y x, h.add_left_comm, h.add_comm, h.add_assoc, h.add_cancel]

theorem CharTwo.mul_left_comm (x y z : F) : x * (y * z) = y * (x * z) := by
  rw [← h.mul_assoc, h.mul_comm x, h.mul_assoc]

theorem CharTwo.add_mul (x y z : F) : (x + y) * z = x * z + y * z := by
  rw [h.mul_comm, h.mul_add, h.mul_comm z, h.mul_comm z]

/-- The sum of multiples of two points' columns lies off the quadric by f of the points' difference: once multiplied out, the terms that
both sides do not share stand twice. -/
theorem quadric_point_add_point (c s t s' t' a b : F) :
    quadric c (a + b) (a * quadForm c s t + b * quadForm c s' t') (a * s + b * s') (a * t + b * t') =
      a * b * quadForm c (s + s') (t + t') := by
  simp only [quadric, quadForm, h.mul_add, h.add_mul, h.mul_assoc, h.mul_comm, h.mul_left_comm, h.add_assoc, h.add_comm, h.add_left_comm,
    h.add_cancel, h.add_cancel_right]

/-- So does the sum of a multiple of a point's column and one of (0, 1, 0, 0). -/
theorem quadric_point_add_infinity (c s t a b : F) : quadric c a (a * quadForm c s t + b) (a * s) (a * t) = a * b := by
  simp only [quadric, quadForm, h.mul_add, h.mul_assoc, h.mul_comm, h.mul_left_comm, h.add_assoc, h.add_comm, h.add_left_comm,
    h.add_cancel]

end
end Sys2Proof
end

section
/-! ### Syndromes as vectors over GF(16) (R16, R17) -/
namespace Sys2Proof

/-- The sum of two syndromes. -/
def Syndrome.add (y z : Syndrome) : Syndrome :=
  ⟨y.s0 ^^^ z.s0, y.s1 ^^^ z.s1, y.s2 ^^^ z.s2, y.s3 ^^^ z.s3⟩

theorem Syndrome.add_comm (y z : Syndrome) : y.add z = z.add y := by
  simp only [Syndrome.add, Nat.xor_comm]

theorem Syndrome.add_assoc (x y z : Syndrome) : (x.add y).add z = x.add (y.add z) := by
  simp only [Syndrome.add, Nat.xor_assoc]

@[simp] theorem Syndrome.zero_add (z : Syndrome) : Syndrome.add ⟨0, 0, 0, 0⟩ z = z := by simp only [Syndrome.add, Nat.zero_xor]

@[simp] theorem Syndrome.add_zero (z : Syndrome) : z.add ⟨0, 0, 0, 0⟩ = z := by simp only [Syndrome.add, Nat.xor_zero]

theorem Syndrome.add_add_add_comm (x x' y y' : Syndrome) : (x.add x').add (y.add y') = (x.add y).add (x'.add y') := by
  rw [add_assoc, add_assoc, ← add_assoc x', ← add_assoc y, add_comm x' y]

/-- The syndrome of an error `c` at the point (s, t): c · (1, f(s, t), s, t). -/
def pointSyndrome (s t c : Nat) : Syndrome := ⟨c, gfMul c (gfForm s t), gfMul c s, gfMul c t⟩

/-- The syndrome of an error `c` in symbol `j`: c · h_j. -/
def errorSyndrome (j c : Nat) : Syndrome := Syndrome.addSymbol ⟨0, 0, 0, 0⟩ j c

theorem errorSyndrome_of_point {j s t : Nat} (h : symbolPoint j = some (s, t)) (c : Nat) : errorSyndrome j c = pointSyndrome s t c := by
  simp only [errorSyndrome, Syndrome.addSymbol, h, pointSyndrome, Nat.xor_eq, Nat.zero_xor]

theorem errorSyndrome_of_no_point {j : Nat} (h : symbolPoint j = none) (c : Nat) : errorSyndrome j c = ⟨0, c, 0, 0⟩ := by
  simp only [errorSyndrome, Syndrome.addSymbol, h, Nat.xor_eq, Nat.zero_xor]

theorem Syndrome.addSymbol_eq_add (z : Syndrome) (j c : Nat) : z.addSymbol j c = z.add (errorSyndrome j c) := by
  cases h : symbolPoint j with
  | none => simp only [errorSyndrome_of_no_point h, Syndrome.addSymbol, Syndrome.add, h, Nat.xor_eq, Nat.xor_zero]
  | some p => simp only [errorSyndrome_of_point h, Syndrome.addSymbol, Syndrome.add, pointSyndrome, h, Nat.xor_eq]

@[simp] theorem errorSyndrome_zero (j : Nat) : errorSyndrome j 0 = ⟨0, 0, 0, 0⟩ := by
  cases h : symbolPoint j with
  | none => exact errorSyndrome_of_no_point h 0
  | some p => simp only [errorSyndrome_of_point h, pointSyndrome, gfMul_zero_left]

theorem errorSyndrome_xor (j a b : Nat) : errorSyndrome j (a ^^^ b) = (errorSyndrome j a).add (errorSyndrome j b) := by
  cases h : symbolPoint j with
  | none => simp only [errorSyndrome_of_no_point h, Syndrome.add, Nat.xor_self]
  | some p => simp only [errorSyndrome_of_point h, pointSyndrome, Syndrome.add, gfMul_xor_left]

/-- The components of a syndrome are elements of GF(16). -/
def Syndrome.InField (z : Syndrome) : Prop := z.s0 < 16 ∧ z.s1 < 16 ∧ z.s2 < 16 ∧ z.s3 < 16

theorem Syndrome.InField.add {y z : Syndrome} (hy : y.InField) (hz : z.InField) : (y.add z).InField := by
  obtain ⟨hy0, hy1, hy2, hy3⟩ := hy
  obtain ⟨hz0, hz1, hz2, hz3⟩ := hz
  exact ⟨gfXor_lt hy0 hz0, gfXor_lt hy1 hz1, gfXor_lt hy2 hz2, gfXor_lt hy3 hz3⟩

theorem symbolPoint_lt {j s t : Nat} (h : symbolPoint j = some (s, t)) : s < 16 ∧ t < 16 := by
  unfold symbolPoint at h
  repeat' split at h
  all_goals simp only [Option.some.injEq, Prod.mk.injEq, reduceCtorEq] at h
  all_goals omega

theorem symbolAt_symbolPoint : ∀ j < 36, ∀ p ∈ symbolPoint j, symbolAt p.1 p.2 = some j := by decide +kernel

theorem symbolPoint_eq_none : ∀ j < 36, symbolPoint j = none → j = 33 := by decide +kernel

theorem symbolPoint_injective {i j : Nat} (hi : i < 36) (hj : j < 36) (h : symbolPoint i = symbolPoint j) : i = j := by
  cases hp : symbolPoint j with
  | none => rw [symbolPoint_eq_none i hi (h.trans hp), symbolPoint_eq_none j hj hp]
  | some p => exact Option.some.inj ((symbolAt_symbolPoint i hi p (h.trans hp)).symm.trans (symbolAt_symbolPoint j hj p hp))

/-- The point (1, 1) of the poison form is no symbol's. -/
theorem symbolPoint_ne_unused : ∀ j < 36, symbolPoint j ≠ some (1, 1) := by decide +kernel

theorem pointSyndrome_inField {s t c : Nat} (hs : s < 16) (ht : t < 16) (hc : c < 16) : (pointSyndrome s t c).InField :=
  ⟨hc, gfMul_lt _ hc _ (gfForm_lt _ hs _ ht), gfMul_lt _ hc _ hs, gfMul_lt _ hc _ ht⟩

theorem errorSyndrome_inField (j : Nat) {c : Nat} (hc : c < 16) : (errorSyndrome j c).InField := by
  cases h : symbolPoint j with
  | none =>
    rw [errorSyndrome_of_no_point h]
    exact ⟨Nat.zero_lt_succ 15, hc, Nat.zero_lt_succ 15, Nat.zero_lt_succ 15⟩
  | some p =>
    rw [errorSyndrome_of_point h]
    exact pointSyndrome_inField (symbolPoint_lt h).1 (symbolPoint_lt h).2 hc

/-- The quadric of R16 at a syndrome. -/
def Syndrome.quadric (z : Syndrome) : Nat := gfMul z.s0 z.s1 ^^^ gfForm z.s2 z.s3

theorem quadric_pointSyndrome_add {s t s' t' a b : Nat} (hs : s < 16) (ht : t < 16) (hs' : s' < 16) (ht' : t' < 16)
    (ha : a < 16) (hb : b < 16) :
    ((pointSyndrome s t a).add (pointSyndrome s' t' b)).quadric = gfMul (gfMul a b) (gfForm (s ^^^ s') (t ^^^ t')) :=
  congrArg Gf16.val (@quadric_point_add_point Gf16 Gf16.addOp Gf16.mulOp Gf16.charTwo ⟨8, by decide⟩
    ⟨s, hs⟩ ⟨t, ht⟩ ⟨s', hs'⟩ ⟨t', ht'⟩ ⟨a, ha⟩ ⟨b, hb⟩)

theorem quadric_pointSyndrome_add_infinity {s t a b : Nat} (hs : s < 16) (ht : t < 16) (ha : a < 16) (hb : b < 16) :
    ((pointSyndrome s t a).add ⟨0, b, 0, 0⟩).quadric = gfMul a b := by
  simp only [Syndrome.add, pointSyndrome, Nat.xor_zero]
  exact congrArg Gf16.val (@quadric_point_add_infinity Gf16 Gf16.addOp Gf16.mulOp Gf16.charTwo ⟨8, by decide⟩
    ⟨s, hs⟩ ⟨t, ht⟩ ⟨a, ha⟩ ⟨b, hb⟩)

/-- Every multiple of a point's column lies on the quadric. -/
theorem quadric_pointSyndrome {s t a : Nat} (hs : s < 16) (ht : t < 16) (ha : a < 16) : (pointSyndrome s t a).quadric = 0 := by
  have h := quadric_pointSyndrome_add_infinity hs ht ha (Nat.zero_lt_succ 15)
  rwa [Syndrome.add_zero, gfMul_zero_right] at h

/-- A syndrome whose quotients by its first component form a point's column is a multiple of that column. -/
theorem Syndrome.eq_pointSyndrome_of_quotient {z : Syndrome} (hz : z.InField) (h0 : z.s0 ≠ 0)
    (h : gfMul z.s1 (gfInv z.s0) = gfForm (gfMul z.s2 (gfInv z.s0)) (gfMul z.s3 (gfInv z.s0))) :
    z = pointSyndrome (gfMul z.s2 (gfInv z.s0)) (gfMul z.s3 (gfInv z.s0)) z.s0 := by
  obtain ⟨hz0, hz1, hz2, hz3⟩ := hz
  rw [pointSyndrome, ← h, gfMul_quotient _ hz0 h0 _ hz1, gfMul_quotient _ hz0 h0 _ hz2, gfMul_quotient _ hz0 h0 _ hz3]

/-- No error in another symbol brings the syndrome of an error at a point back to the quadric. -/
theorem quadric_pointSyndrome_add_errorSyndrome_ne_zero {s t a j b : Nat} (hs : s < 16) (ht : t < 16) (hj : symbolPoint j ≠ some (s, t))
    (ha : a < 16) (ha0 : 0 < a) (hb : b < 16) (hb0 : 0 < b) : ((pointSyndrome s t a).add (errorSyndrome j b)).quadric ≠ 0 := by
  have hab : gfMul a b ≠ 0 := fun h => by have := gfMul_eq_zero a ha b hb h; omega
  cases h : symbolPoint j with
  | none => rwa [errorSyndrome_of_no_point h, quadric_pointSyndrome_add_infinity hs ht ha hb]
  | some p =>
    obtain ⟨hs', ht'⟩ := symbolPoint_lt h
    have hst : gfForm (s ^^^ p.1) (t ^^^ p.2) ≠ 0 := fun hf => hj <| by
      obtain ⟨h1, h2⟩ := gfForm_eq_zero _ (gfXor_lt hs hs') _ (gfXor_lt ht ht') hf
      rw [h, eq_of_gfXor_eq_zero h1, eq_of_gfXor_eq_zero h2]
    rw [errorSyndrome_of_point h, quadric_pointSyndrome_add hs ht hs' ht' ha hb]
    exact fun h0 => (gfMul_eq_zero _ (gfMul_lt a ha b hb) _ (gfForm_lt _ (gfXor_lt hs hs') _ (gfXor_lt ht ht')) h0).elim hab hst

end Sys2Proof
end

section
/-! ### Syndromes of codewords (R15, R17) -/
namespace Sys2Proof

theorem symbol_lt (w : BitVec 144) (j : Nat) : symbol w j < 16 := Nat.mod_lt _ (by decide)

theorem sixteen_pow_eq (j : Nat) : 16 ^ j = 2 ^ (4 * j) := by rw [Nat.pow_mul]

theorem symbol_xor (v w : BitVec 144) (j : Nat) : symbol (v ^^^ w) j = symbol v j ^^^ symbol w j := by
  simp only [symbol, sixteen_pow_eq, BitVec.toNat_xor, ← Nat.shiftRight_eq_div_pow, Nat.shiftRight_xor_distrib]
  exact Nat.xor_mod_two_pow (n := 4)

theorem syndromeOver_concat (w : BitVec 144) (js : List Nat) (j : Nat) :
    syndromeOver w (js ++ [j]) = (syndromeOver w js).add (errorSyndrome j (symbol w j)) := by
  simp only [syndromeOver, Syndrome.addSymbol_eq_add, List.foldl_append, List.foldl_cons, List.foldl_nil]

theorem syndromeOver_range_succ (w : BitVec 144) (n : Nat) :
    syndromeOver w (List.range (n + 1)) = (syndromeOver w (List.range n)).add (errorSyndrome n (symbol w n)) := by
  rw [List.range_succ, syndromeOver_concat]

theorem syndromeOver_inField (w : BitVec 144) (n : Nat) : (syndromeOver w (List.range n)).InField := by
  induction n with
  | zero => exact ⟨Nat.zero_lt_succ 15, Nat.zero_lt_succ 15, Nat.zero_lt_succ 15, Nat.zero_lt_succ 15⟩
  | succ n ih =>
    rw [syndromeOver_range_succ]
    exact ih.add (errorSyndrome_inField n (symbol_lt w n))

theorem bushelSyndrome_inField (w : BitVec 144) : (bushelSyndrome w).InField := syndromeOver_inField w 36

theorem syndromeOver_xor (v w : BitVec 144) (n : Nat) :
    syndromeOver (v ^^^ w) (List.range n) = (syndromeOver v (List.range n)).add (syndromeOver w (List.range n)) := by
  induction n with
  | zero => exact (Syndrome.zero_add _).symm
  | succ n ih =>
    simp only [syndromeOver_range_succ, symbol_xor, errorSyndrome_xor, ih]
    exact Syndrome.add_add_add_comm ..

theorem symbol_error {j e : Nat} (hj : j < 36) (he : e < 16) (i : Nat) :
    symbol (BitVec.ofNat 144 (e * 16 ^ j)) i = if i = j then e else 0 := by
  have hlt (k : Nat) (hk : j < k) : e * 16 ^ j < 16 ^ k := by
    calc e * 16 ^ j < 16 ^ (j + 1) := by rw [Nat.pow_succ']; exact Nat.mul_lt_mul_of_pos_right he (Nat.pow_pos (by decide))
      _ ≤ 16 ^ k := Nat.pow_le_pow_right (by decide) hk
  rw [symbol, BitVec.toNat_ofNat, show (2 : Nat) ^ 144 = 16 ^ 36 from rfl, Nat.mod_eq_of_lt (hlt 36 hj)]
  obtain h | rfl | h := Nat.lt_trichotomy i j
  · obtain ⟨k, rfl⟩ := Nat.exists_eq_add_of_lt h
    have hpow : e * 16 ^ (i + k + 1) = e * 16 ^ k * 16 * 16 ^ i := by
      rw [Nat.pow_succ, Nat.pow_add]
      ac_rfl
    rw [hpow, Nat.mul_div_cancel _ (Nat.pow_pos (by decide)), Nat.mul_mod_left, if_neg (by omega)]
  · rw [Nat.mul_div_cancel _ (Nat.pow_pos (by decide)), Nat.mod_eq_of_lt he, if_pos rfl]
  · rw [Nat.div_eq_of_lt (hlt i h), if_neg (by omega), Nat.zero_mod]

theorem syndromeOver_error {j e : Nat} (hj : j < 36) (he : e < 16) (n : Nat) :
    syndromeOver (BitVec.ofNat 144 (e * 16 ^ j)) (List.range n) = if j < n then errorSyndrome j e else ⟨0, 0, 0, 0⟩ := by
  induction n with
  | zero => rfl
  | succ n ih =>
    rw [syndromeOver_range_succ, ih, symbol_error hj he]
    obtain h | rfl | h := Nat.lt_trichotomy n j
    · rw [if_neg (by omega), if_neg (by omega), if_neg (by omega), errorSyndrome_zero, Syndrome.add_zero]
    · rw [if_neg (by omega), if_pos rfl, if_pos (by omega), Syndrome.zero_add]
    · rw [if_pos h, if_neg (by omega), if_pos (by omega), errorSyndrome_zero, Syndrome.add_zero]

theorem bushelSyndrome_fixSymbol (w : BitVec 144) {j e : Nat} (hj : j < 36) (he : e < 16) :
    bushelSyndrome (fixSymbol w j e) = (bushelSyndrome w).add (errorSyndrome j e) := by
  rw [fixSymbol, bushelSyndrome, syndromeOver_xor, syndromeOver_error hj he, if_pos hj, ← bushelSyndrome]

theorem add_mul_pow_eq_xor {x j : Nat} (hx : x < 16 ^ j) (e : Nat) : x + e * 16 ^ j = x ^^^ (e * 16 ^ j) := by
  rw [sixteen_pow_eq] at hx ⊢
  rw [Nat.add_comm, Nat.mul_comm]
  refine Nat.eq_of_testBit_eq fun i => ?_
  rw [Nat.testBit_two_pow_mul_add _ hx, Nat.testBit_xor, Nat.testBit_two_pow_mul]
  by_cases hi : i < 4 * j
  · simp only [hi, if_true, Nat.not_le.mpr hi, decide_false, Bool.false_and, Bool.xor_false]
  · have hxi : x < 2 ^ i := Nat.lt_of_lt_of_le hx (Nat.pow_le_pow_right (by decide) (Nat.le_of_not_lt hi))
    simp only [hi, if_false, Nat.testBit_lt_two_pow hxi, Nat.le_of_not_lt hi, decide_true, Bool.true_and, Bool.false_xor]

/-- A symbol set above the symbols of a word adds its own syndrome. -/
theorem bushelSyndrome_add_symbol {x j e : Nat} (hx : x < 16 ^ j) (hj : j < 36) (he : e < 16) :
    bushelSyndrome (BitVec.ofNat 144 (x + e * 16 ^ j)) = (bushelSyndrome (BitVec.ofNat 144 x)).add (errorSyndrome j e) := by
  rw [add_mul_pow_eq_xor hx, BitVec.ofNat_xor, ← fixSymbol, bushelSyndrome_fixSymbol _ hj he]

/-- D of R17: the contribution of the data symbols. -/
def dataSyndrome (d : BitVec 128) : Syndrome := syndromeOver (d.setWidth 144) (List.range 32)

theorem dataSyndrome_inField (d : BitVec 128) : (dataSyndrome d).InField := syndromeOver_inField _ 32

theorem symbol_setWidth_check (d : BitVec 128) {j : Nat} (hj : 32 ≤ j) : symbol (d.setWidth 144) j = 0 := by
  have hd : d.toNat < 16 ^ j := Nat.lt_of_lt_of_le d.isLt (Nat.pow_le_pow_right (n := 16) (by decide) hj)
  rw [symbol, BitVec.toNat_setWidth_of_le (by decide), Nat.div_eq_of_lt hd]

theorem bushelSyndrome_setWidth (d : BitVec 128) : bushelSyndrome (d.setWidth 144) = dataSyndrome d := by
  rw [bushelSyndrome, show List.range 36 = List.range 32 ++ [32] ++ [33] ++ [34] ++ [35] from rfl]
  simp only [syndromeOver_concat, symbol_setWidth_check d (by decide : 32 ≤ 32), symbol_setWidth_check d (by decide : 32 ≤ 33),
    symbol_setWidth_check d (by decide : 32 ≤ 34), symbol_setWidth_check d (by decide : 32 ≤ 35), errorSyndrome_zero,
    Syndrome.add_zero, dataSyndrome]

/-- Data below four check symbols: the columns of the check symbols add up on D. -/
theorem bushelSyndrome_data_check (d : BitVec 128) {p0 p1 p2 p3 : Nat} (h0 : p0 < 16) (h1 : p1 < 16) (h2 : p2 < 16) (h3 : p3 < 16) :
    bushelSyndrome (BitVec.ofNat 144 (d.toNat + 2 ^ 128 * (p0 + 16 * p1 + 256 * p2 + 4096 * p3))) =
      ((((dataSyndrome d).add (errorSyndrome 32 p0)).add (errorSyndrome 33 p1)).add (errorSyndrome 34 p2)).add (errorSyndrome 35 p3) := by
  have hd := d.isLt
  rw [show d.toNat + 2 ^ 128 * (p0 + 16 * p1 + 256 * p2 + 4096 * p3) =
      d.toNat + p0 * 16 ^ 32 + p1 * 16 ^ 33 + p2 * 16 ^ 34 + p3 * 16 ^ 35 by omega,
    bushelSyndrome_add_symbol (by omega) (by decide) h3, bushelSyndrome_add_symbol (by omega) (by decide) h2,
    bushelSyndrome_add_symbol (by omega) (by decide) h1, bushelSyndrome_add_symbol (by omega) (by decide) h0,
    BitVec.ofNat_toNat, bushelSyndrome_setWidth]

/-- The check symbols of R17 cancel D: the columns of symbols 32 to 35 are (1, 0, 0, 0), (0, 1, 0, 0), (1, 1, 1, 0) and (1, 8, 0, 1). -/
theorem bushelSyndrome_bushelEncode (d : BitVec 128) : bushelSyndrome (bushelEncode d) = ⟨0, 0, 0, 0⟩ := by
  obtain ⟨h0, h1, h2, h3⟩ := dataSyndrome_inField d
  have h8 : gfMul 8 (dataSyndrome d).s3 < 16 := gfMul_lt 8 (by decide) _ h3
  have c1 : gfForm 1 0 = 1 := by decide
  have c8 : gfForm 0 1 = 8 := by decide
  refine (bushelSyndrome_data_check d (gfXor_lt (gfXor_lt h0 h2) h3) (gfXor_lt (gfXor_lt h1 h2) h8) h2 h3).trans ?_
  rw [errorSyndrome_of_point (j := 32) rfl, errorSyndrome_of_no_point (j := 33) rfl, errorSyndrome_of_point (j := 34) rfl,
    errorSyndrome_of_point (j := 35) rfl]
  simp only [Syndrome.add, pointSyndrome, c1, c8, gfMul_comm _ h2 1 (by decide), gfMul_comm _ h3 1 (by decide),
    gfMul_comm _ h3 8 (by decide), gfMul_one_left _ h2, gfMul_one_left _ h3, gfForm_zero, gfMul_zero_right]
  simp only [Nat.xor_assoc, Nat.xor_comm, gfXor_left_comm, gfXor_cancel_left, Nat.xor_self, Nat.zero_xor]

theorem bushelPoison_eq_fixSymbol (w : BitVec 144) :
    bushelPoison w = fixSymbol (fixSymbol (fixSymbol (fixSymbol w 32 15) 33 15) 34 15) 35 15 := by
  simp only [bushelPoison, fixSymbol, BitVec.xor_assoc]
  rfl

theorem bushelSyndrome_bushelPoison_bushelEncode (d : BitVec 128) : bushelSyndrome (bushelPoison (bushelEncode d)) = pointSyndrome 1 1 15 := by
  rw [bushelPoison_eq_fixSymbol]
  simp only [bushelSyndrome_fixSymbol, bushelSyndrome_bushelEncode, Nat.reduceLT]
  rfl

@[simp] theorem fixSymbol_zero (w : BitVec 144) (j : Nat) : fixSymbol w j 0 = w := by
  rw [fixSymbol, Nat.zero_mul, BitVec.xor_zero]

@[simp] theorem fixSymbol_fixSymbol_self (w : BitVec 144) (j e : Nat) : fixSymbol (fixSymbol w j e) j e = w := by
  rw [fixSymbol, fixSymbol, BitVec.xor_assoc, BitVec.xor_self, BitVec.xor_zero]

end Sys2Proof
end

section
/-! ### What the decoder reports of a syndrome (R18) -/
namespace Sys2Proof

theorem bushelDecode_clean {w : BitVec 144} (h : bushelSyndrome w = ⟨0, 0, 0, 0⟩) : bushelDecode w = .clean := by
  simp only [bushelDecode, h, if_true]

/-- Off the quadric no point and no symbol fits the syndrome. -/
theorem bushelDecode_uncorrectable {w : BitVec 144} (h : (bushelSyndrome w).quadric ≠ 0) : bushelDecode w = .uncorrectable := by
  have hz := bushelSyndrome_inField w
  have hzero : bushelSyndrome w ≠ ⟨0, 0, 0, 0⟩ := fun h0 => h (by rw [h0]; rfl)
  by_cases h0 : (bushelSyndrome w).s0 = 0
  · have h23 : ¬((bushelSyndrome w).s2 = 0 ∧ (bushelSyndrome w).s3 = 0) := fun ⟨h2, h3⟩ => h (by
      rw [Syndrome.quadric, h0, h2, h3, gfMul_zero_left, gfForm_zero, Nat.xor_zero])
    simp only [bushelDecode, hzero, h0, h23, if_true, if_false]
  · have hf : ¬_ := fun hf => h <| by
      rw [Syndrome.eq_pointSyndrome_of_quotient hz h0 hf]
      exact quadric_pointSyndrome (gfMul_lt _ hz.2.2.1 _ (gfInv_lt _ hz.1)) (gfMul_lt _ hz.2.2.2 _ (gfInv_lt _ hz.1)) hz.1
    simp only [bushelDecode, hzero, h0, ne_eq, hf, not_false_eq_true, if_true, if_false]

/-- The decoder's quotients of the syndrome of an error at a point (s, t) are f(s, t), s and t. -/
theorem bushelDecode_point {w : BitVec 144} {s t a : Nat} (hs : s < 16) (ht : t < 16) (ha : a < 16) (ha0 : 0 < a)
    (h : bushelSyndrome w = pointSyndrome s t a) :
    bushelDecode w = if s = 1 ∧ t = 1 then .poison else (symbolAt s t).elim .uncorrectable fun j => .corrected (fixSymbol w j a) := by
  simp only [bushelDecode, h, pointSyndrome, Syndrome.mk.injEq, Nat.ne_of_gt ha0, false_and, if_false, gfMul_gfInv_cancel a ha ha0 _ hs,
    gfMul_gfInv_cancel a ha ha0 _ ht, gfMul_gfInv_cancel a ha ha0 _ (gfForm_lt _ hs _ ht), ne_eq, not_true_eq_false]
  cases symbolAt s t <;> rfl

theorem bushelDecode_corrected {w : BitVec 144} {j e : Nat} (hj : j < 36) (he : e < 16) (he0 : 0 < e)
    (h : bushelSyndrome w = errorSyndrome j e) : bushelDecode w = .corrected (fixSymbol w j e) := by
  cases hp : symbolPoint j with
  | none =>
    obtain rfl := symbolPoint_eq_none j hj hp
    simp only [bushelDecode, h, errorSyndrome_of_no_point hp, Syndrome.mk.injEq, Nat.ne_of_gt he0, and_self, and_true, and_false, if_true, if_false]
  | some p =>
    obtain ⟨s, t⟩ := p
    obtain ⟨hs, ht⟩ := symbolPoint_lt hp
    have hpoison : ¬(s = 1 ∧ t = 1) := by
      rintro ⟨rfl, rfl⟩
      exact symbolPoint_ne_unused j hj hp
    rw [bushelDecode_point hs ht he he0 (h.trans (errorSyndrome_of_point hp e)), if_neg hpoison, symbolAt_symbolPoint j hj _ hp]
    rfl

end Sys2Proof
end

section
/-! ### The code corrects one symbol, detects two and marks poison (R19, R20) -/
namespace Sys2Proof

/-- Two symbols in error never look like one, nor like poison: their sum lies off the quadric. -/
theorem quadric_errorSyndrome_add_ne_zero {i j a b : Nat} (hij : symbolPoint i ≠ symbolPoint j) (ha : a < 16) (ha0 : 0 < a)
    (hb : b < 16) (hb0 : 0 < b) : ((errorSyndrome i a).add (errorSyndrome j b)).quadric ≠ 0 := by
  cases hi : symbolPoint i with
  | some p =>
    obtain ⟨hs, ht⟩ := symbolPoint_lt hi
    rw [errorSyndrome_of_point hi]
    exact quadric_pointSyndrome_add_errorSyndrome_ne_zero hs ht (fun hj => hij (hi.trans hj.symm)) ha ha0 hb hb0
  | none =>
    cases hj : symbolPoint j with
    | none => exact absurd (hi.trans hj.symm) hij
    | some p =>
      obtain ⟨hs, ht⟩ := symbolPoint_lt hj
      rw [errorSyndrome_of_point hj, Syndrome.add_comm]
      exact quadric_pointSyndrome_add_errorSyndrome_ne_zero hs ht (fun h => nomatch hi.symm.trans h) hb hb0 ha ha0

section
variable (d : BitVec 128) {i j a b : Nat} (hi : i < 36) (hj : j < 36) (ha : a < 16) (hb : b < 16)
include hi ha

theorem bushelSyndrome_one_error : bushelSyndrome (fixSymbol (bushelEncode d) i a) = errorSyndrome i a := by
  rw [bushelSyndrome_fixSymbol _ hi ha, bushelSyndrome_bushelEncode, Syndrome.zero_add]

theorem bushelDecode_one_error (ha0 : 0 < a) : bushelDecode (fixSymbol (bushelEncode d) i a) = .corrected (bushelEncode d) := by
  rw [bushelDecode_corrected hi ha ha0 (bushelSyndrome_one_error d hi ha), fixSymbol_fixSymbol_self]

include hj hb

theorem bushelDecode_two_errors (hij : i ≠ j) (ha0 : 0 < a) (hb0 : 0 < b) :
    bushelDecode (fixSymbol (fixSymbol (bushelEncode d) i a) j b) = .uncorrectable := by
  have hp : symbolPoint i ≠ symbolPoint j := fun h => hij (symbolPoint_injective hi hj h)
  apply bushelDecode_uncorrectable
  rw [bushelSyndrome_fixSymbol _ hj hb, bushelSyndrome_one_error d hi ha]
  exact quadric_errorSyndrome_add_ne_zero hp ha ha0 hb hb0

end

theorem bushelDecode_one_error_ne_poison (d : BitVec 128) {j e : Nat} (hj : j < 36) (he : e < 16) :
    bushelDecode (fixSymbol (bushelEncode d) j e) ≠ .poison := by
  obtain rfl | he0 := Nat.eq_zero_or_pos e
  · rw [bushelDecode_clean ((bushelSyndrome_one_error d hj he).trans (errorSyndrome_zero j))]
    exact Decoded.noConfusion
  · rw [bushelDecode_one_error d hj he he0]
    exact Decoded.noConfusion

theorem bushelDecode_two_errors_ne_poison (d : BitVec 128) {i j a b : Nat} (hi : i < 36) (hj : j < 36) (hij : i ≠ j) (ha : a < 16)
    (hb : b < 16) : bushelDecode (fixSymbol (fixSymbol (bushelEncode d) i a) j b) ≠ .poison := by
  obtain rfl | ha0 := Nat.eq_zero_or_pos a
  · rw [fixSymbol_zero]
    exact bushelDecode_one_error_ne_poison d hj hb
  obtain rfl | hb0 := Nat.eq_zero_or_pos b
  · rw [fixSymbol_zero]
    exact bushelDecode_one_error_ne_poison d hi ha
  rw [bushelDecode_two_errors d hi hj ha hb hij ha0 hb0]
  exact Decoded.noConfusion

theorem bushelDecode_poisoned_error (d : BitVec 128) {j e : Nat} (hj : j < 36) (he : e < 16) (he0 : 0 < e) :
    bushelDecode (fixSymbol (bushelPoison (bushelEncode d)) j e) = .uncorrectable := by
  apply bushelDecode_uncorrectable
  rw [bushelSyndrome_fixSymbol _ hj he, bushelSyndrome_bushelPoison_bushelEncode]
  exact quadric_pointSyndrome_add_errorSyndrome_ne_zero (by decide) (by decide) (symbolPoint_ne_unused j hj) (by decide) (by decide) he he0

/-- The error 1 in symbols 0, 1 and 2 has the syndrome of the error 1 in symbol 3: their points (0, 2), (1, 2), (2, 2) and (3, 2) sum to zero. -/
theorem bushelDecode_three_errors_miscorrected :
    bushelDecode (fixSymbol (fixSymbol (fixSymbol (bushelEncode 0) 0 1) 1 1) 2 1) = .corrected 0x1111 := by decide +kernel

/-- Settles O9: one symbol's error lies on the quadric at that symbol's point, two symbols' off it, and three may reach a fourth symbol's point. -/
theorem code_corrects_one_detects_two : Obligations.Code_corrects_one_detects_two :=
  ⟨fun d _ _ hj he0 he => bushelDecode_one_error d hj he he0,
   fun d _ _ _ _ hi hj hij ha0 ha hb0 hb => bushelDecode_two_errors d hi hj ha hb hij ha0 hb0,
   0, 0, 1, 2, 1, 1, 1, 0x1111, by decide, by decide, by decide, by decide, by decide, by decide, by decide, by decide, by decide,
   bushelDecode_three_errors_miscorrected, by decide +kernel⟩

/-- Settles O10: the poison form is an error 0xF at the unused point (1, 1). Errors in two symbols, and a further error in the poison form, lie off
the quadric; an error in one symbol lies on it at that symbol's own point. -/
theorem code_poison : Obligations.Code_poison :=
  ⟨fun d => ⟨rfl, bushelSyndrome_bushelPoison_bushelEncode d,
     bushelDecode_point (by decide) (by decide) (by decide) (by decide) (bushelSyndrome_bushelPoison_bushelEncode d)⟩,
   fun d _ _ _ _ hi hj hij ha hb => bushelDecode_two_errors_ne_poison d hi hj hij ha hb,
   fun d _ _ hj he0 he => bushelDecode_poisoned_error d hj he he0⟩

end Sys2Proof
end
